-- ==== Sys2Proof/Word.lean ====
section
/-!
DEFINITION. The words of the part's interfaces: a byte of the show link, a sample of the programme sound.
-/

namespace Sys2Proof

/-- A byte of the show link (R178): 8 data bits. -/
abbrev Byte := BitVec 8

/-- One 24-bit signed sample of an I2S frame (R113), in two's complement. -/
abbrev Sample := BitVec 24

end Sys2Proof
end

