-- ==== Sys2Proof/Signals.lean ====
section
/-!
DEFINITION. What the lines of the part carry into a command (spec/00, "Signals at the part"): the operands of
`Instr` that are no plain words. The spec's table gives its rows no operands; these are the values its rules read
at the moment of the command (log 8).
-/

namespace Sys2Proof

/-- The two places of the spare-lamp changer (R53). -/
inductive LampPos where
  | A
  | B
  deriving DecidableEq, Repr

/-- What the tray code lines show (R24). -/
inductive TrayCode where
  | c80
  | c120
  | absent
  | invalid
  deriving DecidableEq, Repr

/-- The sensor lines of the mechanism, as they stand when a command of TMC is taken: lifter-up and lifter-down
confirm (R32, R36), the gate slide sensor (R36) and the home mark (R45). -/
structure MechSense where
  lifterUp : Bool
  lifterDown : Bool
  slide : Bool
  homeMark : Bool
  deriving DecidableEq, Repr

/-- The keys: the thirteen of the remote (codes 1..13 of section 9.7) and the panel's MODE and POWER (R171). -/
inductive Key where
  | FWD | REV | DIM_UP | DIM_DOWN | LAMP | BLANK | PAUSE | ADVANCE | STOP | VOL_UP | VOL_DOWN | TAPE_PLAY
  | TAPE_STOP | MODE | POWER
  deriving DecidableEq, Repr

/-- The two lines that carry remote frames (R167). -/
inductive RemoteLine where
  | wired
  | ir
  deriving DecidableEq, Repr

/-- One measured time of a remote line in microseconds: how long the line was low, or high (R167). -/
inductive LineTime where
  | low (us : Nat)
  | high (us : Nat)
  deriving DecidableEq, Repr

/-- The two reels of the deck (R108, R109). -/
inductive Reel where
  | takeUp
  | supply
  deriving DecidableEq, Repr

/-- One bit position of the cue track as the bit decoder forms it (R121): a bit with its cell length in
microseconds, or a void bit. -/
inductive CueCell where
  | bit (b : Bool) (len : Nat)
  | void
  deriving DecidableEq, Repr

/-- The head of a request frame (R179, section 9.7): where it goes and where it comes from. -/
structure LinkHdr where
  dest : Byte
  src : Byte
  deriving DecidableEq, Repr

/-- The five bytes of an action slot (section 9.7). -/
structure SlotBytes where
  kind : Byte
  b1 : Byte
  b2 : Byte
  b3 : Byte
  b4 : Byte
  deriving DecidableEq, Repr

/-- The lines that are read at once when power is applied: tray sensor and code (R24), lamp-present sensors (R80),
cassette-present (R116), the panel key lines (R177) and the address straps (R183). -/
structure PowerOnLines where
  trayPresent : Bool
  trayCode : TrayCode
  lampA : Bool
  lampB : Bool
  cassette : Bool
  panelClosed : List Key
  straps : BitVec 5
  deriving DecidableEq, Repr

end Sys2Proof
end

