-- ==== Sys2Proof/Syntax.lean ====
section
/-!
DEFINITION. The commands of the part: one constructor per row of spec/opcode_table.json, in the table's order.

Operand `dt` (all rows but POWER_ON and POWER_LOSS): the microseconds since the command before it (log 1). The other operands are
the fields of the request, key or frame that arrives, or the input lines the row's rules read (log 8).
-/

namespace Sys2Proof

/-- The commands (spec/opcode_table.json). -/
inductive Instr where
  /-- POWER_ON, R204 -/
  | powerOn (lines : PowerOnLines)
  /-- LINK_BYTE, R179; `damaged`: its stop bit reads low (R178) -/
  | linkByte (dt : Nat) (b : Byte) (damaged : Bool)
  /-- LINK_BYTE_GAP_EXPIRY, R179 -/
  | linkByteGapExpiry (dt : Nat)
  /-- RESPONSE_START, R181 -/
  | responseStart (dt : Nat)
  /-- RESPONSE_END, R178 -/
  | responseEnd (dt : Nat)
  /-- QUERY, R186 -/
  | query (dt : Nat) (h : LinkHdr) (group page : Byte)
  /-- SET, R189 -/
  | set (dt : Nat) (h : LinkHdr) (param index : Byte) (value : BitVec 32)
  /-- ACTION, R10 -/
  | action (dt : Nat) (h : LinkHdr) (slot : SlotBytes)
  /-- CONTROL_STOP, R19; `arg` is ignored (R188), as in every CONTROL row whose docstring says nothing of it -/
  | controlStop (dt : Nat) (h : LinkHdr) (arg : Byte)
  /-- CONTROL_PAUSE, R160 -/
  | controlPause (dt : Nat) (h : LinkHdr) (arg : Byte)
  /-- CONTROL_RESUME, R162 -/
  | controlResume (dt : Nat) (h : LinkHdr) (arg : Byte)
  /-- CONTROL_ADVANCE, R152 -/
  | controlAdvance (dt : Nat) (h : LinkHdr) (arg : Byte)
  /-- CONTROL_MODE, R2; `arg`: LOCAL 0, SHOW 1, CONSOLE 2 -/
  | controlMode (dt : Nat) (h : LinkHdr) (arg : Byte)
  /-- CONTROL_CLEAR_JAM, R44 -/
  | controlClearJam (dt : Nat) (h : LinkHdr) (arg : Byte)
  /-- CONTROL_CLEAR_MATCH, R48 -/
  | controlClearMatch (dt : Nat) (h : LinkHdr) (arg : Byte)
  /-- CONTROL_BLANK, R72; `arg`: off 0, on 1 -/
  | controlBlank (dt : Nat) (h : LinkHdr) (arg : Byte)
  /-- CONTROL_LAMP, R77; `arg`: the lamp power code 0..3 -/
  | controlLamp (dt : Nat) (h : LinkHdr) (arg : Byte)
  /-- CONTROL_STANDBY, R94 -/
  | controlStandby (dt : Nat) (h : LinkHdr) (arg : Byte)
  /-- CONTROL_WAKE, R95 -/
  | controlWake (dt : Nat) (h : LinkHdr) (arg : Byte)
  /-- CONTROL_TAPE, R102; `arg`: PLAY 0, PAUSE 1, STOP 2, FFWD 3, REWIND 4 -/
  | controlTape (dt : Nat) (h : LinkHdr) (arg : Byte)
  /-- CONTROL_SNAPSHOT, R194 -/
  | controlSnapshot (dt : Nat) (h : LinkHdr) (arg : Byte)
  /-- CONTROL_SAVE, R202 -/
  | controlSave (dt : Nat) (h : LinkHdr) (arg : Byte)
  /-- STEP_WRITE, R145; `record`: the 26 bytes of section 9.7 -/
  | stepWrite (dt : Nat) (h : LinkHdr) (index mode : Byte) (record : List Byte)
  /-- STEP_READ, R143 -/
  | stepRead (dt : Nat) (h : LinkHdr) (index : Byte)
  /-- ARM, R147 -/
  | arm (dt : Nat) (h : LinkHdr) (head : Byte)
  /-- SLOT_FLAGS, R28 -/
  | slotFlags (dt : Nat) (h : LinkHdr) (first last flag : Byte)
  /-- SLOT_READ, R185 -/
  | slotRead (dt : Nat) (h : LinkHdr) (first count : Byte)
  /-- COUNTERS_READ, R195 -/
  | countersRead (dt : Nat) (h : LinkHdr) (group : Byte)
  /-- NOTICE_POLL, R199 -/
  | noticePoll (dt : Nat) (h : LinkHdr)
  /-- NOTICE_ENABLE, R198 -/
  | noticeEnable (dt : Nat) (h : LinkHdr) (kind flag : Byte)
  /-- LAMP_RESET, R56 -/
  | lampReset (dt : Nat) (h : LinkHdr) (pos : Byte)
  /-- UNIT_RESET, R190 -/
  | unitReset (dt : Nat) (h : LinkHdr)
  /-- ASSIGN, R184 -/
  | assign (dt : Nat) (h : LinkHdr) (serial : BitVec 32) (addr : Byte)
  /-- RESETTING_END, R191 -/
  | resettingEnd (dt : Nat)
  /-- REMOTE_FRAME, R170: the twelve bits of a complete frame, the first sent the most significant -/
  | remoteFrame (dt : Nat) (line : RemoteLine) (bits : BitVec 12)
  /-- REMOTE_MALFORMED, R168: the times the decoder measures, in order -/
  | remoteMalformed (dt : Nat) (line : RemoteLine) (times : List LineTime)
  /-- REMOTE_RELEASE_EXPIRY, R170 -/
  | remoteReleaseExpiry (dt : Nat) (line : RemoteLine)
  /-- PANEL_LINE_CHANGE, R173 -/
  | panelLineChange (dt : Nat) (key : Key) (closed : Bool)
  /-- PANEL_DEBOUNCE_EXPIRY, R173 -/
  | panelDebounceExpiry (dt : Nat) (key : Key)
  /-- PANEL_REPEAT_STEP, R171 -/
  | panelRepeatStep (dt : Nat) (key : Key)
  /-- PANEL_MODE_HOLD, R174 -/
  | panelModeHold (dt : Nat)
  /-- PANEL_STOP_HOLD, R175 -/
  | panelStopHold (dt : Nat)
  /-- PANEL_POWER_HOLD, R176 -/
  | panelPowerHold (dt : Nat)
  /-- HOLD_EXPIRY, R14 -/
  | holdExpiry (dt : Nat)
  /-- PACING_RUN_OUT, R38 -/
  | pacingRunOut (dt : Nat)
  /-- TRAY_INSERTION, R24 -/
  | trayInsertion (dt : Nat)
  /-- TRAY_QUALIFY_EXPIRY, R24 -/
  | trayQualifyExpiry (dt : Nat) (code : TrayCode)
  /-- TRAY_REMOVAL, R25 -/
  | trayRemoval (dt : Nat)
  /-- T_DARK_EXPIRY, R31 -/
  | tDarkExpiry (dt : Nat) (m : MechSense)
  /-- LIFTER_UP_CONFIRM, R32 -/
  | lifterUpConfirm (dt : Nat) (m : MechSense)
  /-- LIFT_TIMER_EXPIRY, R33 -/
  | liftTimerExpiry (dt : Nat)
  /-- DROP_TIMER_EXPIRY, R33 -/
  | dropTimerExpiry (dt : Nat)
  /-- RETRY_PAUSE_EXPIRY, R33 -/
  | retryPauseExpiry (dt : Nat) (m : MechSense)
  /-- INDEX_PULSE, R34 -/
  | indexPulse (dt : Nat) (m : MechSense)
  /-- INDEX_WAIT_EXPIRY, R34 -/
  | indexWaitExpiry (dt : Nat)
  /-- LIFTER_DOWN_CONFIRM, R36 -/
  | lifterDownConfirm (dt : Nat) (m : MechSense)
  /-- SETTLE_EXPIRY, R37 -/
  | settleExpiry (dt : Nat)
  /-- LAMP_UPDATE, R51; `low`: the current sense reads LOW -/
  | lampUpdate (dt : Nat) (low : Bool)
  /-- LAMP_FAILURE, R63: the lamp update, its sense LOW, at which the failure count reaches 3 -/
  | lampFailure (dt : Nat)
  /-- CHANGER_MOTION_END, R64: the lamp update at which the changer count reaches 150 -/
  | changerMotionEnd (dt : Nat) (low : Bool)
  /-- IGNITION_COMPLETE, R59: the lamp update at which j reaches J -/
  | ignitionComplete (dt : Nat) (low : Bool)
  /-- RAMP_END, R68: the lamp update at which k reaches N -/
  | rampEnd (dt : Nat) (low : Bool)
  /-- LIT_SECOND, R55: the lamp update at which the lit-time accumulator reaches 100 -/
  | litSecond (dt : Nat) (low : Bool)
  /-- LAMP_PRESENT_CHANGE, R65 -/
  | lampPresentChange (dt : Nat) (pos : LampPos) (present : Bool)
  /-- TEMPERATURE_SAMPLE, R82; `good`: the sensor's mark shows a good conversion -/
  | temperatureSample (dt : Nat) (good : Bool) (reading : Int)
  /-- SENSOR_LOSS_TIMER_EXPIRY, R83 -/
  | sensorLossTimerExpiry (dt : Nat)
  /-- LOSS_TIME_30S, R83 -/
  | lossTime30s (dt : Nat)
  /-- T_COOL_EXPIRY, R93 -/
  | tCoolExpiry (dt : Nat)
  /-- FAN_KICK_EXPIRY, R86 -/
  | fanKickExpiry (dt : Nat)
  /-- FAN_TACH_PULSE, R87 -/
  | fanTachPulse (dt : Nat)
  /-- TACH_WINDOW_END, R87 -/
  | tachWindowEnd (dt : Nat)
  /-- CASSETTE_PRESENT_CHANGE, R100 -/
  | cassettePresentChange (dt : Nat) (present : Bool)
  /-- FG_PULSE, R105 -/
  | fgPulse (dt : Nat)
  /-- FG_TIMER_EXPIRY, R107 -/
  | fgTimerExpiry (dt : Nat)
  /-- REEL_PULSE, R108 -/
  | reelPulse (dt : Nat) (reel : Reel)
  /-- TAKE_UP_REEL_TIMER_EXPIRY, R108 -/
  | takeUpReelTimerExpiry (dt : Nat)
  /-- SUPPLY_REEL_TIMER_EXPIRY, R109 -/
  | supplyReelTimerExpiry (dt : Nat)
  /-- UNLOCK_TIMER_300MS, R114 -/
  | unlockTimer300ms (dt : Nat)
  /-- VOLUME_STEP, R112 -/
  | volumeStep (dt : Nat)
  /-- I2S_FRAME, R113 -/
  | i2sFrame (dt : Nat) (left right : Sample)
  /-- CARRIER_DETECT, R118: two edges, `gap` microseconds apart, the first `dt` after the command before -/
  | carrierDetect (dt : Nat) (gap : Nat)
  /-- CARRIER_TIMER_EXPIRY, R118 -/
  | carrierTimerExpiry (dt : Nat)
  /-- CUE_FRAME, R127: 32 bit positions of the track, in the order formed -/
  | cueFrame (dt : Nat) (cells : List CueCell)
  /-- DEGRADE_WINDOW_CLOSE, R130: the frame at which the degrade window reaches 16 -/
  | degradeWindowClose (dt : Nat) (cells : List CueCell)
  /-- SPEED_OFF_TIMER_EXPIRY, R123 -/
  | speedOffTimerExpiry (dt : Nat)
  /-- REGEN_SLOT, R137 -/
  | regenSlot (dt : Nat)
  /-- FOLLOW_EXPIRY, R151 -/
  | followExpiry (dt : Nat)
  /-- FOLLOW_DUE_CHECK, R151 -/
  | followDueCheck (dt : Nat)
  /-- SAVE_END, R201 -/
  | saveEnd (dt : Nat)
  /-- LIT_TIMER_EXPIRY, R203 -/
  | litTimerExpiry (dt : Nat)
  /-- SNAPSHOT_TIMER_EXPIRY, R194 -/
  | snapshotTimerExpiry (dt : Nat)
  /-- CUE_INPUT_EDGE, R120 -/
  | cueInputEdge (dt : Nat)
  /-- POWER_LOSS, R201 -/
  | powerLoss
  deriving DecidableEq, Repr

end Sys2Proof
end

