-- ==== Sys2Proof/WellFormed.lean ====
section
/-!
DEFINITION. What the operands of a command must be for it to be one that can arrive: the lengths the spec fixes and
Lean's types do not. A command that is not well formed still has a meaning in the machine; no line can bring it.
-/

namespace Sys2Proof

/-- A step record is 26 bytes (section 9.7). -/
def stepRecordOk (record : List Byte) : Bool := record.length == 26

/-- A cue frame is 32 bit positions (section 6.3). -/
def cellsOk (cells : List CueCell) : Bool := cells.length == 32

/-- A remote line's times alternate between low and high, since each edge ends one and begins the other (R167). -/
def timesAlternate : List LineTime → Bool
  | .low _ :: .low _ :: _ => false
  | .high _ :: .high _ :: _ => false
  | _ :: t :: rest => timesAlternate (t :: rest)
  | _ => true

/-- Each panel key has one line (section 8.4): no key is named twice among the closed ones. -/
def panelLinesOk (closed : List Key) : Bool := decide closed.Nodup

/-- The command can arrive. -/
def WellFormed : Instr → Bool
  | .powerOn lines => panelLinesOk lines.panelClosed
  | .stepWrite _ _ _ _ record => stepRecordOk record
  | .remoteMalformed _ _ times => timesAlternate times
  | .cueFrame _ cells => cellsOk cells
  | .degradeWindowClose _ cells => cellsOk cells
  | .linkByte _ _ _ | .linkByteGapExpiry _ | .responseStart _ | .responseEnd _ | .query _ _ _ _ | .set _ _ _ _ _
  | .action _ _ _ | .controlStop _ _ _ | .controlPause _ _ _ | .controlResume _ _ _ | .controlAdvance _ _ _
  | .controlMode _ _ _ | .controlClearJam _ _ _ | .controlClearMatch _ _ _ | .controlBlank _ _ _
  | .controlLamp _ _ _ | .controlStandby _ _ _ | .controlWake _ _ _ | .controlTape _ _ _ | .controlSnapshot _ _ _
  | .controlSave _ _ _ | .stepRead _ _ _ | .arm _ _ _ | .slotFlags _ _ _ _ _ | .slotRead _ _ _ _
  | .countersRead _ _ _ | .noticePoll _ _ | .noticeEnable _ _ _ _ | .lampReset _ _ _ | .unitReset _ _
  | .assign _ _ _ _ | .resettingEnd _ | .remoteFrame _ _ _ | .remoteReleaseExpiry _ _ | .panelLineChange _ _ _
  | .panelDebounceExpiry _ _ | .panelRepeatStep _ _ | .panelModeHold _ | .panelStopHold _ | .panelPowerHold _
  | .holdExpiry _ | .pacingRunOut _ | .trayInsertion _ | .trayQualifyExpiry _ _ | .trayRemoval _ | .tDarkExpiry _ _
  | .lifterUpConfirm _ _ | .liftTimerExpiry _ | .dropTimerExpiry _ | .retryPauseExpiry _ _ | .indexPulse _ _
  | .indexWaitExpiry _ | .lifterDownConfirm _ _ | .settleExpiry _ | .lampUpdate _ _ | .lampFailure _
  | .changerMotionEnd _ _ | .ignitionComplete _ _ | .rampEnd _ _ | .litSecond _ _ | .lampPresentChange _ _ _
  | .temperatureSample _ _ _ | .sensorLossTimerExpiry _ | .lossTime30s _ | .tCoolExpiry _ | .fanKickExpiry _
  | .fanTachPulse _ | .tachWindowEnd _ | .cassettePresentChange _ _ | .fgPulse _ | .fgTimerExpiry _ | .reelPulse _ _
  | .takeUpReelTimerExpiry _ | .supplyReelTimerExpiry _ | .unlockTimer300ms _ | .volumeStep _ | .i2sFrame _ _ _
  | .carrierDetect _ _ | .carrierTimerExpiry _ | .speedOffTimerExpiry _ | .regenSlot _ | .followExpiry _
  | .followDueCheck _ | .saveEnd _ | .litTimerExpiry _ | .snapshotTimerExpiry _ | .cueInputEdge _ | .powerLoss => true

end Sys2Proof
end

