-- ==== Sys2Proof/Decode.lean ====
section
/-!
DEFINITION. Commands from words of the opcode table. The table gives none of its 93 rows any bits (no "fixed", no
"fields"), so no word spells a command. The layouts the spec does give (link frames, step records, action slots,
cue and remote frames) are decoded by the machine itself, in Machine/Operands.lean.
-/

namespace Sys2Proof

/-- No row of spec/opcode_table.json gives bits: no word spells a command. -/
def decodeTableWord (_nbits _w : Nat) : Option Instr := none

end Sys2Proof
end

