-- ==== Sys2Proof/Config.lean ====
section
/-!
DEFINITION. What is fixed for a part (the identity of R205) and the values the spec leaves open: constants with
no body, of which nothing can be proved but that they are the same each time.
-/

namespace Sys2Proof

/-- R205: the vendor code. -/
def Config.vendorCode : Nat := 0x5A31

/-- R205: the part code. -/
def Config.partCode : Nat := 720

/-- R205: the revision. -/
def Config.revision : Nat := 1

/-- R205: "the serial number, a 32-bit value that differs between parts": each part has its own, so the model
gives none (log 10). -/
opaque Config.serialNumber : BitVec 32

/-- Free values (log 11): the n-th value the spec does not state. -/
opaque Config.freeWord : Nat → BitVec 32

end Sys2Proof
end

