-- ==== Sys2Proof/Machine/Types.lean ====
section
/-!
DEFINITION. The data the blocks hold (spec/01 to spec/11), block by block, under the manual's names.
Times are microseconds since power-on; a timer is the time at which it is due.
-/

namespace Sys2Proof.Machine

/-! ## AQ (spec/01) -/

/-- R1: the control mode. -/
inductive Mode where
  | LOCAL | SHOW | CONSOLE
  deriving DecidableEq, Repr

/-- R8: the master an entry came from. -/
inductive Origin where
  | LINK | REMOTE | PANEL | SHOW
  deriving DecidableEq, Repr

/-- Section 3.7: the shape of a ramp. -/
inductive Curve where
  | LINEAR | CROSS
  deriving DecidableEq, Repr

/-- Section 1.4: the action vocabulary. FADE: target, time in tenths, curve, wait flag (true: WAIT). -/
inductive Action where
  | FADE (target time : Nat) (curve : Curve) (wait : Bool)
  | CHANGE_FWD
  | CHANGE_REV
  | SEEK (position : Nat)
  | HOLD (ms : Nat)
  | LAMP_ON
  | LAMP_OFF
  | VOLUME (target : Nat)
  | BLANK_ON
  | BLANK_OFF
  | MARK
  deriving DecidableEq, Repr

/-- R8: an entry of the action queue; `running`: its state is RUNNING, else QUEUED. -/
structure Entry where
  action : Action
  origin : Origin
  tag : Option Nat
  running : Bool
  deriving DecidableEq, Repr

/-- R11: the runner status. -/
inductive RunnerStatus where
  | EMPTY | WAIT_MECH | WAIT_PACING | RUNNING
  deriving DecidableEq, Repr

/-- R17: the manner in which an entry leaves the queue. -/
inductive Manner where
  | COMPLETED | DROPPED | FLUSHED
  deriving DecidableEq, Repr

/-- R17: a departure report: the step tag of the entry, the manner of its leaving and the room that results. -/
structure Departure where
  tag : Option Nat
  manner : Manner
  room : Nat
  deriving DecidableEq, Repr

/-- What AQ holds. `lastReport`: the departure report last made to SSQ (log 14). -/
structure Aq where
  mode : Mode
  startMode : Mode
  queue : List Entry
  runner : RunnerStatus
  stopPending : Bool
  holdDue : Option Nat
  lastReport : Option Departure
  deriving DecidableEq, Repr

/-! ## TMC (spec/02) -/

/-- Section 2.3: the mechanism states. -/
inductive MechState where
  | PARKED | HOMING | IDLE | CHANGING | SEEKING | JAMMED
  deriving DecidableEq, Repr

/-- Section 2.3: the phases. -/
inductive Phase where
  | DARKEN | LIFT | STEP | ROTATE | SEARCH | DROP | SETTLE
  deriving DecidableEq, Repr

/-- The timers of the phases: only one runs at a time (R31 to R37). -/
inductive MechTimer where
  | tDark | lift | drop | retryPause | indexWait | settle
  deriving DecidableEq, Repr

/-- R34: the direction of the tray. -/
inductive Dir where
  | forward | reverse
  deriving DecidableEq, Repr

/-- R26: the gate state. -/
inductive Gate where
  | EMPTY
  | LOADED (slot : Nat)
  | UNKNOWN
  deriving DecidableEq, Repr

/-- R27: occupancy, in the order in which SLOT_READ codes it (R185). -/
inductive Occ where
  | UNKNOWN | PRESENT | EMPTY
  deriving DecidableEq, Repr

/-- R27: one record of the slot table. -/
structure SlotRec where
  occ : Occ
  jams : Nat
  blank : Bool
  deriving DecidableEq, Repr

/-- R43: the causes of a jam. -/
inductive JamCause where
  | LIFT_TIMEOUT | DROP_TIMEOUT | STEP_TIMEOUT | HOME_NOT_FOUND
  deriving DecidableEq, Repr

/-- R43: the jam record. -/
structure JamRec where
  cause : JamCause
  phase : Phase
  position : Option Nat
  deriving DecidableEq, Repr

/-- R47: the clear mode of slot compare. -/
inductive ClearMode where
  | AUTO | HELD
  deriving DecidableEq, Repr

/-- R36, R32: the lifter motor drive. -/
inductive Lifter where
  | released | up | down
  deriving DecidableEq, Repr

/-- R39: the change-cycle parameters. -/
structure TmcParams where
  tDark : Nat
  tSettle : Nat
  pacing : Nat
  wrapGap : Bool
  skipEmpty : Bool
  deriving DecidableEq, Repr

/-- What TMC holds. `timer`: the timer of the running phase and when it is due. `trayDrive`: none while released. -/
structure Tmc where
  st : MechState
  phase : Option Phase
  timer : Option (MechTimer × Nat)
  retriedLift : Bool
  retriedDrop : Bool
  dir : Dir
  distance : Nat
  steps : Nat
  trayPresent : Bool
  qualDue : Option Nat
  size : Option Nat
  gate : Gate
  pos : Option Nat
  slots : List SlotRec
  jam : Option JamRec
  idleSince : Nat
  pacingOut : Bool
  comparePos : Option Nat
  clearMode : ClearMode
  slotMatch : Bool
  truncated : Bool
  lifter : Lifter
  trayDrive : Option Dir
  par : TmcParams
  deriving DecidableEq, Repr

/-! ## LMC (spec/03) -/

/-- R52: the lamp power states. -/
inductive Power where
  | OFF | IGNITING | LIT | SWAPPING
  deriving DecidableEq, Repr

/-- R53, R55: one lamp position: the record, its lit-time accumulator and its LAMP_LIFE condition.
`failed`: the status is FAILED, else GOOD. -/
structure LampRec where
  present : Bool
  failed : Bool
  lit : Nat
  ignitions : Nat
  acc : Nat
  life : Bool
  deriving DecidableEq, Repr

/-- R64: a changer motion under way. -/
structure Motion where
  target : LampPos
  count : Nat
  deriving DecidableEq, Repr

/-- R66: the ramp record (S_r, E_r, N, k, curve). -/
structure Ramp where
  start : Nat
  stop : Nat
  n : Nat
  k : Nat
  curve : Curve
  deriving DecidableEq, Repr

/-- R71: the blank reason set. -/
structure Blanks where
  mech : Bool
  empty : Bool
  slot : Bool
  manual : Bool
  changer : Bool
  deriving DecidableEq, Repr

/-- R78: the lamp parameters. -/
structure LmcParams where
  trim : Nat
  glow : Nat
  ignTime : Nat
  life : Nat
  changer : Bool
  darkOnEmpty : Bool
  powerOnLamp : Bool
  table : List Nat
  deriving DecidableEq, Repr

/-- What LMC holds. -/
structure Lmc where
  power : Power
  active : LampPos
  recA : LampRec
  recB : LampRec
  noLamp : Bool
  ignJ : Nat
  ignLen : Nat
  motion : Option Motion
  failCount : Nat
  level : Nat
  ramp : Option Ramp
  blanks : Blanks
  outLevel : Nat
  outDrive : Nat
  ceilUsed : Nat
  poLamp : Bool
  par : LmcParams
  deriving DecidableEq, Repr

/-! ## THC (spec/04) -/

/-- R88: the thermal state. -/
inductive Thermal where
  | NORMAL | WARM | HOT
  deriving DecidableEq, Repr

/-- R94: the power state. -/
inductive PowerState where
  | ACTIVE | STANDBY
  deriving DecidableEq, Repr

/-- R92: the cooldown record. -/
structure Cooldown where
  start : Nat
  trip : Bool
  deriving DecidableEq, Repr

/-- R97: the cooling parameters. -/
structure ThcParams where
  tLo : Nat
  tHi : Nat
  tWarn : Nat
  tTrip : Nat
  tResume : Nat
  tSafe : Nat
  cMin : Nat
  tCool : Nat
  fMinLit : Nat
  fMax : Nat
  cdDuty : Nat
  stallThr : Nat
  deriving DecidableEq, Repr

/-- What THC holds. COOLDOWN is set exactly while `cooldown` is present; `fLamp` is the demand of the last recompute
(R84, R85). -/
structure Thc where
  tm : Option Nat
  lastSample : Option Nat
  fTemp : Nat
  fLamp : Nat
  hq : Nat
  fan : Nat
  duty : Nat
  kick : Option Nat
  tachDue : Nat
  tachCount : Nat
  tachQual : Bool
  lastTach : Nat
  stall : Nat
  tstate : Thermal
  warm : Bool
  trip : Bool
  lost : Bool
  fanFault : Bool
  cooldown : Option Cooldown
  lossTimer : Option Nat
  lossStart : Option Nat
  loss30 : Bool
  cTarget : Nat
  cEff : Nat
  power : PowerState
  hold : Bool
  par : ThcParams
  deriving DecidableEq, Repr

/-! ## TTC (spec/05) -/

/-- Section 5.1: the transport states. -/
inductive Transport where
  | EMPTY | STOPPED | PLAY | PAUSE | FFWD | REWIND
  deriving DecidableEq, Repr

/-- Section 5.1: the reel that the motor drives, and how: slipping clutch or direct. -/
inductive ReelDrive where
  | none | takeUpSlipping | takeUpDirect | supplyDirect
  deriving DecidableEq, Repr

/-- Section 5.2: the transport operations. -/
inductive TapeOp where
  | PLAY | PAUSE | STOP | FFWD | REWIND
  deriving DecidableEq, Repr

/-- R111, R104, R112: the transport parameters; `volTarget` is the volume target itself. -/
structure TtcParams where
  loop : Bool
  autoRewind : Bool
  stopRewind : Bool
  autoMute : Bool
  trimT : Int
  volTarget : Nat
  deriving DecidableEq, Repr

/-- What TTC holds. `reelTimer` watches the reel of the transport state (section 5.1). `cassette`: the level of the
cassette-present line; `cassetteDue`: when it will have been stable for 20 ms, while it is not yet taken (R100). -/
structure Ttc where
  st : Transport
  cassette : Bool
  cassetteDue : Option Nat
  atEnd : Bool
  seqHold : Bool
  servo : Nat
  fgPeriod : Option Nat
  lastFg : Option Nat
  locked : Bool
  inLock : Nat
  fgTimer : Option Nat
  reelTimer : Option Nat
  unlockStart : Option Nat
  unlockPassed : Bool
  effTarget : Nat
  curVol : Nat
  i2sOut : Sample × Sample
  par : TtcParams
  deriving DecidableEq, Repr

/-! ## CUD (spec/06) -/

/-- R119: the cue source. -/
inductive CueSource where
  | LOCAL_TAPE | CUE_IN | NONE
  deriving DecidableEq, Repr

/-- Section 6.4: the framing states. -/
inductive Framing where
  | HUNT | CONFIRM | SYNC
  deriving DecidableEq, Repr

/-- R127: the loss criterion. -/
inductive LossCrit where
  | SYNC_ONLY | SYNC_OR_CHECK
  deriving DecidableEq, Repr

/-- Section 6.3: the kinds of a cue frame. -/
inductive FrameKind where
  | IDLE | CUE | TIME | STOP
  deriving DecidableEq, Repr

/-- R136: a frame in the regenerator buffer. -/
structure BufFrame where
  kind : FrameKind
  payload : Nat
  deriving DecidableEq, Repr

/-- R130: an open degrade window. -/
structure DegWindow where
  frames : Nat
  errors : Nat
  deriving DecidableEq, Repr

/-- R132: the cue candidate. -/
structure Candidate where
  number : Nat
  run : Nat
  deriving DecidableEq, Repr

/-- R139: the parameters of CUD. -/
structure CudParams where
  source : CueSource
  relay : Bool
  loss : LossCrit
  degThr : Nat
  confirm : Nat
  deriving DecidableEq, Repr

/-- What CUD holds. `bits`: the last bit positions formed, the oldest first, at most 32; none is a void bit. -/
structure Cud where
  carrier : Bool
  carrierTimer : Option Nat
  lastEdge : Option Nat
  pendHalf : Option Nat
  bitIndex : Nat
  bits : List (Option Bool)
  cellE : Nat
  speed : Nat
  speedOffTimer : Option Nat
  speedOff : Bool
  framing : Framing
  candAlign : Option Nat
  align : Option Nat
  prevAlign : Option Nat
  expected : Option Nat
  errs : Nat
  window : Option DegWindow
  degraded : Bool
  cueSync : Bool
  tapeTime : Option Nat
  cand : Option Candidate
  lastCue : Option Nat
  lock : Bool
  buf : List BufFrame
  regenCount : Nat
  sending : Bool
  cueOut : Option (BitVec 32)
  slotDue : Option Nat
  par : CudParams
  deriving DecidableEq, Repr

/-! ## SSQ (spec/07) -/

/-- R143: the trigger of a step. -/
inductive Trigger where
  | CUE (number : Nat)
  | TIME (seconds : Nat)
  | FOLLOW (ms : Nat)
  | MANUAL
  deriving DecidableEq, Repr

/-- R143: a step record; `next` none is END. -/
structure StepRec where
  valid : Bool
  trigger : Trigger
  gateSlot : Option Nat
  actions : List Action
  next : Option Nat
  deriving DecidableEq, Repr

/-- Section 7.2: the sequencer states. -/
inductive SeqState where
  | UNLOADED | READY | RUNNING | PAUSED | ENDED
  deriving DecidableEq, Repr

/-- R153: the pending fire. -/
structure PendFire where
  index : Nat
  chase : Bool
  need : Nat
  deriving DecidableEq, Repr

/-- R151: the FOLLOW timer. -/
inductive Follow where
  | stopped
  | running (dueAt : Nat)
  | frozen (remaining : Nat)
  | due
  deriving DecidableEq, Repr

/-- What SSQ holds; `ptr` none is END. -/
structure Ssq where
  steps : List StepRec
  head : Nat
  st : SeqState
  pausedFrom : Option SeqState
  ptr : Option Nat
  pend : Option PendFire
  watched : Option Nat
  follow : Follow
  remembered : Option Nat
  skipped : Nat
  deriving DecidableEq, Repr

/-! ## RPD (spec/08) -/

/-- R170: a held remote press. -/
structure HeldPress where
  key : Key
  pressed : Nat
  releaseDue : Nat
  repeats : Bool
  deriving DecidableEq, Repr

/-- R167, R168: what a decoder holds outside a clean IDLE. `inFrame`: IN_FRAME, with the times taken since the start
low and the bits. `passing`: IDLE, with a low on the line that began at an edge taken IN_FRAME, so that it is no start. -/
inductive RemoteRx where
  | inFrame (taken : Nat) (bits : List Bool)
  | passing
  deriving DecidableEq, Repr

/-- One remote frame decoder. `rx`: none in IDLE, with no low on the line but one that may be a start. -/
structure RemoteDec where
  rx : Option RemoteRx
  lastSeq : Option Nat
  held : Option HeldPress
  deriving DecidableEq, Repr

/-- R173 to R176: the record of one panel key. `closed`: its line; `down`: the debounced level; `hold`: a hold is
being timed and not yet reported; `nextRepeat`: when the next repeat step is due, while they are offered. -/
structure PanelRec where
  closed : Bool
  down : Bool
  debounce : Option Nat
  pressed : Nat
  hold : Bool
  nextRepeat : Option Nat
  deriving DecidableEq, Repr

/-- What RPD holds; `panel` in the order of `Key`. -/
structure Rpd where
  wired : RemoteDec
  ir : RemoteDec
  panel : List PanelRec
  channel : Nat
  deriving DecidableEq, Repr

/-! ## LKI (spec/09, spec/10) -/

/-- R183: the address state. -/
inductive AddrState where
  | UNASSIGNED
  | ASSIGNED (addr : Nat)
  | LISTEN_ONLY
  deriving DecidableEq, Repr

/-- R181: a response frame, less its start and check bytes. -/
structure Response where
  dest : Byte
  src : Byte
  kind : Byte
  payload : List Byte
  deriving DecidableEq, Repr

/-- R181: the response state; PENDING carries when the request was applied. -/
inductive RespState where
  | NONE
  | PENDING (r : Response) (since : Nat)
  | SENDING (r : Response)
  deriving DecidableEq, Repr

/-- Section 10.2: the notice kinds, in the order of their codes 0..33. -/
inductive NoticeKind where
  | JAM | SLOT_SUSPECT | TRAY_INSERTED | TRAY_REMOVED | TRAY_INVALID | LAMP_FAILED | LAMP_CHANGED | ACTION_DROPPED
  | STEP_MARK | CHASE | CUE_STRAY | SHOW_ENDED | STOPPED | UNIT_RESET_DONE | TAPE_END | TAPE_REWOUND
  | TRANSPORT_FAULT | SYNC_LOSS | DROPOUT | ALIGN_SHIFT | REMOTE_REFUSED | SAVE_DONE | SLOT_MATCH | THERMAL_WARM
  | THERMAL_TRIP | SENSOR_LOST | FAN_FAULT | COOLDOWN | NO_LAMP | LAMP_LIFE | CUE_SYNC | CUE_DEGRADED
  | TAPE_SPEED_OFF | STORE_LOST
  deriving DecidableEq, Repr

/-- R196: an entry of the notice queue; `clear`: its change is CLEAR, else SET. -/
structure Notice where
  kind : NoticeKind
  clear : Bool
  subject : Option Nat
  stamp : Nat
  deriving DecidableEq, Repr

/-- R179: a frame in RECEIVING: the bytes taken after its start byte, and when the 2 ms after the last byte end. -/
structure LinkRx where
  bytes : List Byte
  gapDue : Nat
  deriving DecidableEq, Repr

/-- What LKI holds; `rx` none: the receiver is IDLE. -/
structure Lki where
  rx : Option LinkRx
  resp : RespState
  addr : AddrState
  assignTaken : Bool
  resetting : Bool
  copies : List (Option (List Byte))
  notices : List Notice
  lost : Nat
  enables : List Bool
  attn : Bool
  deriving DecidableEq, Repr

/-! ## CNT (spec/10) -/

/-- Section 10.1: the counters, in list order. -/
inductive Ctr where
  | cueValid | cueCheck | cueViolations | cueSyncLosses | cueDropouts | cueShifts | cueAccepted | cueStray
  | cueOverruns | mechChanges | mechSeeks | mechLiftRetries | mechDropRetries | mechJams | lampIgnitions
  | lampFailures | lampSwaps | remGood | remMalformed | remRefused | remDropped | linkGood | linkCheck
  | linkRefused
  deriving DecidableEq, Repr

/-- R193: one counter with its overflow mark. -/
structure Counter where
  val : Nat
  ovf : Bool
  deriving DecidableEq, Repr

/-- What CNT holds; times in milliseconds but for `timer`. -/
structure Cnt where
  live : List Counter
  snap : List Counter
  number : Nat
  snapMs : Nat
  lenMs : Nat
  timer : Option Nat
  interval : Nat
  deriving DecidableEq, Repr

/-! ## STS (spec/11) -/

/-- R201: what the record keeps of one lamp. -/
structure LampStore where
  failed : Bool
  lit : Nat
  ignitions : Nat
  deriving DecidableEq, Repr

/-- R201: the contents of the settings record. `flags`: the blank flags of positions 0..120 (0 is off). -/
structure Settings where
  startMode : Mode
  tmc : TmcParams
  lmc : LmcParams
  thc : ThcParams
  ttc : TtcParams
  cud : CudParams
  channel : Nat
  interval : Nat
  lampA : LampStore
  lampB : LampStore
  active : LampPos
  flags : List Bool
  steps : List StepRec
  head : Nat
  enables : List Bool
  deriving DecidableEq, Repr

/-- R201: a save under way: its kind, the values taken at its beginning, and whether it leaves the marker set. -/
structure Save where
  full : Bool
  image : Settings
  keepMarker : Bool
  deriving DecidableEq, Repr

/-- What STS holds. `record`: the contents as the last completed save left them (log 24). -/
structure Sts where
  record : Settings
  marker : Bool
  checkOk : Bool
  save : Option Save
  autoPending : Bool
  litTimer : Option Nat
  storeLost : Bool
  serial : BitVec 32
  deriving DecidableEq, Repr

end Sys2Proof.Machine
end

