-- ==== Sys2Proof/Machine/Defaults.lean ====
section
/-!
DEFINITION. Factory defaults (spec/11, section 11.4 and R204).
-/

namespace Sys2Proof.Machine

/-- R39: the change-cycle parameters. -/
def defaultTmc : TmcParams := { tDark := 19, tSettle := 29, pacing := 0, wrapGap := false, skipEmpty := false }

/-- Section 3.9: the factory response table, T[i] = min(32 · i, 1023). -/
def defaultTable : List Nat := (List.range 33).map (fun i => min (32 * i) 1023)

/-- R78: the lamp parameters. -/
def defaultLmc : LmcParams :=
  { trim := 1000, glow := 96, ignTime := 40, life := 100, changer := true, darkOnEmpty := true,
    powerOnLamp := false, table := defaultTable }

/-- R97: the cooling parameters. -/
def defaultThc : ThcParams :=
  { tLo := 80, tHi := 140, tWarn := 170, tTrip := 200, tResume := 140, tSafe := 100, cMin := 400, tCool := 90,
    fMinLit := 35, fMax := 100, cdDuty := 60, stallThr := 10 }

/-- R111, R104, R112: the transport parameters. -/
def defaultTtc : TtcParams :=
  { loop := false, autoRewind := true, stopRewind := false, autoMute := true, trimT := 0, volTarget := 40 }

/-- R139: the parameters of CUD. -/
def defaultCud : CudParams :=
  { source := .LOCAL_TAPE, relay := false, loss := .SYNC_ONLY, degThr := 4, confirm := 1 }

/-- R204: a step record that is not valid; its other fields are the model's choice (log 31). -/
def defaultStep : StepRec :=
  { valid := false, trigger := .MANUAL, gateSlot := none, actions := [], next := none }

/-- R204: a zeroed lamp record. -/
def defaultLamp : LampStore := { failed := false, lit := 0, ignitions := 0 }

/-- R204 and section 11.4: the whole record in factory defaults. -/
def factory : Settings :=
  { startMode := .LOCAL, tmc := defaultTmc, lmc := defaultLmc, thc := defaultThc, ttc := defaultTtc,
    cud := defaultCud, channel := 0, interval := 10, lampA := defaultLamp, lampB := defaultLamp, active := .A,
    flags := List.replicate 121 false, steps := List.replicate 256 defaultStep, head := 0,
    enables := List.replicate 34 true }

end Sys2Proof.Machine
end

