-- ==== Sys2Proof/Machine/State.lean ====
section
/-!
DEFINITION. The state of the part: one record per block (Machine/Types.lean), the queue of commands that wait, and
the state right after power-on.
-/

namespace Sys2Proof.Machine

/-- The state of the part. The queue `pending` is the task's own; `powered`, `now` (microseconds since power-on) and
`free` (how many free values have been taken) are the model's own (logs 13, 1, 11). -/
structure State where
  powered : Bool
  now : Nat
  free : Nat
  aq : Aq
  tmc : Tmc
  lmc : Lmc
  thc : Thc
  ttc : Ttc
  cud : Cud
  ssq : Ssq
  rpd : Rpd
  lki : Lki
  cnt : Cnt
  sts : Sts
  pending : List Instr
  deriving DecidableEq, Repr

/-- No command stops the part with a fault: the spec lets nothing stop it but the loss of its supply, which is a
command of its own. Nobody raises a fault (safe: there is none). -/
inductive Fault where
  deriving DecidableEq, Repr

/-- Why a command has no meaning. -/
inductive Refusal where
  /-- Raised by the arm of a command that is not modelled; safe: the machine stops, by the command's name. -/
  | notModelled (mnemonic : String)
  deriving DecidableEq, Repr

/-! ## One block replaced, the rest as it is -/

def State.setPowered (s : State) (x : Bool) : State := { s with powered := x }
def State.setNow (s : State) (x : Nat) : State := { s with now := x }
def State.setFree (s : State) (x : Nat) : State := { s with free := x }
def State.setAq (s : State) (x : Aq) : State := { s with aq := x }
def State.setTmc (s : State) (x : Tmc) : State := { s with tmc := x }
def State.setLmc (s : State) (x : Lmc) : State := { s with lmc := x }
def State.setThc (s : State) (x : Thc) : State := { s with thc := x }
def State.setTtc (s : State) (x : Ttc) : State := { s with ttc := x }
def State.setCud (s : State) (x : Cud) : State := { s with cud := x }
def State.setSsq (s : State) (x : Ssq) : State := { s with ssq := x }
def State.setRpd (s : State) (x : Rpd) : State := { s with rpd := x }
def State.setLki (s : State) (x : Lki) : State := { s with lki := x }
def State.setCnt (s : State) (x : Cnt) : State := { s with cnt := x }
def State.setSts (s : State) (x : Sts) : State := { s with sts := x }
def State.setPending (s : State) (x : List Instr) : State := { s with pending := x }

/-! ## Right after power-on (R1, R8, R49, R80, R99, R116, R141, R164, R177, R183, R193, R194, R200, R204)

With the lines and the stored record of log 9: straps 1, both lamps in place, no tray, no cassette, every panel line
open, the record in factory defaults with its marker clear and its check correct. -/

def resetAq : Aq :=
  { mode := .LOCAL, startMode := .LOCAL, queue := [], runner := .EMPTY, stopPending := false, holdDue := none,
    lastReport := none }

def resetSlots : List SlotRec :=
  { occ := .EMPTY, jams := 0, blank := false } :: List.replicate 120 { occ := .UNKNOWN, jams := 0, blank := false }

def resetTmc : Tmc :=
  { st := .PARKED, phase := none, timer := none, retriedLift := false, retriedDrop := false, dir := .forward,
    distance := 0, steps := 0, trayPresent := false, qualDue := none, size := none, gate := .UNKNOWN, pos := none,
    slots := resetSlots, jam := none, idleSince := 0, pacingOut := true, comparePos := none, clearMode := .AUTO,
    slotMatch := false, truncated := false, lifter := .released, trayDrive := none, par := defaultTmc }

def resetLamp : LampRec :=
  { present := true, failed := false, lit := 0, ignitions := 0, acc := 0, life := false }

/-- R80; EMPTY and SLOT are absent until the first lamp update derives them (log 30). -/
def resetLmc : Lmc :=
  { power := .OFF, active := .A, recA := resetLamp, recB := resetLamp, noLamp := false, ignJ := 0, ignLen := 0,
    motion := none, failCount := 0, level := 0, ramp := none,
    blanks := { mech := true, empty := false, slot := false, manual := false, changer := false },
    outLevel := 0, outDrive := 0, ceilUsed := 1000, poLamp := false, par := defaultLmc }

def resetThc : Thc :=
  { tm := none, lastSample := none, fTemp := 0, fLamp := 0, hq := 0, fan := 0, duty := 0, kick := none,
    tachDue := 1000000, tachCount := 0, tachQual := false, lastTach := 0, stall := 0, tstate := .NORMAL, warm := false, trip := false,
    lost := false, fanFault := false, cooldown := none, lossTimer := some 1000000, lossStart := none,
    loss30 := false, cTarget := 1000, cEff := 1000, power := .ACTIVE, hold := true, par := defaultThc }

def resetTtc : Ttc :=
  { st := .EMPTY, cassette := false, cassetteDue := none, atEnd := false, seqHold := false, servo := 512,
    fgPeriod := none, lastFg := none, locked := false, inLock := 0, fgTimer := none, reelTimer := none, unlockStart := none, unlockPassed := false, effTarget := 0,
    curVol := 0, i2sOut := (0, 0), par := defaultTtc }

def resetCud : Cud :=
  { carrier := false, carrierTimer := none, lastEdge := none, pendHalf := none, bitIndex := 0, bits := [],
    cellE := 3125, speed := 1000, speedOffTimer := none, speedOff := false, framing := .HUNT, candAlign := none,
    align := none,
    prevAlign := none, expected := none, errs := 0, window := none, degraded := false, cueSync := false,
    tapeTime := none, cand := none, lastCue := none, lock := false, buf := [], regenCount := 0, sending := false,
    cueOut := none, slotDue := none, par := defaultCud }

def resetSsq : Ssq :=
  { steps := List.replicate 256 defaultStep, head := 0, st := .UNLOADED, pausedFrom := none, ptr := none,
    pend := none, watched := none, follow := .stopped, remembered := none, skipped := 0 }

def resetDecoder : RemoteDec := { rx := none, lastSeq := none, held := none }

def resetPanelKey : PanelRec :=
  { closed := false, down := false, debounce := none, pressed := 0, hold := false, nextRepeat := none }

def resetRpd : Rpd :=
  { wired := resetDecoder, ir := resetDecoder, panel := List.replicate 15 resetPanelKey, channel := 0 }

def resetLki : Lki :=
  { rx := none, resp := .NONE, addr := .ASSIGNED 1, assignTaken := false, resetting := false,
    copies := List.replicate 10 none, notices := [], lost := 0, enables := List.replicate 34 true, attn := false }

def resetCnt : Cnt :=
  { live := List.replicate 24 { val := 0, ovf := false }, snap := List.replicate 24 { val := 0, ovf := false },
    number := 0, snapMs := 0, lenMs := 0, timer := some 10000000, interval := 10 }

def resetSts : Sts :=
  { record := factory, marker := false, checkOk := true, save := none, autoPending := false, litTimer := none,
    storeLost := false, serial := Config.serialNumber }

/-- The part right after power-on. -/
def State.reset : State :=
  { powered := true, now := 0, free := 0, aq := resetAq, tmc := resetTmc, lmc := resetLmc, thc := resetThc,
    ttc := resetTtc, cud := resetCud, ssq := resetSsq, rpd := resetRpd, lki := resetLki, cnt := resetCnt,
    sts := resetSts, pending := [] }

end Sys2Proof.Machine
end

