-- ==== Sys2Proof/Machine/Flags.lean ====
section
/-!
DEFINITION. Notices, conditions and counters (spec/10): what every block reports to LKI and counts at CNT.
-/

namespace Sys2Proof.Machine

/-! ## Notice kinds (section 10.2) -/

/-- The code of a notice kind. -/
def NoticeKind.code : NoticeKind → Nat
  | .JAM => 0 | .SLOT_SUSPECT => 1 | .TRAY_INSERTED => 2 | .TRAY_REMOVED => 3 | .TRAY_INVALID => 4
  | .LAMP_FAILED => 5 | .LAMP_CHANGED => 6 | .ACTION_DROPPED => 7 | .STEP_MARK => 8 | .CHASE => 9
  | .CUE_STRAY => 10 | .SHOW_ENDED => 11 | .STOPPED => 12 | .UNIT_RESET_DONE => 13 | .TAPE_END => 14
  | .TAPE_REWOUND => 15 | .TRANSPORT_FAULT => 16 | .SYNC_LOSS => 17 | .DROPOUT => 18 | .ALIGN_SHIFT => 19
  | .REMOTE_REFUSED => 20 | .SAVE_DONE => 21 | .SLOT_MATCH => 22 | .THERMAL_WARM => 23 | .THERMAL_TRIP => 24
  | .SENSOR_LOST => 25 | .FAN_FAULT => 26 | .COOLDOWN => 27 | .NO_LAMP => 28 | .LAMP_LIFE => 29
  | .CUE_SYNC => 30 | .CUE_DEGRADED => 31 | .TAPE_SPEED_OFF => 32 | .STORE_LOST => 33

/-- The kinds in the order of their codes. -/
def NoticeKind.all : List NoticeKind :=
  [.JAM, .SLOT_SUSPECT, .TRAY_INSERTED, .TRAY_REMOVED, .TRAY_INVALID, .LAMP_FAILED, .LAMP_CHANGED,
    .ACTION_DROPPED, .STEP_MARK, .CHASE, .CUE_STRAY, .SHOW_ENDED, .STOPPED, .UNIT_RESET_DONE, .TAPE_END,
    .TAPE_REWOUND, .TRANSPORT_FAULT, .SYNC_LOSS, .DROPOUT, .ALIGN_SHIFT, .REMOTE_REFUSED, .SAVE_DONE, .SLOT_MATCH,
    .THERMAL_WARM, .THERMAL_TRIP, .SENSOR_LOST, .FAN_FAULT, .COOLDOWN, .NO_LAMP, .LAMP_LIFE, .CUE_SYNC,
    .CUE_DEGRADED, .TAPE_SPEED_OFF, .STORE_LOST]

/-- The kind that a code names. -/
def NoticeKind.ofCode (n : Nat) : Option NoticeKind := NoticeKind.all[n]?

/-! ## The notice queue (R196, R197) -/

/-- The number of places of the notice queue (R196). -/
def noticePlaces : Nat := 16

/-- One more, saturating at 65535 (spec/00, "Widths and saturation"). -/
def satInc16 (n : Nat) : Nat := min (n + 1) 65535

/-- R196: a notice joins at the young end; a queue of 16 first loses its oldest, which the lost count counts. -/
def Lki.join (l : Lki) (n : Notice) : Lki :=
  if l.notices.length < noticePlaces then { l with notices := l.notices ++ [n], attn := true }
  else { l with notices := l.notices.tail ++ [n], lost := satInc16 l.lost, attn := true }

/-- R198: the enable of a kind. -/
def Lki.enabled (l : Lki) (k : NoticeKind) : Bool := l.enables.getD k.code false

/-- R196: milliseconds since power-on, wrapping. -/
def State.stamp (s : State) : Nat := s.now / 1000 % 4294967296

/-- R197: an owner asks for a notice; it is queued when its kind's enable is on. -/
def State.notice (s : State) (k : NoticeKind) (clear : Bool) (subject : Option Nat) : State :=
  if s.lki.enabled k then s.setLki (s.lki.join { kind := k, clear := clear, subject := subject, stamp := s.stamp })
  else s

/-- An event, or the setting of a condition. -/
def State.event (s : State) (k : NoticeKind) (subject : Option Nat) : State := s.notice k false subject

/-- A condition that changes to `v`: SET when it is set, CLEAR when it is cleared. -/
def State.condNotice (s : State) (k : NoticeKind) (v : Bool) (subject : Option Nat) : State :=
  s.notice k (!v) subject

/-! ## Counters (R193) -/

/-- The place of a counter in the list of section 10.1. -/
def Ctr.idx : Ctr → Nat
  | .cueValid => 0 | .cueCheck => 1 | .cueViolations => 2 | .cueSyncLosses => 3 | .cueDropouts => 4
  | .cueShifts => 5 | .cueAccepted => 6 | .cueStray => 7 | .cueOverruns => 8 | .mechChanges => 9
  | .mechSeeks => 10 | .mechLiftRetries => 11 | .mechDropRetries => 12 | .mechJams => 13
  | .lampIgnitions => 14 | .lampFailures => 15 | .lampSwaps => 16 | .remGood => 17 | .remMalformed => 18
  | .remRefused => 19 | .remDropped => 20 | .linkGood => 21 | .linkCheck => 22 | .linkRefused => 23

/-- The groups of COUNTERS_READ: where each begins and how many counters it has (section 10.1). -/
def counterGroup (code : Nat) : Option (Nat × Nat) :=
  match code with
  | 1 => some (0, 9)
  | 2 => some (9, 5)
  | 3 => some (14, 3)
  | 4 => some (17, 4)
  | 5 => some (21, 3)
  | _ => none

/-- R193: one increment; at 65535 it is lost and the overflow mark is set. -/
def Counter.bump (c : Counter) : Counter :=
  if c.val < 65535 then { c with val := c.val + 1 } else { c with ovf := true }

/-- R193: one occurrence is counted. -/
def State.count (s : State) (c : Ctr) : State :=
  s.setCnt { s.cnt with live := s.cnt.live.modify c.idx Counter.bump }

/-! ## Lengths of time -/

/-- Milliseconds in the clock's microseconds. -/
def msec (n : Nat) : Nat := n * 1000

/-- Seconds in the clock's microseconds. -/
def sec (n : Nat) : Nat := n * 1000000

/-- Time passes until the next command (log 1). -/
def State.advance (s : State) (dt : Nat) : State := s.setNow (s.now + dt)

/-- A timer that is due at `due` is taken: not before it is due (log 2). -/
def State.reach (s : State) (due : Nat) : State := s.setNow (max s.now due)

end Sys2Proof.Machine
end

