-- ==== Sys2Proof/Machine/Ops.lean ====
section
/-!
DEFINITION. The shared operations of STS, THC, LMC, TTC and TMC on which the commands' meanings stand: saves and
reports of the lamp power state, fans and cooldown, ignition and lamp-off, the transport's states, and the phases of
the tray mechanism that need neither the action queue nor the sequencer.
-/

namespace Sys2Proof

/-- The other place of the changer. -/
def LampPos.other : LampPos → LampPos
  | .A => .B
  | .B => .A

/-- How a lamp position is named in a subject (section 10.2). -/
def LampPos.num : LampPos → Nat
  | .A => 0
  | .B => 1

end Sys2Proof

namespace Sys2Proof.Machine

/-! ## STS (spec/11) -/

/-- The part of a lamp record that is stored (R53). -/
def LampRec.store (r : LampRec) : LampStore := { failed := r.failed, lit := r.lit, ignitions := r.ignitions }

/-- R201: the working values that a FULL save writes. -/
def State.capture (s : State) : Settings :=
  { startMode := s.aq.startMode, tmc := s.tmc.par, lmc := s.lmc.par, thc := s.thc.par, ttc := s.ttc.par,
    cud := s.cud.par, channel := s.rpd.channel, interval := s.cnt.interval, lampA := s.lmc.recA.store,
    lampB := s.lmc.recB.store, active := s.lmc.active, flags := s.tmc.slots.map SlotRec.blank,
    steps := s.ssq.steps, head := s.ssq.head, enables := s.lki.enables }

/-- R201: what a LAMP save leaves in the record: its own values over the record as it stands. -/
def State.captureLamps (s : State) : Settings :=
  { s.sts.record with lampA := s.lmc.recA.store, lampB := s.lmc.recB.store, active := s.lmc.active }

/-- R201: a save begins: the values as they stand, the marker written. -/
def State.beginSave (s : State) (full : Bool) : State :=
  s.setSts { s.sts with
    marker := true
    save := some { full := full, image := if full then s.capture else s.captureLamps,
                   keepMarker := !full && s.sts.storeLost } }

/-- R203: an automatic save of the lamp records is asked for. -/
def State.autoSave (s : State) : State :=
  if s.sts.save.isSome then s.setSts { s.sts with autoPending := true } else s.beginSave false

/-- R203: the lit timer, 15 minutes. -/
def litTime : Nat := sec 900

/-- R203: STS takes a change of the lamp power state from `old` to `new`. -/
def State.storeReport (s : State) (old new : Power) : State :=
  match new with
  | .OFF => State.autoSave (s.setSts { s.sts with litTimer := none })
  | .IGNITING | .SWAPPING =>
    if old = .OFF then s.setSts { s.sts with litTimer := some (s.now + litTime) } else s
  | .LIT => s

/-- R201: the values a unit reset reads from the record (log 24). -/
def State.storedSettings (s : State) : Settings := if s.sts.storeLost then factory else s.sts.record

/-! ## THC (spec/04) -/

/-- R85: F_lamp, for the lamp power state last reported. -/
def fanLamp (t : Thc) (p : Power) : Nat :=
  match p with
  | .IGNITING | .LIT => t.par.fMinLit + (t.par.fMax - t.par.fMinLit) * (t.hq / 64) / 1023
  | .OFF | .SWAPPING => 0

/-- R85: F_temp of a temperature. -/
def fanTemp (p : ThcParams) (tm : Option Nat) : Nat :=
  match tm with
  | none => 0
  | some v =>
    if v ≤ p.tLo then 0
    else if p.tHi ≤ v then 100
    else 100 * (v - p.tLo) / (p.tHi - p.tLo)

/-- R85: F_cd. -/
def fanCooldown (t : Thc) : Nat := if t.cooldown.isSome then t.par.cdDuty else 0

/-- R85: the fan command of the three demands. -/
def fanCommand (t : Thc) : Nat :=
  if t.lost || t.fanFault then 100 else max t.fLamp (max t.fTemp (fanCooldown t))

/-- R87: the least duty of a window that qualifies. -/
def tachDuty : Nat := 30

/-- The duty becomes `d`; the window under way stays one that qualifies only from 30 on (R87). -/
def Thc.setDuty (t : Thc) (d : Nat) : Thc :=
  { t with duty := d, tachQual := t.tachQual && decide (tachDuty ≤ d) }

/-- R86: the fan command becomes `f`, with the spin-up kick. -/
def Thc.setFan (t : Thc) (now f : Nat) : Thc :=
  if f = 0 then { t.setDuty 0 with fan := 0, kick := none }
  else if t.fan = 0 then { t.setDuty 100 with fan := f, kick := some (now + sec 1) }
  else if t.kick.isSome then { t with fan := f }
  else { t.setDuty f with fan := f }

/-- R84, R85: the fan command is recomputed, F_lamp from H as it stands now. -/
def State.recomputeFan (s : State) : State :=
  let t : Thc := { s.thc with fLamp := fanLamp s.thc s.lmc.power }
  s.setThc (t.setFan s.now (fanCommand t))

/-- R92: a cooldown starts, or a running one is restarted; the fan command is not yet recomputed. -/
def State.cooldownOn (s : State) (trip : Bool) : State :=
  match s.thc.cooldown with
  | none =>
    (s.setThc { s.thc with cooldown := some { start := s.now, trip := trip } }).condNotice .COOLDOWN true none
  | some c => s.setThc { s.thc with cooldown := some { start := s.now, trip := c.trip || trip } }

/-- R93: the cooldown ends; the fan command is not yet recomputed. -/
def State.cooldownOff (s : State) : State :=
  if s.thc.cooldown.isSome then
    (s.setThc { s.thc with cooldown := none }).condNotice .COOLDOWN false none
  else s

/-- R93: the end test of a cooldown, never applied while SENSOR_LOST is set (R83) or before the first valid sample
(log 26). -/
def State.cooldownMet (s : State) : Bool :=
  match s.thc.cooldown, s.thc.tm with
  | some c, some v =>
    !s.thc.lost && decide (c.start + sec s.thc.par.tCool ≤ s.now) && decide (v ≤ s.thc.par.tSafe)
  | _, _ => false

/-- R93: the end test is applied. -/
def State.cooldownTest (s : State) : State :=
  if s.cooldownMet then s.cooldownOff.recomputeFan else s

/-- THC takes LMC's report that the lamp power state became `new` (R85, R92, R93); `trip`: the change is part of a
trip. -/
def State.coolReport (s : State) (new : Power) (trip : Bool) : State :=
  State.recomputeFan (match new with
    | .OFF => s.cooldownOn trip
    | .IGNITING | .SWAPPING =>
      match s.thc.cooldown with
      | some c => if c.trip then s else s.cooldownOff
      | none => s
    | .LIT => s)

/-- R96: what the power hold line follows. -/
def holdLine (s : State) : Bool :=
  s.thc.power == .ACTIVE || s.lmc.power != .OFF || s.thc.cooldown.isSome ||
    s.tmc.st == .HOMING || s.tmc.st == .CHANGING || s.tmc.st == .SEEKING

/-- R84: one step of the heat estimate toward the drive `d`. -/
def heatStep (hq d : Nat) : Nat := ((hq : Int) + Int.tdiv (64 * (d : Int) - (hq : Int)) 64).toNat

/-! ## LMC (spec/03) -/

/-- The record of a position. -/
def Lmc.lamp (l : Lmc) (p : LampPos) : LampRec :=
  match p with
  | .A => l.recA
  | .B => l.recB

/-- The record of a position replaced. -/
def Lmc.setLamp (l : Lmc) (p : LampPos) (r : LampRec) : Lmc :=
  match p with
  | .A => { l with recA := r }
  | .B => { l with recB := r }

/-- R53: a usable lamp. -/
def LampRec.usable (r : LampRec) : Bool := r.present && !r.failed

/-- R53: a lamp is available for ignition. -/
def Lmc.available (l : Lmc) : Bool :=
  (l.lamp l.active).usable || (l.par.changer && (l.lamp l.active.other).usable)

/-- R54: NO_LAMP is re-evaluated. -/
def State.evalNoLamp (s : State) : State :=
  if s.lmc.noLamp = !s.lmc.available then s
  else (s.setLmc { s.lmc with noLamp := !s.lmc.available }).condNotice .NO_LAMP (!s.lmc.available) none

/-- R55: the condition LAMP_LIFE of a record. -/
def Lmc.lifeOver (l : Lmc) (p : LampPos) : Bool := decide (l.par.life * 3600 ≤ (l.lamp p).lit)

/-- R55: LAMP_LIFE of a position is re-evaluated. -/
def State.evalLife (s : State) (p : LampPos) : State :=
  if (s.lmc.lamp p).life = s.lmc.lifeOver p then s
  else
    (s.setLmc (s.lmc.setLamp p { s.lmc.lamp p with life := s.lmc.lifeOver p })).condNotice .LAMP_LIFE
      (s.lmc.lifeOver p) (some p.num)

/-- R52: the lamp power state becomes `p` and is reported; OFF and SWAPPING take the drive away at once (R51). -/
def State.setPower (s : State) (p : Power) (trip : Bool) : State :=
  if s.lmc.power = p then s
  else
    ((s.setLmc { s.lmc with power := p,
                            outDrive := (match p with
                              | .OFF | .SWAPPING => 0
                              | .IGNITING | .LIT => s.lmc.outDrive) }).storeReport s.lmc.power p).coolReport p trip

/-- R60, R61: the LAMP_OFF effect and the forced OFF; `trip`: it is part of a trip (R92). -/
def State.lampOff (s : State) (trip : Bool) : State :=
  if s.lmc.power = .OFF then s
  else (s.setLmc { s.lmc with ignJ := 0, failCount := 0 }).setPower .OFF trip

/-- R57, R64: the active lamp enters IGNITING; in a loss of 30 s THC forces it off at that report (R83). -/
def State.enterIgniting (s : State) : State :=
  let l := s.lmc
  let r := l.lamp l.active
  let s1 := State.setPower ((s.setLmc { l.setLamp l.active { r with ignitions := satInc16 r.ignitions } with
    ignJ := 0, ignLen := l.par.ignTime }).count .lampIgnitions) .IGNITING false
  if s1.thc.lost && s1.thc.loss30 then s1.lampOff false else s1

/-- R64: a changer motion begins, toward the position that is not active. -/
def State.beginMotion (s : State) : State :=
  s.setLmc { s.lmc with motion := some { target := s.lmc.active.other, count := 0 },
                        blanks := { s.lmc.blanks with changer := true } }

/-- R57: an ignition request in OFF is refused. -/
def State.ignitionRefused (s : State) : Bool :=
  s.thc.trip || s.thc.fanFault || s.thc.power == .STANDBY || s.lmc.noLamp

/-- R57, R58: an ignition request; what it does when it is accepted, and nothing when it is refused. -/
def State.ignite (s : State) : State :=
  if s.lmc.power ≠ .OFF || s.ignitionRefused then s
  else if s.lmc.motion.isSome then s.setPower .SWAPPING false
  else if (s.lmc.lamp s.lmc.active).usable then s.enterIgniting
  else (s.beginMotion.count .lampSwaps).setPower .SWAPPING false

/-- R58, R77: whether an ignition request is accepted. -/
def State.igniteAccepted (s : State) : Bool := s.lmc.power != .OFF || !s.ignitionRefused

/-- R63: a detected failure of the active lamp. -/
def State.lampFail (s : State) : State :=
  let l := s.lmc
  let s1 := ((((s.setLmc (l.setLamp l.active { l.lamp l.active with failed := true })).event .LAMP_FAILED
    (some l.active.num)).count .lampFailures).evalNoLamp)
  if s1.lmc.par.changer && (s1.lmc.lamp s1.lmc.active.other).usable then
    (s1.beginMotion.count .lampSwaps).setPower .SWAPPING false
  else s1.setPower .OFF false

/-- R66: a FADE is handed to the engine: target, time in tenths of a second, curve. -/
def State.startRamp (s : State) (target time : Nat) (curve : Curve) : State :=
  s.setLmc { s.lmc with ramp := some { start := s.lmc.level, stop := min target 1000, n := 10 * time, k := 0,
                                       curve := curve } }

/-- R72: MANUAL set or cleared. -/
def State.setManual (s : State) (v : Bool) : State :=
  s.setLmc { s.lmc with blanks := { s.lmc.blanks with manual := v } }

/-! ## TTC (spec/05) -/

/-- R112: the volume target becomes `v`, at most 63. -/
def State.setVolume (s : State) (v : Nat) : State :=
  s.setTtc { s.ttc with par := { s.ttc.par with volTarget := min v 63 } }

/-- R101: the times of the transport's watches. -/
def fgTime : Nat := msec 200
def reelTime : Nat := msec 1500

/-- R101: the transport state changes to `t`: timers of the state left are cancelled, the state entered is prepared,
the sequencer-hold flag is cleared. A state that is already in force does not change. -/
def State.setTransport (s : State) (t : Transport) : State :=
  if s.ttc.st = t then s
  else
    let base : Ttc := { s.ttc with st := t, seqHold := false, fgTimer := none, reelTimer := none,
                                   unlockStart := none, unlockPassed := false }
    s.setTtc (match t with
      | .PLAY => { base with locked := false, inLock := 0, fgPeriod := none, lastFg := none,
                             fgTimer := some (s.now + fgTime), reelTimer := some (s.now + reelTime),
                             unlockStart := some s.now }
      | .FFWD => { base with reelTimer := some (s.now + reelTime) }
      | .REWIND => { base with atEnd := false, reelTimer := some (s.now + reelTime) }
      | .EMPTY | .STOPPED | .PAUSE => base)

/-- R102: a transport request is refused. -/
def State.tapeRefused (s : State) (op : TapeOp) : Bool :=
  match op with
  | .STOP => false
  | .PLAY | .FFWD => s.thc.power == .STANDBY || s.ttc.st == .EMPTY || (s.ttc.st == .STOPPED && s.ttc.atEnd)
  | .REWIND => s.thc.power == .STANDBY || s.ttc.st == .EMPTY
  | .PAUSE => s.thc.power == .STANDBY || !(s.ttc.st == .PLAY || s.ttc.st == .PAUSE)

/-- R102: where a transport request that is not refused takes the transport. -/
def tapeTarget (op : TapeOp) (st : Transport) : Transport :=
  match op with
  | .PLAY => .PLAY
  | .PAUSE => .PAUSE
  | .STOP => if st = .EMPTY then .EMPTY else .STOPPED
  | .FFWD => .FFWD
  | .REWIND => .REWIND

/-- R102: a transport request. -/
def State.tape (s : State) (op : TapeOp) : State :=
  if s.tapeRefused op then s else s.setTransport (tapeTarget op s.ttc.st)

/-- R103: a sequencer pause. -/
def State.seqPause (s : State) : State :=
  if s.ttc.st = .PLAY then
    let s1 := s.setTransport .PAUSE
    s1.setTtc { s1.ttc with seqHold := true }
  else s

/-- R103: a sequencer resume. -/
def State.seqResume (s : State) : State :=
  if s.ttc.st = .PAUSE ∧ s.ttc.seqHold = true then s.setTransport .PLAY else s

/-- R114: the mute reasons, in the order of its table: NOT_PLAYING, SPEED_OFF, UNLOCKED. -/
def State.muteNotPlaying (s : State) : Bool := s.ttc.st != .PLAY
def State.muteSpeedOff (s : State) : Bool := s.cud.speedOff
def State.muteUnlocked (s : State) : Bool := s.ttc.st == .PLAY && s.ttc.unlockPassed

/-- R112, R114: the effective target. -/
def effectiveTarget (s : State) : Nat :=
  if s.ttc.par.autoMute && (s.muteNotPlaying || s.muteSpeedOff || s.muteUnlocked) then 0
  else s.ttc.par.volTarget

/-- Section 5.1: the capstan drive of a state. -/
def capstanDrive (t : Ttc) : Nat :=
  match t.st with
  | .PLAY => t.servo
  | .FFWD | .REWIND => 1023
  | .EMPTY | .STOPPED | .PAUSE => 0

/-- Section 5.1: the head and pinch solenoid is engaged. -/
def solenoidEngaged (t : Ttc) : Bool := t.st == .PLAY || t.st == .PAUSE

/-- Section 5.1: the reel drive of a state. -/
def reelDrive (t : Ttc) : ReelDrive :=
  match t.st with
  | .PLAY => .takeUpSlipping
  | .FFWD => .takeUpDirect
  | .REWIND => .supplyDirect
  | .EMPTY | .STOPPED | .PAUSE => .none

/-! ## TMC (spec/02): what needs neither AQ nor SSQ -/

/-- The mechanism state becomes `st`; MECH stands exactly outside IDLE (R30). -/
def State.setMech (s : State) (st : MechState) : State :=
  (s.setTmc { s.tmc with st := st }).setLmc
    { s.lmc with blanks := { s.lmc.blanks with mech := decide (st ≠ .IDLE) } }

/-- R31, R40, R45: a cycle begins in DARKEN with its retries unspent. -/
def State.beginCycle (s : State) (st : MechState) : State :=
  let s1 := s.setMech st
  s1.setTmc { s1.tmc with phase := some .DARKEN, timer := none, retriedLift := false, retriedDrop := false,
                          steps := 0 }

/-- R45: homing begins. -/
def State.startHoming (s : State) : State :=
  let s1 := s.setTmc { s.tmc with dir := .forward }
  s1.beginCycle .HOMING

/-- R31: a change cycle begins. -/
def State.startChange (s : State) (d : Dir) : State :=
  let s1 := s.setTmc { s.tmc with dir := d }
  (s1.beginCycle .CHANGING).count .mechChanges

/-- R24: the tray size; the largest where there is no tray (log 32). -/
def Tmc.trayS (t : Tmc) : Nat := t.size.getD 120

/-- R40: the forward distance of a seek. -/
def forwardDistance (size pos target : Nat) : Nat := (target + (size + 1) - pos) % (size + 1)

/-- R40: the reverse distance of a seek. -/
def reverseDistance (size pos target : Nat) : Nat := (pos + (size + 1) - target) % (size + 1)

/-- R40: a seek begins. -/
def State.startSeek (s : State) (target : Nat) : State :=
  let f := forwardDistance s.tmc.trayS (s.tmc.pos.getD 0) target
  let r := reverseDistance s.tmc.trayS (s.tmc.pos.getD 0) target
  let s1 := s.setTmc { s.tmc with dir := if f ≤ r then .forward else .reverse, distance := min f r,
                                  truncated := false }
  (s1.beginCycle .SEEKING).count .mechSeeks

/-- R42: a running seek is truncated; nothing else is touched by it. -/
def State.truncate (s : State) : State :=
  if s.tmc.st = .SEEKING then s.setTmc { s.tmc with truncated := true } else s

/-- R34: one place on in a direction. -/
def stepPos (size : Nat) (d : Dir) (pos : Nat) : Nat :=
  match d with
  | .forward => (pos + 1) % (size + 1)
  | .reverse => (pos + size) % (size + 1)

/-- R48: SLOT_MATCH is cleared, with the compare position `subject` in its notice. -/
def State.clearMatch (s : State) (subject : Option Nat) : State :=
  if s.tmc.slotMatch then
    (s.setTmc { s.tmc with slotMatch := false }).condNotice .SLOT_MATCH false subject
  else s

/-- R47: slot compare is tested at the end of a DROP. -/
def State.testMatch (s : State) : State :=
  if s.tmc.comparePos.isSome && s.tmc.comparePos == s.tmc.pos && !s.tmc.slotMatch then
    (s.setTmc { s.tmc with slotMatch := true }).condNotice .SLOT_MATCH true s.tmc.comparePos
  else s

/-- The times of the mechanism (R32, R33, R34, R36). -/
def liftTime : Nat := msec 400
def dropTime : Nat := msec 300
def retryPause : Nat := msec 200
def indexTime : Nat := msec 600

/-- R39: a delay held as its value minus one, in units of 2 ms. -/
def delayUnits (v : Nat) : Nat := msec (2 * (v + 1))

/-- R36: DROP ends: gate and slot are read, slot compare is tested, SETTLE begins (R37). -/
def State.dropEnds (s : State) (m : MechSense) : State :=
  let t := s.tmc
  let t1 : Tmc := match t.pos with
    | some (p + 1) =>
      if m.slide then
        { t with gate := .LOADED (p + 1), slots := t.slots.modify (p + 1) (fun r => { r with occ := .PRESENT }) }
      else { t with gate := .EMPTY, slots := t.slots.modify (p + 1) (fun r => { r with occ := .EMPTY }) }
    | _ => { t with gate := .EMPTY }
  let s1 := State.testMatch (s.setTmc { t1 with lifter := .released, timer := none })
  s1.setTmc { s1.tmc with phase := some .SETTLE, timer := some (.settle, s1.now + delayUnits s1.tmc.par.tSettle) }

/-- R36: DROP begins; a sensor that already confirms ends it at once. -/
def State.beginDrop (s : State) (m : MechSense) : State :=
  let s1 := s.setTmc { s.tmc with trayDrive := none, phase := some .DROP, lifter := .down,
                                  timer := some (.drop, s.now + dropTime) }
  if m.lifterDown then s1.dropEnds m else s1

/-- R34, R41, R45: the tray is driven and the next index pulse awaited. -/
def State.driveTray (s : State) (p : Phase) (d : Dir) : State :=
  s.setTmc { s.tmc with phase := some p, trayDrive := some d, timer := some (.indexWait, s.now + indexTime) }

/-- R45: home is found. -/
def State.homeFound (s : State) (m : MechSense) : State :=
  (s.setTmc { s.tmc with pos := some 0 }).beginDrop m

/-- R32: LIFT ends: the gate is empty, and the cycle goes on to STEP, ROTATE or SEARCH. -/
def State.liftEnds (s : State) (m : MechSense) : State :=
  let s1 := s.setTmc { s.tmc with gate := .EMPTY, timer := none, steps := 0 }
  match s1.tmc.st with
  | .CHANGING => s1.driveTray .STEP s1.tmc.dir
  | .SEEKING =>
    if s1.tmc.truncated || s1.tmc.distance == 0 then s1.beginDrop m else s1.driveTray .ROTATE s1.tmc.dir
  | .HOMING =>
    let s2 := s1.setTmc { s1.tmc with pos := none }
    if m.homeMark then s2.homeFound m else s2.driveTray .SEARCH .forward
  | .PARKED | .IDLE | .JAMMED => s1

/-- R32: LIFT begins; a sensor that already confirms ends it at once. -/
def State.beginLift (s : State) (m : MechSense) : State :=
  let s0 := if s.tmc.clearMode = .AUTO then s.clearMatch s.tmc.comparePos else s
  let s1 := s0.setTmc { s0.tmc with phase := some .LIFT, lifter := .up, timer := some (.lift, s0.now + liftTime) }
  if m.lifterUp then s1.liftEnds m else s1

/-- R35: the position just reached is passed over. -/
def Tmc.passOver (t : Tmc) (pos : Nat) : Bool :=
  (pos == 0 && t.par.wrapGap) ||
    (t.par.skipEmpty && ((t.slots[pos]?.map SlotRec.occ) == some Occ.EMPTY))

/-- R35: the step limit of a STEP. -/
def Tmc.stepLimit (t : Tmc) : Nat := if t.par.skipEmpty then t.trayS else 2

/-- R38: when the pacing interval runs out, for the pacing value in force. -/
def Tmc.pacingDue (t : Tmc) : Nat := t.idleSince + msec (10 * t.par.pacing)

/-- R38: the interval runs out when its time has come; it stays run out. -/
def State.evalPacing (s : State) : State :=
  s.setTmc { s.tmc with pacingOut := s.tmc.pacingOut || decide (s.tmc.pacingDue ≤ s.now) }

end Sys2Proof.Machine
end

