-- ==== Sys2Proof/Machine/Runner.lean ====
section
/-!
DEFINITION. The action queue and its runner (spec/01) with the sequencer that feeds it (spec/07): room, flushes,
starting and leaving entries, the reports to SSQ, firing, chase, pause and resume; the mechanism's entries to IDLE,
PARKED and JAMMED, which both of them take; and what every command ends with.
-/

namespace Sys2Proof.Machine

/-! ## Room (R9) -/

/-- R8: the places of the action queue. -/
def queuePlaces : Nat := 12

/-- R9: the room; none while RESETTING. -/
def State.room (s : State) : Nat := if s.lki.resetting then 0 else queuePlaces - s.aq.queue.length

/-- R9: entries join at the young end. -/
def State.enqueue (s : State) (es : List Entry) : State := s.setAq { s.aq with queue := s.aq.queue ++ es }

/-- A new entry of an origin other than SHOW. -/
def plainEntry (o : Origin) (a : Action) : Entry := { action := a, origin := o, tag := none, running := false }

/-- An entry of step `j`. -/
def showEntry (j : Nat) (a : Action) : Entry := { action := a, origin := .SHOW, tag := some j, running := false }

/-! ## Step memory (R143, R144) -/

/-- The step record at an index. -/
def Ssq.step (q : Ssq) (i : Nat) : StepRec := q.steps.getD i defaultStep

/-- R144: where a link leads: END, or a step that is valid. -/
def Ssq.linked (q : Ssq) (next : Option Nat) : Option Nat :=
  match next with
  | some j => if (q.step j).valid then some j else none
  | none => none

/-- R153, step 3: the entries of a step fire. -/
def Ssq.entries (q : Ssq) (j : Nat) (chase : Bool) : List Entry :=
  (match chase, (q.step j).gateSlot with
    | true, some g => [showEntry j (.SEEK g)]
    | _, _ => []) ++ (q.step j).actions.map (showEntry j)

/-- R153, step 2: the need of a step fire. -/
def Ssq.need (q : Ssq) (j : Nat) (chase : Bool) : Nat := (q.entries j chase).length

/-- R155: the skipped-step total rises by `n`, saturating. -/
def Ssq.skip (q : Ssq) (n : Nat) : Ssq := { q with skipped := min (q.skipped + n) 65535 }

/-! ## Firing (R151, R153, R154, R156) -/

/-- R151: the work of step `w` is outstanding. -/
def State.outstanding (s : State) (w : Nat) : Bool :=
  (match s.ssq.pend with
    | some p => p.index == w
    | none => false) || s.aq.queue.any (fun e => e.tag == some w)

/-- R156: the test for the end of the show. -/
def State.endTest (s : State) : State :=
  if s.ssq.st = .RUNNING ∧ s.ssq.ptr = none ∧ s.ssq.pend = none ∧ (s.aq.queue.any (fun e => e.tag.isSome)) = false then
    (s.setSsq { s.ssq with st := .ENDED }).event .SHOW_ENDED none
  else s

/-- R153, steps 1 to 5: step `j` fires. -/
def State.fireCore (s : State) (j : Nat) (chase : Bool) : State :=
  let super := s.ssq.pend.isSome
  let flag := chase || super
  let q := if super then Ssq.skip { s.ssq with pend := none } 1 else s.ssq
  let need := q.need j flag
  let placed := q.st != .PAUSED && decide (need ≤ s.room)
  let s1 := if placed then s.enqueue (q.entries j flag) else s
  s1.setSsq { q with
    pend := if placed then none else some { index := j, chase := flag, need := need }
    ptr := q.linked (q.step j).next
    follow := .stopped
    watched := some j
    st := (match q.st with
      | .READY | .ENDED => .RUNNING
      | .RUNNING => .RUNNING
      | .PAUSED => .PAUSED
      | .UNLOADED => .UNLOADED)
    pausedFrom := if q.st = .PAUSED then some .RUNNING else q.pausedFrom }

/-- R151: the delay in microseconds with which the FOLLOW timer starts now, and the pointer step, if it starts. -/
def State.followStart (s : State) : Option (Nat × Nat) :=
  match s.ssq.follow, s.ssq.ptr, s.ssq.watched with
  | .stopped, some p, some w =>
    match (s.ssq.step p).trigger with
    | .FOLLOW d => if s.outstanding w then none else some (msec d, p)
    | _ => none
  | _, _, _ => none

/-- R151, R153 step 6: the FOLLOW timer starts if it may, and the end of the show is tested. A delay of 0 expires as it
starts; the fuel bounds a chain of such steps without actions, of which an endless one goes on at FOLLOW_EXPIRY
(log 15). -/
def State.checks : Nat → State → State
  | 0, s =>
    match s.followStart with
    | some (d, _) => (s.setSsq { s.ssq with follow := .running (s.now + d) }).endTest
    | none => s.endTest
  | n + 1, s =>
    match s.followStart with
    | none => s.endTest
    | some (d, p) =>
      match s.ssq.st with
      | .RUNNING =>
        if d = 0 then
          if s.aq.mode = .SHOW then State.checks n (s.fireCore p false)
          else (s.setSsq { s.ssq with follow := .due }).endTest
        else (s.setSsq { s.ssq with follow := .running (s.now + d) }).endTest
      | .PAUSED => (s.setSsq { s.ssq with follow := .frozen d }).endTest
      | .UNLOADED | .READY | .ENDED => s.endTest

/-- How many steps of delay 0 and without actions may fire in a row: as many as the step memory holds, so that a longer
chain comes to a step again and has no end (log 15). -/
def followFuel : Nat := 256

/-- R153: step `j` fires. -/
def State.fire (s : State) (j : Nat) (chase : Bool) : State := State.checks followFuel (s.fireCore j chase)

/-- R154: the pending fire is offered again. -/
def State.offerPending (s : State) : State :=
  match s.ssq.pend with
  | some p =>
    if s.ssq.st = .RUNNING ∧ p.need ≤ s.room then
      (s.enqueue (s.ssq.entries p.index p.chase)).setSsq { s.ssq with pend := none }
    else s
  | none => s

/-- R17: what SSQ does of a departure report: the pending fire is offered again, the FOLLOW timer may start, and the end
of the show is tested. -/
def State.takeReport (s : State) : State := State.checks followFuel s.offerPending

/-- R17: AQ reports a departure, with the room that results, and SSQ takes the report. `rep` false: the departure is made
inside a rule of SSQ that itself says what becomes of the pending fire and of the FOLLOW timer (R147, R158, R163), and
the end of the show alone is tested (log 14). -/
def State.report (s : State) (rep : Bool) (tag : Option Nat) (m : Manner) : State :=
  let s1 := s.setAq { s.aq with lastReport := some { tag := tag, manner := m, room := s.room } }
  if rep then s1.takeReport else s1.endTest

/-- R17: the reports of entries that leave together, one for each, the oldest first. -/
def State.reportAll (s : State) (rep : Bool) (l : List (Option Nat × Manner)) : State :=
  l.foldl (fun t d => t.report rep d.1 d.2) s

/-! ## The end of a unit reset (R191) -/

/-- R191: the test for the end of RESETTING, and what it does when it is met. -/
def State.resetEnd (s : State) : State :=
  if s.lki.resetting ∧ (s.tmc.st = .IDLE ∨ s.tmc.st = .PARKED) ∧ s.aq.queue = [] then
    (s.setLki { s.lki with resetting := false, notices := [], lost := 0, attn := false }).event .UNIT_RESET_DONE none
  else s

/-! ## The runner (R11 to R17) -/

/-- The kinds that TMC serves. -/
def Action.mech : Action → Bool
  | .CHANGE_FWD | .CHANGE_REV | .SEEK _ => true
  | _ => false

/-- What the runner does with the head: it waits, starts it, or lets it leave (with or without ACTION_DROPPED). -/
inductive HeadMove where
  | wait (r : RunnerStatus)
  | start (e : Entry)
  | leave (e : Entry) (dropped : Bool)
  deriving DecidableEq, Repr

/-- R12 to R16: a head that runs. -/
def State.runningMove (s : State) (e : Entry) : HeadMove :=
  match e.action with
  | .CHANGE_FWD | .CHANGE_REV | .SEEK _ =>
    match s.tmc.st with
    | .IDLE => .leave e false
    | .PARKED => .leave e true
    | .HOMING | .CHANGING | .SEEKING | .JAMMED => .wait .RUNNING
  | .FADE _ _ _ wait => if wait && s.lmc.ramp.isSome then .wait .RUNNING else .leave e false
  | .HOLD _ => if s.aq.holdDue.isSome then .wait .RUNNING else .leave e false
  | .LAMP_ON =>
    match s.lmc.power with
    | .LIT => .leave e false
    | .OFF => .leave e true
    | .IGNITING | .SWAPPING => .wait .RUNNING
  | .LAMP_OFF | .VOLUME _ | .BLANK_ON | .BLANK_OFF | .MARK => .leave e false

/-- R12 to R16: a head that is queued. -/
def State.queuedMove (s : State) (e : Entry) : HeadMove :=
  if e.action.mech then
    match s.tmc.st with
    | .PARKED | .JAMMED => .leave e true
    | .HOMING | .CHANGING | .SEEKING => .wait .WAIT_MECH
    | .IDLE =>
      if s.tmc.pacingOut then
        match e.action with
        | .SEEK p => if s.tmc.trayS < p then .leave e true else .start e
        | _ => .start e
      else .wait .WAIT_PACING
  else .start e

/-- R11: what the runner does now. -/
def State.headMove (s : State) : HeadMove :=
  match s.aq.queue with
  | [] => .wait .EMPTY
  | e :: _ => if e.running then s.runningMove e else s.queuedMove e

/-- R12 to R16: the start effect of a kind. -/
def State.startEffect (s : State) (e : Entry) : State :=
  match e.action with
  | .FADE target time curve _ => s.startRamp target time curve
  | .CHANGE_FWD => s.startChange .forward
  | .CHANGE_REV => s.startChange .reverse
  | .SEEK p => s.startSeek p
  | .HOLD ms => if ms = 0 then s else s.setAq { s.aq with holdDue := some (s.now + msec ms) }
  | .LAMP_ON => s.ignite
  | .LAMP_OFF => s.lampOff false
  | .VOLUME v => s.setVolume v
  | .BLANK_ON => s.setManual true
  | .BLANK_OFF => s.setManual false
  | .MARK => s.event .STEP_MARK e.tag

/-- R11: the head entry starts. -/
def State.startHead (s : State) (e : Entry) : State :=
  State.startEffect (s.setAq { s.aq with queue := { e with running := true } :: s.aq.queue.tail }) e

/-- R19: STOPPED is queued and stop-pending cleared, when it is set. -/
def State.stoppedIfPending (s : State) : State :=
  if s.aq.stopPending then (s.setAq { s.aq with stopPending := false }).event .STOPPED none else s

/-- R17: the head leaves the queue; `rep` as in `State.report`. ACTION_DROPPED is queued before the report, which may end
the show, and STOPPED after it (log 33). -/
def State.depart (s : State) (e : Entry) (dropped rep : Bool) : State :=
  let s1 := s.setAq { s.aq with queue := s.aq.queue.tail }
  let s2 := if dropped then s1.event .ACTION_DROPPED e.tag else s1
  let s3 := s2.report rep e.tag (if dropped then .DROPPED else .COMPLETED)
  let s4 := if e.running then s3.stoppedIfPending else s3
  s4.resetEnd

/-- R11: the runner works the head until it waits. The fuel bounds a program that never lets it wait (log 15). -/
def State.settle : Nat → Bool → State → State
  | 0, _, s => s
  | n + 1, rep, s =>
    match s.headMove with
    | .wait r => s.setAq { s.aq with runner := r }
    | .start e => State.settle n rep (s.startHead e)
    | .leave e dropped => State.settle n rep (s.depart e dropped rep)

/-- The moves of the runner at one event. A run that ends makes fewer: an entry takes at most two, 12 entries stand in the
queue, and of each of the 256 steps at most 5 join, at most three times: the conditions that let an entry complete at
once change only as the lamp goes OFF and as RESETTING ends, and a step that fires a second time under the same
conditions fires for ever (log 15). -/
def runnerFuel : Nat := 8192

/-- The runner works the head; departures are reported to SSQ. -/
def State.runHead (s : State) : State := State.settle runnerFuel true s

/-- The same inside a rule of SSQ that says itself what becomes of the pending fire (log 14). -/
def State.runHeadQuiet (s : State) : State := State.settle runnerFuel false s

/-! ## Flushes (R18 to R22) -/

/-- R18: what becomes of the work of a running head that a flush covers. -/
def State.endRunning (s : State) (e : Entry) : State :=
  match e.action with
  | .SEEK _ => s.truncate
  | .FADE _ _ _ _ => s.setLmc { s.lmc with ramp := none }
  | .HOLD _ => s.setAq { s.aq with holdDue := none }
  | _ => s

/-- R18, R20: an entry stays in the queue through a flush: one not covered, and a running CHANGE or SEEK unless a jam
ends it. -/
def staysThrough (cover : Entry → Bool) (jam : Bool) (e : Entry) : Bool :=
  !cover e || (e.running && e.action.mech && !jam)

/-- R18: the entries covered are removed, a running head ends according to its kind. -/
def State.flushQueue (s : State) (cover : Entry → Bool) (jam : Bool) : State :=
  let s1 := match s.aq.queue with
    | e :: _ => if e.running && cover e && !(jam && e.action.mech) then s.endRunning e else s
    | [] => s
  s1.setAq { s1.aq with queue := s1.aq.queue.filter (staysThrough cover jam) }

/-- R18: how a running entry that a flush covers leaves the queue; a CHANGE or SEEK stays in it. -/
def Entry.flushManner (e : Entry) : Manner :=
  match e.running, e.action with
  | true, .FADE _ _ _ _ | true, .HOLD _ => .COMPLETED
  | _, _ => .FLUSHED

/-- R17, R18, R20: tags and manners of the entries a flush removes; a CHANGE or SEEK at the head of a queue that a jam
flushes is DROPPED, running (R20) or waiting (R12). -/
def flushReports (jam : Bool) (gone : List Entry) : List (Option Nat × Manner) :=
  match gone with
  | [] => []
  | e :: rest =>
    (e.tag, if jam && e.action.mech then .DROPPED else e.flushManner) :: rest.map (fun x => (x.tag, .FLUSHED))

/-- R17, R18: the entries covered are removed, and then each departure is reported (log 14). -/
def State.flushReported (s : State) (cover : Entry → Bool) (jam rep : Bool) : State :=
  (s.flushQueue cover jam).reportAll rep
    (flushReports jam (s.aq.queue.filter (fun e => !staysThrough cover jam e)))

/-- R18, R191: a flush, and the test of the end of a unit reset that a departure asks for. -/
def State.flush (s : State) (cover : Entry → Bool) (jam rep : Bool) : State :=
  if s.aq.queue.all (staysThrough cover jam) then s.flushQueue cover jam
  else (s.flushReported cover jam rep).resetEnd

/-- A flush of the whole queue covers every entry. -/
def coverAll (_ : Entry) : Bool := true

/-- R21: a flush that SSQ asks for covers the entries with a step tag. -/
def coverTagged (e : Entry) : Bool := e.tag.isSome

/-! ## The sequencer (R149 to R163) -/

/-- R160: a pause. -/
def State.pauseSeq (s : State) : State :=
  if s.ssq.st = .READY ∨ s.ssq.st = .RUNNING then
    let s1 := s.setSsq { s.ssq with
      st := .PAUSED
      pausedFrom := some s.ssq.st
      follow := (match s.ssq.follow with
        | .running due => .frozen (due - s.now)
        | f => f) }
    if s1.cud.par.source = .LOCAL_TAPE then s1.seqPause else s1
  else s

/-- R157: the search along the chain from `cur`, which is at hop `h`, for a step with the trigger CUE `n`. -/
def Ssq.searchFrom (q : Ssq) (n : Nat) : Nat → Nat → Nat → Option (Nat × Nat)
  | 0, _, _ => none
  | fuel + 1, h, cur =>
    match q.linked (q.step cur).next with
    | none => none
    | some j => if (q.step j).trigger = .CUE n then some (j, h + 1) else q.searchFrom n fuel (h + 1) j

/-- R157: the most hops of a search. -/
def maxHops : Nat := 256

/-- R157: the chase search: the step found and its hop. -/
def Ssq.search (q : Ssq) (n start : Nat) (fromHead : Bool) : Option (Nat × Nat) :=
  if fromHead ∧ (q.step start).trigger = .CUE n then some (start, 0) else q.searchFrom n maxHops 0 start

/-- R158: the chase to step `j` found at hop `h`. CHASE precedes the notices of the step's own entries, which start in an
empty queue at the end of the command (log 14), and follows those of an entry that the flush lets reach the head
(log 33). -/
def State.chase (s : State) (j h : Nat) : State :=
  let s1 := (s.flush coverTagged false false).runHeadQuiet
  let s2 := if s1.ssq.pend.isSome then s1.setSsq (Ssq.skip { s1.ssq with pend := none } 1) else s1
  let s3 := s2.setSsq (s2.ssq.skip h)
  (s3.fire j true).event .CHASE (some j)

/-- R157, R158, R159: an accepted cue that does not fire the pointer step. -/
def State.chaseCue (s : State) (n start : Nat) (fromHead : Bool) : State :=
  match s.ssq.search n start fromHead with
  | some (j, h) => s.chase j h
  | none => (s.event .CUE_STRAY (some n)).count .cueStray

/-- R149, R150: SSQ takes an accepted cue that AQ passes. -/
def State.seqCue (s : State) (n : Nat) : State :=
  match s.ssq.st with
  | .UNLOADED => s
  | .ENDED => s.chaseCue n s.ssq.head true
  | .PAUSED => s.setSsq { s.ssq with remembered := some n }
  | .READY | .RUNNING =>
    match s.ssq.ptr with
    | none => if s.ssq.st = .RUNNING then s.chaseCue n s.ssq.head true else s
    | some p => if (s.ssq.step p).trigger = .CUE n then s.fire p false else s.chaseCue n p false

/-- R149, R150: SSQ takes a TIME update that AQ passes. -/
def State.seqTime (s : State) (v : Nat) : State :=
  if s.ssq.st = .READY ∨ s.ssq.st = .RUNNING then
    match s.ssq.ptr with
    | none => s
    | some p =>
      match (s.ssq.step p).trigger with
      | .TIME t => if t ≤ v then s.fire p false else s
      | _ => s
  else s

/-- R4, R149: AQ passes triggers in SHOW alone; while RESETTING, SSQ discards them. -/
def State.passesTriggers (s : State) : Bool := s.aq.mode == .SHOW && !s.lki.resetting

/-- An accepted cue of CUD goes to AQ. -/
def State.handCue (s : State) (n : Nat) : State := if s.passesTriggers then s.seqCue n else s

/-- A TIME update of CUD goes to AQ. -/
def State.handTime (s : State) (v : Nat) : State := if s.passesTriggers then s.seqTime v else s

/-- R152: an ADVANCE is not refused. -/
def State.advanceTaken (s : State) : Bool :=
  (s.ssq.st == .READY || s.ssq.st == .RUNNING || s.ssq.st == .PAUSED) && s.ssq.ptr.isSome

/-- R152: an ADVANCE. -/
def State.advanceSeq (s : State) : State :=
  match s.ssq.ptr with
  | some p => if s.advanceTaken then s.fire p false else s
  | none => s

/-- R162, step 5: the remembered cue is judged. -/
def State.judgeRemembered (s : State) : State :=
  match s.ssq.remembered with
  | none => s
  | some n =>
    let s1 := s.setSsq { s.ssq with remembered := none }
    if s1.aq.mode = .SHOW then s1.seqCue n else s1

/-- R151: the FOLLOW timer starts, if it may, where no rule makes the test for the end of the show as well. -/
def State.followTest (s : State) : State := if s.followStart.isSome then State.checks followFuel s else s

/-- R162: a RESUME in PAUSED. The FOLLOW timer starts where the pending fire leaves nothing outstanding (R151), and the
entries that join an empty queue start, before the remembered cue is judged; a RESUME ends with the tests that every
change of the queue asks for. A FOLLOW timer frozen with nothing left, since a delay of 0 started in PAUSED, is set running
and due at once; it expires at its FOLLOW_EXPIRY, so after the remembered cue is judged (log 14). -/
def State.resumeSeq (s : State) : State :=
  if s.ssq.st = .PAUSED then
    let s1 := s.setSsq { s.ssq with
      st := s.ssq.pausedFrom.getD .READY
      pausedFrom := none
      follow := (match s.ssq.follow with
        | .frozen left => .running (s.now + left)
        | f => f) }
    let s2 := s1.seqResume.offerPending.followTest.runHead
    s2.judgeRemembered.takeReport
  else s

/-- R163: TTC reports that the tape has restarted. The sequencer stands READY at its head before the flush, so no report
of the flush ends a show: a restart queues no notice of SSQ's own. -/
def State.restartSeq (s : State) : State :=
  if s.ssq.st = .UNLOADED then s
  else
    let s1 := s.setSsq { s.ssq with pend := none, remembered := none, follow := .stopped, watched := none,
                                    ptr := some s.ssq.head, st := .READY, pausedFrom := none }
    (s1.flush coverTagged false false).runHeadQuiet

/-- R147: an ARM of a head that is an index. -/
def State.armSeq (s : State) (head : Nat) : State :=
  let s1 := s.setSsq { s.ssq with head := head }
  let s2 := if s1.ssq.st = .RUNNING ∨ s1.ssq.st = .PAUSED then
      (s1.flush coverTagged false false).runHeadQuiet else s1
  let v := (s2.ssq.step head).valid
  s2.setSsq { s2.ssq with pend := none, remembered := none, watched := none, pausedFrom := none, follow := .stopped,
                          ptr := if v then some head else none, st := if v then .READY else .UNLOADED }

/-! ## STOP (R19), STANDBY (R94), WAKE (R95) -/

/-- R19: an accepted STOP; a show that its flush ends is noticed before STOPPED (log 33). -/
def State.stopAll (s : State) : State :=
  let s1 := (((s.flush coverAll false true).truncate.tape .STOP).pauseSeq)
  if s1.aq.queue.any Entry.running then s1.setAq { s1.aq with stopPending := true }
  else (s1.setAq { s1.aq with stopPending := false }).event .STOPPED none

/-- R94: a STANDBY request. -/
def State.standby (s : State) : State :=
  if s.thc.power = .STANDBY then s
  else
    (((s.setThc { s.thc with power := .STANDBY }).lampOff false).tape .STOP).pauseSeq

/-- R95, R46: a WAKE request. -/
def State.wake (s : State) : State :=
  if s.thc.power = .ACTIVE then s
  else
    let s1 := s.setThc { s.thc with power := .ACTIVE }
    if s1.tmc.st = .IDLE then s1.startHoming else s1

/-! ## Entries of the mechanism to IDLE, PARKED and JAMMED -/

/-- R80: the power-on lamp request, at the first entry to IDLE. -/
def State.powerOnLamp (s : State) : State :=
  if s.lmc.poLamp then State.ignite (s.setLmc { s.lmc with poLamp := false }) else s

/-- R30, R37, R38: the mechanism enters IDLE (log 16). -/
def State.enterIdle (s : State) : State :=
  let s1 := s.setTmc { s.tmc with phase := none, timer := none, idleSince := s.now,
                                  pacingOut := decide (s.tmc.par.pacing = 0) }
  (((s1.setMech .IDLE).runHead).resetEnd).powerOnLamp

/-- R25, R23: the tray is removed; TRAY_REMOVED is queued before AQ takes the entry to PARKED (log 33). -/
def State.enterParked (s : State) : State :=
  let t := s.tmc
  let s1 := s.setTmc { t with
    lifter := .released, trayDrive := none, timer := none, phase := none, size := none, pos := none, qualDue := none
    trayPresent := false
    gate := (match t.gate with
      | .LOADED _ => .UNKNOWN
      | g => g)
    slots := t.slots.mapIdx (fun i r => { r with occ := if i = 0 then .EMPTY else .UNKNOWN, jams := 0 })
    truncated := false
    jam := none }
  (((s1.setMech .PARKED).event .TRAY_REMOVED none).runHead).resetEnd

/-- R43: the jam position: that of the phase, and none in homing before home is found. -/
def State.jamPosition (s : State) : Option Nat :=
  if s.tmc.st = .HOMING ∧ s.tmc.phase ≠ some .DROP then none else s.tmc.pos

/-- R29: the jam count of a position rises, and SLOT_SUSPECT is queued where it stands at 3. -/
def State.countJam (s : State) (pos : Option Nat) : State :=
  match pos with
  | none => s
  | some p =>
    let s1 := s.setTmc { s.tmc with slots := s.tmc.slots.modify p (fun r => { r with jams := min (r.jams + 1) 3 }) }
    if (s1.tmc.slots[p]?.map SlotRec.jams) = some 3 then s1.event .SLOT_SUSPECT (some p) else s1

/-- R43: TMC's own effects of a jam. -/
def State.jamMech (s : State) (cause : JamCause) : State :=
  let p := s.jamPosition
  let s1 := s.setTmc { s.tmc with
    lifter := .released, trayDrive := none, timer := none
    jam := some { cause := cause, phase := s.tmc.phase.getD .DARKEN, position := p } }
  let s2 := ((s1.countJam p).event .JAM p).count .mechJams
  State.setMech (s2.setTmc { s2.tmc with gate := .UNKNOWN, pos := none, phase := none }) .JAMMED

/-- R12: a CHANGE or SEEK that waits at the head when the mechanism enters JAMMED goes with ACTION_DROPPED; the flush of
the jam removes it. -/
def State.noteWaiting (s : State) : State :=
  match s.aq.queue with
  | [] => s
  | e :: _ => if !e.running && e.action.mech then s.event .ACTION_DROPPED e.tag else s

/-- R43, R12, R20, R160: the mechanism enters JAMMED (log 33 for the order of the notices). -/
def State.enterJammed (s : State) (cause : JamCause) : State :=
  ((((s.jamMech cause).noteWaiting).flush coverAll true true).stoppedIfPending).pauseSeq

/-! ## What every command ends with -/

/-- The outputs that follow the rest of the state: the power hold line (R96) and the effective target (R112). -/
def State.refresh (s : State) : State :=
  (s.setThc { s.thc with hold := holdLine s }).setTtc { s.ttc with effTarget := effectiveTarget s }

/-- The runner tests the head again, since any change may be one it waits for (R11), and the outputs follow. -/
def State.finish (s : State) : State := s.runHead.refresh

/-- A command that comes `dt` microseconds after the one before and does `f`: nothing happens in a part without
supply (log 13). -/
def State.take (s : State) (dt : Nat) (f : State → State) : State :=
  if s.powered then (f (s.advance dt)).finish else s

/-- A timer that is due at `due`: what it does when it is taken; nothing when it does not run (log 2). -/
def State.whenDue (s : State) (due : Option Nat) (f : State → State) : State :=
  match due with
  | some d => f (s.reach d)
  | none => s

end Sys2Proof.Machine
end

