-- ==== Sys2Proof/Machine/Cooling.lean ====
section
/-!
DEFINITION. The commands of the cooling block (spec/04): temperature samples, the sensor's silence, the fan's kick and
its tach.
-/

namespace Sys2Proof.Machine

/-! ## Temperature samples (R82) -/

/-- R83: the sensor loss timer. -/
def lossTime : Nat := sec 1

/-- R82: the sample is valid. -/
def sampleValid (good : Bool) (reading : Int) : Bool := good && decide (0 ≤ reading) && decide (reading ≤ 400)

/-- Step 1: Tm, the sensor loss timer, SENSOR_LOST; F_temp follows the new Tm (R85, log 18). -/
def State.sampleTemp (s : State) (v : Nat) : State :=
  let t : Thc := { s.thc with tm := some v, lastSample := some s.now, lossTimer := some (s.now + lossTime),
                              fTemp := fanTemp s.thc.par (some v) }
  if s.thc.lost then
    (s.setThc { t with lost := false, lossStart := none, loss30 := false }).condNotice .SENSOR_LOST false none
  else s.setThc t

/-- R88: the thermal state of a temperature. -/
def thermalOf (p : ThcParams) (v : Nat) : Thermal :=
  if v ≤ p.tWarn then .NORMAL else if v < p.tTrip then .WARM else .HOT

/-- Step 2 (R88). -/
def State.sampleState (s : State) (v : Nat) : State :=
  let w := decide (s.thc.par.tWarn < v)
  let s1 := s.setThc { s.thc with tstate := thermalOf s.thc.par v, warm := w }
  if s.thc.warm = w then s1 else s1.condNotice .THERMAL_WARM w none

/-- R91: the trip: the latch, with the forced OFF or the cooldown that goes with it. -/
def State.tripLatch (s : State) : State :=
  let s1 := (s.setThc { s.thc with trip := true }).condNotice .THERMAL_TRIP true none
  if s1.lmc.power = .OFF then s1.cooldownOn true else s1.lampOff true

/-- Step 3 (R91). -/
def State.sampleTrip (s : State) (v : Nat) : State :=
  if s.thc.trip then
    if v ≤ s.thc.par.tResume then (s.setThc { s.thc with trip := false }).condNotice .THERMAL_TRIP false none else s
  else if s.thc.par.tTrip ≤ v then s.tripLatch else s

/-- R89: C_target of a temperature. -/
def ceilTarget (p : ThcParams) (t : Thermal) (v : Nat) : Nat :=
  match t with
  | .NORMAL => 1000
  | .WARM => 1000 - (1000 - p.cMin) * (v - p.tWarn) / (p.tTrip - p.tWarn)
  | .HOT => p.cMin

/-- R90: C_eff moves toward the target. -/
def ceilStep (eff target : Nat) : Nat := if target ≤ eff then target else min target (eff + 50)

/-- Step 4 (R89, R90). -/
def State.sampleCeiling (s : State) (v : Nat) : State :=
  let c := ceilTarget s.thc.par s.thc.tstate v
  s.setThc { s.thc with cTarget := c, cEff := ceilStep s.thc.cEff c }

/-- Step 7 (R92): the power-on cooldown test, on the first valid sample alone. -/
def State.sampleFirst (s : State) (first : Bool) (v : Nat) : State :=
  if first && decide (s.thc.par.tSafe < v) then (s.cooldownOn false).recomputeFan else s

/-- R82: a valid sample. -/
def State.sample (s : State) (v : Nat) : State :=
  (((((((s.sampleTemp v).sampleState v).sampleTrip v).sampleCeiling v).recomputeFan).cooldownTest).sampleFirst
    s.thc.tm.isNone v)

def temperatureSample (good : Bool) (reading : Int) (s : State) : State :=
  if sampleValid good reading then s.sample reading.toNat else s

/-! ## The sensor's silence (R83) -/

/-- R83: the sensor loss timer expires. -/
def State.sensorLost (s : State) : State :=
  let c := min s.thc.cTarget s.thc.par.cMin
  ((s.setThc { s.thc with lossTimer := none, lost := true, lossStart := some s.now, loss30 := false, cTarget := c,
                          cEff := min s.thc.cEff c }).condNotice .SENSOR_LOST true none).recomputeFan

def sensorLossTimerExpiry (s : State) : State := s.whenDue s.thc.lossTimer State.sensorLost

/-- R83: the loss that forces the lamp off. -/
def longLoss : Nat := sec 30

/-- R83: the loss time reaches 30 s. -/
def State.longLost (s : State) : State :=
  let s1 := s.setThc { s.thc with loss30 := true }
  match s1.lmc.power with
  | .IGNITING | .LIT => s1.lampOff false
  | .OFF | .SWAPPING => s1

def lossTime30s (s : State) : State :=
  if s.thc.lost && !s.thc.loss30 then s.whenDue (s.thc.lossStart.map (· + longLoss)) State.longLost else s

/-! ## Cooldown (R93) -/

def tCoolExpiry (s : State) : State :=
  s.whenDue (s.thc.cooldown.map (fun c => c.start + sec s.thc.par.tCool)) State.cooldownTest

/-! ## The fan (R86, R87) -/

/-- R86: the kick ends: the duty becomes the fan command in force. -/
def State.kickEnds (s : State) : State := s.setThc { s.thc.setDuty s.thc.fan with kick := none }

def fanKickExpiry (s : State) : State := s.whenDue s.thc.kick State.kickEnds

def fanTachPulse (s : State) : State := s.setThc { s.thc with tachCount := s.thc.tachCount + 1 }

/-- R87: FAN_FAULT is set, with the forced OFF that goes with it. -/
def State.fanFaultOn (s : State) : State :=
  State.recomputeFan (State.lampOff
    ((s.setThc { s.thc with fanFault := true, stall := 0 }).condNotice .FAN_FAULT true none) false)

/-- R87: FAN_FAULT is cleared. -/
def State.fanFaultOff (s : State) : State :=
  State.recomputeFan ((s.setThc { s.thc with fanFault := false, stall := 0 }).condNotice .FAN_FAULT false none)

/-- R87: the window that ends is judged. -/
def State.judgeTach (s : State) : State :=
  if s.thc.tachQual then
    if s.thc.tachCount < s.thc.par.stallThr then
      if s.thc.fanFault then s
      else if 2 ≤ s.thc.stall + 1 then s.fanFaultOn
      else s.setThc { s.thc with stall := s.thc.stall + 1 }
    else if s.thc.fanFault then s.fanFaultOff
    else s.setThc { s.thc with stall := 0 }
  else if s.thc.fanFault then s
  else s.setThc { s.thc with stall := 0 }

/-- R87: a window ends and the next begins. -/
def State.tachWindow (s : State) : State :=
  let s1 := s.judgeTach
  s1.setThc { s1.thc with lastTach := s.thc.tachCount, tachCount := 0, tachDue := s.thc.tachDue + sec 1,
                          tachQual := decide (tachDuty ≤ s1.thc.duty) }

def tachWindowEnd (s : State) : State := s.whenDue (some s.thc.tachDue) State.tachWindow

/-! ## The commands -/

def execTemperatureSample (dt : Nat) (good : Bool) (reading : Int) (s : State) :
    Host.Outcome State Fault Refusal :=
  .next (s.take dt (temperatureSample good reading))
def execSensorLossTimerExpiry (dt : Nat) (s : State) : Host.Outcome State Fault Refusal :=
  .next (s.take dt sensorLossTimerExpiry)
def execLossTime30s (dt : Nat) (s : State) : Host.Outcome State Fault Refusal := .next (s.take dt lossTime30s)
def execTCoolExpiry (dt : Nat) (s : State) : Host.Outcome State Fault Refusal := .next (s.take dt tCoolExpiry)
def execFanKickExpiry (dt : Nat) (s : State) : Host.Outcome State Fault Refusal := .next (s.take dt fanKickExpiry)
def execFanTachPulse (dt : Nat) (s : State) : Host.Outcome State Fault Refusal := .next (s.take dt fanTachPulse)
def execTachWindowEnd (dt : Nat) (s : State) : Host.Outcome State Fault Refusal := .next (s.take dt tachWindowEnd)

end Sys2Proof.Machine
end

