-- ==== Sys2Proof/Machine/Operands.lean ====
section
/-!
DEFINITION. The layouts of section 9.7 and what the lines carry: link requests, action slots, step records, cue
frames with their check, remote frames; and how the link encodes numbers (R186).
-/

namespace Sys2Proof.Machine

/-! ## Numbers as bytes (R186): the most significant first -/

def byteOf (n : Nat) : Byte := BitVec.ofNat 8 n

/-- One byte. -/
def enc1 (n : Nat) : List Byte := [byteOf n]
/-- Two bytes. -/
def enc2 (n : Nat) : List Byte := [byteOf (n / 256), byteOf n]
/-- Four bytes. -/
def enc4 (n : Nat) : List Byte := [byteOf (n / 16777216), byteOf (n / 65536), byteOf (n / 256), byteOf n]
/-- A flag, a condition, on or off. -/
def encBool (b : Bool) : List Byte := if b then [1] else [0]
/-- A signed number in one byte, two's complement. -/
def encInt1 (i : Int) : List Byte := [BitVec.ofInt 8 i]
/-- A signed value in four bytes, two's complement (R189), the most significant first (log 21). -/
def encInt4 (i : Int) : List Byte := enc4 (BitVec.ofInt 32 i).toNat

/-- Two bytes read as a number. -/
def word2 (hi lo : Byte) : Nat := hi.toNat * 256 + lo.toNat

/-- Four bytes read as a word, the most significant first (R189, R184; log 21). -/
def word4 (a b c d : Byte) : BitVec 32 :=
  BitVec.ofNat 32 (a.toNat * 16777216 + b.toNat * 65536 + c.toNat * 256 + d.toNat)

/-! ## Action slots (section 9.7) -/

/-- The kind code of an action. -/
def Action.code : Action → Byte
  | .FADE _ _ _ _ => 0x01 | .CHANGE_FWD => 0x02 | .CHANGE_REV => 0x03 | .SEEK _ => 0x04 | .HOLD _ => 0x05
  | .LAMP_ON => 0x06 | .LAMP_OFF => 0x07 | .VOLUME _ => 0x08 | .BLANK_ON => 0x09 | .BLANK_OFF => 0x0A
  | .MARK => 0x0B

/-- An action slot as it is read (R192; a HOLD's byte order: log 21); none: the kind is not one of the vocabulary. -/
def decodeSlot (b : SlotBytes) : Option Action :=
  match b.kind.toNat with
  | 0x01 => some (.FADE (word2 b.b1 b.b2) b.b3.toNat (if b.b4.getLsbD 0 then .CROSS else .LINEAR) (b.b4.getLsbD 1))
  | 0x02 => some .CHANGE_FWD
  | 0x03 => some .CHANGE_REV
  | 0x04 => some (.SEEK b.b1.toNat)
  | 0x05 => some (.HOLD (word2 b.b1 b.b2))
  | 0x06 => some .LAMP_ON
  | 0x07 => some .LAMP_OFF
  | 0x08 => some (.VOLUME b.b1.toNat)
  | 0x09 => some .BLANK_ON
  | 0x0A => some .BLANK_OFF
  | 0x0B => some .MARK
  | _ => none

/-- R10: the parameters of an ACTION within their ranges; a SEEK position is judged, not held. -/
def Action.hold : Action → Action
  | .FADE target time curve wait => .FADE (min target 1000) (min time 255) curve wait
  | .VOLUME v => .VOLUME (min v 63)
  | .HOLD ms => .HOLD (min ms 65535)
  | a => a

/-- R145: the parameters of a step's action within their ranges. -/
def Action.holdStep (a : Action) : Action :=
  match a.hold with
  | .SEEK p => .SEEK (min p 120)
  | b => b

/-- R192: an action slot as it is sent; bytes that a kind does not use are 0 (a HOLD's byte order: log 21). -/
def encodeSlot (a : Action) : List Byte :=
  a.code :: (match a with
    | .FADE target time curve wait =>
      enc2 target ++ [byteOf time, byteOf ((if curve = .CROSS then 1 else 0) + (if wait then 2 else 0))]
    | .SEEK p => [byteOf p, 0, 0, 0]
    | .HOLD ms => enc2 ms ++ [0, 0]
    | .VOLUME v => [byteOf v, 0, 0, 0]
    | .CHANGE_FWD | .CHANGE_REV | .LAMP_ON | .LAMP_OFF | .BLANK_ON | .BLANK_OFF | .MARK => [0, 0, 0, 0])

/-- Five bytes as an action slot. -/
def slotOf (l : List Byte) : SlotBytes :=
  { kind := l.getD 0 0, b1 := l.getD 1 0, b2 := l.getD 2 0, b3 := l.getD 3 0, b4 := l.getD 4 0 }

/-! ## Step records (section 9.7, R145, R192) -/

/-- R143: the largest cue number, tape time and subject. -/
def max14 : Nat := 16383

/-- The trigger of a record: kind code and value; none is BAD_VALUE (R145). -/
def decodeTrigger (kind value : Nat) : Option Trigger :=
  match kind with
  | 0 => if value = 0 ∨ max14 < value then none else some (.CUE value)
  | 1 => if max14 < value then none else some (.TIME value)
  | 2 => some (.FOLLOW value)
  | 3 => some .MANUAL
  | _ => none

/-- The gate slot of a record: absent for 0xFF; none is BAD_VALUE (R145). -/
def decodeGateSlot (b : Byte) : Option (Option Nat) :=
  if b = 0xFF then some none else if b.toNat ≤ 120 then some (some b.toNat) else none

/-- The actions of a record: `n` slots from byte 6 on, their parameters held; none is BAD_VALUE (R145). -/
def decodeActions : Nat → List Byte → Option (List Action)
  | 0, _ => some []
  | n + 1, l =>
    match decodeSlot (slotOf (l.take 5)), decodeActions n (l.drop 5) with
    | some a, some as => some (a.holdStep :: as)
    | _, _ => none

/-- A step record as it is taken from its 26 bytes; none is BAD_VALUE (R145). -/
def decodeStep (l : List Byte) : Option StepRec :=
  let b0 := l.getD 0 0
  if 4 < (l.getD 5 0).toNat then none
  else
    match decodeTrigger (b0.toNat % 16) (word2 (l.getD 1 0) (l.getD 2 0)), decodeGateSlot (l.getD 3 0),
      decodeActions (l.getD 5 0).toNat (l.drop 6) with
    | some t, some g, some as =>
      some { valid := b0.getLsbD 7, trigger := t, gateSlot := g, actions := as,
             next := if b0.getLsbD 6 then none else some (l.getD 4 0).toNat }
    | _, _, _ => none

/-- The code and the value of a trigger; the value of MANUAL is sent as 0 (R192). -/
def Trigger.fields : Trigger → Nat × Nat
  | .CUE n => (0, n)
  | .TIME t => (1, t)
  | .FOLLOW d => (2, d)
  | .MANUAL => (3, 0)

/-- R192: a step record as it is sent, 26 bytes. -/
def encodeStep (r : StepRec) : List Byte :=
  [byteOf ((if r.valid then 128 else 0) + (if r.next.isNone then 64 else 0) + r.trigger.fields.1)] ++
    enc2 r.trigger.fields.2 ++
    [byteOf (r.gateSlot.getD 255), byteOf (r.next.getD 0), byteOf r.actions.length] ++
    (r.actions.flatMap encodeSlot) ++ List.replicate (5 * (4 - r.actions.length)) 0

/-! ## Cue frames (section 6.3, section 9.7) -/

/-- The value of bits, the first the most significant. -/
def bitsVal (l : List Bool) : Nat := l.foldl (fun a b => 2 * a + b.toNat) 0

/-- The `w` bits of a number, the most significant first. -/
def bitsOf (w n : Nat) : List Bool := ((List.range w).map (fun i => n.testBit i)).reverse

/-- One bit of the division by x^4 + x + 1. -/
def crcStep (r : Nat) (b : Bool) : Nat :=
  let v := 2 * r + b.toNat
  if 16 ≤ v then (v - 16) ^^^ 3 else v

/-- R124: the computed check of the 20 bits of count, kind and payload. -/
def crc4 (l : List Bool) : Nat := (l ++ [false, false, false, false]).foldl crcStep 0

/-- The sync pattern (section 6.3). -/
def syncBits : List Bool := [true, false, true, true, false, false, true, false]

/-- The kinds by their codes (section 9.7). -/
def frameKindOf (n : Nat) : FrameKind :=
  match n with
  | 0 => .IDLE
  | 1 => .CUE
  | 2 => .TIME
  | _ => .STOP

def FrameKind.code : FrameKind → Nat
  | .IDLE => 0
  | .CUE => 1
  | .TIME => 2
  | .STOP => 3

/-- R124: the classes of 32 bit positions. -/
inductive Window where
  | damaged
  | wrongSync
  | checkError
  | valid (count : Nat) (kind : FrameKind) (payload : Nat)
  deriving DecidableEq, Repr

/-- R124: the class of 32 positions without a void bit. -/
def judgeBits (l : List Bool) : Window :=
  if l.take 8 ≠ syncBits then .wrongSync
  else
    let body := (l.drop 8).take 20
    let kind := frameKindOf (bitsVal ((body.drop 4).take 2))
    let payload := bitsVal (body.drop 6)
    if bitsVal ((l.drop 28).take 4) ≠ crc4 body ∨ (kind = .CUE ∧ payload = 0) then .checkError
    else .valid (bitsVal (body.take 4)) kind payload

/-- R124: the class of a window of 32 bit positions; none is a void bit. -/
def judgeWindow (l : List (Option Bool)) : Window :=
  if l.any Option.isNone then .damaged else judgeBits (l.map (fun b => b.getD false))

/-- Section 9.7: a cue frame as its 32 bits in the order sent. -/
def frameBits (count : Nat) (kind : FrameKind) (payload : Nat) : List Bool :=
  let body := bitsOf 4 count ++ bitsOf 2 kind.code ++ bitsOf 14 payload
  syncBits ++ body ++ bitsOf 4 (crc4 body)

/-- Section 9.7: a cue frame as a word, the first bit sent being bit 31. -/
def frameWord (count : Nat) (kind : FrameKind) (payload : Nat) : BitVec 32 :=
  BitVec.ofNat 32 (bitsVal (frameBits count kind payload))

/-! ## Remote frames (section 9.7) -/

/-- The thirteen remote keys in the order of their codes 1..13. -/
def remoteKeys : List Key :=
  [.FWD, .REV, .DIM_UP, .DIM_DOWN, .LAMP, .BLANK, .PAUSE, .ADVANCE, .STOP, .VOL_UP, .VOL_DOWN, .TAPE_PLAY,
    .TAPE_STOP]

/-- The key of a code; none for 0 and 14..63. -/
def remoteKey (code : Nat) : Option Key := if code = 0 then none else remoteKeys[code - 1]?

/-- The fields of a remote frame: channel, key, press sequence. -/
def remoteFields (bits : BitVec 12) : Nat × Nat × Nat :=
  (bits.toNat / 256, bits.toNat / 4 % 64, bits.toNat % 4)

/-- Section 10.2: the subject of REMOTE_REFUSED: the key codes of section 9.7, and 14 for the panel's MODE; POWER is
never refused (R176), and its place is that of `Key` (log 32). -/
def keySubject : Key → Nat
  | .FWD => 1 | .REV => 2 | .DIM_UP => 3 | .DIM_DOWN => 4 | .LAMP => 5 | .BLANK => 6 | .PAUSE => 7 | .ADVANCE => 8
  | .STOP => 9 | .VOL_UP => 10 | .VOL_DOWN => 11 | .TAPE_PLAY => 12 | .TAPE_STOP => 13 | .MODE => 14 | .POWER => 15

/-! ## Link requests (R185, R188, R189) -/

/-- A request of the catalogue with its payload. -/
inductive Req where
  | query (group page : Byte)
  | set (param index : Byte) (value : BitVec 32)
  | action (slot : SlotBytes)
  | control (sub arg : Byte)
  | stepWrite (index mode : Byte) (record : List Byte)
  | stepRead (index : Byte)
  | arm (head : Byte)
  | slotFlags (first last flag : Byte)
  | slotRead (first count : Byte)
  | countersRead (group : Byte)
  | noticePoll
  | noticeEnable (kind flag : Byte)
  | lampReset (pos : Byte)
  | unitReset
  | assign (serial : BitVec 32) (addr : Byte)
  deriving DecidableEq, Repr

/-- R185: the kind code of a request. -/
def Req.code : Req → Byte
  | .query _ _ => 0x01 | .set _ _ _ => 0x02 | .action _ => 0x03 | .control _ _ => 0x04 | .stepWrite _ _ _ => 0x05
  | .stepRead _ => 0x06 | .arm _ => 0x07 | .slotFlags _ _ _ => 0x08 | .slotRead _ _ => 0x09
  | .countersRead _ => 0x0A | .noticePoll => 0x0B | .noticeEnable _ _ => 0x0C | .lampReset _ => 0x0D
  | .unitReset => 0x0E | .assign _ _ => 0x0F

/-- R182, R185: the request that a kind code and a payload spell; none is BAD_REQUEST: a kind that is not in the
catalogue, or a length that is not the kind's. Byte orders that they leave open: log 21. -/
def decodeReq (kind : Byte) (payload : List Byte) : Option Req :=
  match kind.toNat, payload with
  | 0x01, [group, page] => some (.query group page)
  | 0x02, [param, index, a, b, c, d] => some (.set param index (word4 a b c d))
  | 0x03, [k, b1, b2, b3, b4] => some (.action { kind := k, b1 := b1, b2 := b2, b3 := b3, b4 := b4 })
  | 0x04, [sub, arg] => some (.control sub arg)
  | 0x05, index :: mode :: record => if record.length = 26 then some (.stepWrite index mode record) else none
  | 0x06, [index] => some (.stepRead index)
  | 0x07, [head] => some (.arm head)
  | 0x08, [first, last, flag] => some (.slotFlags first last flag)
  | 0x09, [first, count] => some (.slotRead first count)
  | 0x0A, [group] => some (.countersRead group)
  | 0x0B, [] => some .noticePoll
  | 0x0C, [k, flag] => some (.noticeEnable k flag)
  | 0x0D, [pos] => some (.lampReset pos)
  | 0x0E, [] => some .unitReset
  | 0x0F, [a, b, c, d, addr] => some (.assign (word4 a b c d) addr)
  | _, _ => none

/-- R185: the payload of a request. -/
def Req.payload : Req → List Byte
  | .query group page => [group, page]
  | .set param index value => [param, index] ++ enc4 value.toNat
  | .action b => [b.kind, b.b1, b.b2, b.b3, b.b4]
  | .control sub arg => [sub, arg]
  | .stepWrite index mode record => index :: mode :: record
  | .stepRead index => [index]
  | .arm head => [head]
  | .slotFlags first last flag => [first, last, flag]
  | .slotRead first count => [first, count]
  | .countersRead group => [group]
  | .noticePoll => []
  | .noticeEnable k flag => [k, flag]
  | .lampReset pos => [pos]
  | .unitReset => []
  | .assign serial addr => enc4 serial.toNat ++ [addr]

/-- The sub-operations of CONTROL (R188). -/
inductive Sub where
  | STOP | PAUSE | RESUME | ADVANCE | MODE | CLEAR_JAM | CLEAR_MATCH | BLANK | LAMP | STANDBY | WAKE | TAPE
  | SNAPSHOT | SAVE
  deriving DecidableEq, Repr

/-- R188: the code of a sub-operation. -/
def Sub.code : Sub → Byte
  | .STOP => 1 | .PAUSE => 2 | .RESUME => 3 | .ADVANCE => 4 | .MODE => 5 | .CLEAR_JAM => 6 | .CLEAR_MATCH => 7
  | .BLANK => 8 | .LAMP => 9 | .STANDBY => 10 | .WAKE => 11 | .TAPE => 12 | .SNAPSHOT => 13 | .SAVE => 14

/-- R188: the sub-operation of a code. -/
def Sub.ofCode (b : Byte) : Option Sub :=
  match b.toNat with
  | 1 => some .STOP
  | 2 => some .PAUSE
  | 3 => some .RESUME
  | 4 => some .ADVANCE
  | 5 => some .MODE
  | 6 => some .CLEAR_JAM
  | 7 => some .CLEAR_MATCH
  | 8 => some .BLANK
  | 9 => some .LAMP
  | 10 => some .STANDBY
  | 11 => some .WAKE
  | 12 => some .TAPE
  | 13 => some .SNAPSHOT
  | 14 => some .SAVE
  | _ => none

/-- R182: the status codes. -/
inductive Status where
  | DONE | ACCEPTED | BUSY | QUEUE_FULL | REFUSED_MODE | REFUSED_STATE | BAD_VALUE | BAD_REQUEST | LOCKED | RESETTING
  deriving DecidableEq, Repr

def Status.code : Status → Byte
  | .DONE => 0x00 | .ACCEPTED => 0x01 | .BUSY => 0x02 | .QUEUE_FULL => 0x03 | .REFUSED_MODE => 0x04
  | .REFUSED_STATE => 0x05 | .BAD_VALUE => 0x06 | .BAD_REQUEST => 0x07 | .LOCKED => 0x08 | .RESETTING => 0x09

end Sys2Proof.Machine
end

