-- ==== Sys2Proof/Machine/Tape.lean ====
section
/-!
DEFINITION. The commands of the tape transport and the programme sound (spec/05).
-/

namespace Sys2Proof.Machine

/-! ## The cassette (R100) -/

/-- R100: how long the cassette-present line must be stable. -/
def cassetteTime : Nat := msec 20

/-- R100: the cassette is found, or found absent. -/
def State.takeCassette (s : State) : State :=
  if s.ttc.cassette then
    if s.ttc.st = .EMPTY then
      let s1 := s.setTransport .STOPPED
      s1.setTtc { s1.ttc with atEnd := false }
    else s
  else
    let s1 := s.setTransport .EMPTY
    s1.setTtc { s1.ttc with atEnd := false, seqHold := false, locked := false, inLock := 0 }

/-- R100: the 20 ms are over. -/
def State.cassetteSettles (s : State) : State :=
  State.takeCassette (s.setTtc { s.ttc with cassetteDue := none })

/-- R100: the cassette-present line reads `present`. A change of its level starts the 20 ms again; the command that finds
it at the same level is its settling, taken when they are over (log 34). -/
def cassettePresentChange (present : Bool) (s : State) : State :=
  if s.ttc.cassette = present then s.whenDue s.ttc.cassetteDue State.cassetteSettles
  else s.setTtc { s.ttc with cassette := present, cassetteDue := some (s.now + cassetteTime) }

/-! ## The capstan (R104 to R107) -/

/-- R104: the target FG period. -/
def fgTarget (p : TtcParams) : Nat := (1666667 / (1000 + p.trimT)).toNat

/-- R105: the servo drive value after a measured period. -/
def servoStep (servo period target : Nat) : Nat :=
  let d : Int := (period : Int) - (target : Int)
  if (target : Int) < 50 * d then min (servo + 4) 1023
  else if (target : Int) < 400 * d then min (servo + 1) 1023
  else if 50 * d < -(target : Int) then servo - 4
  else if 400 * d < -(target : Int) then servo - 1
  else servo

/-- R106: a period within 1 %. -/
def inOnePercent (period target : Nat) : Bool :=
  decide (100 * ((period : Int) - (target : Int)).natAbs ≤ target)

/-- R106, R114: the lock after a measured period, and the unlock timer with it. -/
def Ttc.judgeLock (t : Ttc) (good : Bool) (now : Nat) : Ttc :=
  if good then
    let n := min (t.inLock + 1) 8
    if n = 8 ∧ t.locked = false then
      { t with inLock := n, locked := true, unlockStart := none, unlockPassed := false }
    else { t with inLock := n }
  else if t.locked then { t with inLock := 0, locked := false, unlockStart := some now, unlockPassed := false }
  else { t with inLock := 0 }

/-- R105, R106: an FG pulse in PLAY at `now`. -/
def Ttc.fg (t : Ttc) (now : Nat) : Ttc :=
  let t1 : Ttc := match t.lastFg with
    | none => t
    | some before =>
      let period := now - before
      let target := fgTarget t.par
      ({ t with fgPeriod := some period, servo := servoStep t.servo period target }).judgeLock
        (inOnePercent period target) now
  { t1 with lastFg := some now, fgTimer := some (now + fgTime) }

def fgPulse (s : State) : State := if s.ttc.st = .PLAY then s.setTtc (s.ttc.fg s.now) else s

/-- R107: the capstan has stalled. -/
def State.transportFault (s : State) : State := (s.event .TRANSPORT_FAULT none).setTransport .STOPPED

def fgTimerExpiry (s : State) : State := s.whenDue s.ttc.fgTimer State.transportFault

/-! ## The ends of the tape (R108, R109, R110) -/

/-- R108: the end of the tape. -/
def State.tapeEnd (s : State) : State :=
  let s1 := s.setTransport .STOPPED
  let s2 := (s1.setTtc { s1.ttc with atEnd := true }).event .TAPE_END none
  if s2.ttc.par.autoRewind then s2.setTransport .REWIND else s2

/-- R108: the take-up reel is watched. -/
def Transport.takesUp : Transport → Bool
  | .PLAY | .FFWD => true
  | .EMPTY | .STOPPED | .PAUSE | .REWIND => false

def takeUpReelTimerExpiry (s : State) : State :=
  if s.ttc.st.takesUp then s.whenDue s.ttc.reelTimer State.tapeEnd else s

/-- R109: the tape is rewound to its start. -/
def State.tapeRewound (s : State) : State :=
  let s1 := s.event .TAPE_REWOUND none
  if s1.ttc.par.loop then (s1.setTransport .PLAY).restartSeq else s1.setTransport .STOPPED

def supplyReelTimerExpiry (s : State) : State :=
  if s.ttc.st = .REWIND then s.whenDue s.ttc.reelTimer State.tapeRewound else s

/-- R108, R109: the reel that a transport state watches. -/
def watchedReel (t : Transport) : Option Reel :=
  match t with
  | .PLAY | .FFWD => some .takeUp
  | .REWIND => some .supply
  | .EMPTY | .STOPPED | .PAUSE => none

def reelPulse (reel : Reel) (s : State) : State :=
  if watchedReel s.ttc.st = some reel then s.setTtc { s.ttc with reelTimer := some (s.now + reelTime) } else s

/-- R110: a STOP frame of the cue track. -/
def State.stopFrame (s : State) : State :=
  if s.ttc.st = .PLAY ∧ s.ttc.par.stopRewind = true ∧ s.cud.par.source = .LOCAL_TAPE then s.tapeEnd else s

/-! ## Sound (R112 to R114) -/

/-- R114: the time the capstan may be out of lock. -/
def unlockTime : Nat := msec 300

/-- R114: the unlock timer passes 300 ms. -/
def State.unlockPasses (s : State) : State := s.setTtc { s.ttc with unlockPassed := true }

def unlockTimer300ms (s : State) : State :=
  if s.ttc.unlockPassed then s else s.whenDue (s.ttc.unlockStart.map (· + unlockTime)) State.unlockPasses

/-- R112: one volume step. -/
def stepToward (v target : Nat) : Nat := if v < target then v + 1 else if target < v then v - 1 else v

def volumeStep (s : State) : State :=
  s.setTtc { s.ttc with curVol := stepToward s.ttc.curVol (effectiveTarget s) }

/-- R113: the gain factors G_v for v in 0..63: round(65536 · 10^((v − 63) / 20)), and 0 for 0. -/
def gainTable : List Nat :=
    [0, 52, 58, 66, 74, 83, 93, 104, 117, 131, 147, 165, 185, 207, 233, 261] ++
    [293, 328, 369, 414, 464, 521, 584, 655, 735, 825, 926, 1039, 1165, 1308, 1467, 1646] ++
    [1847, 2072, 2325, 2609, 2927, 3285, 3685, 4135, 4640, 5206, 5841, 6554, 7353, 8250, 9257, 10387] ++
    [11654, 13076, 14672, 16462, 18471, 20724, 23253, 26090, 29274, 32846, 36854, 41350, 46396, 52057, 58409, 65536]

/-- R113: one sample at a gain factor. -/
def scaleSample (x : Sample) (g : Nat) : Sample := BitVec.ofInt 24 (Int.tdiv (x.toInt * (g : Int)) 65536)

def i2sFrame (left right : Sample) (s : State) : State :=
  let g := gainTable.getD s.ttc.curVol 0
  s.setTtc { s.ttc with i2sOut := (scaleSample left g, scaleSample right g) }

/-! ## The commands -/

def execCassettePresentChange (dt : Nat) (present : Bool) (s : State) : Host.Outcome State Fault Refusal :=
  .next (s.take dt (cassettePresentChange present))
def execFgPulse (dt : Nat) (s : State) : Host.Outcome State Fault Refusal := .next (s.take dt fgPulse)
def execFgTimerExpiry (dt : Nat) (s : State) : Host.Outcome State Fault Refusal := .next (s.take dt fgTimerExpiry)
def execReelPulse (dt : Nat) (reel : Reel) (s : State) : Host.Outcome State Fault Refusal :=
  .next (s.take dt (reelPulse reel))
def execTakeUpReelTimerExpiry (dt : Nat) (s : State) : Host.Outcome State Fault Refusal :=
  .next (s.take dt takeUpReelTimerExpiry)
def execSupplyReelTimerExpiry (dt : Nat) (s : State) : Host.Outcome State Fault Refusal :=
  .next (s.take dt supplyReelTimerExpiry)
def execUnlockTimer300ms (dt : Nat) (s : State) : Host.Outcome State Fault Refusal :=
  .next (s.take dt unlockTimer300ms)
def execVolumeStep (dt : Nat) (s : State) : Host.Outcome State Fault Refusal := .next (s.take dt volumeStep)
def execI2sFrame (dt : Nat) (left right : Sample) (s : State) : Host.Outcome State Fault Refusal :=
  .next (s.take dt (i2sFrame left right))

end Sys2Proof.Machine
end

