-- ==== Sys2Proof/Machine/Cue.lean ====
section
/-!
DEFINITION. The commands of the cue decoder and regenerator (spec/06): edges, bits, frames, cue-out.
-/

namespace Sys2Proof.Machine

/-! ## Speed (R122, R123) -/

/-- R122: the cell estimate and the tape speed at rest. -/
def restCell : Nat := 3125
def restSpeed : Nat := 1000

/-- R123: the speed is off by more than 30 per-mille. -/
def speedFar (speed : Nat) : Bool := decide (30 < ((speed : Int) - 1000).natAbs)

/-- R123: the speed-off timer, 2 s. -/
def speedOffTime : Nat := sec 2

/-- R123: TAPE_SPEED_OFF is cleared, if it is set. -/
def State.clearSpeedOff (s : State) : State :=
  if s.cud.speedOff then (s.setCud { s.cud with speedOff := false }).condNotice .TAPE_SPEED_OFF false none else s

/-- R123: the four things that hold together while the speed-off timer runs. -/
def Cud.speedTimed (c : Cud) : Bool :=
  c.par.source == .LOCAL_TAPE && c.carrier && speedFar c.speed && !c.speedOff

/-- R123: the speed-off timer starts when the last of the four comes to hold, and is cancelled when any ceases. -/
def State.evalSpeedTimer (s : State) : State :=
  s.setCud { s.cud with speedOffTimer :=
    if s.cud.speedTimed then some (s.cud.speedOffTimer.getD (s.now + speedOffTime)) else none }

/-- R123: what a speed that has been set means for TAPE_SPEED_OFF and its timer. -/
def State.evalSpeed (s : State) : State :=
  State.evalSpeedTimer (if speedFar s.cud.speed then s else s.clearSpeedOff)

/-- R122: E after a cell. -/
def cellStep (e len : Nat) : Nat :=
  let v : Int := (e : Int) + Int.tdiv ((len : Int) - (e : Int)) 16
  (min 3906 (max 2344 v)).toNat

/-- R122: a cell of length `len` moves E and the speed. -/
def State.moveCell (s : State) (len : Nat) : State :=
  let e := cellStep s.cud.cellE len
  State.evalSpeed (s.setCud { s.cud with cellE := e, speed := 3125000 / e })

/-! ## Cue-out (R136 to R138) -/

/-- R137: the length of a frame slot. -/
def slotTime : Nat := msec 100

/-- R137: a frame slot that begins at time `t`. -/
def Cud.slot (c : Cud) (t : Nat) : Cud :=
  let f : BufFrame := c.buf.headD { kind := .IDLE, payload := 0 }
  { c with buf := c.buf.tail, cueOut := some (frameWord c.regenCount f.kind f.payload),
           regenCount := (c.regenCount + 1) % 16, slotDue := some (t + slotTime) }

/-- R138: cue-out starts when relay is enabled and the framing state is SYNC; the first slot begins at once. -/
def State.startCueOut (s : State) : State :=
  if s.cud.par.relay ∧ s.cud.framing = .SYNC ∧ s.cud.sending = false then
    s.setCud (({ s.cud with sending := true }).slot s.now)
  else s

/-- R138: cue-out stops and the buffer is emptied. -/
def Cud.silence (c : Cud) : Cud := { c with sending := false, cueOut := none, slotDue := none, buf := [] }

/-- R136: the places of the regenerator buffer. -/
def bufPlaces : Nat := 4

/-- R136: a valid frame is offered to the regenerator buffer. -/
def State.offerFrame (s : State) (kind : FrameKind) (payload : Nat) : State :=
  if s.cud.par.relay ∧ s.cud.framing = .SYNC then
    if s.cud.buf.length < bufPlaces then
      s.setCud { s.cud with buf := s.cud.buf ++ [{ kind := kind, payload := payload }] }
    else s.count .cueOverruns
  else s

/-! ## Leaving SYNC (R128) -/

/-- R128: every departure from SYNC. -/
def State.leaveSync (s : State) : State :=
  let s1 := ((s.setCud { s.cud with framing := .HUNT, cueSync := false }).condNotice .CUE_SYNC false none).event
    .SYNC_LOSS none
  let s2 := s1.count .cueSyncLosses
  s2.setCud (({ s2.cud with errs := 0, expected := none, window := none, cand := none, lock := false }).silence)

/-- R118: NO_CARRIER is declared. -/
def State.loseCarrier (s : State) : State :=
  let s1 := if s.cud.framing = .SYNC then s.leaveSync else s
  State.evalSpeed (s1.setCud { s1.cud with
    carrier := false, carrierTimer := none, framing := .HUNT, pendHalf := none, bits := [], bitIndex := 0,
    prevAlign := none, cellE := restCell, speed := restSpeed })

/-! ## Valid frames in SYNC (R129 to R135) -/

/-- R129: the frame count is checked. -/
def State.checkCount (s : State) (count : Nat) : State :=
  let s1 := match s.cud.expected with
    | some e => if e = count then s else (s.event .DROPOUT none).count .cueDropouts
    | none => s
  s1.setCud { s1.cud with expected := some ((count + 1) % 16) }

/-- R130: the frames of a degrade window. -/
def windowFrames : Nat := 16

/-- R130: a degrade window of `errors` check errors is judged. -/
def State.judgeDegrade (s : State) (errors : Nat) : State :=
  let bad := decide (s.cud.par.degThr ≤ errors)
  let s1 := s.setCud { s.cud with window := none, degraded := bad }
  if s.cud.degraded = bad then s1 else s1.condNotice .CUE_DEGRADED bad none

/-- R130: a frame in SYNC advances an open window; `err`: it is a check error. -/
def State.advanceWindow (s : State) (err : Bool) : State :=
  match s.cud.window with
  | none => s
  | some w =>
    let errors := if err then w.errors + 1 else w.errors
    if windowFrames ≤ w.frames + 1 then s.judgeDegrade errors
    else s.setCud { s.cud with window := some { frames := w.frames + 1, errors := errors } }

/-- R130: a valid frame opens a window, when none is open and its count is 0, or advances the open one. -/
def State.windowValid (s : State) (count : Nat) : State :=
  if s.cud.window = none ∧ count = 0 then s.setCud { s.cud with window := some { frames := 1, errors := 0 } }
  else s.advanceWindow false

/-- R132: the candidate after a CUE frame. -/
def moveCandidate (c : Option Candidate) (n : Nat) : Candidate :=
  match c with
  | some k => if k.number = n then { number := n, run := min (k.run + 1) 2 } else { number := n, run := 1 }
  | none => { number := n, run := 1 }

/-- R133: the confirm count in force. -/
def Cud.confirmNow (c : Cud) : Nat := if c.degraded then 2 else c.par.confirm

/-- R132, R133: a valid CUE frame. -/
def State.cueFrameOf (s : State) (n : Nat) : State :=
  let k := moveCandidate s.cud.cand n
  let s1 := s.setCud { s.cud with cand := some k }
  if s1.cud.confirmNow ≤ k.run ∧ (s1.cud.lock = false ∨ s1.cud.lastCue ≠ some n) then
    State.handCue ((s1.setCud { s1.cud with lastCue := some n, lock := true }).count .cueAccepted) n
  else s1

/-- R131: candidate and lock after a valid frame of another kind. -/
def State.dropCandidate (s : State) : State := s.setCud { s.cud with cand := none, lock := false }

/-- R131, step 5: what a valid frame's kind does. -/
def State.frameKind (s : State) (kind : FrameKind) (payload : Nat) : State :=
  match kind with
  | .CUE => s.cueFrameOf payload
  | .TIME => State.handTime (s.dropCandidate.setCud { s.dropCandidate.cud with tapeTime := some payload }) payload
  | .STOP => s.dropCandidate.stopFrame
  | .IDLE => s.dropCandidate

/-- R131: a valid frame in SYNC. -/
def State.validFrame (s : State) (count : Nat) (kind : FrameKind) (payload : Nat) : State :=
  let s1 := (s.count .cueValid).checkCount count
  let s2 := State.windowValid (s1.setCud { s1.cud with errs := 0 }) count
  (s2.frameKind kind payload).offerFrame kind payload

/-- R127: the consecutive errors at which SYNC is lost. -/
def maxErrs : Nat := 3

/-- R127, R129, R130: an errored frame in SYNC; `check`: it is a check error, else a sync error (log 19). -/
def State.badFrame (s : State) (check : Bool) : State :=
  let s1 := if check then s.count .cueCheck else s
  let n := if check && s1.cud.par.loss == .SYNC_ONLY then 0 else s1.cud.errs + 1
  let s2 := s1.setCud { s1.cud with errs := n, expected := s1.cud.expected.map (fun e => (e + 1) % 16) }
  if maxErrs ≤ n then s2.leaveSync else s2.advanceWindow check

/-! ## Framing (R125 to R127) -/

/-- R126: SYNC is entered with the confirming frame. -/
def State.enterSync (s : State) (count : Nat) (kind : FrameKind) (payload : Nat) : State :=
  let s1 := s.setCud { s.cud with framing := .SYNC, align := s.cud.candAlign }
  let s2 := if s1.cud.prevAlign.isSome && s1.cud.prevAlign != s1.cud.align then
      (s1.event .ALIGN_SHIFT none).count .cueShifts else s1
  let s3 := (s2.setCud { s2.cud with prevAlign := s2.cud.align, errs := 0, expected := none,
                                     cueSync := true }).condNotice .CUE_SYNC true none
  (s3.validFrame count kind payload).startCueOut

/-- The bit just formed ends the frame at the candidate alignment, or at the frame alignment (R126). -/
def Cud.atCandidate (c : Cud) : Bool := c.candAlign == some (c.bitIndex % 32)
def Cud.atAlign (c : Cud) : Bool := c.align == some (c.bitIndex % 32)

/-- R125 to R127: what the framing does with the bit just formed. -/
def State.frameBit (s : State) : State :=
  match s.cud.framing with
  | .HUNT =>
    if s.cud.bits.length < 32 then s
    else
      match judgeWindow s.cud.bits with
      | .valid _ _ _ => s.setCud { s.cud with framing := .CONFIRM, candAlign := some (s.cud.bitIndex % 32) }
      | .damaged | .wrongSync | .checkError => s
  | .CONFIRM =>
    if s.cud.atCandidate then
      match judgeWindow s.cud.bits with
      | .valid count kind payload => s.enterSync count kind payload
      | .damaged | .wrongSync | .checkError => s.setCud { s.cud with framing := .HUNT }
    else s
  | .SYNC =>
    if s.cud.atAlign then
      match judgeWindow s.cud.bits with
      | .valid count kind payload => s.validFrame count kind payload
      | .checkError => s.badFrame true
      | .damaged | .wrongSync => s.badFrame false
    else s

/-! ## Bits (R120, R121) -/

/-- R121: a bit position joins the last 32. -/
def Cud.push (c : Cud) (b : Option Bool) : Cud :=
  { c with bits := (if c.bits.length < 32 then c.bits else c.bits.tail) ++ [b], bitIndex := c.bitIndex + 1 }

/-- R121, R122: a bit of cell length `len`: E and the speed move before the frame that it ends is judged (log 36). -/
def State.formBit (s : State) (b : Bool) (len : Nat) : State :=
  State.frameBit ((s.setCud (s.cud.push (some b))).moveCell len)

/-- R121: a void bit. -/
def State.formVoid (s : State) : State :=
  State.frameBit ((s.setCud (s.cud.push none)).count .cueViolations)

/-- R120: an interval is a half, a full, or neither. -/
def isHalf (i e : Nat) : Bool := decide (4 * (2 * (i : Int) - (e : Int)).natAbs ≤ e)
def isFull (i e : Nat) : Bool := decide (4 * ((i : Int) - (e : Int)).natAbs ≤ e)

/-- R121: an interval goes to the bit decoder. -/
def State.interval (s : State) (i : Nat) : State :=
  let s1 := s.setCud { s.cud with pendHalf := none }
  if isHalf i s.cud.cellE then
    match s.cud.pendHalf with
    | none => s.setCud { s.cud with pendHalf := some i }
    | some h => s1.formBit true (h + i)
  else if isFull i s.cud.cellE then
    match s.cud.pendHalf with
    | none => s1.formBit false i
    | some _ => s1.formVoid
  else s1.formVoid

/-- R118: the times of the carrier. -/
def carrierGap : Nat := msec 50
def carrierTime : Nat := msec 250

/-- R118, R120: an edge of the selected input. -/
def State.edge (s : State) : State :=
  if s.cud.par.source = .NONE then s
  else
    let since := s.cud.lastEdge.map (fun t => s.now - t)
    let s1 := s.setCud { s.cud with lastEdge := some s.now }
    if s.cud.carrier then
      State.interval (s1.setCud { s1.cud with carrierTimer := some (s.now + carrierTime) }) (since.getD 0)
    else
      match since with
      | some d =>
        if d ≤ carrierGap then
          State.evalSpeedTimer (s1.setCud { s1.cud with carrier := true, carrierTimer := some (s.now + carrierTime) })
        else s1
      | none => s1

def cueInputEdge (s : State) : State := s.edge

/-- Two edges in NO_CARRIER, `gap` microseconds apart (log 6). -/
def carrierDetect (gap : Nat) (s : State) : State := if s.cud.carrier then s else (s.edge.advance gap).edge

def carrierTimerExpiry (s : State) : State := s.whenDue s.cud.carrierTimer State.loseCarrier

/-- One bit position of a CUE_FRAME (log 6). -/
def State.takeCell (s : State) (c : CueCell) : State :=
  match c with
  | .bit b len => s.formBit b len
  | .void => s.formVoid

/-- The bit positions of a stretch of track, in CARRIER; its last edge comes now (log 6). -/
def cueFrame (cells : List CueCell) (s : State) : State :=
  if s.cud.carrier then
    cells.foldl State.takeCell (s.setCud { s.cud with lastEdge := some s.now, pendHalf := none,
                                                      carrierTimer := some (s.now + carrierTime) })
  else s

/-- The same, at the frame that closes the degrade window (log 4). -/
def degradeWindowClose (cells : List CueCell) (s : State) : State :=
  let s1 := cueFrame cells s
  if s.cud.window.isSome ∧ s1.cud.framing = .SYNC ∧ s1.cud.window = none then s1 else s

/-- R123: the speed-off timer expires. -/
def State.speedOffOn (s : State) : State :=
  (s.setCud { s.cud with speedOffTimer := none, speedOff := true }).condNotice .TAPE_SPEED_OFF true none

def speedOffTimerExpiry (s : State) : State := s.whenDue s.cud.speedOffTimer State.speedOffOn

/-- R137: the next slot begins, timed from the start of sending. -/
def regenSlot (s : State) : State :=
  match s.cud.slotDue with
  | some d => (s.reach d).setCud (s.cud.slot d)
  | none => s

/-! ## SET of the parameters that act at once (R119, R138) and the unit reset (R142) -/

/-- R119: another cue source. -/
def State.setSource (s : State) (v : CueSource) : State :=
  if s.cud.par.source = v then s
  else State.loseCarrier (s.setCud { s.cud with par := { s.cud.par with source := v }, lastEdge := none })

/-- R138: the relay enable. -/
def State.setRelay (s : State) (v : Bool) : State :=
  let s1 := s.setCud { s.cud with par := { s.cud.par with relay := v } }
  if v then s1.startCueOut else s1.setCud s1.cud.silence

/-- R142: DEGRADED is cleared, if it is set. -/
def State.clearDegraded (s : State) : State :=
  if s.cud.degraded then (s.setCud { s.cud with degraded := false }).condNotice .CUE_DEGRADED false none else s

/-- R142: CUD at the start of a unit reset (log 28). -/
def State.resetCue (s : State) : State :=
  let s1 := if s.cud.framing = .SYNC then s.leaveSync else s
  let s2 := s1.clearSpeedOff.clearDegraded
  s2.setCud (({ s2.cud with
    carrier := false, carrierTimer := none, pendHalf := none, bits := [], bitIndex := 0, cellE := restCell,
    speed := restSpeed, speedOffTimer := none, framing := .HUNT, prevAlign := none, expected := none, errs := 0,
    window := none, cueSync := false, tapeTime := none, cand := none, lastCue := none, lock := false, regenCount := 0
    par := { s2.cud.par with relay := s.storedSettings.cud.relay, degThr := s.storedSettings.cud.degThr } }).silence)

/-! ## The commands -/

def execCueInputEdge (dt : Nat) (s : State) : Host.Outcome State Fault Refusal := .next (s.take dt cueInputEdge)
def execCarrierDetect (dt : Nat) (gap : Nat) (s : State) : Host.Outcome State Fault Refusal :=
  .next (s.take dt (carrierDetect gap))
def execCarrierTimerExpiry (dt : Nat) (s : State) : Host.Outcome State Fault Refusal :=
  .next (s.take dt carrierTimerExpiry)
def execCueFrame (dt : Nat) (cells : List CueCell) (s : State) : Host.Outcome State Fault Refusal :=
  .next (s.take dt (cueFrame cells))
def execDegradeWindowClose (dt : Nat) (cells : List CueCell) (s : State) : Host.Outcome State Fault Refusal :=
  .next (s.take dt (degradeWindowClose cells))
def execSpeedOffTimerExpiry (dt : Nat) (s : State) : Host.Outcome State Fault Refusal :=
  .next (s.take dt speedOffTimerExpiry)
def execRegenSlot (dt : Nat) (s : State) : Host.Outcome State Fault Refusal := .next (s.take dt regenSlot)

end Sys2Proof.Machine
end

