-- ==== Sys2Proof/Machine/Lamp.lean ====
section
/-!
DEFINITION. The commands of the lamp block (spec/03): the lamp update with all that can come of it, and the
lamp-present sensors.
-/

namespace Sys2Proof.Machine

/-! ## The steps of the lamp update (R51) -/

/-- R62: the output drive from which a LOW reading qualifies. -/
def senseDrive : Nat := 200

/-- R62: the reading qualifies. -/
def State.senseQualifies (s : State) : Bool := s.lmc.power == .LIT && decide (senseDrive ≤ s.lmc.outDrive)

/-- R62: the failure test finds a failure at this lamp update. -/
def State.failsNow (s : State) (low : Bool) : Bool :=
  low && s.senseQualifies && decide (3 ≤ s.lmc.failCount + 1)

/-- Step 1 (R62, R63). -/
def State.lampSense (s : State) (low : Bool) : State :=
  if s.failsNow low then State.lampFail (s.setLmc { s.lmc with failCount := 0 })
  else s.setLmc { s.lmc with failCount := if low && s.senseQualifies then s.lmc.failCount + 1 else 0 }

/-- R64: the lamp updates of a changer motion. -/
def motionLength : Nat := 150

/-- R64: the motion ends: the target becomes active, and the power state goes on. -/
def State.motionEnds (s : State) (target : LampPos) : State :=
  let s1 := State.event (s.setLmc { s.lmc with motion := none, active := target }) .LAMP_CHANGED (some target.num)
  let s2 := State.evalNoLamp (s1.setLmc { s1.lmc with blanks := { s1.lmc.blanks with changer := false } })
  if s2.lmc.power = .SWAPPING then
    if (s2.lmc.lamp s2.lmc.active).usable then s2.enterIgniting else s2.setPower .OFF false
  else s2

/-- Step 2 (R64): a motion that was under way when the update began is counted. -/
def State.lampMotion (s : State) (m : Option Motion) : State :=
  match m with
  | none => s
  | some mo =>
    if motionLength ≤ mo.count + 1 then s.motionEnds mo.target
    else s.setLmc { s.lmc with motion := some { mo with count := mo.count + 1 } }

/-- R67: the curve fraction at P. -/
def curveFraction (r : Ramp) (p : Nat) : Nat :=
  match r.curve with
  | .LINEAR => p
  | .CROSS =>
    if r.start < r.stop then p * (8192 - p) / 4096 else if r.stop < r.start then p * p / 4096 else p

/-- R67: the level at step `k` of a timed ramp. -/
def rampLevel (r : Ramp) (k : Nat) : Nat :=
  let f := curveFraction r (4096 * k / r.n)
  if r.start ≤ r.stop then r.start + (r.stop - r.start) * f / 4096 else r.start - (r.start - r.stop) * f / 4096

/-- R68: the ramp ends at its next step. -/
def Ramp.endsNext (r : Ramp) : Bool := r.n == 0 || decide (r.n ≤ r.k + 1)

/-- Step 3 (R67, R68). -/
def State.rampStep (s : State) : State :=
  match s.lmc.ramp with
  | none => s
  | some r =>
    s.setLmc { s.lmc with
      level := if r.n = 0 then r.stop else rampLevel r (r.k + 1)
      ramp := if r.endsNext then none else some { r with k := r.k + 1 } }

/-- R71: EMPTY as it is derived. -/
def State.emptyReason (s : State) : Bool :=
  s.lmc.par.darkOnEmpty && (match s.tmc.gate with
    | .EMPTY | .UNKNOWN => true
    | .LOADED _ => false)

/-- R71: SLOT as it is derived. -/
def State.slotReason (s : State) : Bool :=
  match s.tmc.gate with
  | .LOADED p => (s.tmc.slots[p]?.map SlotRec.blank).getD false
  | .EMPTY | .UNKNOWN => false

/-- Step 4 (R71). -/
def State.deriveBlanks (s : State) : State :=
  s.setLmc { s.lmc with blanks := { s.lmc.blanks with empty := s.emptyReason, slot := s.slotReason } }

/-- R73: the blank reason set has a member. -/
def Blanks.some (b : Blanks) : Bool := b.mech || b.empty || b.slot || b.manual || b.changer

/-- R70, R73: the output level. -/
def outputLevel (l : Lmc) (ceil : Nat) : Nat := if l.blanks.some then 0 else min (l.level * l.par.trim / 1000) ceil

/-- Step 5 (R70, R73). -/
def State.formLevel (s : State) : State :=
  s.setLmc { s.lmc with outLevel := outputLevel s.lmc s.thc.cEff, ceilUsed := s.thc.cEff }

/-- Step 6 (R74): the interpolated drive of a level. -/
def interpolate (table : List Nat) (level : Nat) : Nat :=
  let i := level * 32 / 1000
  let r := level * 32 - i * 1000
  if 32 ≤ i then table.getD 32 0 else table.getD i 0 + (table.getD (i + 1) 0 - table.getD i 0) * r / 1000

/-- Step 7 (R59, R75): the output drive; `fresh`: IGNITING was entered at this lamp update. -/
def State.formDrive (s : State) (fresh : Bool) : State :=
  match s.lmc.power with
  | .OFF | .SWAPPING => s.setLmc { s.lmc with outDrive := 0 }
  | .LIT => s.setLmc { s.lmc with outDrive := max (interpolate s.lmc.par.table s.lmc.outLevel) s.lmc.par.glow }
  | .IGNITING =>
    let j := if fresh then s.lmc.ignJ else s.lmc.ignJ + 1
    s.setLmc { s.lmc with ignJ := j, outDrive := s.lmc.par.glow * j / s.lmc.ignLen }

/-- R55: the largest number of lit seconds. -/
def maxLit : Nat := 4294967295

/-- R55: the power states in which lit time accrues. -/
def Power.burns : Power → Bool
  | .IGNITING | .LIT => true
  | .OFF | .SWAPPING => false

/-- Step 8 (R55): lit time of the active position. -/
def State.accrue (s : State) : State :=
  if s.lmc.power.burns then
    let r := s.lmc.lamp s.lmc.active
    if 100 ≤ r.acc + 1 then
      State.evalLife (s.setLmc (s.lmc.setLamp s.lmc.active { r with acc := 0, lit := min (r.lit + 1) maxLit }))
        s.lmc.active
    else s.setLmc (s.lmc.setLamp s.lmc.active { r with acc := r.acc + 1 })
  else s

/-- Step 9: TMC takes the output level; DARKEN counts from the first of level 0 (R31). -/
def State.darkReport (s : State) : State :=
  if s.tmc.phase = some .DARKEN ∧ s.tmc.timer = none ∧ s.lmc.outLevel = 0 then
    s.setTmc { s.tmc with timer := some (.tDark, s.now + delayUnits s.tmc.par.tDark) }
  else s

/-- Step 9: THC takes the output drive (R84). -/
def State.heatReport (s : State) : State := s.setThc { s.thc with hq := heatStep s.thc.hq s.lmc.outDrive }

/-- R59: j has reached J: LIT, at the end of the update. -/
def State.litReport (s : State) : State :=
  if s.lmc.power = .IGNITING ∧ s.lmc.ignLen ≤ s.lmc.ignJ then s.setPower .LIT false else s

/-- Steps 1 and 2. -/
def State.lampChanges (s : State) (low : Bool) : State := (s.lampSense low).lampMotion s.lmc.motion

/-- Steps 3 to 7. -/
def State.lampOutputs (s : State) (fresh : Bool) : State :=
  s.rampStep.deriveBlanks.formLevel.formDrive fresh

/-- R51: the whole lamp update (log 17 for the order of the reports). -/
def lampUpdate (low : Bool) (s : State) : State :=
  let s1 := s.lampChanges low
  let fresh := s1.lmc.power == .IGNITING && s.lmc.power != .IGNITING
  (s1.lampOutputs fresh).accrue.darkReport.heatReport.litReport

/-! ## Lamp updates named by what happens at them (log 4) -/

def lampFailure (s : State) : State := if s.failsNow true then lampUpdate true s else s

def changerMotionEnd (low : Bool) (s : State) : State :=
  match s.lmc.motion with
  | some mo => if motionLength ≤ mo.count + 1 then lampUpdate low s else s
  | none => s

def ignitionComplete (low : Bool) (s : State) : State :=
  if s.lmc.power = .IGNITING ∧ s.lmc.ignLen ≤ s.lmc.ignJ + 1 then lampUpdate low s else s

def rampEnd (low : Bool) (s : State) : State :=
  match s.lmc.ramp with
  | some r => if r.endsNext then lampUpdate low s else s
  | none => s

/-- The lamp update at which a lit second is completed: after its steps 1 and 2 the active lamp burns and stands at
99. -/
def litSecond (low : Bool) (s : State) : State :=
  let s1 := s.lampChanges low
  if s1.lmc.power.burns && decide (100 ≤ (s1.lmc.lamp s1.lmc.active).acc + 1) then lampUpdate low s else s

/-! ## The sensors (R65) -/

def lampPresentChange (pos : LampPos) (present : Bool) (s : State) : State :=
  if (s.lmc.lamp pos).present = present then s
  else
    let s1 := State.evalNoLamp (s.setLmc (s.lmc.setLamp pos { s.lmc.lamp pos with present := present }))
    if !present && decide (pos = s1.lmc.active) && s1.lmc.power.burns then s1.lampFail else s1

/-! ## The commands -/

def execLampUpdate (dt : Nat) (low : Bool) (s : State) : Host.Outcome State Fault Refusal :=
  .next (s.take dt (lampUpdate low))
def execLampFailure (dt : Nat) (s : State) : Host.Outcome State Fault Refusal := .next (s.take dt lampFailure)
def execChangerMotionEnd (dt : Nat) (low : Bool) (s : State) : Host.Outcome State Fault Refusal :=
  .next (s.take dt (changerMotionEnd low))
def execIgnitionComplete (dt : Nat) (low : Bool) (s : State) : Host.Outcome State Fault Refusal :=
  .next (s.take dt (ignitionComplete low))
def execRampEnd (dt : Nat) (low : Bool) (s : State) : Host.Outcome State Fault Refusal :=
  .next (s.take dt (rampEnd low))
def execLitSecond (dt : Nat) (low : Bool) (s : State) : Host.Outcome State Fault Refusal :=
  .next (s.take dt (litSecond low))
def execLampPresentChange (dt : Nat) (pos : LampPos) (present : Bool) (s : State) :
    Host.Outcome State Fault Refusal :=
  .next (s.take dt (lampPresentChange pos present))

end Sys2Proof.Machine
end

