-- ==== Sys2Proof/Machine/Mechanism.lean ====
section
/-!
DEFINITION. The commands of the tray mechanism (spec/02) and of the queue's own timers (spec/01).
-/

namespace Sys2Proof.Machine

/-- When the timer of kind `k` is due, while it is the one that runs. -/
def State.phaseDue (s : State) (k : MechTimer) : Option Nat :=
  match s.tmc.timer with
  | some (k', d) => if k' = k then some d else none
  | none => none

/-! ## The tray (R24, R25) -/

/-- R24: the wait before the code lines are read. -/
def qualifyTime : Nat := msec 50

/-- The tray-present sensor goes present. -/
def trayInsertion (s : State) : State :=
  if s.tmc.trayPresent then s
  else s.setTmc { s.tmc with trayPresent := true, qualDue := some (s.now + qualifyTime) }

/-- R24: the size that a code gives; none for NONE and INVALID. -/
def codeSize : TrayCode → Option Nat
  | .c80 => some 80
  | .c120 => some 120
  | .absent | .invalid => none

/-- R24: the code lines are read. -/
def State.qualify (s : State) (code : TrayCode) : State :=
  let s1 := s.setTmc { s.tmc with qualDue := none }
  match codeSize code with
  | some n => ((s1.setTmc { s1.tmc with size := some n }).event .TRAY_INSERTED none).startHoming
  | none => s1.event .TRAY_INVALID none

/-- The end of the qualification. -/
def trayQualifyExpiry (code : TrayCode) (s : State) : State :=
  s.whenDue s.tmc.qualDue (fun t => t.qualify code)

/-- The tray-present sensor goes absent; a removal in the qualification only abandons it. -/
def trayRemoval (s : State) : State :=
  if !s.tmc.trayPresent then s
  else if s.tmc.qualDue.isSome then s.setTmc { s.tmc with trayPresent := false, qualDue := none }
  else s.enterParked

/-! ## The phases (R31 to R37, R41, R45, R46) -/

def tDarkExpiry (m : MechSense) (s : State) : State := s.whenDue (s.phaseDue .tDark) (fun t => t.beginLift m)

/-- The sensor confirms; outside the running confirm timer it is not acted on (R33). -/
def lifterUpConfirm (m : MechSense) (s : State) : State :=
  if (s.phaseDue .lift).isSome then s.liftEnds m else s

/-- R33: the lifter is released and the phase is begun again after the pause. -/
def State.retry (s : State) (c : Ctr) : State :=
  (s.setTmc { s.tmc with lifter := .released, timer := some (.retryPause, s.now + retryPause) }).count c

def State.liftTimeout (s : State) : State :=
  if s.tmc.retriedLift then s.enterJammed .LIFT_TIMEOUT
  else State.retry (s.setTmc { s.tmc with retriedLift := true }) .mechLiftRetries

def liftTimerExpiry (s : State) : State := s.whenDue (s.phaseDue .lift) State.liftTimeout

def State.dropTimeout (s : State) : State :=
  if s.tmc.retriedDrop then s.enterJammed .DROP_TIMEOUT
  else State.retry (s.setTmc { s.tmc with retriedDrop := true }) .mechDropRetries

def dropTimerExpiry (s : State) : State := s.whenDue (s.phaseDue .drop) State.dropTimeout

/-- R33: the pause is over. -/
def State.retryPhase (s : State) (m : MechSense) : State :=
  if s.tmc.phase = some .LIFT then s.beginLift m else s.beginDrop m

def retryPauseExpiry (m : MechSense) (s : State) : State :=
  s.whenDue (s.phaseDue .retryPause) (fun t => t.retryPhase m)

/-- R34, R41: the tray has moved one place. -/
def State.moveTray (s : State) : State :=
  s.setTmc { s.tmc with pos := some (stepPos s.tmc.trayS s.tmc.dir (s.tmc.pos.getD 0)), steps := s.tmc.steps + 1 }

/-- R34, R35: an index pulse in STEP. -/
def State.pulseStep (s : State) (m : MechSense) : State :=
  let s1 := s.moveTray
  if s1.tmc.passOver (s1.tmc.pos.getD 0) && decide (s1.tmc.steps < s1.tmc.stepLimit) then
    s1.driveTray .STEP s1.tmc.dir
  else s1.beginDrop m

/-- R41, R42: an index pulse in ROTATE. -/
def State.pulseRotate (s : State) (m : MechSense) : State :=
  let s1 := s.moveTray
  if s1.tmc.truncated || decide (s1.tmc.distance ≤ s1.tmc.steps) then s1.beginDrop m
  else s1.driveTray .ROTATE s1.tmc.dir

/-- R45, R46: an index pulse in SEARCH. -/
def State.pulseSearch (s : State) (m : MechSense) : State :=
  let s1 := s.setTmc { s.tmc with steps := s.tmc.steps + 1 }
  if m.homeMark then s1.homeFound m
  else if s1.tmc.trayS + 2 ≤ s1.tmc.steps then s1.enterJammed .HOME_NOT_FOUND
  else s1.driveTray .SEARCH .forward

/-- R34: outside STEP, ROTATE and SEARCH an index pulse leaves everything as it is. -/
def indexPulse (m : MechSense) (s : State) : State :=
  match s.tmc.phase with
  | some .STEP => s.pulseStep m
  | some .ROTATE => s.pulseRotate m
  | some .SEARCH => s.pulseSearch m
  | _ => s

def indexWaitExpiry (s : State) : State :=
  s.whenDue (s.phaseDue .indexWait) (fun t => t.enterJammed .STEP_TIMEOUT)

/-- The sensor confirms; outside the running confirm timer it is not acted on (R33). -/
def lifterDownConfirm (m : MechSense) (s : State) : State :=
  if (s.phaseDue .drop).isSome then s.dropEnds m else s

def settleExpiry (s : State) : State := s.whenDue (s.phaseDue .settle) State.enterIdle

/-! ## Timers of the queue (R14, R38) -/

def holdExpiry (s : State) : State :=
  s.whenDue s.aq.holdDue (fun t => t.setAq { t.aq with holdDue := none })

def pacingRunOut (s : State) : State :=
  if s.tmc.pacingOut then s else (s.reach s.tmc.pacingDue).evalPacing

/-! ## The commands -/

def execTrayInsertion (dt : Nat) (s : State) : Host.Outcome State Fault Refusal := .next (s.take dt trayInsertion)
def execTrayQualifyExpiry (dt : Nat) (code : TrayCode) (s : State) : Host.Outcome State Fault Refusal :=
  .next (s.take dt (trayQualifyExpiry code))
def execTrayRemoval (dt : Nat) (s : State) : Host.Outcome State Fault Refusal := .next (s.take dt trayRemoval)
def execTDarkExpiry (dt : Nat) (m : MechSense) (s : State) : Host.Outcome State Fault Refusal :=
  .next (s.take dt (tDarkExpiry m))
def execLifterUpConfirm (dt : Nat) (m : MechSense) (s : State) : Host.Outcome State Fault Refusal :=
  .next (s.take dt (lifterUpConfirm m))
def execLiftTimerExpiry (dt : Nat) (s : State) : Host.Outcome State Fault Refusal :=
  .next (s.take dt liftTimerExpiry)
def execDropTimerExpiry (dt : Nat) (s : State) : Host.Outcome State Fault Refusal :=
  .next (s.take dt dropTimerExpiry)
def execRetryPauseExpiry (dt : Nat) (m : MechSense) (s : State) : Host.Outcome State Fault Refusal :=
  .next (s.take dt (retryPauseExpiry m))
def execIndexPulse (dt : Nat) (m : MechSense) (s : State) : Host.Outcome State Fault Refusal :=
  .next (s.take dt (indexPulse m))
def execIndexWaitExpiry (dt : Nat) (s : State) : Host.Outcome State Fault Refusal :=
  .next (s.take dt indexWaitExpiry)
def execLifterDownConfirm (dt : Nat) (m : MechSense) (s : State) : Host.Outcome State Fault Refusal :=
  .next (s.take dt (lifterDownConfirm m))
def execSettleExpiry (dt : Nat) (s : State) : Host.Outcome State Fault Refusal := .next (s.take dt settleExpiry)
def execHoldExpiry (dt : Nat) (s : State) : Host.Outcome State Fault Refusal := .next (s.take dt holdExpiry)
def execPacingRunOut (dt : Nat) (s : State) : Host.Outcome State Fault Refusal := .next (s.take dt pacingRunOut)

end Sys2Proof.Machine
end

