-- ==== Sys2Proof/Machine/Records.lean ====
section
/-!
DEFINITION. Saves and their end, the lit timer (spec/11), snapshots (spec/10), the FOLLOW timer (spec/07), and the loss
and the application of power.
-/

namespace Sys2Proof.Machine

/-! ## Saves (R201 to R203) -/

/-- R202: what the end of a FULL save reports. -/
def State.fullSaved (s : State) : State :=
  let s1 := if s.sts.storeLost then (s.setSts { s.sts with storeLost := false }).condNotice .STORE_LOST false none
    else s
  s1.event .SAVE_DONE none

/-- R203: a pending automatic save begins when a save has ended. -/
def State.pendingSave (s : State) : State :=
  if s.sts.autoPending then State.beginSave (s.setSts { s.sts with autoPending := false }) false else s

/-- R201: the last write of a save. -/
def State.endSave (s : State) (v : Save) : State :=
  let s1 := s.setSts { s.sts with record := v.image, marker := v.keepMarker, checkOk := true, save := none }
  (if v.full then s1.fullSaved else s1).pendingSave

def saveEnd (s : State) : State :=
  match s.sts.save with
  | some v => s.endSave v
  | none => s

/-- R203: the lit timer restarts, and an automatic save is asked for. -/
def State.litSave (s : State) : State := State.autoSave (s.setSts { s.sts with litTimer := some (s.now + litTime) })

def litTimerExpiry (s : State) : State := s.whenDue s.sts.litTimer State.litSave

/-! ## Snapshots (R194) -/

/-- R194: the snapshot timer at an interval in seconds; 0 stops it. -/
def snapTimer (now interval : Nat) : Option Nat := if interval = 0 then none else some (now + sec interval)

/-- A live counter after a snapshot. -/
def Counter.zero : Counter := { val := 0, ovf := false }

/-- R194: a snapshot. -/
def State.snapshot (s : State) : State :=
  s.setCnt { s.cnt with
    snap := s.cnt.live
    live := s.cnt.live.map (fun _ => Counter.zero)
    number := (s.cnt.number + 1) % 65536
    lenMs := (s.stamp + 4294967296 - s.cnt.snapMs) % 4294967296
    snapMs := s.stamp
    timer := snapTimer s.now s.cnt.interval }

def snapshotTimerExpiry (s : State) : State := s.whenDue s.cnt.timer State.snapshot

/-! ## FOLLOW (R151) -/

/-- R151: the FOLLOW step fires in SHOW; in any other mode it becomes due. -/
def State.followFires (s : State) : State :=
  match s.ssq.ptr with
  | some p => if s.aq.mode = .SHOW then s.fire p false else s.setSsq { s.ssq with follow := .due }
  | none => s

/-- R151: when the FOLLOW timer is due, while it runs. -/
def Follow.dueAt : Follow → Option Nat
  | .running d => some d
  | .stopped | .frozen _ | .due => none

def followExpiry (s : State) : State := s.whenDue s.ssq.follow.dueAt State.followFires

/-- R151: the mode is read again while the timer is due and the state is RUNNING. -/
def followDueCheck (s : State) : State :=
  if s.ssq.follow = .due ∧ s.ssq.st = .RUNNING then s.followFires else s

/-! ## Power (R201, R204 and the power-on rules of the blocks) -/

/-- Power is lost: nothing happens until it is applied again (log 13). -/
def powerLoss (s : State) : State := s.setPowered false

/-- R204: what STS loads. -/
def Sts.lost (x : Sts) : Bool := x.marker || !x.checkOk
def Sts.loaded (x : Sts) : Settings := if x.lost then factory else x.record

/-- R24: the size of the tray at power-on: none without a tray or with a refused one. -/
def traySizeAt (l : PowerOnLines) : Option Nat :=
  if l.trayPresent then
    match l.trayCode with
    | .c80 => some 80
    | .c120 => some 120
    | .absent | .invalid => none
  else none

/-- R49. -/
def powerTmc (x : Settings) (l : PowerOnLines) : Tmc :=
  { resetTmc with
    st := if (traySizeAt l).isSome then .HOMING else .PARKED
    phase := if (traySizeAt l).isSome then some .DARKEN else none
    trayPresent := l.trayPresent
    size := traySizeAt l
    slots := x.flags.mapIdx (fun i b =>
      { occ := if i = 0 then .EMPTY else .UNKNOWN, jams := 0, blank := b && i != 0 })
    par := x.tmc }

/-- R53, R80: a lamp record at power-on. -/
def powerLamp (x : LampStore) (present : Bool) : LampRec :=
  { present := present, failed := x.failed, lit := x.lit, ignitions := x.ignitions, acc := 0, life := false }

/-- R80; NO_LAMP and LAMP_LIFE are evaluated when it stands. -/
def powerLmc (x : Settings) (l : PowerOnLines) : Lmc :=
  { resetLmc with
    active := x.active, recA := powerLamp x.lampA l.lampA, recB := powerLamp x.lampB l.lampB
    poLamp := x.lmc.powerOnLamp, par := x.lmc }

/-- R164. -/
def powerSsq (x : Settings) : Ssq :=
  let v := (x.steps.getD x.head defaultStep).valid
  { resetSsq with steps := x.steps, head := x.head, st := if v then .READY else .UNLOADED,
                  ptr := if v then some x.head else none }

/-- The fifteen panel keys in the order of `Key`. -/
def panelKeys : List Key :=
  [.FWD, .REV, .DIM_UP, .DIM_DOWN, .LAMP, .BLANK, .PAUSE, .ADVANCE, .STOP, .VOL_UP, .VOL_DOWN, .TAPE_PLAY,
    .TAPE_STOP, .MODE, .POWER]

/-- R177. -/
def powerRpd (x : Settings) (l : PowerOnLines) : Rpd :=
  { resetRpd with
    panel := panelKeys.map (fun k => { resetPanelKey with closed := l.panelClosed.contains k,
                                                          down := l.panelClosed.contains k })
    channel := x.channel }

/-- R183: the address state of the straps. -/
def strapAddr (straps : Nat) : AddrState :=
  if straps = 0 then .UNASSIGNED else if straps = 31 then .LISTEN_ONLY else .ASSIGNED straps

/-- The blocks' power-on values, before any notice. -/
def powerOnBase (l : PowerOnLines) (s : State) : State :=
  let x := s.sts.loaded
  { powered := true, now := 0, free := s.free
    aq := { resetAq with mode := x.startMode, startMode := x.startMode }
    tmc := powerTmc x l
    lmc := powerLmc x l
    thc := { resetThc with par := x.thc }
    ttc := { resetTtc with st := if l.cassette then .STOPPED else .EMPTY, cassette := l.cassette, par := x.ttc }
    cud := { resetCud with par := x.cud }
    ssq := powerSsq x
    rpd := powerRpd x l
    lki := { resetLki with addr := strapAddr l.straps.toNat, enables := x.enables }
    cnt := { resetCnt with interval := x.interval, timer := snapTimer 0 x.interval }
    sts := { s.sts with save := none, autoPending := false, litTimer := none, storeLost := s.sts.lost }
    pending := s.pending }

/-- R204 and the power-on rules: the part after power is applied; the notices in the order of log 23. -/
def powerOn (l : PowerOnLines) (s : State) : State :=
  let s1 := powerOnBase l s
  let s2 := if s1.sts.storeLost then s1.condNotice .STORE_LOST true none else s1
  let s3 := if l.trayPresent && (traySizeAt l).isNone then s2.event .TRAY_INVALID none else s2
  ((s3.evalNoLamp.evalLife .A).evalLife .B).refresh

/-! ## The commands -/

def execSaveEnd (dt : Nat) (s : State) : Host.Outcome State Fault Refusal := .next (s.take dt saveEnd)
def execLitTimerExpiry (dt : Nat) (s : State) : Host.Outcome State Fault Refusal :=
  .next (s.take dt litTimerExpiry)
def execSnapshotTimerExpiry (dt : Nat) (s : State) : Host.Outcome State Fault Refusal :=
  .next (s.take dt snapshotTimerExpiry)
def execFollowExpiry (dt : Nat) (s : State) : Host.Outcome State Fault Refusal := .next (s.take dt followExpiry)
def execFollowDueCheck (dt : Nat) (s : State) : Host.Outcome State Fault Refusal := .next (s.take dt followDueCheck)
def execPowerLoss (s : State) : Host.Outcome State Fault Refusal := .next (powerLoss s)
def execPowerOn (lines : PowerOnLines) (s : State) : Host.Outcome State Fault Refusal := .next (powerOn lines s)

end Sys2Proof.Machine
end

