-- ==== Sys2Proof/Machine/Query.lean ====
section
/-!
DEFINITION. The reports of QUERY (R8, R30, R79, R98, R115, R140, R166, R187, R205), encoded by the table of R186
(log 20 for what it leaves open), and their pages.
-/

namespace Sys2Proof.Machine

/-! ## Items (R186) -/

def encOpt1 (o : Option Nat) : List Byte := enc1 (o.getD 0xFF)
def encOpt2 (o : Option Nat) : List Byte := enc2 (o.getD 0xFFFF)
def encOpt4 (o : Option Nat) : List Byte := enc4 (o.getD 0xFFFFFFFF)

/-- A record: a presence byte, then its fields. -/
def encRecord (fields : Option (List Byte)) : List Byte :=
  match fields with
  | some l => 1 :: l
  | none => [0xFF]

/-- A list of codes. -/
def encList (codes : List Nat) : List Byte := byteOf codes.length :: codes.flatMap enc1

/-- The codes of the items of a set that are present. -/
def present (l : List Bool) : List Nat := (l.zipIdx.filter Prod.fst).map Prod.snd

/-- Microseconds as milliseconds, rounded down (log 20). -/
def toMs (us : Nat) : Nat := us / 1000

/-! ## Codes of enumerated values, in the order in which their chapters list them -/

def Mode.code : Mode → Nat
  | .LOCAL => 0 | .SHOW => 1 | .CONSOLE => 2
def Origin.code : Origin → Nat
  | .LINK => 0 | .REMOTE => 1 | .PANEL => 2 | .SHOW => 3
def RunnerStatus.code : RunnerStatus → Nat
  | .EMPTY => 0 | .WAIT_MECH => 1 | .WAIT_PACING => 2 | .RUNNING => 3
def MechState.code : MechState → Nat
  | .PARKED => 0 | .HOMING => 1 | .IDLE => 2 | .CHANGING => 3 | .SEEKING => 4 | .JAMMED => 5
/-- R30: a phase by its place among the phases of its state. -/
def Phase.code : Phase → Nat
  | .DARKEN => 0 | .LIFT => 1 | .STEP | .ROTATE | .SEARCH => 2 | .DROP => 3 | .SETTLE => 4
def JamCause.code : JamCause → Nat
  | .LIFT_TIMEOUT => 0 | .DROP_TIMEOUT => 1 | .STEP_TIMEOUT => 2 | .HOME_NOT_FOUND => 3
def ClearMode.code : ClearMode → Nat
  | .AUTO => 0 | .HELD => 1
def Occ.code : Occ → Nat
  | .UNKNOWN => 0 | .PRESENT => 1 | .EMPTY => 2
def Power.code : Power → Nat
  | .OFF => 0 | .IGNITING => 1 | .LIT => 2 | .SWAPPING => 3
def Curve.code : Curve → Nat
  | .LINEAR => 0 | .CROSS => 1
def Thermal.code : Thermal → Nat
  | .NORMAL => 0 | .WARM => 1 | .HOT => 2
def PowerState.code : PowerState → Nat
  | .ACTIVE => 0 | .STANDBY => 1
def CueSource.code : CueSource → Nat
  | .LOCAL_TAPE => 0 | .CUE_IN => 1 | .NONE => 2
def Framing.code : Framing → Nat
  | .HUNT => 0 | .CONFIRM => 1 | .SYNC => 2
def LossCrit.code : LossCrit → Nat
  | .SYNC_ONLY => 0 | .SYNC_OR_CHECK => 1
def Transport.code : Transport → Nat
  | .EMPTY => 0 | .STOPPED => 1 | .PLAY => 2 | .PAUSE => 3 | .FFWD => 4 | .REWIND => 5
def SeqState.code : SeqState → Nat
  | .UNLOADED => 0 | .READY => 1 | .RUNNING => 2 | .PAUSED => 3 | .ENDED => 4
/-- The kinds of section 1.4, in its order. -/
def Action.kindCode : Action → Nat
  | .FADE _ _ _ _ => 0 | .CHANGE_FWD => 1 | .CHANGE_REV => 2 | .SEEK _ => 3 | .HOLD _ => 4 | .LAMP_ON => 5
  | .LAMP_OFF => 6 | .VOLUME _ => 7 | .BLANK_ON => 8 | .BLANK_OFF => 9 | .MARK => 10

/-! ## The reports -/

/-- A gate state: the state byte and its value; UNKNOWN is all ones. -/
def encGate : Gate → List Byte
  | .EMPTY => [0, 0xFF]
  | .LOADED p => 1 :: enc1 p
  | .UNKNOWN => [0xFF, 0xFF]

/-- R30; a compare position that is off is sent as all ones (log 20). -/
def mechReport (s : State) : List Byte :=
  let t := s.tmc
  enc1 t.st.code ++ encOpt1 (t.phase.map Phase.code) ++ encOpt1 t.size ++
    encRecord (some (encGate t.gate ++ encOpt1 t.pos)) ++ encBool t.truncated ++ encBool t.pacingOut ++
    encOpt1 t.comparePos ++ enc1 t.clearMode.code ++ encBool t.slotMatch ++
    encRecord (t.jam.map (fun j => enc1 j.cause.code ++ enc1 j.phase.code ++ encOpt1 j.position))

/-- R79: a lamp record; present is a flag (log 20). -/
def encLamp (r : LampRec) : List Byte :=
  encBool r.present ++ encBool r.failed ++ enc4 r.lit ++ enc2 r.ignitions ++ encBool r.life

/-- R79. -/
def lampReport (s : State) : List Byte :=
  let l := s.lmc
  enc1 l.power.code ++ enc1 l.active.num ++ encLamp l.recA ++ encLamp l.recB ++ encBool l.noLamp ++
    encRecord (l.motion.map (fun m => enc1 m.target.num ++ enc1 m.count)) ++
    (if l.power = .IGNITING then enc1 l.ignJ ++ enc1 l.ignLen else [0xFF, 0xFF]) ++ enc2 l.level ++
    encRecord (l.ramp.map (fun r => enc2 r.start ++ enc2 r.stop ++ enc2 r.n ++ enc2 r.k ++ enc1 r.curve.code)) ++
    encList (present [l.blanks.mech, l.blanks.empty, l.blanks.slot, l.blanks.manual, l.blanks.changer]) ++
    enc2 l.ceilUsed ++ enc2 l.outLevel ++ enc2 l.outDrive ++ enc2 l.par.trim ++ enc1 l.par.glow ++
    enc1 l.par.ignTime ++ enc2 l.par.life ++ encBool l.par.changer ++ encBool l.par.darkOnEmpty ++
    encBool l.par.powerOnLamp

/-- R79: the table form. -/
def tableReport (s : State) : List Byte := s.lmc.par.table.flatMap enc2

/-- R98; the power hold line is a flag, 1 while it is asserted (log 20). -/
def thermalReport (s : State) : List Byte :=
  let t := s.thc
  let p := t.par
  encOpt2 t.tm ++ enc1 t.tstate.code ++ encOpt4 (t.lastSample.map (fun x => toMs (s.now - x))) ++
    enc2 (t.hq / 64) ++ enc1 t.fLamp ++ enc1 t.fTemp ++ enc1 (fanCooldown t) ++ enc1 t.fan ++
    enc1 t.duty ++ encBool t.kick.isSome ++ enc2 t.lastTach ++ enc1 t.stall ++ encBool t.warm ++ encBool t.trip ++
    encBool t.lost ++ encBool t.fanFault ++ encBool t.cooldown.isSome ++
    encOpt4 (if t.lost then t.lossStart.map (fun x => toMs (s.now - x)) else none) ++
    encRecord (t.cooldown.map (fun c => enc4 (toMs c.start) ++ encBool c.trip ++
      enc4 (toMs (c.start + sec p.tCool - s.now)))) ++
    enc2 t.cTarget ++ enc2 t.cEff ++ enc1 t.power.code ++ encBool t.hold ++ enc2 p.tLo ++ enc2 p.tHi ++
    enc2 p.tWarn ++ enc2 p.tTrip ++ enc2 p.tResume ++ enc2 p.tSafe ++ enc2 p.cMin ++ enc2 p.tCool ++
    enc1 p.fMinLit ++ enc1 p.fMax ++ enc1 p.cdDuty ++ enc1 p.stallThr

/-- R140. -/
def cueReport (s : State) : List Byte :=
  let c := s.cud
  enc1 c.par.source.code ++ enc1 (if c.carrier then 0 else 1) ++ enc2 c.cellE ++ enc2 c.speed ++
    encBool c.speedOff ++ encBool c.speedOffTimer.isSome ++ enc1 c.framing.code ++ encOpt1 c.align ++
    encOpt1 c.prevAlign ++ encOpt1 c.expected ++ enc1 c.errs ++
    (match c.window with
      | some w => 1 :: (enc1 w.frames ++ enc1 w.errors)
      | none => [0, 0xFF, 0xFF]) ++
    encBool c.degraded ++ encBool c.cueSync ++ encOpt2 c.tapeTime ++
    encRecord (c.cand.map (fun k => enc2 k.number ++ enc1 k.run)) ++ encOpt2 c.lastCue ++ encBool c.lock ++
    enc1 c.confirmNow ++ enc1 (if c.sending then 0 else 1) ++ enc1 c.buf.length ++ enc1 c.regenCount ++
    enc1 c.par.source.code ++ encBool c.par.relay ++ enc1 c.par.loss.code ++ enc1 c.par.degThr ++
    enc1 c.par.confirm

/-- R115. -/
def tapeReport (s : State) : List Byte :=
  let t := s.ttc
  enc1 t.st.code ++ encBool t.atEnd ++ encBool t.seqHold ++ encBool (t.st != .EMPTY) ++ encInt1 t.par.trimT ++
    enc2 (fgTarget t.par) ++ enc2 t.servo ++ encOpt4 t.fgPeriod ++ enc1 (if t.locked then 0 else 1) ++
    enc1 t.inLock ++ encOpt4 (t.reelTimer.map (fun d => toMs (d - s.now))) ++
    encOpt1 (if t.reelTimer.isSome then some (if t.st = .REWIND then 1 else 0) else none) ++
    encOpt4 (t.unlockStart.map (fun x => toMs (s.now - x))) ++ enc1 t.par.volTarget ++ enc1 t.effTarget ++
    enc1 t.curVol ++ encList (present [s.muteNotPlaying, s.muteSpeedOff, s.muteUnlocked]) ++ encBool t.par.loop ++
    encBool t.par.autoRewind ++ encBool t.par.stopRewind ++ encBool t.par.autoMute

/-- R166: the FOLLOW timer: its state and the time remaining. -/
def encFollow (now : Nat) : Follow → List Byte
  | .stopped => encRecord none
  | .running d => encRecord (some (1 :: enc4 (toMs (d - now))))
  | .frozen left => encRecord (some (2 :: enc4 (toMs left)))
  | .due => encRecord (some (3 :: enc4 0))

/-- R166. -/
def showReport (s : State) : List Byte :=
  let q := s.ssq
  enc1 q.st.code ++ encOpt1 (q.pausedFrom.map SeqState.code) ++ enc1 q.head ++ encOpt1 q.ptr ++
    encRecord (q.pend.map (fun p => enc1 p.index ++ encBool p.chase ++ enc1 p.need)) ++ encOpt1 q.watched ++
    encBool ((q.watched.map s.outstanding).getD false) ++ encFollow s.now q.follow ++ encOpt2 q.remembered ++
    enc2 q.skipped

def encEntry (e : Entry) : List Byte :=
  enc1 e.action.kindCode ++ enc1 e.origin.code ++ encOpt1 e.tag ++ encBool e.running

/-- R8. -/
def queueReport (s : State) : List Byte :=
  enc1 s.aq.runner.code ++ encBool s.aq.stopPending ++ enc1 s.aq.queue.length ++ s.aq.queue.flatMap encEntry

/-- R187. -/
def modeReport (s : State) : List Byte :=
  enc1 s.aq.mode.code ++ enc1 s.aq.startMode.code ++ enc1 s.rpd.channel ++
    (match s.lki.addr with
      | .UNASSIGNED => [0, 0xFF]
      | .ASSIGNED a => 1 :: enc1 a
      | .LISTEN_ONLY => [2, 0xFF])

/-- R205. -/
def identReport (s : State) : List Byte :=
  enc2 Config.vendorCode ++ enc2 Config.partCode ++ enc1 Config.revision ++ enc4 s.sts.serial.toNat ++
    encBool s.sts.save.isSome ++ encBool s.sts.autoPending ++ encBool s.sts.storeLost

/-- R186: the report of a group; none: there is no such group. -/
def report (s : State) (group : Nat) : Option (List Byte) :=
  match group with
  | 1 => some (mechReport s)
  | 2 => some (lampReport s)
  | 3 => some (tableReport s)
  | 4 => some (thermalReport s)
  | 5 => some (cueReport s)
  | 6 => some (tapeReport s)
  | 7 => some (showReport s)
  | 8 => some (queueReport s)
  | 9 => some (modeReport s)
  | 10 => some (identReport s)
  | _ => none

/-! ## Pages (R186) -/

/-- The bytes of a page. -/
def pageBytes : Nat := 28

/-- The number of pages of a report. -/
def pageCount (l : List Byte) : Nat := (l.length + (pageBytes - 1)) / pageBytes

/-- A page of a report. -/
def pageOf (l : List Byte) (p : Nat) : List Byte := (l.drop (pageBytes * p)).take pageBytes

/-- What follows the status in the answer with a page. -/
def pageBody (group page : Byte) (l : List Byte) : List Byte :=
  group :: page :: byteOf (pageCount l) :: pageOf l page.toNat

end Sys2Proof.Machine
end

