-- ==== Sys2Proof/Machine/Remote.lean ====
section
/-!
DEFINITION. The commands of the remote and panel decoders (spec/08), and how AQ takes a key (spec/01, R4 to R7).
-/

namespace Sys2Proof.Machine

/-! ## How AQ takes a key (R4 to R7, R9) -/

/-- R4: the rows of the remote and the panel, WAKE and the holds apart. -/
def keyAllowed (m : Mode) (k : Key) : Bool :=
  match k with
  | .STOP | .BLANK | .POWER => true
  | .FWD | .REV | .DIM_UP | .DIM_DOWN | .LAMP => m == .LOCAL
  | .PAUSE | .ADVANCE | .VOL_UP | .VOL_DOWN | .TAPE_PLAY | .TAPE_STOP | .MODE => m != .CONSOLE

/-- R4: the remote LAMP key means WAKE in STANDBY. -/
def State.wakesByLamp (s : State) (o : Origin) (k : Key) : Bool :=
  o == .REMOTE && k == .LAMP && s.thc.power == .STANDBY

/-- R4, R5: the key is refused. -/
def State.keyRefused (s : State) (o : Origin) (k : Key) : Bool :=
  !(keyAllowed s.aq.mode k || s.wakesByLamp o k)

/-- R5: a refused key is counted and noticed. -/
def State.refuseKey (s : State) (k : Key) : State :=
  (s.count .remRefused).event .REMOTE_REFUSED (some (keySubject k))

/-- R9: a key that asks for one entry: it joins, or the key is dropped and counted. -/
def State.offerKey (s : State) (o : Origin) (a : Action) : State :=
  if 1 ≤ s.room then s.enqueue [plainEntry o a] else s.count .remDropped

/-- The target of a FADE. -/
def Action.fadeTarget : Action → Option Nat
  | .FADE target _ _ _ => some target
  | _ => none

/-- R7: the base of a DIM key: the target of the youngest FADE of the queue, else the engine level. -/
def State.dimBase (s : State) : Nat :=
  ((s.aq.queue.filterMap (fun e => e.action.fadeTarget)).getLast?).getD s.lmc.level

/-- R7: the FADE of a DIM key. -/
def dimFade (target : Nat) : Action := .FADE target 0 .LINEAR false

/-- R6, R7: what an accepted key becomes. MODE and POWER act by their holds and by WAKE alone (R174, R176). -/
def State.acceptKey (s : State) (o : Origin) (k : Key) : State :=
  match k with
  | .STOP => s.stopAll
  | .BLANK => s.setManual (!s.lmc.blanks.manual)
  | .FWD => s.offerKey o .CHANGE_FWD
  | .REV => s.offerKey o .CHANGE_REV
  | .DIM_UP => s.offerKey o (dimFade (min (s.dimBase + 50) 1000))
  | .DIM_DOWN => s.offerKey o (dimFade (min (s.dimBase - 50) 1000))
  | .LAMP =>
    if s.wakesByLamp o k then s.wake
    else s.offerKey o (if s.lmc.power = .OFF then .LAMP_ON else .LAMP_OFF)
  | .PAUSE => if s.ssq.st = .PAUSED then s.resumeSeq else s.pauseSeq
  | .ADVANCE => s.advanceSeq
  | .VOL_UP => s.setVolume (s.ttc.par.volTarget + 1)
  | .VOL_DOWN => s.setVolume (s.ttc.par.volTarget - 1)
  | .TAPE_PLAY => s.tape .PLAY
  | .TAPE_STOP => s.tape .STOP
  | .MODE | .POWER => s

/-- R5: a key that reaches AQ: ignored while RESETTING, else refused or accepted. -/
def State.key (s : State) (o : Origin) (k : Key) : State :=
  if s.lki.resetting then s else if s.keyRefused o k then s.refuseKey k else s.acceptKey o k

/-- R171: further repeat steps of a press are offered: it is of a DIM or VOL key, and AQ neither ignored nor refused
it. -/
def State.repeatsOn (s : State) (o : Origin) (k : Key) : Bool :=
  (k == .DIM_UP || k == .DIM_DOWN || k == .VOL_UP || k == .VOL_DOWN) && !s.lki.resetting && !s.keyRefused o k

/-- The times of keys (R170, R171, R173 to R176). -/
def releaseTime : Nat := msec 250
def repeatStart : Nat := msec 500
def repeatTime : Nat := msec 100
def debounceTime : Nat := msec 20

/-! ## Remote frames (R167 to R170) -/

/-- The decoder of a line. -/
def Rpd.dec (r : Rpd) (line : RemoteLine) : RemoteDec :=
  match line with
  | .wired => r.wired
  | .ir => r.ir

def State.setDec (s : State) (line : RemoteLine) (d : RemoteDec) : State :=
  match line with
  | .wired => s.setRpd { s.rpd with wired := d }
  | .ir => s.setRpd { s.rpd with ir := d }

/-- R170: a new press. -/
def State.remotePress (s : State) (line : RemoteLine) (k : Key) (seq : Nat) : State :=
  State.key (s.setDec line { s.rpd.dec line with
    lastSeq := some seq
    held := some { key := k, pressed := s.now, releaseDue := s.now + releaseTime, repeats := s.repeatsOn .REMOTE k } })
    .REMOTE k

/-- R170, R171: a continuation frame of the held press, which may give a repeat step. -/
def State.remoteHeld (s : State) (line : RemoteLine) (h : HeldPress) : State :=
  if h.repeats && decide (h.pressed + repeatStart ≤ s.now) then
    State.key (s.setDec line { s.rpd.dec line with
      held := some { h with releaseDue := s.now + releaseTime, repeats := s.repeatsOn .REMOTE h.key } }) .REMOTE h.key
  else s.setDec line { s.rpd.dec line with held := some { h with releaseDue := s.now + releaseTime } }

/-- R170: a good frame. -/
def State.goodFrame (s : State) (line : RemoteLine) (k : Key) (seq : Nat) : State :=
  let s1 := s.count .remGood
  if (s1.rpd.dec line).lastSeq ≠ some seq then s1.remotePress line k seq
  else
    match (s1.rpd.dec line).held with
    | none => s1
    | some h => if h.key = k then s1.remoteHeld line h else s1.count .remMalformed

/-- R168, R169: a complete frame. -/
def State.completeFrame (s : State) (line : RemoteLine) (bits : BitVec 12) : State :=
  match remoteKey (remoteFields bits).2.1 with
  | none => s.count .remMalformed
  | some k =>
    if (remoteFields bits).1 = s.rpd.channel ∨ (remoteFields bits).1 = 15 then
      s.goodFrame line k (remoteFields bits).2.2
    else s

/-- R168: the decoder drops what it was receiving; it counts a frame that was begun (log 7). -/
def State.dropFrame (s : State) (line : RemoteLine) : State :=
  match (s.rpd.dec line).rx with
  | none => s
  | some (.inFrame _ _) => State.count (s.setDec line { s.rpd.dec line with rx := none }) .remMalformed
  | some .passing => s.setDec line { s.rpd.dec line with rx := none }

/-- A frame that completes on a line; a frame begun before it on that line has then failed (log 7). -/
def remoteFrame (line : RemoteLine) (bits : BitVec 12) (s : State) : State :=
  (s.dropFrame line).completeFrame line bits

/-- R167: the accepted ranges. -/
def shortTime (us : Nat) : Bool := decide (480 ≤ us) && decide (us ≤ 720)
def longTime (us : Nat) : Bool := decide (1440 ≤ us) && decide (us ≤ 2160)
def startTime (us : Nat) : Bool := decide (1920 ≤ us) && decide (us ≤ 2880)

/-- R167: what a time means in IN_FRAME after `taken` times: a failure, one more time, a bit, or the closing low. -/
inductive TimeStep where
  | fails
  | goes
  | bit (b : Bool)
  | completes
  deriving DecidableEq, Repr

/-- R167: the judgement of one time in IN_FRAME. Time 0 is the start's high; then low and high of each bit in turn;
time 25 is the closing low. A high of exactly 0.72 ms or 1.44 ms is a bit (log 7). -/
def judgeTime (taken : Nat) (t : LineTime) : TimeStep :=
  match t with
  | .low us =>
    if taken % 2 = 1 ∧ shortTime us = true then (if taken = 25 then .completes else .goes) else .fails
  | .high us =>
    if taken = 0 then (if shortTime us then .goes else .fails)
    else if taken % 2 = 0 then
      if shortTime us then .bit false else if longTime us then .bit true else .fails
    else .fails

/-- R167: the top of the range of a high, the start's (time 0) or a bit's: a longer one is judged when it passes it. -/
def highTop (taken : Nat) : Nat := if taken = 0 then 720 else 2160

/-- R168: the decoder after a time that fails. A high that fails at the falling edge that ends it has that edge taken
IN_FRAME, so the low that begins there is no start; after every other failure the next falling edge is taken in IDLE. -/
def failedRx (taken : Nat) (t : LineTime) : Option RemoteRx :=
  match t with
  | .high us => if us ≤ highTop taken then some .passing else none
  | .low _ => none

/-- R167, R168: one measured time of a line. -/
def State.lineTime (s : State) (line : RemoteLine) (t : LineTime) : State :=
  match (s.rpd.dec line).rx with
  | none =>
    match t with
    | .low us =>
      if startTime us then s.setDec line { s.rpd.dec line with rx := some (.inFrame 0 []) } else s
    | .high _ => s
  | some .passing => s.setDec line { s.rpd.dec line with rx := none }
  | some (.inFrame taken bits) =>
    match judgeTime taken t with
    | .fails => State.count (s.setDec line { s.rpd.dec line with rx := failedRx taken t }) .remMalformed
    | .goes => s.setDec line { s.rpd.dec line with rx := some (.inFrame (taken + 1) bits) }
    | .bit b => s.setDec line { s.rpd.dec line with rx := some (.inFrame (taken + 1) (bits ++ [b])) }
    | .completes =>
      State.completeFrame (s.setDec line { s.rpd.dec line with rx := none }) line (BitVec.ofNat 12 (bitsVal bits))

/-- The times a decoder measures, in order. All are judged at the moment of the command, one after another, before AQ's
runner acts: where they complete two frames, both presses reach AQ before it works the head of its queue, so that a
second DIM press takes as its base the FADE of the first, still queued (log 7). -/
def remoteMalformed (line : RemoteLine) (times : List LineTime) (s : State) : State :=
  times.foldl (fun t x => t.lineTime line x) s

/-- R170: the held press ends as a release. -/
def State.releasePress (s : State) (line : RemoteLine) : State :=
  s.setDec line { s.rpd.dec line with held := none }

def remoteReleaseExpiry (line : RemoteLine) (s : State) : State :=
  s.whenDue ((s.rpd.dec line).held.map HeldPress.releaseDue) (fun t => t.releasePress line)

/-! ## The panel (R171, R173 to R176) -/

/-- The place of a key among the panel records. -/
def keyIdx (k : Key) : Nat := keySubject k - 1

/-- The record of a panel key. -/
def State.panelKey (s : State) (k : Key) : PanelRec := s.rpd.panel.getD (keyIdx k) resetPanelKey

def State.setPanel (s : State) (k : Key) (r : PanelRec) : State :=
  s.setRpd { s.rpd with panel := s.rpd.panel.set (keyIdx k) r }

def panelLineChange (k : Key) (closed : Bool) (s : State) : State :=
  if (s.panelKey k).closed = closed then s
  else s.setPanel k { s.panelKey k with closed := closed, debounce := some (s.now + debounceTime) }

/-- R171, R173 to R176: whether a press begins to time a hold. -/
def State.holdTimed (s : State) (k : Key) : Bool :=
  !s.lki.resetting && (k == .MODE || k == .STOP || (k == .POWER && s.thc.power == .ACTIVE))

/-- R173 to R176: what a panel press means to AQ. -/
def State.panelEvent (s : State) (k : Key) : State :=
  match k with
  | .MODE => s
  | .POWER => if !s.lki.resetting && s.thc.power == .STANDBY then s.wake else s
  | .LAMP => if s.thc.power = .STANDBY then s else s.key .PANEL .LAMP
  | k => s.key .PANEL k

/-- R173: a press. -/
def State.panelPress (s : State) (k : Key) : State :=
  State.panelEvent (s.setPanel k { s.panelKey k with
    down := true, debounce := none, pressed := s.now, hold := s.holdTimed k
    nextRepeat := if s.repeatsOn .PANEL k then some (s.now + repeatStart) else none }) k

/-- R173: the debounce timer expires. -/
def State.debounced (s : State) (k : Key) : State :=
  let r := s.panelKey k
  if r.closed = r.down then s.setPanel k { r with debounce := none }
  else if r.closed then s.panelPress k
  else s.setPanel k { r with down := false, debounce := none, hold := false, nextRepeat := none }

def panelDebounceExpiry (k : Key) (s : State) : State :=
  s.whenDue (s.panelKey k).debounce (fun t => t.debounced k)

/-- R171: a repeat step of a held panel key that was due at `due`. -/
def State.panelRepeat (s : State) (k : Key) (due : Nat) : State :=
  State.key (s.setPanel k { s.panelKey k with
    nextRepeat := if s.repeatsOn .PANEL k then some (due + repeatTime) else none }) .PANEL k

def panelRepeatStep (k : Key) (s : State) : State :=
  s.whenDue (s.panelKey k).nextRepeat (fun t => t.panelRepeat k ((s.panelKey k).nextRepeat.getD 0))

/-- R174 to R176: when a hold that is timed and not yet reported completes. -/
def State.holdDue (s : State) (k : Key) (time : Nat) : Option Nat :=
  if (s.panelKey k).hold then some ((s.panelKey k).pressed + time) else none

/-- R174 to R176: a hold reports once. -/
def State.holdReported (s : State) (k : Key) : State := s.setPanel k { s.panelKey k with hold := false }

/-- R3: a completed MODE hold. -/
def State.modeHold (s : State) : State :=
  if s.lki.resetting then s
  else
    match s.aq.mode with
    | .LOCAL => s.setAq { s.aq with mode := .SHOW }
    | .SHOW => s.setAq { s.aq with mode := .LOCAL }
    | .CONSOLE => s.refuseKey .MODE

def panelModeHold (s : State) : State :=
  s.whenDue (s.holdDue .MODE (sec 2)) (fun t => (t.holdReported .MODE).modeHold)

/-- R175, R44: a completed STOP hold, which is CLEAR_JAM while JAMMED. -/
def State.stopHold (s : State) : State :=
  if s.lki.resetting || s.tmc.st != .JAMMED then s
  else if s.aq.mode = .CONSOLE then s.refuseKey .STOP
  else s.startHoming

def panelStopHold (s : State) : State :=
  s.whenDue (s.holdDue .STOP (sec 2)) (fun t => (t.holdReported .STOP).stopHold)

/-- R176: a completed POWER hold, which is STANDBY. -/
def State.powerHold (s : State) : State := if s.lki.resetting then s else s.standby

def panelPowerHold (s : State) : State :=
  s.whenDue (s.holdDue .POWER (sec 1)) (fun t => (t.holdReported .POWER).powerHold)

/-! ## SET of the channel (R169) and the unit reset (R177) -/

/-- R169: the channel parameter; held presses end as releases. -/
def State.setChannel (s : State) (v : Nat) : State :=
  s.setRpd { s.rpd with channel := v, wired := { s.rpd.wired with held := none }, ir := { s.rpd.ir with held := none } }

/-- R177: a panel record taken from its line, at a unit reset too (log 35). -/
def PanelRec.fromLine (r : PanelRec) : PanelRec :=
  { r with down := r.closed, debounce := none, hold := false, nextRepeat := none }

/-- R177: RPD at the start of a unit reset; a handset's next frame is then a new press, and a low that is on a line then
counts whole, whatever the decoder was at its falling edge (log 35). -/
def State.resetRemote (s : State) : State :=
  s.setRpd { s.rpd with wired := resetDecoder, ir := resetDecoder, panel := s.rpd.panel.map PanelRec.fromLine }

/-! ## The commands -/

def execRemoteFrame (dt : Nat) (line : RemoteLine) (bits : BitVec 12) (s : State) :
    Host.Outcome State Fault Refusal :=
  .next (s.take dt (remoteFrame line bits))
def execRemoteMalformed (dt : Nat) (line : RemoteLine) (times : List LineTime) (s : State) :
    Host.Outcome State Fault Refusal :=
  .next (s.take dt (remoteMalformed line times))
def execRemoteReleaseExpiry (dt : Nat) (line : RemoteLine) (s : State) : Host.Outcome State Fault Refusal :=
  .next (s.take dt (remoteReleaseExpiry line))
def execPanelLineChange (dt : Nat) (key : Key) (closed : Bool) (s : State) : Host.Outcome State Fault Refusal :=
  .next (s.take dt (panelLineChange key closed))
def execPanelDebounceExpiry (dt : Nat) (key : Key) (s : State) : Host.Outcome State Fault Refusal :=
  .next (s.take dt (panelDebounceExpiry key))
def execPanelRepeatStep (dt : Nat) (key : Key) (s : State) : Host.Outcome State Fault Refusal :=
  .next (s.take dt (panelRepeatStep key))
def execPanelModeHold (dt : Nat) (s : State) : Host.Outcome State Fault Refusal := .next (s.take dt panelModeHold)
def execPanelStopHold (dt : Nat) (s : State) : Host.Outcome State Fault Refusal := .next (s.take dt panelStopHold)
def execPanelPowerHold (dt : Nat) (s : State) : Host.Outcome State Fault Refusal := .next (s.take dt panelPowerHold)

end Sys2Proof.Machine
end

