-- ==== Sys2Proof/Machine/Settings.lean ====
section
/-!
DEFINITION. SET (R189): every parameter of the table of section 11.4, with its range, its pairs and when it takes
effect.
-/

namespace Sys2Proof.Machine

/-- What becomes of a SET: a value taken, a value kept (BAD_VALUE), a BAD_VALUE where there is no value to keep (log
11), or an identifier that is not in the table. -/
inductive SetResult where
  | done (s : State) (value : Int)
  | bad (value : Int)
  | noValue
  | unknown

/-- A number held within a range. -/
def clampNat (lo hi : Nat) (v : Int) : Nat := (min (hi : Int) (max (lo : Int) v)).toNat

/-- A numeric parameter: the value is clamped and taken. -/
def setNum (lo hi : Nat) (v : Int) (f : Nat → State) : SetResult := .done (f (clampNat lo hi v)) (clampNat lo hi v)

/-- R97: a numeric parameter with a consistency pair, checked in the clamped form. -/
def setPair (lo hi : Nat) (v : Int) (ok : Nat → Bool) (kept : Nat) (f : Nat → State) : SetResult :=
  if ok (clampNat lo hi v) then setNum lo hi v f else .bad kept

/-- An on/off parameter. -/
def setFlag (v : Int) (kept : Bool) (f : Bool → State) : SetResult :=
  if v = 0 then .done (f false) 0 else if v = 1 then .done (f true) 1 else .bad kept.toNat

/-- An enumerated parameter with the values `l` in the order of their codes. -/
def setEnum {α : Type} (l : List α) (v : Int) (kept : Nat) (f : α → State) : SetResult :=
  if v < 0 then .bad kept
  else
    match l[v.toNat]? with
    | some a => .done (f a) v
    | none => .bad kept

/-- R76: entries below their predecessor are raised to it, from the front on. -/
def raiseFrom (low : Nat) : List Nat → List Nat
  | [] => []
  | x :: xs => max low x :: raiseFrom (max low x) xs

/-- R76: T[i] is written, and the table made non-decreasing from entry i upward. -/
def writeTable (t : List Nat) (i v : Nat) : List Nat :=
  t.take i ++ raiseFrom (if i = 0 then 0 else t.getD (i - 1) 0) (v :: t.drop (i + 1))

def State.setTmcPar (s : State) (p : TmcParams) : State := s.setTmc { s.tmc with par := p }
def State.setLmcPar (s : State) (p : LmcParams) : State := s.setLmc { s.lmc with par := p }
def State.setThcPar (s : State) (p : ThcParams) : State := s.setThc { s.thc with par := p }
def State.setTtcPar (s : State) (p : TtcParams) : State := s.setTtc { s.ttc with par := p }
def State.setCudPar (s : State) (p : CudParams) : State := s.setCud { s.cud with par := p }

/-- R47, R48, R189: the compare position; a negative value is off. Off is answered as minus one, and the CLEAR notice has
the position before the change as its subject (log 22). -/
def State.setCompare (s : State) (v : Int) : SetResult :=
  if v < 0 then
    let s1 := s.clearMatch s.tmc.comparePos
    .done (s1.setTmc { s1.tmc with comparePos := none }) (-1)
  else setNum 0 120 v (fun n => s.setTmc { s.tmc with comparePos := some n })

/-- R89, R90: what a new C_min does at once under SENSOR_LOST. -/
def State.lowerCeiling (s : State) : State :=
  if s.thc.lost then
    let c := min s.thc.cTarget s.thc.par.cMin
    s.setThc { s.thc with cTarget := c, cEff := min s.thc.cEff c }
  else s

/-- R194: the snapshot interval; the timer restarts or stops. -/
def State.setInterval (s : State) (n : Nat) : State :=
  s.setCnt { s.cnt with interval := n, timer := snapTimer s.now n }

/-- R76, R189: a response table entry. -/
def State.setTable (s : State) (i : Nat) (v : Int) : SetResult :=
  if 32 < i then .noValue
  else
    let t := writeTable s.lmc.par.table i (clampNat 0 1023 v)
    .done (s.setLmcPar { s.lmc.par with table := t }) (t.getD i 0)

/-- R104: the speed trim. -/
def State.setTrim (s : State) (v : Int) : SetResult :=
  let c := min 60 (max (-60) v)
  .done (s.setTtcPar { s.ttc.par with trimT := c }) c

/-- R189: the SET of parameter `id`, as section 11.4 lists it. A new rated life (R55) evaluates position A before B
(log 23). -/
def setParam (s : State) (id i : Nat) (v : Int) : SetResult :=
  let t := s.tmc.par
  let l := s.lmc.par
  let h := s.thc.par
  let a := s.ttc.par
  let c := s.cud.par
  match id with
  | 1 => setEnum [Mode.LOCAL, .SHOW, .CONSOLE] v s.aq.startMode.code (fun m => s.setAq { s.aq with startMode := m })
  | 2 => setNum 0 255 v (fun n => s.setTmcPar { t with tDark := n })
  | 3 => setNum 0 255 v (fun n => s.setTmcPar { t with tSettle := n })
  | 4 => setNum 0 255 v (fun n => (s.setTmcPar { t with pacing := n }).evalPacing)
  | 5 => setFlag v t.wrapGap (fun b => s.setTmcPar { t with wrapGap := b })
  | 6 => setFlag v t.skipEmpty (fun b => s.setTmcPar { t with skipEmpty := b })
  | 7 => s.setCompare v
  | 8 => setEnum [ClearMode.AUTO, .HELD] v s.tmc.clearMode.code (fun m => s.setTmc { s.tmc with clearMode := m })
  | 9 => setNum 0 1000 v (fun n => s.setLmcPar { l with trim := n })
  | 10 => setNum 0 255 v (fun n => s.setLmcPar { l with glow := n })
  | 11 => setNum 10 255 v (fun n => s.setLmcPar { l with ignTime := n })
  | 12 => setNum 1 65535 v (fun n => ((s.setLmcPar { l with life := n }).evalLife .A).evalLife .B)
  | 13 => setFlag v l.changer (fun b => (s.setLmcPar { l with changer := b }).evalNoLamp)
  | 14 => setFlag v l.darkOnEmpty (fun b => s.setLmcPar { l with darkOnEmpty := b })
  | 15 => setFlag v l.powerOnLamp (fun b => s.setLmcPar { l with powerOnLamp := b })
  | 16 => s.setTable i v
  | 17 => setPair 0 400 v (fun n => decide (n < h.tHi)) h.tLo (fun n => s.setThcPar { h with tLo := n })
  | 18 => setPair 0 400 v (fun n => decide (h.tLo < n)) h.tHi (fun n => s.setThcPar { h with tHi := n })
  | 19 => setPair 0 400 v (fun n => decide (n < h.tTrip)) h.tWarn (fun n => s.setThcPar { h with tWarn := n })
  | 20 =>
    setPair 0 400 v (fun n => decide (h.tWarn < n) && decide (h.tResume < n) && decide (h.tSafe < n)) h.tTrip
      (fun n => s.setThcPar { h with tTrip := n })
  | 21 => setPair 0 400 v (fun n => decide (n < h.tTrip)) h.tResume (fun n => s.setThcPar { h with tResume := n })
  | 22 =>
    setPair 0 400 v (fun n => decide (n < h.tTrip)) h.tSafe
      (fun n => (s.setThcPar { h with tSafe := n }).cooldownTest)
  | 23 => setNum 0 1000 v (fun n => (s.setThcPar { h with cMin := n }).lowerCeiling)
  | 24 => setNum 10 600 v (fun n => (s.setThcPar { h with tCool := n }).cooldownTest)
  | 25 =>
    setPair 0 100 v (fun n => decide (n ≤ h.fMax)) h.fMinLit
      (fun n => (s.setThcPar { h with fMinLit := n }).recomputeFan)
  | 26 =>
    setPair 0 100 v (fun n => decide (h.fMinLit ≤ n)) h.fMax (fun n => (s.setThcPar { h with fMax := n }).recomputeFan)
  | 27 => setNum 0 100 v (fun n => (s.setThcPar { h with cdDuty := n }).recomputeFan)
  | 28 => setNum 1 255 v (fun n => s.setThcPar { h with stallThr := n })
  | 29 => setFlag v a.loop (fun b => s.setTtcPar { a with loop := b })
  | 30 => setFlag v a.autoRewind (fun b => s.setTtcPar { a with autoRewind := b })
  | 31 => setFlag v a.stopRewind (fun b => s.setTtcPar { a with stopRewind := b })
  | 32 => setFlag v a.autoMute (fun b => s.setTtcPar { a with autoMute := b })
  | 33 => s.setTrim v
  | 34 => setNum 0 63 v (fun n => s.setVolume n)
  | 35 => setEnum [CueSource.LOCAL_TAPE, .CUE_IN, .NONE] v c.source.code (fun x => s.setSource x)
  | 36 => setFlag v c.relay (fun b => s.setRelay b)
  | 37 => setEnum [LossCrit.SYNC_ONLY, .SYNC_OR_CHECK] v c.loss.code (fun x => s.setCudPar { c with loss := x })
  | 38 => setNum 1 16 v (fun n => s.setCudPar { c with degThr := n })
  | 39 => setNum 1 2 v (fun n => s.setCudPar { c with confirm := n })
  | 40 => setNum 0 14 v (fun n => s.setChannel n)
  | 41 => setNum 0 60 v (fun n => s.setInterval n)
  | _ => .unknown

/-- Section 11.4: the parameter is persistent (R182: its SET is locked while a save runs). -/
def persistent (id : Nat) : Bool := decide (1 ≤ id) && decide (id ≤ 41) && id != 7 && id != 8

end Sys2Proof.Machine
end

