-- ==== Sys2Proof/Machine/Link.lean ====
section
/-!
DEFINITION. The show link (spec/09): reception, how a request is judged and answered, what each request does at its
owner, and the unit reset.
-/

namespace Sys2Proof.Machine

/-- What a request leaves and what it is answered. -/
structure Answer where
  state : State
  status : Status
  body : List Byte

def done (s : State) : Answer := { state := s, status := .DONE, body := [] }
def doneWith (s : State) (body : List Byte) : Answer := { state := s, status := .DONE, body := body }
def deny (s : State) (x : Status) : Answer := { state := s, status := x, body := [] }

/-! ## Requests to AQ (R2, R10, R19) -/

/-- R10: an ACTION whose kind is known. -/
def State.actionOf (s : State) (a : Action) : Answer :=
  let bad := match a with
    | .SEEK p => decide (s.tmc.trayS < p)
    | _ => false
  if bad then deny s .BAD_VALUE
  else if 1 ≤ s.room then { state := s.enqueue [plainEntry .LINK a.hold], status := .ACCEPTED, body := [] }
  else deny s .QUEUE_FULL

/-- R10. -/
def reqAction (slot : SlotBytes) (s : State) : Answer :=
  match decodeSlot slot with
  | some a => s.actionOf a
  | none => deny s .BAD_REQUEST

/-- R2. -/
def reqMode (arg : Byte) (s : State) : Answer :=
  match [Mode.LOCAL, .SHOW, .CONSOLE][arg.toNat]? with
  | some m => doneWith (s.setAq { s.aq with mode := m }) [arg]
  | none => deny s .BAD_VALUE

/-! ## Requests to the blocks by CONTROL (R188) -/

def reqPause (s : State) : Answer :=
  if s.ssq.st = .READY ∨ s.ssq.st = .RUNNING ∨ s.ssq.st = .PAUSED then done s.pauseSeq else deny s .REFUSED_STATE
def reqResume (s : State) : Answer :=
  if s.ssq.st = .PAUSED then done s.resumeSeq else deny s .REFUSED_STATE
def reqAdvance (s : State) : Answer := if s.advanceTaken then done s.advanceSeq else deny s .REFUSED_STATE
def reqClearJam (s : State) : Answer := if s.tmc.st = .JAMMED then done s.startHoming else deny s .REFUSED_STATE
def reqClearMatch (s : State) : Answer := done (s.clearMatch s.tmc.comparePos)
def reqBlank (arg : Byte) (s : State) : Answer :=
  if arg = 0 then done (s.setManual false) else if arg = 1 then done (s.setManual true) else deny s .BAD_VALUE
def reqLamp (arg : Byte) (s : State) : Answer :=
  match arg.toNat with
  | 0 => done (s.lampOff false)
  | 1 => if s.igniteAccepted then done s.ignite else deny s .REFUSED_STATE
  | 2 | 3 => done s
  | _ => deny s .BAD_VALUE
def reqTape (arg : Byte) (s : State) : Answer :=
  match [TapeOp.PLAY, .PAUSE, .STOP, .FFWD, .REWIND][arg.toNat]? with
  | some op => if s.tapeRefused op then deny s .REFUSED_STATE else done (s.tape op)
  | none => deny s .BAD_VALUE
def reqSave (s : State) : Answer :=
  if s.sts.save.isSome then deny s .BUSY else { state := s.beginSave true, status := .ACCEPTED, body := [] }

/-- R188. -/
def reqControl (sub : Sub) (arg : Byte) (s : State) : Answer :=
  match sub with
  | .STOP => done s.stopAll
  | .PAUSE => reqPause s
  | .RESUME => reqResume s
  | .ADVANCE => reqAdvance s
  | .MODE => reqMode arg s
  | .CLEAR_JAM => reqClearJam s
  | .CLEAR_MATCH => reqClearMatch s
  | .BLANK => reqBlank arg s
  | .LAMP => reqLamp arg s
  | .STANDBY => done s.standby
  | .WAKE => done s.wake
  | .TAPE => reqTape arg s
  | .SNAPSHOT => done s.snapshot
  | .SAVE => reqSave s

/-! ## QUERY and SET (R186, R189) -/

/-- R186. -/
def reqQuery (group page : Byte) (s : State) : Answer :=
  match report s group.toNat with
  | none => deny s .BAD_VALUE
  | some l =>
    if page = 0 then
      doneWith (s.setLki { s.lki with copies := s.lki.copies.set (group.toNat - 1) (some l) }) (pageBody group page l)
    else
      match s.lki.copies.getD (group.toNat - 1) none with
      | none => deny s .REFUSED_STATE
      | some c => if page.toNat < pageCount c then doneWith s (pageBody group page c) else deny s .BAD_VALUE

/-- R189: identifier, index and value, as a SET is answered. -/
def setBody (param index : Byte) (v : Int) : List Byte := param :: index :: encInt4 v

/-- R189 (log 11: where there is no value to answer, a free one is; log 21: an unknown parameter is answered with the
status alone). -/
def reqSet (param index : Byte) (value : BitVec 32) (s : State) : Answer :=
  match setParam s param.toNat index.toNat value.toInt with
  | .done t v => doneWith t (setBody param index v)
  | .bad v => { state := s, status := .BAD_VALUE, body := setBody param index v }
  | .noValue =>
    { state := s.setFree (s.free + 1), status := .BAD_VALUE
      body := param :: index :: enc4 (Config.freeWord s.free).toNat }
  | .unknown => deny s .BAD_REQUEST

/-! ## The show program (R143, R145, R146, R147) -/

/-- R147. -/
def reqArm (head : Byte) (s : State) : Answer :=
  let s1 := s.armSeq head.toNat
  { state := s1, status := if s1.ssq.st = .READY then .DONE else .BAD_VALUE, body := [] }

/-- R145, R146: a record that passes is written at an index. -/
def State.writeStep (s : State) (i : Nat) (r : StepRec) : State :=
  s.setSsq { s.ssq with steps := s.ssq.steps.set i r }

/-- R146: load mode WRITE. -/
def State.afterWrite (s : State) : State :=
  if (s.ssq.st = .READY ∨ s.ssq.st = .ENDED) ∧ (s.ssq.step s.ssq.head).valid = false then
    s.setSsq { s.ssq with st := .UNLOADED, ptr := none }
  else s

/-- R145, R146, R185. -/
def reqStepWrite (index mode : Byte) (record : List Byte) (s : State) : Answer :=
  if s.ssq.st = .RUNNING ∨ s.ssq.st = .PAUSED then deny s .BUSY
  else if 1 < mode.toNat then deny s .BAD_VALUE
  else
    match decodeStep record with
    | none => deny s .BAD_VALUE
    | some r =>
      if mode = 0 then done (s.writeStep index.toNat r).afterWrite else reqArm index (s.writeStep index.toNat r)

/-- R143, R185. -/
def reqStepRead (index : Byte) (s : State) : Answer :=
  doneWith s (index :: encodeStep (s.ssq.step index.toNat))

/-! ## The tray (R28, R185) -/

/-- R28: the blank flags of positions first to last; that of position 0 stays off. -/
def setFlags (slots : List SlotRec) (first last : Nat) (v : Bool) : List SlotRec :=
  slots.mapIdx (fun i r => if first ≤ i ∧ i ≤ last ∧ i ≠ 0 then { r with blank := v } else r)

def reqSlotFlags (first last flag : Byte) (s : State) : Answer :=
  if 120 < last.toNat ∨ last.toNat < first.toNat ∨ 1 < flag.toNat then deny s .BAD_VALUE
  else done (s.setTmc { s.tmc with slots := setFlags s.tmc.slots first.toNat last.toNat (decide (flag = 1)) })

/-- R185: three bytes of a position. -/
def encSlotRec (r : SlotRec) : List Byte := enc1 r.occ.code ++ enc1 r.jams ++ encBool r.blank

def reqSlotRead (first count : Byte) (s : State) : Answer :=
  if count = 0 ∨ 8 < count.toNat ∨ 121 < first.toNat + count.toNat then deny s .BAD_VALUE
  else doneWith s (first :: count :: ((s.tmc.slots.drop first.toNat).take count.toNat).flatMap encSlotRec)

/-! ## Counters and notices (R195, R198, R199) -/

/-- R195: the overflow marks of counters, bit 0 for the first. -/
def ovfBits (l : List Counter) : Nat := bitsVal ((l.map Counter.ovf).reverse)

/-- R195; numbers are sent the most significant byte first (log 21). -/
def reqCountersRead (group : Byte) (s : State) : Answer :=
  match counterGroup group.toNat with
  | none => deny s .BAD_VALUE
  | some (start, n) =>
    let l := (s.cnt.snap.drop start).take n
    doneWith s (group :: (enc2 s.cnt.number ++ enc4 s.cnt.snapMs ++ enc4 s.cnt.lenMs ++
      l.flatMap (fun c => enc2 c.val) ++ enc2 (ovfBits l)))

/-- R199: one entry of a poll. -/
def encNotice (n : Notice) : List Byte :=
  byteOf (n.kind.code + (if n.clear then 128 else 0)) :: (encOpt2 n.subject ++ enc4 n.stamp)

/-- R199: the entries of a poll. -/
def pollCount : Nat := 4

/-- R199; the lost count is sent the most significant byte first (log 21). -/
def reqNoticePoll (s : State) : Answer :=
  let l := s.lki.notices.take pollCount
  let rest := s.lki.notices.drop pollCount
  doneWith (s.setLki { s.lki with notices := rest, lost := 0, attn := !rest.isEmpty })
    (byteOf l.length :: (enc2 s.lki.lost ++ l.flatMap encNotice))

/-- R198: the subjects for which a condition is set now; an event has none. -/
def State.conditionsSet (s : State) (k : NoticeKind) : List (Option Nat) :=
  let one (b : Bool) (x : Option Nat) : List (Option Nat) := if b then [x] else []
  match k with
  | .SLOT_MATCH => one s.tmc.slotMatch s.tmc.comparePos
  | .THERMAL_WARM => one s.thc.warm none
  | .THERMAL_TRIP => one s.thc.trip none
  | .SENSOR_LOST => one s.thc.lost none
  | .FAN_FAULT => one s.thc.fanFault none
  | .COOLDOWN => one s.thc.cooldown.isSome none
  | .NO_LAMP => one s.lmc.noLamp none
  | .LAMP_LIFE => one s.lmc.recA.life (some 0) ++ one s.lmc.recB.life (some 1)
  | .CUE_SYNC => one s.cud.cueSync none
  | .CUE_DEGRADED => one s.cud.degraded none
  | .TAPE_SPEED_OFF => one s.cud.speedOff none
  | .STORE_LOST => one s.sts.storeLost none
  | _ => []

def reqNoticeEnable (kind flag : Byte) (s : State) : Answer :=
  match NoticeKind.ofCode kind.toNat with
  | none => deny s .BAD_VALUE
  | some k =>
    if 1 < flag.toNat then deny s .BAD_VALUE
    else
      let on := decide (flag = 1)
      let s1 := s.setLki { s.lki with enables := s.lki.enables.set k.code on }
      let s2 := if on && !s.lki.enabled k then
          (s.conditionsSet k).foldl (fun t x => t.condNotice k true x) s1 else s1
      doneWith s2 [kind, flag]

/-! ## LAMP_RESET (R56) -/

/-- R56: the record of a position is made new. -/
def State.resetLampRec (s : State) (p : LampPos) : State :=
  State.evalNoLamp (State.evalLife (s.setLmc (s.lmc.setLamp p
    { s.lmc.lamp p with failed := false, lit := 0, ignitions := 0, acc := 0 })) p)

def reqLampReset (pos : Byte) (s : State) : Answer :=
  match [LampPos.A, .B][pos.toNat]? with
  | none => deny s .BAD_VALUE
  | some p =>
    if p = s.lmc.active ∧ s.lmc.power ≠ .OFF then deny s .BUSY else done (s.resetLampRec p)

/-! ## ASSIGN (R184) -/

/-- R184: a broadcast ASSIGN; a status other than DONE stands for "counted". -/
def reqAssign (serial : BitVec 32) (addr : Byte) (s : State) : Answer :=
  match s.lki.addr with
  | .UNASSIGNED =>
    if serial ≠ s.sts.serial then done s
    else if 1 ≤ addr.toNat ∧ addr.toNat ≤ 30 then
      done (s.setLki { s.lki with addr := .ASSIGNED addr.toNat, assignTaken := true })
    else deny s .BAD_VALUE
  | .ASSIGNED _ => if s.lki.assignTaken ∧ serial ≠ s.sts.serial then done s else deny s .REFUSED_STATE
  | .LISTEN_ONLY => deny s .REFUSED_STATE

/-! ## UNIT_RESET (R190, R191) -/

/-- R81: LMC at the start of a unit reset. -/
def State.resetLampBlock (s : State) : State :=
  s.setLmc { s.lmc with ramp := none, level := 0, blanks := { s.lmc.blanks with manual := false } }

/-- R165: SSQ at the start of a unit reset. -/
def State.resetShow (s : State) : State :=
  let h := s.storedSettings.head
  let v := (s.ssq.step h).valid
  s.setSsq { s.ssq with
    head := h, st := if v then .READY else .UNLOADED, ptr := if v then some h else none, pausedFrom := none
    pend := none, watched := none, follow := .stopped, remembered := none, skipped := 0 }

/-- R117: TTC at the start of a unit reset. -/
def State.resetTape (s : State) : State :=
  match s.ttc.st with
  | .PLAY | .PAUSE | .FFWD | .REWIND => s.setTransport .STOPPED
  | .EMPTY | .STOPPED => s

/-- R22: AQ at the start of a unit reset; SSQ takes no action at the reports (R165). -/
def State.resetQueue (s : State) : State :=
  State.flushReported (s.setAq { s.aq with mode := s.aq.startMode, stopPending := false }) coverAll false false

/-- R50: TMC at the start of a unit reset. -/
def State.resetMech (s : State) : State :=
  let s1 := s.clearMatch s.tmc.comparePos
  let s2 := s1.setTmc { s1.tmc with comparePos := none, clearMode := .AUTO }
  if s2.tmc.st = .JAMMED then s2.startHoming else s2

/-- R190: RESETTING is set and every block applies its values (log 27); then the end is tested (R191). -/
def State.unitReset (s : State) : State :=
  let s1 := s.setLki { s.lki with resetting := true, copies := s.lki.copies.map (fun _ => none) }
  (((s1.resetLampBlock.resetShow.resetTape.resetCue.resetRemote.resetQueue.resetMech).runHead).resetEnd)

def reqUnitReset (s : State) : Answer := { state := s.unitReset, status := .ACCEPTED, body := [] }

/-! ## Judging (R182) -/

/-- R182, test 3: the requests that are locked while a save runs. -/
def Req.locked : Req → Bool
  | .set param _ _ => persistent param.toNat
  | .stepWrite _ _ _ | .arm _ | .slotFlags _ _ _ | .lampReset _ => true
  | _ => false

/-- R182, test 4: the owner judges the request. -/
def applyReq (s : State) (r : Req) : Answer :=
  match r with
  | .query group page => reqQuery group page s
  | .set param index value => reqSet param index value s
  | .action slot => reqAction slot s
  | .control sub arg =>
    match Sub.ofCode sub with
    | some x => reqControl x arg s
    | none => deny s .BAD_REQUEST
  | .stepWrite index mode record => reqStepWrite index mode record s
  | .stepRead index => reqStepRead index s
  | .arm head => reqArm head s
  | .slotFlags first last flag => reqSlotFlags first last flag s
  | .slotRead first count => reqSlotRead first count s
  | .countersRead group => reqCountersRead group s
  | .noticePoll => reqNoticePoll s
  | .noticeEnable kind flag => reqNoticeEnable kind flag s
  | .lampReset pos => reqLampReset pos s
  | .unitReset => reqUnitReset s
  | .assign serial addr => reqAssign serial addr s

/-- R184, R199: a broadcast NOTICE_POLL and an ASSIGN to one station are BAD_REQUEST. -/
def Req.misaddressed (broadcast : Bool) : Req → Bool
  | .noticePoll => broadcast
  | .assign _ _ => !broadcast
  | _ => false

/-- R182: the tests in their order; `r` none: an unknown kind or a wrong length. A request stopped here is answered
with its status alone, a SET too (log 21). -/
def judge (s : State) (broadcast : Bool) (r : Option Req) : Answer :=
  if s.lki.resetting then deny s .RESETTING
  else
    match r with
    | none => deny s .BAD_REQUEST
    | some q =>
      if q.misaddressed broadcast then deny s .BAD_REQUEST
      else if s.sts.save.isSome && q.locked then deny s .LOCKED
      else applyReq s q

/-- R182: a request that is refused is counted. -/
def Answer.counted (a : Answer) : State :=
  match a.status with
  | .DONE | .ACCEPTED => a.state
  | _ => a.state.count .linkRefused

/-- R181: the response is formed and PENDING. -/
def State.respond (s : State) (own kind dest : Byte) (a : Answer) : State :=
  let r : Response := { dest := dest, src := own, kind := kind + 0x80, payload := a.status.code :: a.body }
  s.setLki { s.lki with resp := .PENDING r s.now }

/-- R180: how a frame is taken: not at all, as an addressed request of the own address, or as a broadcast. -/
inductive Route where
  | discard
  | addressed (own : Byte)
  | broadcast
  deriving DecidableEq, Repr

/-- The destination of a broadcast, and the kind code of ASSIGN. -/
def broadcastDest : Nat := 31
def assignKind : Nat := 0x0F

/-- R180. -/
def route (addr : AddrState) (dest kind : Byte) : Route :=
  if 0x80 ≤ kind.toNat then .discard
  else
    match addr with
    | .ASSIGNED a =>
      if dest.toNat = a then .addressed dest else if dest.toNat = broadcastDest then .broadcast else .discard
    | .LISTEN_ONLY => if dest.toNat = broadcastDest then .broadcast else .discard
    | .UNASSIGNED => if dest.toNat = broadcastDest ∧ kind.toNat = assignKind then .broadcast else .discard

/-- R180 to R182: a good frame is taken. -/
def State.takeRequest (s : State) (h : LinkHdr) (kind : Byte) (r : Option Req) : State :=
  match route s.lki.addr h.dest kind with
  | .discard => s
  | .broadcast => (judge s true r).counted
  | .addressed own => (judge s false r).counted.respond own kind h.src (judge s false r)

/-- R181: anything received withholds a response that is pending. -/
def State.withhold (s : State) : State :=
  match s.lki.resp with
  | .PENDING _ _ => s.setLki { s.lki with resp := .NONE }
  | .NONE | .SENDING _ => s

/-- R178: while a response is being sent, LKI does not read its receiver. -/
def State.deaf (s : State) : Bool :=
  match s.lki.resp with
  | .SENDING _ => true
  | .NONE | .PENDING _ _ => false

/-- R178: the driver-enable output. -/
def driverEnable (s : State) : Bool := s.deaf

/-- A request that arrives whole (log 5). -/
def request (h : LinkHdr) (r : Req) (s : State) : State :=
  if s.deaf then s else s.withhold.takeRequest h r.code (some r)

/-- A STEP_WRITE that arrives whole; a record that is not 26 bytes long gives a wrong length (R182, log 5). -/
def requestStepWrite (h : LinkHdr) (index mode : Byte) (record : List Byte) (s : State) : State :=
  if s.deaf then s
  else s.withhold.takeRequest h 0x05 (if record.length = 26 then some (.stepWrite index mode record) else none)

/-! ## Reception of bytes (R179) -/

/-- R179: the byte that begins a frame, and the longest payload. -/
def startByte : Byte := 0xC3
def maxPayload : Nat := 32

/-- R179: an abandoned frame. -/
def State.abandon (s : State) : State := (s.setLki { s.lki with rx := none }).count .linkCheck

/-- R179: the sum of bytes, modulo 256. -/
def byteSum (l : List Byte) : Byte := l.foldl (· + ·) 0

/-- R179: the check byte of a frame has come: `l` is destination, source, kind, length, payload and check. -/
def State.frameEnds (s : State) (l : List Byte) : State :=
  let s1 := s.setLki { s.lki with rx := none }
  if byteSum l = 0 then
    (s1.count .linkGood).takeRequest { dest := l.getD 0 0, src := l.getD 1 0 } (l.getD 2 0)
      (decodeReq (l.getD 2 0) ((l.drop 4).take (l.getD 3 0).toNat))
  else s1.count .linkCheck

/-- R179: the longest gap between two bytes of a frame. -/
def gapTime : Nat := msec 2

/-- R178: how long a byte lasts, in whole microseconds (log 2). -/
def byteTime : Nat := 260

/-- R179: the frame goes on after the bytes `l`, the last of which ends now. -/
def State.receiving (s : State) (l : List Byte) : State :=
  s.setLki { s.lki with rx := some { bytes := l, gapDue := s.now + gapTime } }

/-- R179: a byte ends now whose start bit came more than 2 ms after the byte before it in the frame (log 2). -/
def State.gapPassed (s : State) : Bool :=
  match s.lki.rx with
  | some r => decide (r.gapDue + byteTime < s.now)
  | none => false

/-- R179: a byte in RECEIVING, after the bytes `before`. -/
def State.nextByte (s : State) (before : List Byte) (b : Byte) : State :=
  let l := before ++ [b]
  if l.length = 4 ∧ maxPayload < b.toNat then s.abandon
  else if 4 < l.length ∧ l.length = (l.getD 3 0).toNat + 5 then s.frameEnds l
  else s.receiving l

/-- R178, R179: a byte the receiver reads. -/
def State.receive (s : State) (b : Byte) (damaged : Bool) : State :=
  match s.lki.rx with
  | none => if damaged || b != startByte then s else s.receiving []
  | some r => if damaged then s.abandon else s.nextByte r.bytes b

def linkByte (b : Byte) (damaged : Bool) (s : State) : State :=
  if s.deaf then s
  else if s.withhold.gapPassed then s.withhold.abandon.receive b damaged
  else s.withhold.receive b damaged

def linkByteGapExpiry (s : State) : State := s.whenDue (s.lki.rx.map LinkRx.gapDue) State.abandon

/-! ## Responses (R181) -/

/-- R181: the least time from the request to its response. -/
def responseTime : Nat := 500

def responseStart (s : State) : State :=
  match s.lki.resp with
  | .PENDING r since =>
    if s.lki.rx.isSome then s
    else (s.reach (since + responseTime)).setLki { s.lki with resp := .SENDING r }
  | .NONE | .SENDING _ => s

def responseEnd (s : State) : State :=
  match s.lki.resp with
  | .SENDING _ => s.setLki { s.lki with resp := .NONE }
  | .NONE | .PENDING _ _ => s

/-- Section 9.7: the bytes of a response frame as they are sent. -/
def Response.bytes (r : Response) : List Byte :=
  let l := [r.dest, r.src, r.kind, byteOf r.payload.length] ++ r.payload
  startByte :: (l ++ [0 - byteSum l])

/-! ## The commands -/

def execLinkByte (dt : Nat) (b : Byte) (damaged : Bool) (s : State) : Host.Outcome State Fault Refusal :=
  .next (s.take dt (linkByte b damaged))
def execLinkByteGapExpiry (dt : Nat) (s : State) : Host.Outcome State Fault Refusal :=
  .next (s.take dt linkByteGapExpiry)
def execResponseStart (dt : Nat) (s : State) : Host.Outcome State Fault Refusal := .next (s.take dt responseStart)
def execResponseEnd (dt : Nat) (s : State) : Host.Outcome State Fault Refusal := .next (s.take dt responseEnd)
def execQuery (dt : Nat) (h : LinkHdr) (group page : Byte) (s : State) : Host.Outcome State Fault Refusal :=
  .next (s.take dt (request h (.query group page)))
def execSet (dt : Nat) (h : LinkHdr) (param index : Byte) (value : BitVec 32) (s : State) :
    Host.Outcome State Fault Refusal :=
  .next (s.take dt (request h (.set param index value)))
def execAction (dt : Nat) (h : LinkHdr) (slot : SlotBytes) (s : State) : Host.Outcome State Fault Refusal :=
  .next (s.take dt (request h (.action slot)))
def execControlStop (dt : Nat) (h : LinkHdr) (arg : Byte) (s : State) : Host.Outcome State Fault Refusal :=
  .next (s.take dt (request h (.control Sub.STOP.code arg)))
def execControlPause (dt : Nat) (h : LinkHdr) (arg : Byte) (s : State) : Host.Outcome State Fault Refusal :=
  .next (s.take dt (request h (.control Sub.PAUSE.code arg)))
def execControlResume (dt : Nat) (h : LinkHdr) (arg : Byte) (s : State) : Host.Outcome State Fault Refusal :=
  .next (s.take dt (request h (.control Sub.RESUME.code arg)))
def execControlAdvance (dt : Nat) (h : LinkHdr) (arg : Byte) (s : State) : Host.Outcome State Fault Refusal :=
  .next (s.take dt (request h (.control Sub.ADVANCE.code arg)))
def execControlMode (dt : Nat) (h : LinkHdr) (arg : Byte) (s : State) : Host.Outcome State Fault Refusal :=
  .next (s.take dt (request h (.control Sub.MODE.code arg)))
def execControlClearJam (dt : Nat) (h : LinkHdr) (arg : Byte) (s : State) : Host.Outcome State Fault Refusal :=
  .next (s.take dt (request h (.control Sub.CLEAR_JAM.code arg)))
def execControlClearMatch (dt : Nat) (h : LinkHdr) (arg : Byte) (s : State) : Host.Outcome State Fault Refusal :=
  .next (s.take dt (request h (.control Sub.CLEAR_MATCH.code arg)))
def execControlBlank (dt : Nat) (h : LinkHdr) (arg : Byte) (s : State) : Host.Outcome State Fault Refusal :=
  .next (s.take dt (request h (.control Sub.BLANK.code arg)))
def execControlLamp (dt : Nat) (h : LinkHdr) (arg : Byte) (s : State) : Host.Outcome State Fault Refusal :=
  .next (s.take dt (request h (.control Sub.LAMP.code arg)))
def execControlStandby (dt : Nat) (h : LinkHdr) (arg : Byte) (s : State) : Host.Outcome State Fault Refusal :=
  .next (s.take dt (request h (.control Sub.STANDBY.code arg)))
def execControlWake (dt : Nat) (h : LinkHdr) (arg : Byte) (s : State) : Host.Outcome State Fault Refusal :=
  .next (s.take dt (request h (.control Sub.WAKE.code arg)))
def execControlTape (dt : Nat) (h : LinkHdr) (arg : Byte) (s : State) : Host.Outcome State Fault Refusal :=
  .next (s.take dt (request h (.control Sub.TAPE.code arg)))
def execControlSnapshot (dt : Nat) (h : LinkHdr) (arg : Byte) (s : State) : Host.Outcome State Fault Refusal :=
  .next (s.take dt (request h (.control Sub.SNAPSHOT.code arg)))
def execControlSave (dt : Nat) (h : LinkHdr) (arg : Byte) (s : State) : Host.Outcome State Fault Refusal :=
  .next (s.take dt (request h (.control Sub.SAVE.code arg)))
def execStepWrite (dt : Nat) (h : LinkHdr) (index mode : Byte) (record : List Byte) (s : State) :
    Host.Outcome State Fault Refusal :=
  .next (s.take dt (requestStepWrite h index mode record))
def execStepRead (dt : Nat) (h : LinkHdr) (index : Byte) (s : State) : Host.Outcome State Fault Refusal :=
  .next (s.take dt (request h (.stepRead index)))
def execArm (dt : Nat) (h : LinkHdr) (head : Byte) (s : State) : Host.Outcome State Fault Refusal :=
  .next (s.take dt (request h (.arm head)))
def execSlotFlags (dt : Nat) (h : LinkHdr) (first last flag : Byte) (s : State) :
    Host.Outcome State Fault Refusal :=
  .next (s.take dt (request h (.slotFlags first last flag)))
def execSlotRead (dt : Nat) (h : LinkHdr) (first count : Byte) (s : State) : Host.Outcome State Fault Refusal :=
  .next (s.take dt (request h (.slotRead first count)))
def execCountersRead (dt : Nat) (h : LinkHdr) (group : Byte) (s : State) : Host.Outcome State Fault Refusal :=
  .next (s.take dt (request h (.countersRead group)))
def execNoticePoll (dt : Nat) (h : LinkHdr) (s : State) : Host.Outcome State Fault Refusal :=
  .next (s.take dt (request h .noticePoll))
def execNoticeEnable (dt : Nat) (h : LinkHdr) (kind flag : Byte) (s : State) : Host.Outcome State Fault Refusal :=
  .next (s.take dt (request h (.noticeEnable kind flag)))
def execLampReset (dt : Nat) (h : LinkHdr) (pos : Byte) (s : State) : Host.Outcome State Fault Refusal :=
  .next (s.take dt (request h (.lampReset pos)))
def execUnitReset (dt : Nat) (h : LinkHdr) (s : State) : Host.Outcome State Fault Refusal :=
  .next (s.take dt (request h .unitReset))
def execAssign (dt : Nat) (h : LinkHdr) (serial : BitVec 32) (addr : Byte) (s : State) :
    Host.Outcome State Fault Refusal :=
  .next (s.take dt (request h (.assign serial addr)))

/-- R191: the test of the end of RESETTING (log 4). -/
def execResettingEnd (dt : Nat) (s : State) : Host.Outcome State Fault Refusal :=
  .next (s.take dt State.resetEnd)

end Sys2Proof.Machine
end

