-- ==== Sys2Proof/Machine/Dispatch.lean ====
section
/-!
DEFINITION. The meaning of every command: one direct call for each.
-/

namespace Sys2Proof.Machine

def exec (i : Instr) (s : State) : Host.Outcome State Fault Refusal :=
  match i with
  | .powerOn lines => Sys2Proof.Machine.execPowerOn lines s
  | .linkByte dt b damaged => Sys2Proof.Machine.execLinkByte dt b damaged s
  | .linkByteGapExpiry dt => Sys2Proof.Machine.execLinkByteGapExpiry dt s
  | .responseStart dt => Sys2Proof.Machine.execResponseStart dt s
  | .responseEnd dt => Sys2Proof.Machine.execResponseEnd dt s
  | .query dt h group page => Sys2Proof.Machine.execQuery dt h group page s
  | .set dt h param index value => Sys2Proof.Machine.execSet dt h param index value s
  | .action dt h slot => Sys2Proof.Machine.execAction dt h slot s
  | .controlStop dt h arg => Sys2Proof.Machine.execControlStop dt h arg s
  | .controlPause dt h arg => Sys2Proof.Machine.execControlPause dt h arg s
  | .controlResume dt h arg => Sys2Proof.Machine.execControlResume dt h arg s
  | .controlAdvance dt h arg => Sys2Proof.Machine.execControlAdvance dt h arg s
  | .controlMode dt h arg => Sys2Proof.Machine.execControlMode dt h arg s
  | .controlClearJam dt h arg => Sys2Proof.Machine.execControlClearJam dt h arg s
  | .controlClearMatch dt h arg => Sys2Proof.Machine.execControlClearMatch dt h arg s
  | .controlBlank dt h arg => Sys2Proof.Machine.execControlBlank dt h arg s
  | .controlLamp dt h arg => Sys2Proof.Machine.execControlLamp dt h arg s
  | .controlStandby dt h arg => Sys2Proof.Machine.execControlStandby dt h arg s
  | .controlWake dt h arg => Sys2Proof.Machine.execControlWake dt h arg s
  | .controlTape dt h arg => Sys2Proof.Machine.execControlTape dt h arg s
  | .controlSnapshot dt h arg => Sys2Proof.Machine.execControlSnapshot dt h arg s
  | .controlSave dt h arg => Sys2Proof.Machine.execControlSave dt h arg s
  | .stepWrite dt h index mode record => Sys2Proof.Machine.execStepWrite dt h index mode record s
  | .stepRead dt h index => Sys2Proof.Machine.execStepRead dt h index s
  | .arm dt h head => Sys2Proof.Machine.execArm dt h head s
  | .slotFlags dt h first last flag => Sys2Proof.Machine.execSlotFlags dt h first last flag s
  | .slotRead dt h first count => Sys2Proof.Machine.execSlotRead dt h first count s
  | .countersRead dt h group => Sys2Proof.Machine.execCountersRead dt h group s
  | .noticePoll dt h => Sys2Proof.Machine.execNoticePoll dt h s
  | .noticeEnable dt h kind flag => Sys2Proof.Machine.execNoticeEnable dt h kind flag s
  | .lampReset dt h pos => Sys2Proof.Machine.execLampReset dt h pos s
  | .unitReset dt h => Sys2Proof.Machine.execUnitReset dt h s
  | .assign dt h serial addr => Sys2Proof.Machine.execAssign dt h serial addr s
  | .resettingEnd dt => Sys2Proof.Machine.execResettingEnd dt s
  | .remoteFrame dt line bits => Sys2Proof.Machine.execRemoteFrame dt line bits s
  | .remoteMalformed dt line times => Sys2Proof.Machine.execRemoteMalformed dt line times s
  | .remoteReleaseExpiry dt line => Sys2Proof.Machine.execRemoteReleaseExpiry dt line s
  | .panelLineChange dt key closed => Sys2Proof.Machine.execPanelLineChange dt key closed s
  | .panelDebounceExpiry dt key => Sys2Proof.Machine.execPanelDebounceExpiry dt key s
  | .panelRepeatStep dt key => Sys2Proof.Machine.execPanelRepeatStep dt key s
  | .panelModeHold dt => Sys2Proof.Machine.execPanelModeHold dt s
  | .panelStopHold dt => Sys2Proof.Machine.execPanelStopHold dt s
  | .panelPowerHold dt => Sys2Proof.Machine.execPanelPowerHold dt s
  | .holdExpiry dt => Sys2Proof.Machine.execHoldExpiry dt s
  | .pacingRunOut dt => Sys2Proof.Machine.execPacingRunOut dt s
  | .trayInsertion dt => Sys2Proof.Machine.execTrayInsertion dt s
  | .trayQualifyExpiry dt code => Sys2Proof.Machine.execTrayQualifyExpiry dt code s
  | .trayRemoval dt => Sys2Proof.Machine.execTrayRemoval dt s
  | .tDarkExpiry dt m => Sys2Proof.Machine.execTDarkExpiry dt m s
  | .lifterUpConfirm dt m => Sys2Proof.Machine.execLifterUpConfirm dt m s
  | .liftTimerExpiry dt => Sys2Proof.Machine.execLiftTimerExpiry dt s
  | .dropTimerExpiry dt => Sys2Proof.Machine.execDropTimerExpiry dt s
  | .retryPauseExpiry dt m => Sys2Proof.Machine.execRetryPauseExpiry dt m s
  | .indexPulse dt m => Sys2Proof.Machine.execIndexPulse dt m s
  | .indexWaitExpiry dt => Sys2Proof.Machine.execIndexWaitExpiry dt s
  | .lifterDownConfirm dt m => Sys2Proof.Machine.execLifterDownConfirm dt m s
  | .settleExpiry dt => Sys2Proof.Machine.execSettleExpiry dt s
  | .lampUpdate dt low => Sys2Proof.Machine.execLampUpdate dt low s
  | .lampFailure dt => Sys2Proof.Machine.execLampFailure dt s
  | .changerMotionEnd dt low => Sys2Proof.Machine.execChangerMotionEnd dt low s
  | .ignitionComplete dt low => Sys2Proof.Machine.execIgnitionComplete dt low s
  | .rampEnd dt low => Sys2Proof.Machine.execRampEnd dt low s
  | .litSecond dt low => Sys2Proof.Machine.execLitSecond dt low s
  | .lampPresentChange dt pos present => Sys2Proof.Machine.execLampPresentChange dt pos present s
  | .temperatureSample dt good reading => Sys2Proof.Machine.execTemperatureSample dt good reading s
  | .sensorLossTimerExpiry dt => Sys2Proof.Machine.execSensorLossTimerExpiry dt s
  | .lossTime30s dt => Sys2Proof.Machine.execLossTime30s dt s
  | .tCoolExpiry dt => Sys2Proof.Machine.execTCoolExpiry dt s
  | .fanKickExpiry dt => Sys2Proof.Machine.execFanKickExpiry dt s
  | .fanTachPulse dt => Sys2Proof.Machine.execFanTachPulse dt s
  | .tachWindowEnd dt => Sys2Proof.Machine.execTachWindowEnd dt s
  | .cassettePresentChange dt present => Sys2Proof.Machine.execCassettePresentChange dt present s
  | .fgPulse dt => Sys2Proof.Machine.execFgPulse dt s
  | .fgTimerExpiry dt => Sys2Proof.Machine.execFgTimerExpiry dt s
  | .reelPulse dt reel => Sys2Proof.Machine.execReelPulse dt reel s
  | .takeUpReelTimerExpiry dt => Sys2Proof.Machine.execTakeUpReelTimerExpiry dt s
  | .supplyReelTimerExpiry dt => Sys2Proof.Machine.execSupplyReelTimerExpiry dt s
  | .unlockTimer300ms dt => Sys2Proof.Machine.execUnlockTimer300ms dt s
  | .volumeStep dt => Sys2Proof.Machine.execVolumeStep dt s
  | .i2sFrame dt left right => Sys2Proof.Machine.execI2sFrame dt left right s
  | .carrierDetect dt gap => Sys2Proof.Machine.execCarrierDetect dt gap s
  | .carrierTimerExpiry dt => Sys2Proof.Machine.execCarrierTimerExpiry dt s
  | .cueFrame dt cells => Sys2Proof.Machine.execCueFrame dt cells s
  | .degradeWindowClose dt cells => Sys2Proof.Machine.execDegradeWindowClose dt cells s
  | .speedOffTimerExpiry dt => Sys2Proof.Machine.execSpeedOffTimerExpiry dt s
  | .regenSlot dt => Sys2Proof.Machine.execRegenSlot dt s
  | .followExpiry dt => Sys2Proof.Machine.execFollowExpiry dt s
  | .followDueCheck dt => Sys2Proof.Machine.execFollowDueCheck dt s
  | .saveEnd dt => Sys2Proof.Machine.execSaveEnd dt s
  | .litTimerExpiry dt => Sys2Proof.Machine.execLitTimerExpiry dt s
  | .snapshotTimerExpiry dt => Sys2Proof.Machine.execSnapshotTimerExpiry dt s
  | .cueInputEdge dt => Sys2Proof.Machine.execCueInputEdge dt s
  | .powerLoss => Sys2Proof.Machine.execPowerLoss s

end Sys2Proof.Machine
end

