-- ==== Sys2Proof/Safety.lean ====
section
/-!
DEFINITION. What must hold of the part after every command, and the words in which its commands are stated: the safety of
the lamp and the mechanism, the shape of the queue, the sequencer, the notices and the tray, and what it is for a request
to be addressed to this station and to be answered.
-/

namespace Sys2Proof.Machine

/-! ## What a command leaves as it is -/

/-- The blocks of the part. -/
inductive Block where
  | aq | tmc | lmc | thc | ttc | cud | ssq | rpd | lki | cnt | sts
  deriving DecidableEq, Repr

/-- `u` is `s` but for the blocks named and the clock. -/
def State.sameBut (s u : State) (changed : List Block) : Prop :=
  u.powered = s.powered ∧ u.free = s.free ∧ u.pending = s.pending ∧ (.aq ∉ changed → u.aq = s.aq) ∧
    (.tmc ∉ changed → u.tmc = s.tmc) ∧ (.lmc ∉ changed → u.lmc = s.lmc) ∧ (.thc ∉ changed → u.thc = s.thc) ∧
    (.ttc ∉ changed → u.ttc = s.ttc) ∧ (.cud ∉ changed → u.cud = s.cud) ∧ (.ssq ∉ changed → u.ssq = s.ssq) ∧
    (.rpd ∉ changed → u.rpd = s.rpd) ∧ (.lki ∉ changed → u.lki = s.lki) ∧ (.cnt ∉ changed → u.cnt = s.cnt) ∧
    (.sts ∉ changed → u.sts = s.sts)

/-! ## The action queue (R8, R14) -/

/-- R14: a HOLD that runs. -/
def Entry.holds (e : Entry) : Bool :=
  e.running && (match e.action with
    | .HOLD _ => true
    | _ => false)

/-- R8, R14: at most 12 entries, only the oldest RUNNING, a step tag exactly on the entries of SHOW origin, and the HOLD
timer runs only while the oldest is a RUNNING HOLD. -/
def QueueInv (s : State) : Prop :=
  s.aq.queue.length ≤ 12 ∧ (∀ e ∈ s.aq.queue.tail, e.running = false) ∧
    (∀ e ∈ s.aq.queue, e.tag.isSome = (e.origin == .SHOW)) ∧
    (s.aq.holdDue.isSome = true → s.aq.queue.head?.any Entry.holds = true)

/-! ## The notice queue (R196, R200) -/

/-- R196: at most 16 notices, and ATTN asserted exactly while there is one. -/
def NoticeInv (s : State) : Prop := s.lki.notices.length ≤ 16 ∧ s.lki.attn = !s.lki.notices.isEmpty

/-! ## The lamp (R51, R57, R61, R83, R94) -/

/-- R57, R61, R94: the lamp is on only with no trip, no fan fault and the part ACTIVE; a sensor loss of 30 s has put it
out (R83); and the drive is taken away with it (R51). -/
def LampInv (s : State) : Prop :=
  (s.lmc.power ≠ .OFF → s.thc.trip = false ∧ s.thc.fanFault = false ∧ s.thc.power = .ACTIVE) ∧
    (s.thc.lost = true → s.thc.loss30 = true → s.lmc.power = .OFF ∨ s.lmc.power = .SWAPPING) ∧
    (s.lmc.power = .OFF ∨ s.lmc.power = .SWAPPING → s.lmc.outDrive = 0)

/-! ## The mechanism (R30 to R46) -/

/-- The mechanism is in a cycle. -/
def MechState.moving : MechState → Bool
  | .HOMING | .CHANGING | .SEEKING => true
  | .PARKED | .IDLE | .JAMMED => false

/-- Section 2.3, R31 to R45: the phase, the timer that runs in it and the drives that are on in it. Outside a cycle, and in
DARKEN and SETTLE, both drives are released. -/
def Tmc.inPhase (t : Tmc) : Bool :=
  match t.phase, t.timer.map Prod.fst with
  | none, none => !t.st.moving && t.lifter == .released && t.trayDrive == none
  | some .DARKEN, none => t.st.moving && t.lifter == .released && t.trayDrive == none
  | some .DARKEN, some .tDark => t.st.moving && t.lifter == .released && t.trayDrive == none
  | some .LIFT, some .lift => t.st.moving && t.lifter == .up && t.trayDrive == none
  | some .LIFT, some .retryPause => t.st.moving && t.lifter == .released && t.trayDrive == none
  | some .STEP, some .indexWait => t.st == .CHANGING && t.lifter == .up && t.trayDrive.isSome
  | some .ROTATE, some .indexWait => t.st == .SEEKING && t.lifter == .up && t.trayDrive.isSome
  | some .SEARCH, some .indexWait => t.st == .HOMING && t.lifter == .up && t.trayDrive.isSome
  | some .DROP, some .drop => t.st.moving && t.lifter == .down && t.trayDrive == none
  | some .DROP, some .retryPause => t.st.moving && t.lifter == .released && t.trayDrive == none
  | some .SETTLE, some .settle => t.st.moving && t.lifter == .released && t.trayDrive == none
  | _, _ => false

/-- R30: MECH stands exactly outside IDLE, the mechanism is in one of its phases, and from the start of t_dark to the end
of the cycle the last output level is 0. A tray that is being qualified, or is not there, finds the mechanism PARKED. -/
def MechInv (s : State) : Prop :=
  s.lmc.blanks.mech = decide (s.tmc.st ≠ .IDLE) ∧ s.tmc.inPhase = true ∧
    (s.tmc.timer.isSome = true → s.lmc.outLevel = 0) ∧
    (s.tmc.qualDue.isSome = true → s.tmc.st = .PARKED ∧ s.tmc.trayPresent = true) ∧
    (s.tmc.trayPresent = false → s.tmc.st = .PARKED)

/-- R30: a drive of the mechanism is on. -/
def State.mechDriven (s : State) : Prop := s.tmc.lifter ≠ .released ∨ s.tmc.trayDrive ≠ none

/-! ## The tray (R24 to R29) -/

/-- R26, R27: the gate holds a slot whose slide it took. -/
def gateOk (t : Tmc) : Prop :=
  match t.gate with
  | .LOADED p => 1 ≤ p ∧ t.slots[p]?.map SlotRec.occ = some .PRESENT
  | .EMPTY | .UNKNOWN => True

/-- R24 to R29: the slot table has a record for each of 0..120, position 0 is EMPTY and never blanked, jam counts are at most
3, the size is 80, 120 or none, none exactly while PARKED, and the position lies within the tray. -/
def TrayInv (s : State) : Prop :=
  s.tmc.slots.length = 121 ∧ s.tmc.slots[0]?.map SlotRec.occ = some .EMPTY ∧
    s.tmc.slots[0]?.map SlotRec.blank = some false ∧ (∀ r ∈ s.tmc.slots, r.jams ≤ 3) ∧
    (s.tmc.size = none ∨ s.tmc.size = some 80 ∨ s.tmc.size = some 120) ∧
    (s.tmc.st = .PARKED ↔ s.tmc.size = none) ∧ (s.tmc.st = .PARKED → s.tmc.pos = none) ∧
    (∀ p, s.tmc.pos = some p → p ≤ s.tmc.trayS) ∧ gateOk s.tmc

/-! ## The sequencer (R143 to R164) -/

/-- R146 to R162: the pointer, the pending fire, the FOLLOW timer and the remembered cue that each sequencer state allows,
and a valid head in every state but UNLOADED. -/
def SeqInv (q : Ssq) : Prop :=
  (q.st ≠ .UNLOADED → (q.step q.head).valid = true) ∧
    (q.st = .UNLOADED ∨ q.st = .ENDED → q.ptr = none) ∧
    (q.st = .READY ∨ q.pausedFrom = some .READY →
      q.ptr = some q.head ∧ q.watched = none ∧ q.pend = none ∧ q.follow = .stopped) ∧
    (q.st = .PAUSED ↔ q.pausedFrom = some .READY ∨ q.pausedFrom = some .RUNNING) ∧
    (q.st ≠ .PAUSED → q.pausedFrom = none) ∧
    (q.remembered.isSome = true → q.st = .PAUSED) ∧
    (q.ptr = none → q.follow = .stopped) ∧
    (∀ p, q.pend = some p → p.need = q.need p.index p.chase ∧ (q.st = .RUNNING ∨ q.st = .PAUSED)) ∧
    (match q.follow with
      | .stopped => True
      | .running _ => q.st = .RUNNING
      | .frozen _ => q.st = .PAUSED
      | .due => q.st = .RUNNING ∨ q.st = .PAUSED) ∧
    q.skipped ≤ 65535

/-! ## The outputs (R96, R112) -/

/-- R96, R112: the power hold line and the effective target are what the rest of the state asks for. -/
def OutputInv (s : State) : Prop := s.thc.hold = holdLine s ∧ s.ttc.effTarget = effectiveTarget s

/-! ## The cue track (R121, R126, R136, R138) -/

/-- The last 32 bit positions are at most 32 and the regenerator buffer holds at most 4 frames; CUE_SYNC is set exactly in SYNC,
in which there is a carrier; cue-out is SENDING exactly in SYNC with relay enabled, and an idle cue-out has an empty buffer. -/
def CueInv (s : State) : Prop :=
  s.cud.bits.length ≤ 32 ∧ s.cud.buf.length ≤ 4 ∧ s.cud.cueSync = decide (s.cud.framing = .SYNC) ∧
    (s.cud.carrier = false → s.cud.framing = .HUNT) ∧
    s.cud.sending = (s.cud.par.relay && decide (s.cud.framing = .SYNC)) ∧ (s.cud.sending = false → s.cud.buf = [])

/-- What a bit position of the track is to the framing: a bit, or none for a void bit. -/
def cellValue : CueCell → Option Bool
  | .bit b _ => some b
  | .void => none

/-! ## Tables and ranges (R27, R76, R104, R112, R143, R198) -/

/-- R76: a response table: 33 entries that do not fall. -/
abbrev tableOk (l : List Nat) : Prop := l.length = 33 ∧ l.Pairwise (· ≤ ·)

/-- R201: a record of settings: its tables have their lengths, and the values below are in their ranges. -/
def Settings.ok (x : Settings) : Prop :=
  x.flags.length = 121 ∧ x.steps.length = 256 ∧ x.enables.length = 34 ∧ tableOk x.lmc.table ∧ 10 ≤ x.lmc.ignTime ∧
    -60 ≤ x.ttc.trimT ∧ x.ttc.trimT ≤ 60 ∧ x.ttc.volTarget ≤ 63

/-- The working values, the settings record and the image of a save in progress are in shape, and so are the tables of the
state that the record does not hold; an ignition in progress has its length (R59), the current volume its range (R112). -/
def ShapeInv (s : State) : Prop :=
  s.capture.ok ∧ s.sts.record.ok ∧ (∀ v, s.sts.save = some v → v.image.ok) ∧ s.lki.copies.length = 10 ∧
    s.rpd.panel.length = 15 ∧ s.cnt.live.length = 24 ∧ s.cnt.snap.length = 24 ∧ s.ttc.curVol ≤ 63 ∧
    (s.lmc.power = .IGNITING → 10 ≤ s.lmc.ignLen)

/-! ## Firing (R153) -/

/-- R153: step `p` fires by a trigger that is no chase, in `s`; `u` has what the firing makes of the queue and of the
sequencer, where the step that follows is no FOLLOW step. -/
def State.fires (s u : State) (p : Nat) : Prop :=
  ∀ (es : List Entry), es =
      ((match s.ssq.pend, (s.ssq.step p).gateSlot with
        | some _, some g => [Action.SEEK g]
        | _, _ => []) ++ (s.ssq.step p).actions).map
        (fun a => { action := a, origin := .SHOW, tag := some p, running := false }) →
    u.ssq.watched = some p ∧ u.ssq.ptr = s.ssq.linked (s.ssq.step p).next ∧ u.ssq.follow = .stopped ∧
    u.ssq.skipped = (if s.ssq.pend.isSome then min (s.ssq.skipped + 1) 65535 else s.ssq.skipped) ∧
    u.ssq.steps = s.ssq.steps ∧ u.ssq.head = s.ssq.head ∧ u.ssq.remembered = s.ssq.remembered ∧
    (s.ssq.st ≠ .PAUSED → es.length ≤ s.room → u.aq.queue = s.aq.queue ++ es ∧ u.ssq.pend = none) ∧
    (s.ssq.st = .PAUSED ∨ s.room < es.length → u.aq.queue = s.aq.queue ∧
      u.ssq.pend = some { index := p, chase := s.ssq.pend.isSome, need := es.length }) ∧
    (s.ssq.st = .PAUSED → u.ssq.st = .PAUSED ∧ u.ssq.pausedFrom = some .RUNNING) ∧
    (s.ssq.st = .READY ∨ s.ssq.st = .RUNNING → u.ssq.st = (if s.ssq.linked (s.ssq.step p).next = none ∧
      u.ssq.pend = none ∧ (u.aq.queue.any (fun e => e.tag.isSome)) = false then .ENDED else .RUNNING))

/-- The step that follows `p` is no FOLLOW step. -/
def Ssq.followless (q : Ssq) (p : Nat) : Prop :=
  ∀ j d, q.linked (q.step p).next = some j → (q.step j).trigger ≠ .FOLLOW d

/-! ## The runner and the head of the queue (R11 to R18) -/

/-- R11, R17: the only entry `e` of the queue has left it in `t`, `w` being the state with the entry's effect: SSQ has the report,
and ACTION_DROPPED is queued where it was dropped. -/
def State.leaves (w t : State) (e : Entry) (m : Manner) : Prop :=
  t.aq.queue = [] ∧ t.aq.runner = .EMPTY ∧
    t.aq.lastReport = some { tag := e.tag, manner := m, room := if w.lki.resetting then 0 else 12 } ∧
    t.tmc = w.tmc ∧ t.lmc = w.lmc ∧ t.ttc.par = w.ttc.par ∧ t.cud = w.cud ∧ t.cnt = w.cnt ∧ t.sts = w.sts ∧
    (w.aq.stopPending = false → w.lki.resetting = false →
      t.lki = (if m = .DROPPED then w.event .ACTION_DROPPED e.tag else w).lki)

/-- R11: the head `e` runs in `t`, with `rest` behind it. -/
def State.runs (t : State) (e : Entry) (rest : List Entry) : Prop :=
  t.aq.queue = { e with running := true } :: rest ∧ t.aq.runner = .RUNNING

/-- R18, R19: `u` has what a STOP makes of `s`: of the queue a running CHANGE or SEEK alone is left, behind it a fire that waited for
room (log 14); a ramp or a HOLD that the head was running ends; a seek is truncated, the transport stops, the sequencer is held
back, and STOPPED is owed exactly while the CHANGE or SEEK runs. -/
def State.stopped (s u : State) : Prop :=
  (∀ kept es : List Entry, kept = s.aq.queue.filter (fun e => e.running && e.action.mech) →
    es = u.aq.queue.drop kept.length →
    u.aq.queue = kept ++ es ∧ (∀ e ∈ es, e.running = false ∧ e.origin = .SHOW ∧ e.tag.isSome = true) ∧
    (s.ssq.st ≠ .RUNNING → es = []) ∧
    ((s.ssq.ptr.any (fun p => match (s.ssq.step p).trigger with
        | .FOLLOW _ => true
        | _ => false)) = false → s.ssq.st = .RUNNING →
      es = (match s.ssq.pend with
        | some p =>
          if kept.length < s.aq.queue.length ∧ p.need ≤ 12 - kept.length then s.ssq.entries p.index p.chase else []
        | none => [])) ∧
    u.aq.stopPending = !kept.isEmpty ∧
    (s.ssq.st ≠ .RUNNING → u.lki.notices =
      (if kept = [] then s.event .STOPPED none else s).lki.notices)) ∧
  u.lmc = (match s.aq.queue.head?.map (fun e => (e.running, e.action)) with
    | some (true, .FADE _ _ _ _) => { s.lmc with ramp := none }
    | _ => s.lmc) ∧
  u.aq.holdDue = (match s.aq.queue.head?.map (fun e => (e.running, e.action)) with
    | some (true, .HOLD _) => none
    | _ => s.aq.holdDue) ∧
  u.tmc = { s.tmc with truncated := s.tmc.truncated || decide (s.tmc.st = .SEEKING) } ∧
  u.ttc.st = (if s.ttc.st = .EMPTY then .EMPTY else .STOPPED) ∧ u.ttc.par = s.ttc.par ∧
  u.ssq.st = (if s.ssq.st = .READY then .PAUSED else u.ssq.st) ∧ u.ssq.st ≠ .READY ∧ u.ssq.st ≠ .RUNNING

/-! ## The chase (R157, R158) -/

/-- R144, R157: the step at a hop along the chain from `start`. -/
def Ssq.hop (q : Ssq) (start : Nat) : Nat → Option Nat
  | 0 => some start
  | h + 1 => (q.hop start h).bind (fun j => q.linked (q.step j).next)

/-- R157: the search for cue `n` from `start` finds step `j` at hop `h`: the first step of the chain with that trigger, within 256
hops; `fromHead`: hop 0 is tested too. -/
def Ssq.finds (q : Ssq) (n start : Nat) (fromHead : Bool) (j h : Nat) : Prop :=
  q.hop start h = some j ∧ (q.step j).trigger = .CUE n ∧ h ≤ 256 ∧ (fromHead = true ∨ 1 ≤ h) ∧
    ∀ i < h, fromHead = true ∨ 1 ≤ i → ∀ k, q.hop start i = some k → (q.step k).trigger ≠ .CUE n

/-- R21, R158: `u` has what a chase to step `j` at hop `h` makes of `s`, where no FOLLOW step follows `j`. Of the entries with a step
tag a running CHANGE or SEEK alone stays, in its place among the others; the step's entries join behind, or wait as the pending
fire; a pending fire of before is discarded. -/
def State.chases (s u : State) (j h : Nat) : Prop :=
  (∀ es kept : List Entry, es =
      ((match (s.ssq.step j).gateSlot with
        | some g => [Action.SEEK g]
        | none => []) ++ (s.ssq.step j).actions).map
        (fun a => { action := a, origin := .SHOW, tag := some j, running := false }) →
    kept = u.aq.queue.take (u.aq.queue.length - (if u.ssq.pend.isSome then 0 else es.length)) →
    (∀ e ∈ kept, e.tag.isSome = true → e.running = true ∧ e.action.mech = true) ∧
    (kept.map (fun e => { e with running := false })).Sublist (s.aq.queue.map (fun e => { e with running := false })) ∧
    (u.ssq.pend = none → u.aq.queue = kept ++ es) ∧
    (u.ssq.pend ≠ none ↔ 12 - kept.length < es.length) ∧
    (u.ssq.pend ≠ none → u.ssq.pend = some { index := j, chase := true, need := es.length })) ∧
  u.ssq.watched = some j ∧ u.ssq.ptr = s.ssq.linked (s.ssq.step j).next ∧ u.ssq.follow = .stopped ∧
  u.ssq.skipped = min (s.ssq.skipped + (if s.ssq.pend.isSome then 1 else 0) + h) 65535 ∧ u.ssq.steps = s.ssq.steps ∧
  u.ssq.head = s.ssq.head ∧ u.ssq.remembered = s.ssq.remembered ∧
  u.ssq.st = (if s.ssq.linked (s.ssq.step j).next = none ∧ u.ssq.pend = none ∧
    (u.aq.queue.any (fun e => e.tag.isSome)) = false then .ENDED else .RUNNING)

/-! ## The unit reset (R190, R191) -/

/-- R42, R50: a SEEK that runs. -/
def Entry.seeks (e : Entry) : Bool :=
  e.running && (match e.action with
    | .SEEK _ => true
    | _ => false)

/-- R128, R142, R48: the notices that a unit reset queues, those of the cue track before that of the mechanism (log 27). -/
def State.resetNotices (s : State) : State :=
  let a := if s.cud.framing = .SYNC then (s.condNotice .CUE_SYNC false none).event .SYNC_LOSS none else s
  let b := if s.cud.speedOff then a.condNotice .TAPE_SPEED_OFF false none else a
  let c := if s.cud.degraded then b.condNotice .CUE_DEGRADED false none else b
  if s.tmc.slotMatch then c.condNotice .SLOT_MATCH false s.tmc.comparePos else c

/-- R22, R50, R81: `u` has what a unit reset makes of the queue, the mechanism and the light of `s`. The mode becomes the stored
start mode; of the queue a running CHANGE or SEEK alone is left, for which the mechanism still works; a running HOLD ends; the
ramp, the engine level and MANUAL are taken away; slot compare is off, AUTO and clear; a seek is truncated and a jam homes. -/
def State.resetsWork (s u : State) : Prop :=
  u.aq.mode = s.aq.startMode ∧ u.aq.startMode = s.aq.startMode ∧ u.aq.stopPending = false ∧
  u.aq.holdDue = (if s.aq.queue.head?.any Entry.holds then none else s.aq.holdDue) ∧
  (s.tmc.st.moving = true ∨ s.tmc.st = .JAMMED →
    u.aq.queue = s.aq.queue.filter (fun e => e.running && e.action.mech) ∧
    u.aq.runner = (if u.aq.queue = [] then .EMPTY else .RUNNING)) ∧
  (s.tmc.st = .IDLE ∨ s.tmc.st = .PARKED → s.aq.queue.length ≤ 12 → u.aq.queue = [] ∧ u.aq.runner = .EMPTY) ∧
  u.lmc = { s.lmc with
    ramp := none
    level := 0
    blanks := { s.lmc.blanks with manual := false, mech := s.lmc.blanks.mech || decide (s.tmc.st = .JAMMED) } } ∧
  (∀ t : Tmc, t = { s.tmc with
      comparePos := none
      clearMode := .AUTO
      slotMatch := false
      truncated := s.tmc.truncated || (decide (s.tmc.st = .SEEKING) && s.aq.queue.head?.any Entry.seeks) } →
    u.tmc = if s.tmc.st = .JAMMED then
        { t with st := .HOMING, phase := some .DARKEN, timer := none, dir := .forward, retriedLift := false
                 retriedDrop := false, steps := 0 }
      else t)

/-- R117, R142, R165: `u` has what a unit reset makes of the transport, the cue track and the sequencer of `s`. A transport that is
driven or paused stops; the cue track is in HUNT with no carrier and nothing held, its relay enable and degrade threshold
taken again from the stored settings; the sequencer is READY at the stored head, or UNLOADED where that step is not valid. -/
def State.resetsShow (s u : State) : Prop :=
  u.ttc = (if s.ttc.st = .EMPTY ∨ s.ttc.st = .STOPPED then s.ttc else
    { s.ttc with st := .STOPPED, seqHold := false, fgTimer := none, reelTimer := none, unlockStart := none
                 unlockPassed := false }) ∧
  (∀ r : Settings, r = (if s.sts.storeLost then factory else s.sts.record) →
    u.cud =
      { carrier := false, carrierTimer := none, lastEdge := s.cud.lastEdge, pendHalf := none, bitIndex := 0, bits := []
        cellE := 3125, speed := 1000, speedOffTimer := none, speedOff := false, framing := .HUNT
        candAlign := s.cud.candAlign, align := s.cud.align, prevAlign := none, expected := none, errs := 0
        window := none, degraded := false, cueSync := false, tapeTime := none, cand := none, lastCue := none
        lock := false, buf := [], regenCount := 0, sending := false, cueOut := none, slotDue := none
        par := { source := s.cud.par.source, relay := r.cud.relay, loss := s.cud.par.loss, degThr := r.cud.degThr
                 confirm := s.cud.par.confirm } } ∧
    u.ssq =
      { steps := s.ssq.steps, head := r.head
        st := if (s.ssq.step r.head).valid then .READY else .UNLOADED
        ptr := if (s.ssq.step r.head).valid then some r.head else none
        pausedFrom := none, pend := none, watched := none, follow := .stopped, remembered := none, skipped := 0 })

/-- R177, R186, R190, R191, R193: `u` has what a unit reset makes of the decoders, the keys, the link and the counters of `s`. A key is
taken from its line, with no hold and no repeats; the query copies go, the address and the enables stay; a loss of SYNC is
counted and nothing else; RESETTING ends at once where the mechanism is at rest, with the queue of notices emptied. -/
def State.resetsLink (s u : State) : Prop :=
  u.rpd =
    { wired := { rx := none, lastSeq := none, held := none }, ir := { rx := none, lastSeq := none, held := none }
      panel := s.rpd.panel.map (fun r => { closed := r.closed, down := r.closed, debounce := none, pressed := r.pressed
                                           hold := false, nextRepeat := none })
      channel := s.rpd.channel } ∧
  u.lki.rx = s.lki.rx ∧ u.lki.addr = s.lki.addr ∧ u.lki.assignTaken = s.lki.assignTaken ∧
  u.lki.enables = s.lki.enables ∧ u.lki.copies = s.lki.copies.map (fun _ => none) ∧
  u.cnt = (if s.cud.framing = .SYNC then s.count .cueSyncLosses else s).cnt ∧
  (s.tmc.st.moving = true ∨ s.tmc.st = .JAMMED → u.lki.resetting = true ∧
    u.lki.notices = s.resetNotices.lki.notices ∧ u.lki.lost = s.resetNotices.lki.lost ∧
    u.lki.attn = s.resetNotices.lki.attn) ∧
  (s.tmc.st = .IDLE ∨ s.tmc.st = .PARKED → s.aq.queue.length ≤ 12 → u.lki.resetting = false ∧ u.lki.lost = 0 ∧
    u.lki.notices = (if s.lki.enabled .UNIT_RESET_DONE then
      [{ kind := .UNIT_RESET_DONE, clear := false, subject := none, stamp := s.stamp }] else []) ∧
    u.lki.attn = s.lki.enabled .UNIT_RESET_DONE)

/-- R190: `u` has what a unit reset makes of `s`; the cooling (R99), the store (section 11.2) and what no rule names stay. -/
def State.unitResets (s u : State) : Prop :=
  u.now = s.now ∧ s.sameBut u [.aq, .tmc, .lmc, .ttc, .cud, .ssq, .rpd, .lki, .cnt] ∧
  s.resetsWork u ∧ s.resetsShow u ∧ s.resetsLink u

/-! ## The transport (R102) -/

/-- R102: the transport requests a state refuses. -/
def tapeRefusal (op : TapeOp) (st : Transport) (atEnd standby : Bool) : Bool :=
  match op, st with
  | .STOP, _ => false
  | _, .EMPTY => true
  | .PAUSE, .STOPPED | .PAUSE, .FFWD | .PAUSE, .REWIND => true
  | .PLAY, .STOPPED | .FFWD, .STOPPED => standby || atEnd
  | _, _ => standby

/-! ## Requests and answers (R178 to R182) -/

/-- R180, R182: a request to `h.dest` comes to a part that takes it: powered, not sending, not RESETTING, its address that
of the request. -/
abbrev State.addressed (s : State) (h : LinkHdr) : Prop :=
  s.powered = true ∧ s.deaf = false ∧ s.lki.resetting = false ∧ s.lki.addr = .ASSIGNED h.dest.toNat

/-- R182: no save runs that locks requests. -/
abbrev State.unlocked (s : State) : Prop := s.sts.save = none

/-- The command that a request of the catalogue is (R185, R188); none for a CONTROL with an unknown sub-operation and for a
step record of a wrong length. -/
def Req.command (dt : Nat) (h : LinkHdr) : Req → Option Instr
  | .query group page => some (.query dt h group page)
  | .set param index value => some (.set dt h param index value)
  | .action slot => some (.action dt h slot)
  | .control sub arg =>
    match Sub.ofCode sub with
    | some .STOP => some (.controlStop dt h arg)
    | some .PAUSE => some (.controlPause dt h arg)
    | some .RESUME => some (.controlResume dt h arg)
    | some .ADVANCE => some (.controlAdvance dt h arg)
    | some .MODE => some (.controlMode dt h arg)
    | some .CLEAR_JAM => some (.controlClearJam dt h arg)
    | some .CLEAR_MATCH => some (.controlClearMatch dt h arg)
    | some .BLANK => some (.controlBlank dt h arg)
    | some .LAMP => some (.controlLamp dt h arg)
    | some .STANDBY => some (.controlStandby dt h arg)
    | some .WAKE => some (.controlWake dt h arg)
    | some .TAPE => some (.controlTape dt h arg)
    | some .SNAPSHOT => some (.controlSnapshot dt h arg)
    | some .SAVE => some (.controlSave dt h arg)
    | none => none
  | .stepWrite index mode record => if record.length = 26 then some (.stepWrite dt h index mode record) else none
  | .stepRead index => some (.stepRead dt h index)
  | .arm head => some (.arm dt h head)
  | .slotFlags first last flag => some (.slotFlags dt h first last flag)
  | .slotRead first count => some (.slotRead dt h first count)
  | .countersRead group => some (.countersRead dt h group)
  | .noticePoll => some (.noticePoll dt h)
  | .noticeEnable kind flag => some (.noticeEnable dt h kind flag)
  | .lampReset pos => some (.lampReset dt h pos)
  | .unitReset => some (.unitReset dt h)
  | .assign serial addr => some (.assign dt h serial addr)

/-- R181: the response to a request of `kind` is PENDING: status and contents, from this station to where the request came
from. -/
def State.answered (s : State) (h : LinkHdr) (kind : Byte) (status : Status) (body : List Byte) : State :=
  s.setLki { s.lki with
    resp := .PENDING { dest := h.src, src := h.dest, kind := kind, payload := status.code :: body } s.now }

/-- R181, R182: the answer `status` with `body` to a request of `kind`: PENDING in `t` since the time of `s`. -/
def State.answers (t s : State) (h : LinkHdr) (kind : Byte) (status : Status) (body : List Byte) : Prop :=
  t.lki.resp = .PENDING { dest := h.src, src := h.dest, kind := kind, payload := status.code :: body } s.now

end Sys2Proof.Machine
end

