-- ==== Sys2Proof/Certificates/Slice0/Obligations.lean ====
section
/-!
DEFINITION. The statements about the part, chapter by chapter. `exec c s = .next (State.finish u)`: the command is answered with a
next state, `u` being what the command itself makes of `s`, and `finish` what every command ends with: the runner tests the
head of the queue (R11) and the derived outputs follow (R96, R112); `RunnerWaitsAndKeeps`, `RunnerStartsTheHead` and
`HoldAndPacingTimersExpire` say what `finish` does. `s.advance dt` is `s` with `dt` microseconds passed (log 1). A timer that does not run does nothing when
its command comes (log 2). `s.sameBut u blocks`: the blocks not named are as they were.
-/

open Sys2Proof Sys2Proof.Machine

/-! ## The step -/

/-- A step with a command at the front of the queue is that command on the state with the queue's rest; with no command waiting
the part idles: the model's choice (log 12). -/
def Obligations.StepTakesTheFrontCommand : Prop :=
  (∀ (c : Instr) (s : State) (rest : List Instr), step (s.setPending (c :: rest)) = exec c (s.setPending rest)) ∧
  (∀ s : State, s.pending = [] → step s = .next s)

/-- Every command is answered with a next state, and leaves the commands that wait as they are. -/
def Obligations.EveryCommandCompletesAndKeepsTheQueue : Prop :=
  ∀ (c : Instr) (s : State), ∃ t : State, exec c s = .next t ∧ t.pending = s.pending

/-- POWER_LOSS takes the supply away and leaves the settings record as it stands, with the marker of a save that was under way (R201),
by which the next power-on judges it (R204). In a part without supply every command but POWER_ON changes nothing (the model's
choice, log 13). -/
def Obligations.PowerLossStopsThePart : Prop :=
  (∀ s : State, exec .powerLoss s = .next (s.setPowered false)) ∧
    ∀ (c : Instr) (s : State), s.powered = false → (∀ l, c ≠ .powerOn l) → exec c s = .next s

/-! ## Power-on -/

/-- The state after reset is what POWER_ON makes of it, with the lines and the record of log 9 (the model's choice), and every
invariant of the last section holds in it. -/
def Obligations.ResetIsAPowerOnAndMeetsTheInvariants : Prop :=
  (exec (.powerOn { trayPresent := false, trayCode := .absent, lampA := true, lampB := true, cassette := false,
                    panelClosed := [], straps := 1 }) State.reset = .next State.reset) ∧
  (QueueInv State.reset ∧ NoticeInv State.reset ∧ LampInv State.reset ∧ MechInv State.reset ∧ TrayInv State.reset ∧
     SeqInv State.reset.ssq ∧ OutputInv State.reset ∧ CueInv State.reset ∧ ShapeInv State.reset)

/-- R49, R80, R99, R116, R204: what POWER_ON makes of the tray mechanism, and of the lamp, the cooling and the tape. Of the
cooling, the last sample, the demands F_temp and F_lamp, the last tach count, the start of a loss and its mark have the
model's values (log 30). -/
def Obligations.PowerOnSetsTheMechanismTheLampAndTheTape : Prop :=
  (∀ (l : PowerOnLines) (s : State), s.sts.loaded.flags.length = 121 → ∃ t : State, exec (.powerOn l) s = .next t ∧
     (l.trayPresent = true ∧ l.trayCode = .c80 → t.tmc.st = .HOMING ∧ t.tmc.size = some 80) ∧
     (l.trayPresent = true ∧ l.trayCode = .c120 → t.tmc.st = .HOMING ∧ t.tmc.size = some 120) ∧
     (l.trayPresent = false ∨ l.trayCode = .absent ∨ l.trayCode = .invalid → t.tmc.st = .PARKED ∧ t.tmc.size = none) ∧
     t.tmc.gate = .UNKNOWN ∧ t.tmc.pos = none ∧ t.tmc.slots.length = 121 ∧
     (∀ i r, t.tmc.slots[i]? = some r →
       r.occ = (if i = 0 then Occ.EMPTY else Occ.UNKNOWN) ∧ r.jams = 0 ∧
         r.blank = (s.sts.loaded.flags.getD i false && i != 0)) ∧
     t.tmc.jam = none ∧ t.tmc.par = s.sts.loaded.tmc ∧ t.tmc.comparePos = none ∧ t.tmc.clearMode = .AUTO ∧
     t.tmc.slotMatch = false ∧ t.tmc.pacingOut = true ∧ t.tmc.truncated = false ∧ t.lmc.blanks.mech = true) ∧
  (∀ (l : PowerOnLines) (s : State), ∃ t : State, exec (.powerOn l) s = .next t ∧
     t.lmc.power = .OFF ∧ t.lmc.outDrive = 0 ∧ t.lmc.motion = none ∧ t.lmc.ignJ = 0 ∧ t.lmc.failCount = 0 ∧
     t.lmc.recA.acc = 0 ∧ t.lmc.recB.acc = 0 ∧ t.lmc.level = 0 ∧ t.lmc.ramp = none ∧ t.lmc.blanks.manual = false ∧
     t.lmc.blanks.changer = false ∧ t.lmc.active = s.sts.loaded.active ∧ t.lmc.recA.store = s.sts.loaded.lampA ∧
     t.lmc.recB.store = s.sts.loaded.lampB ∧ t.lmc.recA.present = l.lampA ∧ t.lmc.recB.present = l.lampB ∧
     t.lmc.par = s.sts.loaded.lmc ∧ t.lmc.poLamp = s.sts.loaded.lmc.powerOnLamp ∧
     t.lmc.noLamp = !t.lmc.available ∧ t.lmc.recA.life = t.lmc.lifeOver .A ∧ t.lmc.recB.life = t.lmc.lifeOver .B ∧
     t.thc =
       { power := .ACTIVE, hold := true, tm := none, tstate := .NORMAL, hq := 0, fan := 0, duty := 0, kick := none
         tachDue := 1000000, tachCount := 0, tachQual := false, stall := 0, warm := false, trip := false, lost := false
         fanFault := false, cooldown := none, cTarget := 1000, cEff := 1000, lossTimer := some 1000000
         par := s.sts.loaded.thc, lastSample := none, fTemp := 0, fLamp := 0, lastTach := 0, lossStart := none
         loss30 := false } ∧
     t.ttc.st = (if l.cassette then Transport.STOPPED else .EMPTY) ∧ t.ttc.atEnd = false ∧ t.ttc.seqHold = false ∧
     t.ttc.locked = false ∧ t.ttc.inLock = 0 ∧ t.ttc.fgPeriod = none ∧ t.ttc.fgTimer = none ∧ t.ttc.reelTimer = none ∧
     t.ttc.servo = 512 ∧ t.ttc.curVol = 0 ∧ t.ttc.par = s.sts.loaded.ttc ∧
     t.ttc.effTarget = (if s.sts.loaded.ttc.autoMute then 0 else s.sts.loaded.ttc.volTarget))

/-- R1, R8, R141, R164, R177, R183, R193, R194, R200, R204: what POWER_ON makes of the other blocks. Of the cue track, the
carrier timer, the last edge, the candidate alignment and the frame alignment none are the model's values (log 30). R177,
R194, R196, R200, R204: the panel keys from their lines, the snapshot timer, and the notices of the conditions found set
(their order is the model's choice, log 23). -/
def Obligations.PowerOnSetsTheOtherBlocks : Prop :=
  (∀ (l : PowerOnLines) (s : State), ∃ t : State, exec (.powerOn l) s = .next t ∧ t.powered = true ∧
     t.aq.mode = s.sts.loaded.startMode ∧ t.aq.startMode = s.sts.loaded.startMode ∧ t.aq.queue = [] ∧
     t.aq.runner = .EMPTY ∧ t.aq.stopPending = false ∧
     t.cud =
       { par := s.sts.loaded.cud, carrier := false, pendHalf := none, bits := [], bitIndex := 0, cellE := 3125
         speed := 1000, speedOffTimer := none, speedOff := false, framing := .HUNT, prevAlign := none, expected := none
         errs := 0, window := none, degraded := false, cueSync := false, tapeTime := none, cand := none, lastCue := none
         lock := false, buf := [], regenCount := 0, sending := false, carrierTimer := none, lastEdge := none
         candAlign := none, align := none, cueOut := none, slotDue := none } ∧
     t.ssq.steps = s.sts.loaded.steps ∧ t.ssq.head = s.sts.loaded.head ∧
     ((t.ssq.step t.ssq.head).valid = true → t.ssq.st = .READY ∧ t.ssq.ptr = some t.ssq.head) ∧
     ((t.ssq.step t.ssq.head).valid = false → t.ssq.st = .UNLOADED ∧ t.ssq.ptr = none) ∧
     t.ssq.pend = none ∧ t.ssq.remembered = none ∧ t.ssq.watched = none ∧ t.ssq.pausedFrom = none ∧
     t.ssq.follow = .stopped ∧ t.ssq.skipped = 0 ∧
     t.rpd.wired = { rx := none, lastSeq := none, held := none } ∧
     t.rpd.ir = { rx := none, lastSeq := none, held := none } ∧ t.rpd.channel = s.sts.loaded.channel ∧
     t.lki.rx = none ∧ t.lki.resp = .NONE ∧ t.lki.resetting = false ∧ t.lki.assignTaken = false ∧
     (∀ c ∈ t.lki.copies, c = none) ∧ t.lki.lost = 0 ∧ t.lki.enables = s.sts.loaded.enables ∧
     (l.straps = 0 → t.lki.addr = .UNASSIGNED) ∧ (l.straps = 31 → t.lki.addr = .LISTEN_ONLY) ∧
     (l.straps ≠ 0 → l.straps ≠ 31 → t.lki.addr = .ASSIGNED l.straps.toNat) ∧
     (∀ c ∈ t.cnt.live ++ t.cnt.snap, c.val = 0 ∧ c.ovf = false) ∧ t.cnt.number = 0 ∧ t.cnt.snapMs = 0 ∧
     t.cnt.lenMs = 0 ∧ t.cnt.interval = s.sts.loaded.interval ∧
     t.sts.record = s.sts.record ∧ t.sts.save = none ∧ t.sts.autoPending = false ∧ t.sts.litTimer = none ∧
     t.sts.storeLost = (s.sts.marker || !s.sts.checkOk)) ∧
  (∀ (l : PowerOnLines) (s : State), ∃ t : State, exec (.powerOn l) s = .next t ∧
     t.rpd.panel.length = 15 ∧
     (∀ k, (t.panelKey k).closed = l.panelClosed.contains k ∧ (t.panelKey k).down = l.panelClosed.contains k ∧
       (t.panelKey k).debounce = none ∧ (t.panelKey k).hold = false ∧ (t.panelKey k).nextRepeat = none) ∧
     t.cnt.timer = (if s.sts.loaded.interval = 0 then none else some (1000000 * s.sts.loaded.interval)) ∧
     t.lki.notices = ([(NoticeKind.STORE_LOST, none, s.sts.marker || !s.sts.checkOk),
         (.TRAY_INVALID, none, l.trayPresent && (l.trayCode == .absent || l.trayCode == .invalid)),
         (.NO_LAMP, none, !t.lmc.available), (.LAMP_LIFE, some 0, t.lmc.lifeOver .A),
         (.LAMP_LIFE, some 1, t.lmc.lifeOver .B)].filter
           (fun x => x.2.2 && s.sts.loaded.enables.getD x.1.code false)).map
         (fun x => { kind := x.1, clear := false, subject := x.2.1, stamp := 0 }) ∧
     t.lki.attn = !t.lki.notices.isEmpty)

/-! ## The action queue and its runner (chapter 1) -/

/-- R11 to R17: when the head waits, a command ends with the runner status alone and the outputs that follow; and what the runner
never touches: parameters, the cue track, the remote and panel decoders, the link's reception, answer and address, the control
mode, the trip, the fan fault and the power state, the tray's slots and size, the step memory, the settings record and the
snapshots. -/
def Obligations.RunnerWaitsAndKeeps : Prop :=
  (∀ (s : State) (r : RunnerStatus), s.headMove = .wait r →
     s.finish = (s.setAq { s.aq with runner := r }).refresh) ∧
  (∀ s : State,
     s.finish.powered = s.powered ∧ s.finish.now = s.now ∧ s.finish.cud = s.cud ∧ s.finish.rpd = s.rpd ∧
     s.finish.aq.mode = s.aq.mode ∧ s.finish.aq.startMode = s.aq.startMode ∧ s.finish.tmc.par = s.tmc.par ∧
     s.finish.tmc.slots = s.tmc.slots ∧ s.finish.tmc.size = s.tmc.size ∧ s.finish.tmc.pos = s.tmc.pos ∧
     s.finish.tmc.gate = s.tmc.gate ∧ s.finish.tmc.lifter = s.tmc.lifter ∧ s.finish.tmc.trayDrive = s.tmc.trayDrive ∧
     s.finish.lmc.par = s.lmc.par ∧ s.finish.lmc.level = s.lmc.level ∧ s.finish.lmc.outLevel = s.lmc.outLevel ∧
     s.finish.thc.trip = s.thc.trip ∧ s.finish.thc.fanFault = s.thc.fanFault ∧ s.finish.thc.power = s.thc.power ∧
     s.finish.thc.par = s.thc.par ∧ s.finish.ttc.st = s.ttc.st ∧ s.finish.ttc.curVol = s.ttc.curVol ∧
     s.finish.ssq.steps = s.ssq.steps ∧ s.finish.ssq.head = s.ssq.head ∧ s.finish.lki.rx = s.lki.rx ∧
     s.finish.lki.resp = s.lki.resp ∧ s.finish.lki.addr = s.lki.addr ∧ s.finish.lki.enables = s.lki.enables ∧
     s.finish.cnt.snap = s.cnt.snap ∧ s.finish.sts.record = s.sts.record ∧ s.finish.sts.storeLost = s.sts.storeLost)

/-- R12, R30, R31, R40: the runner starts a CHANGE or a SEEK at the head in IDLE with pacing run out; a SEEK from a known
position goes the shorter way, forward on a tie. R11 to R15: every other head that goes on: a FADE that waits for its ramp, a
HOLD, a LAMP_ON that ignites or waits, a CHANGE or SEEK that waits for the mechanism or for pacing, and a head that runs on. -/
def Obligations.RunnerStartsTheHead : Prop :=
  (∀ (s : State) (e : Entry) (rest : List Entry), s.aq.queue = e :: rest → e.running = false → s.tmc.st = .IDLE →
     s.tmc.pacingOut = true →
     (e.action = .CHANGE_FWD ∨ e.action = .CHANGE_REV →
       s.finish.tmc.st = .CHANGING ∧ s.finish.tmc.dir = (if e.action = .CHANGE_FWD then .forward else .reverse)) ∧
     (∀ (p pos : Nat) (fwd rev : Int), e.action = .SEEK p → p ≤ s.tmc.trayS → s.tmc.pos = some pos → pos ≤ s.tmc.trayS →
       fwd = ((p : Int) - pos) % (s.tmc.trayS + 1) → rev = ((pos : Int) - p) % (s.tmc.trayS + 1) →
       s.finish.tmc.st = .SEEKING ∧ s.finish.tmc.truncated = false ∧ (s.finish.tmc.distance : Int) = min fwd rev ∧
         s.finish.tmc.dir = (if fwd ≤ rev then .forward else .reverse)) ∧
     ((e.action = .CHANGE_FWD ∨ e.action = .CHANGE_REV ∨ ∃ p, e.action = .SEEK p ∧ p ≤ s.tmc.trayS) →
       s.finish.tmc.phase = some .DARKEN ∧ s.finish.tmc.timer = none ∧ s.finish.lmc.blanks.mech = true ∧
         s.finish.aq.queue = { e with running := true } :: rest ∧ s.finish.aq.runner = .RUNNING)) ∧
  (∀ (s : State) (e : Entry) (rest : List Entry), s.aq.queue = e :: rest →
     (e.running = false →
       (∀ target time curve, e.action = .FADE target time curve true → s.finish.runs e rest ∧
         s.finish.lmc = { s.lmc with ramp :=
           (some { start := s.lmc.level, stop := min target 1000, n := 10 * time, k := 0, curve := curve }) }) ∧
       (∀ ms, e.action = .HOLD ms → 0 < ms → s.finish.runs e rest ∧
         s.finish.aq.holdDue = some (s.now + 1000 * ms) ∧ s.finish.lmc = s.lmc) ∧
       (e.action = .LAMP_ON → s.lmc.power = .IGNITING ∨ s.lmc.power = .SWAPPING →
         s.finish.runs e rest ∧ s.finish.lmc = s.lmc) ∧
       (e.action = .LAMP_ON → s.lmc.power = .OFF → s.thc.trip = false → s.thc.fanFault = false →
         s.thc.power = .ACTIVE → s.lmc.noLamp = false → s.thc.lost = false →
         s.finish.runs e rest ∧
         (s.lmc.motion.isSome = true → s.finish.lmc.power = .SWAPPING ∧ s.finish.lmc.motion = s.lmc.motion) ∧
         (s.lmc.motion = none → (s.lmc.lamp s.lmc.active).usable = true →
           s.finish.lmc.power = .IGNITING ∧ s.finish.lmc.ignJ = 0 ∧ s.finish.lmc.ignLen = s.lmc.par.ignTime) ∧
         (s.lmc.motion = none → (s.lmc.lamp s.lmc.active).usable = false → s.finish.lmc.power = .SWAPPING ∧
           s.finish.lmc.motion = some { target := s.lmc.active.other, count := 0 })) ∧
       (e.action.mech = true → s.tmc.st.moving = true →
         s.finish.aq = { s.aq with runner := .WAIT_MECH } ∧ s.finish.tmc = s.tmc) ∧
       (e.action.mech = true → s.tmc.st = .IDLE → s.tmc.pacingOut = false →
         s.finish.aq = { s.aq with runner := .WAIT_PACING } ∧ s.finish.tmc = s.tmc)) ∧
     (e.running = true →
       ((∃ target time curve, e.action = .FADE target time curve true) ∧ s.lmc.ramp.isSome = true ∨
         (∃ ms, e.action = .HOLD ms) ∧ s.aq.holdDue.isSome = true ∨
         e.action = .LAMP_ON ∧ (s.lmc.power = .IGNITING ∨ s.lmc.power = .SWAPPING) ∨
         e.action.mech = true ∧ s.tmc.st.moving = true) →
       s.finish.aq = { s.aq with runner := .RUNNING } ∧ s.finish.tmc = s.tmc ∧ s.finish.lmc = s.lmc))

/-- R10: an ACTION: admitted at the young end, QUEUE_FULL, BAD_VALUE for a SEEK above the tray, BAD_REQUEST for an unknown
kind. -/
def Obligations.ActionIsQueuedOrRefused : Prop :=
  ∀ (dt : Nat) (h : LinkHdr) (slot : SlotBytes) (s : State), s.addressed h →
    (∀ a, decodeSlot slot = some a → (∀ p, a = .SEEK p → p ≤ s.tmc.size.getD 120) → s.aq.queue.length < 12 →
      exec (.action dt h slot) s = .next (State.finish (((s.advance dt).setAq { s.aq with
        queue := s.aq.queue ++ [{ origin := .LINK, tag := none, running := false
                                  action := match a with
                                    | .FADE target time curve wait => .FADE (min target 1000) time curve wait
                                    | .VOLUME v => .VOLUME (min v 63)
                                    | a => a }] }).answered h 0x83 .ACCEPTED []))) ∧
    (∀ a, decodeSlot slot = some a → (∀ p, a = .SEEK p → p ≤ s.tmc.size.getD 120) → 12 ≤ s.aq.queue.length →
      exec (.action dt h slot) s =
        .next (State.finish (((s.advance dt).count .linkRefused).answered h 0x83 .QUEUE_FULL []))) ∧
    (∀ p, decodeSlot slot = some (.SEEK p) → s.tmc.size.getD 120 < p →
      exec (.action dt h slot) s =
        .next (State.finish (((s.advance dt).count .linkRefused).answered h 0x83 .BAD_VALUE []))) ∧
    (slot.kind.toNat = 0 ∨ 0x0B < slot.kind.toNat →
      exec (.action dt h slot) s =
        .next (State.finish (((s.advance dt).count .linkRefused).answered h 0x83 .BAD_REQUEST [])))

/-- R2: a MODE request: the mode named, BAD_VALUE for any other value, RESETTING while the unit resets. -/
def Obligations.ControlModeSetsTheMode : Prop :=
  ∀ (dt : Nat) (h : LinkHdr) (arg : Byte) (s : State),
    (s.addressed h → ∀ m, (arg = 0 ∧ m = Mode.LOCAL) ∨ (arg = 1 ∧ m = .SHOW) ∨ (arg = 2 ∧ m = .CONSOLE) →
      exec (.controlMode dt h arg) s =
        .next (State.finish (((s.advance dt).setAq { s.aq with mode := m }).answered h 0x84 .DONE [arg]))) ∧
    (s.addressed h → 2 < arg.toNat →
      exec (.controlMode dt h arg) s =
        .next (State.finish (((s.advance dt).count .linkRefused).answered h 0x84 .BAD_VALUE []))) ∧
    (s.powered = true → s.deaf = false → s.lki.resetting = true → s.lki.addr = .ASSIGNED h.dest.toNat →
      exec (.controlMode dt h arg) s =
        .next (State.finish (((s.advance dt).count .linkRefused).answered h 0x84 .RESETTING [])))

/-- R18, R19: a STOP: the queue of before but for a running CHANGE or SEEK, and behind it the entries of a pending fire that the
departures let in (log 14, the model's choice); a ramp or a HOLD that the head was running ends; a seek is truncated; the
transport and the sequencer are stopped; STOPPED is owed exactly while such an entry runs. -/
def Obligations.StopEmptiesAndStops : Prop :=
  ∀ (dt : Nat) (h : LinkHdr) (arg : Byte) (s : State), s.addressed h →
    ∃ u : State, exec (.controlStop dt h arg) s = .next u.finish ∧
      s.sameBut u [.aq, .tmc, .lmc, .ttc, .ssq, .lki] ∧ u.now = s.now + dt ∧
      u.answers (s.advance dt) h 0x84 .DONE [] ∧ (s.advance dt).stopped u

/-- R14: a HOLD's timer expires (where it does not run, only time passes: log 2), and a HOLD alone in the queue is gone then,
unless the sequencer has a fire waiting for the room. R38: the pacing interval runs out. R11 to R17: the only entry of the
queue: what each kind does at its start, and what ends or drops it, with its departure report (the field that holds it is the
model's own: log 14). R151, R154, R156: the same departure in RUNNING: the pending fire that waited for the room joins, the
FOLLOW timer starts, or the show ends. -/
def Obligations.HoldAndPacingTimersExpire : Prop :=
  (∀ (dt : Nat) (s : State), s.powered = true →
     (∀ due, s.aq.holdDue = some due →
       exec (.holdExpiry dt) s = .next (State.finish (((s.advance dt).setNow (max (s.now + dt) due)).setAq
         { s.aq with holdDue := none }))) ∧
     (s.aq.holdDue = none → exec (.holdExpiry dt) s = .next (s.advance dt).finish)) ∧
  (∀ (dt ms : Nat) (s : State) (o : Origin) (tag : Option Nat) (due : Nat), s.powered = true →
     s.aq.queue = [{ action := .HOLD ms, origin := o, tag := tag, running := true }] → s.aq.holdDue = some due →
     s.ssq.st ≠ .RUNNING →
     ∃ t : State, exec (.holdExpiry dt) s = .next t ∧ t.aq.queue = [] ∧ t.aq.runner = .EMPTY ∧ t.aq.holdDue = none) ∧
  (∀ (dt : Nat) (s : State), s.powered = true → s.tmc.pacingOut = false →
     exec (.pacingRunOut dt) s = .next (State.finish (((s.advance dt).setNow
       (max (s.now + dt) (s.tmc.idleSince + 10000 * s.tmc.par.pacing))).setTmc { s.tmc with pacingOut := true }))) ∧
  (∀ (s : State) (e : Entry), s.aq.queue = [e] → s.ssq.st ≠ .RUNNING →
     (e.running = false →
       (∀ target time curve, e.action = .FADE target time curve false → (s.setLmc { s.lmc with ramp :=
         (some { start := s.lmc.level, stop := min target 1000, n := 10 * time, k := 0, curve := curve }) }).leaves
           s.finish e .COMPLETED) ∧
       (e.action = .HOLD 0 → s.aq.holdDue = none → s.leaves s.finish e .COMPLETED) ∧
       (∀ v, e.action = .VOLUME v →
         (s.setTtc { s.ttc with par := { s.ttc.par with volTarget := min v 63 } }).leaves s.finish e .COMPLETED) ∧
       (e.action = .BLANK_ON → (s.setLmc { s.lmc with blanks := { s.lmc.blanks with manual := true } }).leaves
         s.finish e .COMPLETED) ∧
       (e.action = .BLANK_OFF → (s.setLmc { s.lmc with blanks := { s.lmc.blanks with manual := false } }).leaves
         s.finish e .COMPLETED) ∧
       (e.action = .MARK → (s.event .STEP_MARK e.tag).leaves s.finish e .COMPLETED) ∧
       (e.action = .LAMP_OFF → s.lmc.power = .OFF → s.leaves s.finish e .COMPLETED) ∧
       (e.action = .LAMP_OFF → s.lmc.power ≠ .OFF → s.finish.aq.queue = [] ∧ s.finish.aq.runner = .EMPTY ∧
         s.finish.aq.lastReport.map Departure.manner = some .COMPLETED ∧ s.finish.lmc.power = .OFF ∧
         s.finish.lmc.outDrive = 0 ∧ s.finish.thc.cooldown.map Cooldown.start = some s.now) ∧
       (e.action = .LAMP_ON → s.lmc.power = .LIT → s.leaves s.finish e .COMPLETED) ∧
       (e.action = .LAMP_ON → s.lmc.power = .OFF →
         s.thc.trip = true ∨ s.thc.fanFault = true ∨ s.thc.power = .STANDBY ∨ s.lmc.noLamp = true →
         s.leaves s.finish e .DROPPED) ∧
       (e.action.mech = true → s.tmc.st = .PARKED ∨ s.tmc.st = .JAMMED → s.leaves s.finish e .DROPPED) ∧
       (∀ p, e.action = .SEEK p → s.tmc.st = .IDLE → s.tmc.pacingOut = true → s.tmc.trayS < p →
         s.leaves s.finish e .DROPPED)) ∧
     (e.running = true →
       (∀ target time curve, e.action = .FADE target time curve true → s.lmc.ramp = none →
         s.leaves s.finish e .COMPLETED) ∧
       (∀ ms, e.action = .HOLD ms → s.aq.holdDue = none → s.leaves s.finish e .COMPLETED) ∧
       (e.action = .LAMP_ON → s.lmc.power = .LIT → s.leaves s.finish e .COMPLETED) ∧
       (e.action = .LAMP_ON → s.lmc.power = .OFF → s.leaves s.finish e .DROPPED) ∧
       (e.action.mech = true → s.tmc.st = .IDLE → s.leaves s.finish e .COMPLETED) ∧
       (e.action.mech = true → s.tmc.st = .PARKED → s.leaves s.finish e .DROPPED))) ∧
  (∀ (s : State) (e : Entry), s.aq.queue = [e] → e.running = true → s.ssq.st = .RUNNING → s.lki.resetting = false →
     s.aq.stopPending = false →
     ((∃ target time curve, e.action = .FADE target time curve true) ∧ s.lmc.ramp = none ∨
       (∃ ms, e.action = .HOLD ms) ∧ s.aq.holdDue = none ∨ e.action = .LAMP_ON ∧ s.lmc.power = .LIT) →
     (s.ssq.ptr = none → s.ssq.pend = none → s.finish.aq.queue = [] ∧ s.finish.ssq = { s.ssq with st := .ENDED } ∧
       s.finish.lki = (s.event .SHOW_ENDED none).lki) ∧
     (∀ p w d, s.ssq.ptr = some p → s.ssq.pend = none → s.ssq.watched = some w → s.ssq.follow = .stopped →
       (s.ssq.step p).trigger = .FOLLOW d →
       (0 < d → s.finish.aq.queue = [] ∧ s.finish.ssq = { s.ssq with follow := .running (s.now + 1000 * d) } ∧
         s.finish.lki = s.lki) ∧
       (d = 0 → s.aq.mode ≠ .SHOW → s.finish.aq.queue = [] ∧ s.finish.ssq = { s.ssq with follow := .due }) ∧
       (d = 0 → s.aq.mode = .SHOW → s.ssq.followless p → s.finish.ssq.watched = some p ∧
         s.finish.ssq.ptr = s.ssq.linked (s.ssq.step p).next ∧ s.finish.ssq.follow = .stopped)) ∧
     (∀ p, s.ssq.ptr = some p → (∀ d, (s.ssq.step p).trigger ≠ .FOLLOW d) → s.ssq.pend = none →
       s.finish.aq.queue = [] ∧ s.finish.ssq = s.ssq ∧ s.finish.lki = s.lki) ∧
     (∀ pf, s.ssq.pend = some pf → (s.ssq.ptr.any (fun p => match (s.ssq.step p).trigger with
         | .FOLLOW _ => true
         | _ => false)) = false →
       (12 < pf.need → s.finish.aq.queue = [] ∧ s.finish.ssq = s.ssq ∧ s.finish.lki = s.lki) ∧
       (pf.need ≤ 12 → s.finish.ssq.pend = none ∧ s.finish.ssq.skipped = s.ssq.skipped ∧
         (∀ x rest, s.ssq.entries pf.index pf.chase = x :: rest →
           (x.action.mech = true → s.tmc.st.moving = true →
             s.finish.aq.queue = x :: rest ∧ s.finish.aq.runner = .WAIT_MECH ∧ s.finish.ssq.st = .RUNNING) ∧
           (∀ ms, x.action = .HOLD ms → 0 < ms → s.finish.runs x rest ∧
             s.finish.aq.holdDue = some (s.now + 1000 * ms))))))

/-! ## The tray mechanism (chapter 2) -/

/-- R24, R25: a tray is set on, what its code lines say 50 ms later, and its removal, within those 50 ms and after them. R23, R25: the
notices of a removal: TRAY_REMOVED, and ACTION_DROPPED of a CHANGE or SEEK that runs or waits at the head (in this order: log 33,
the model's choice).
Times are those of the model's clock (logs 1 and 2). -/
def Obligations.TrayIsSetOnAndLiftedOff : Prop :=
  (∀ (dt : Nat) (s : State), s.powered = true →
     (s.tmc.trayPresent = false → exec (.trayInsertion dt) s = .next (State.finish ((s.advance dt).setTmc
       { s.tmc with trayPresent := true, qualDue := some (s.now + dt + 50000) }))) ∧
     (∀ (code : TrayCode) (due n : Nat), s.tmc.qualDue = some due → (code = .c80 ∧ n = 80) ∨ (code = .c120 ∧ n = 120) →
       ∃ u : State, exec (.trayQualifyExpiry dt code) s = .next u.finish ∧
         s.sameBut u [.tmc, .lmc, .lki] ∧ u.now = max (s.now + dt) due ∧
         u.tmc = { s.tmc with qualDue := none, size := some n, dir := .forward, st := .HOMING, phase := some .DARKEN,
                              timer := none, retriedLift := false, retriedDrop := false, steps := 0 } ∧
         u.lmc.blanks.mech = true ∧
         u.lki = (((s.advance dt).reach due).event .TRAY_INSERTED none).lki) ∧
     (∀ (code : TrayCode) (due : Nat), s.tmc.qualDue = some due → code = .absent ∨ code = .invalid →
       exec (.trayQualifyExpiry dt code) s = .next (State.finish ((((s.advance dt).setNow (max (s.now + dt) due)).setTmc
         { s.tmc with qualDue := none }).event .TRAY_INVALID none)))) ∧
  (∀ (dt : Nat) (s : State), s.powered = true → s.tmc.trayPresent = true →
     (s.tmc.qualDue = none → ∃ t : State, exec (.trayRemoval dt) s = .next t ∧
       t.tmc = { s.tmc with
         st := .PARKED, lifter := .released, trayDrive := none, timer := none, phase := none, size := none, pos := none
         trayPresent := false
         gate := (match s.tmc.gate with
           | .LOADED _ => Gate.UNKNOWN
           | g => g)
         slots := s.tmc.slots.mapIdx (fun i r => { r with occ := if i = 0 then Occ.EMPTY else .UNKNOWN, jams := 0 })
         truncated := false, jam := none } ∧
       t.lmc.blanks.mech = true) ∧
     (∀ due, s.tmc.qualDue = some due → exec (.trayRemoval dt) s = .next (State.finish ((s.advance dt).setTmc
       { s.tmc with trayPresent := false, qualDue := none })))) ∧
  (∀ (dt : Nat) (s t0 : State), s.powered = true → s.tmc.trayPresent = true → s.tmc.qualDue = none →
     s.ssq.st ≠ .RUNNING → s.aq.stopPending = false → s.lki.resetting = false →
     t0 = (s.advance dt).event .TRAY_REMOVED none →
     ∃ t : State, exec (.trayRemoval dt) s = .next t ∧
       (s.aq.queue = [] → t.aq.queue = [] ∧ t.lki = t0.lki) ∧
       (∀ e, s.aq.queue = [e] → e.action.mech = true → t.aq.queue = [] ∧
         t.aq.lastReport = some { tag := e.tag, manner := .DROPPED, room := 12 } ∧
         t.lki = (t0.event .ACTION_DROPPED e.tag).lki) ∧
       (∀ e f, s.aq.queue = [e, f] → e.action.mech = true → f.action.mech = true → f.running = false →
         t.aq.queue = [] ∧ t.lki = ((t0.event .ACTION_DROPPED e.tag).event .ACTION_DROPPED f.tag).lki) ∧
       (∀ e rest, s.aq.queue = e :: rest → e.running = true → s.aq.holdDue.isSome = true →
         (∃ ms, e.action = .HOLD ms) → t.aq.queue = s.aq.queue ∧ t.lki = t0.lki))

/-- R31, R32, R34, R40, R42, R45, R48: t_dark is over, and LIFT begins with the lifter driven up; SLOT_MATCH is cleared in AUTO. A
sensor that confirms already ends LIFT at once. LIFT ends at the confirm: the gate is empty, and the cycle goes on by its kind.
Times are those of the model's clock (logs 1 and 2). -/
def Obligations.DarkenAndLiftEnd : Prop :=
  (∀ (dt due : Nat) (m : MechSense) (s : State), s.powered = true → s.tmc.timer = some (.tDark, due) →
     (m.lifterUp = false → ∃ u : State, exec (.tDarkExpiry dt m) s = .next u.finish ∧
       s.sameBut u [.tmc, .lki] ∧ u.now = max (s.now + dt) due ∧
       u.tmc = { s.tmc with
         slotMatch := s.tmc.slotMatch && decide (s.tmc.clearMode ≠ .AUTO)
         phase := some .LIFT, lifter := .up, timer := some (.lift, max (s.now + dt) due + 400000) }) ∧
     (m.lifterUp = true → ∃ u : State, exec (.tDarkExpiry dt m) s = .next u.finish ∧
       s.sameBut u [.tmc, .lki] ∧ (m.lifterDown = false → u.tmc.gate = .EMPTY) ∧
       u.tmc.phase ≠ some .DARKEN ∧
       (s.tmc.st = .CHANGING → u.tmc.phase = some .STEP ∧ u.tmc.trayDrive = some s.tmc.dir))) ∧
  (∀ (dt due : Nat) (m : MechSense) (s : State), s.powered = true → s.tmc.timer = some (.lift, due) →
     (s.tmc.st = .CHANGING → exec (.lifterUpConfirm dt m) s = .next (State.finish ((s.advance dt).setTmc
       { s.tmc with gate := .EMPTY, steps := 0, phase := some .STEP, trayDrive := some s.tmc.dir
                    timer := some (.indexWait, s.now + dt + 600000) }))) ∧
     (s.tmc.st = .SEEKING → s.tmc.truncated = false → 0 < s.tmc.distance →
       exec (.lifterUpConfirm dt m) s = .next (State.finish ((s.advance dt).setTmc
         { s.tmc with gate := .EMPTY, steps := 0, phase := some .ROTATE, trayDrive := some s.tmc.dir
                      timer := some (.indexWait, s.now + dt + 600000) }))) ∧
     (s.tmc.st = .SEEKING → s.tmc.truncated = true ∨ s.tmc.distance = 0 → m.lifterDown = false →
       exec (.lifterUpConfirm dt m) s = .next (State.finish ((s.advance dt).setTmc
         { s.tmc with gate := .EMPTY, steps := 0, phase := some .DROP, trayDrive := none, lifter := .down
                      timer := some (.drop, s.now + dt + 300000) }))) ∧
     (s.tmc.st = .HOMING → m.homeMark = false →
       exec (.lifterUpConfirm dt m) s = .next (State.finish ((s.advance dt).setTmc
         { s.tmc with gate := .EMPTY, steps := 0, pos := none, phase := some .SEARCH, trayDrive := some .forward
                      timer := some (.indexWait, s.now + dt + 600000) }))) ∧
     (s.tmc.st = .HOMING → m.homeMark = true → m.lifterDown = false →
       exec (.lifterUpConfirm dt m) s = .next (State.finish ((s.advance dt).setTmc
         { s.tmc with gate := .EMPTY, steps := 0, pos := some 0, phase := some .DROP, trayDrive := none, lifter := .down
                      timer := some (.drop, s.now + dt + 300000) }))))

/-- R33: a LIFT or a DROP that times out is retried once: the lifter is released for 200 ms, the retry is counted, and the
phase begins again.
Times are those of the model's clock (logs 1 and 2). -/
def Obligations.LiftAndDropAreRetriedOnce : Prop :=
  ∀ (dt due : Nat) (s : State), s.powered = true →
    (s.tmc.timer = some (.lift, due) → s.tmc.retriedLift = false →
      exec (.liftTimerExpiry dt) s = .next (State.finish ((((s.advance dt).setNow (max (s.now + dt) due)).setTmc
        { s.tmc with retriedLift := true, lifter := .released
                     timer := some (.retryPause, max (s.now + dt) due + 200000) }).count .mechLiftRetries))) ∧
    (s.tmc.timer = some (.drop, due) → s.tmc.retriedDrop = false →
      exec (.dropTimerExpiry dt) s = .next (State.finish ((((s.advance dt).setNow (max (s.now + dt) due)).setTmc
        { s.tmc with retriedDrop := true, lifter := .released
                     timer := some (.retryPause, max (s.now + dt) due + 200000) }).count .mechDropRetries))) ∧
    (∀ m : MechSense, s.tmc.timer = some (.retryPause, due) → s.tmc.phase = some .LIFT → m.lifterUp = false →
      ∃ u : State, exec (.retryPauseExpiry dt m) s = .next u.finish ∧
        s.sameBut u [.tmc, .lki] ∧
        u.tmc = { s.tmc with
          slotMatch := s.tmc.slotMatch && decide (s.tmc.clearMode ≠ .AUTO)
          phase := some .LIFT, lifter := .up, timer := some (.lift, max (s.now + dt) due + 400000) }) ∧
    (∀ m : MechSense, s.tmc.timer = some (.retryPause, due) → s.tmc.phase = some .DROP → m.lifterDown = false →
      exec (.retryPauseExpiry dt m) s = .next (State.finish (((s.advance dt).setNow (max (s.now + dt) due)).setTmc
        { s.tmc with trayDrive := none, phase := some .DROP, lifter := .down
                     timer := some (.drop, max (s.now + dt) due + 300000) })))

/-- R43, R46: what a jam leaves, for each of its causes by time. R12, R17, R20: the queue is empty, and a CHANGE or SEEK that was
moving the tray or waiting at the head is DROPPED; one that waits goes with ACTION_DROPPED. R29, R43: the jam count of the
jam position, the counter, and the notices SLOT_SUSPECT and JAM, for each of the four causes. Times are those of the model's
clock (logs 1 and 2). -/
def Obligations.JamStopsTheMechanism : Prop :=
  (∀ (dt due : Nat) (s : State) (c : Instr) (cause : JamCause), s.powered = true →
     (c = .liftTimerExpiry dt ∧ cause = .LIFT_TIMEOUT ∧ s.tmc.timer = some (.lift, due) ∧ s.tmc.retriedLift = true ∨
       c = .dropTimerExpiry dt ∧ cause = .DROP_TIMEOUT ∧ s.tmc.timer = some (.drop, due) ∧ s.tmc.retriedDrop = true ∨
       c = .indexWaitExpiry dt ∧ cause = .STEP_TIMEOUT ∧ s.tmc.timer = some (.indexWait, due)) →
     ∀ ph, s.tmc.phase = some ph →
     ∃ t : State, exec c s = .next t ∧ t.tmc.st = .JAMMED ∧ t.tmc.lifter = .released ∧ t.tmc.trayDrive = none ∧
       t.tmc.timer = none ∧ t.tmc.phase = none ∧ t.tmc.gate = .UNKNOWN ∧ t.tmc.pos = none ∧
       t.tmc.jam = some { cause := cause, phase := ph
                          position := if s.tmc.st = .HOMING ∧ s.tmc.phase ≠ some .DROP then none else s.tmc.pos } ∧
       t.lmc.blanks.mech = true ∧ t.aq.stopPending = false ∧ t.ssq.st ≠ .READY ∧ t.ssq.st ≠ .RUNNING) ∧
  (∀ (dt : Nat) (s : State), s.powered = true → ∀ due, s.tmc.timer = some (.indexWait, due) → s.ssq.st ≠ .RUNNING →
     ∃ t : State, exec (.indexWaitExpiry dt) s = .next t ∧ t.aq.queue = [] ∧
       (∀ e, s.aq.queue = [e] → e.action.mech = true → s.lki.resetting = false →
         t.aq.lastReport = some { tag := e.tag, manner := .DROPPED, room := 12 }) ∧
       (∀ e, s.aq.queue.head? = some e → e.action.mech = true → e.running = false →
         s.lki.enabled .ACTION_DROPPED = true →
         { kind := .ACTION_DROPPED, clear := false, subject := e.tag
           stamp := max (s.now + dt) due / 1000 % 4294967296 } ∈ t.lki.notices) ∧
       (∀ e, s.aq.queue.head? = some e → s.aq.stopPending = false → e.running = true ∨ e.action.mech = false →
         t.lki.notices = ((((s.advance dt).reach due).jamMech .STEP_TIMEOUT)).lki.notices)) ∧
  (∀ (dt due time : Nat) (s : State) (c : Instr) (m : MechSense) (pos : Option Nat), s.powered = true →
     s.ssq.st ≠ .RUNNING →
     (time = max (s.now + dt) due ∧
         (c = .liftTimerExpiry dt ∧ s.tmc.timer = some (.lift, due) ∧ s.tmc.retriedLift = true ∨
           c = .dropTimerExpiry dt ∧ s.tmc.timer = some (.drop, due) ∧ s.tmc.retriedDrop = true ∨
           c = .indexWaitExpiry dt ∧ s.tmc.timer = some (.indexWait, due)) ∨
       time = s.now + dt ∧ c = .indexPulse dt m ∧ s.tmc.st = .HOMING ∧ s.tmc.phase = some .SEARCH ∧ m.homeMark = false ∧
         s.tmc.trayS + 2 ≤ s.tmc.steps + 1) →
     pos = (if s.tmc.st = .HOMING ∧ s.tmc.phase ≠ some .DROP then none else s.tmc.pos) →
     ∃ t : State, exec c s = .next t ∧ t.now = time ∧ t.tmc.jam.map JamRec.position = some pos ∧
       t.tmc.slots = s.tmc.slots.mapIdx
         (fun i r => { r with jams := if pos = some i then min (r.jams + 1) 3 else r.jams }) ∧
       t.cnt = { s.cnt with live := s.cnt.live.modify Ctr.mechJams.idx Counter.bump } ∧
       (s.aq.stopPending = false → (∀ e, s.aq.queue.head? = some e → e.running = true ∨ e.action.mech = false) →
         ∀ suspect : Bool, suspect = (match pos with
           | some p => (s.tmc.slots[p]?.map (fun r => decide (2 ≤ r.jams))).getD false
           | none => false) →
         t.lki = ((if suspect then (s.setNow time).event .SLOT_SUSPECT pos else s.setNow time).event .JAM pos).lki))

/-- R34, R35, R41, R42, R45: an index pulse moves the tray one place and ends STEP or ROTATE where the rules say; in SEARCH it finds
home, or steps on within S + 2 steps; outside STEP, ROTATE and SEARCH it does nothing.
Times are those of the model's clock (logs 1 and 2). -/
def Obligations.IndexPulsesMoveTheTray : Prop :=
  (∀ (dt pos : Nat) (m : MechSense) (s : State), s.powered = true → s.tmc.pos = some pos → m.lifterDown = false →
     (∀ p, p = (match s.tmc.dir with
         | .forward => (pos + 1) % (s.tmc.trayS + 1)
         | .reverse => (pos + s.tmc.trayS) % (s.tmc.trayS + 1)) →
       (s.tmc.phase = some .STEP →
         (p = 0 ∧ s.tmc.par.wrapGap = true ∨
           s.tmc.par.skipEmpty = true ∧ s.tmc.slots[p]?.map SlotRec.occ = some .EMPTY) →
         s.tmc.steps + 1 < (if s.tmc.par.skipEmpty then s.tmc.trayS else 2) →
         exec (.indexPulse dt m) s = .next (State.finish ((s.advance dt).setTmc
           { s.tmc with pos := some p, steps := s.tmc.steps + 1, trayDrive := some s.tmc.dir
                        timer := some (.indexWait, s.now + dt + 600000) }))) ∧
       (s.tmc.phase = some .STEP →
         ¬((p = 0 ∧ s.tmc.par.wrapGap = true ∨
             s.tmc.par.skipEmpty = true ∧ s.tmc.slots[p]?.map SlotRec.occ = some .EMPTY) ∧
           s.tmc.steps + 1 < (if s.tmc.par.skipEmpty then s.tmc.trayS else 2)) →
         exec (.indexPulse dt m) s = .next (State.finish ((s.advance dt).setTmc
           { s.tmc with pos := some p, steps := s.tmc.steps + 1, trayDrive := none, phase := some .DROP
                        lifter := .down, timer := some (.drop, s.now + dt + 300000) }))) ∧
       (s.tmc.phase = some .ROTATE → s.tmc.truncated = false → s.tmc.steps + 1 < s.tmc.distance →
         exec (.indexPulse dt m) s = .next (State.finish ((s.advance dt).setTmc
           { s.tmc with pos := some p, steps := s.tmc.steps + 1, trayDrive := some s.tmc.dir
                        timer := some (.indexWait, s.now + dt + 600000) }))) ∧
       (s.tmc.phase = some .ROTATE → s.tmc.truncated = true ∨ s.tmc.distance ≤ s.tmc.steps + 1 →
         exec (.indexPulse dt m) s = .next (State.finish ((s.advance dt).setTmc
           { s.tmc with pos := some p, steps := s.tmc.steps + 1, trayDrive := none, phase := some .DROP
                        lifter := .down, timer := some (.drop, s.now + dt + 300000) }))))) ∧
  (∀ (dt : Nat) (m : MechSense) (s : State), s.powered = true →
     (s.tmc.phase = some .SEARCH → m.homeMark = true → m.lifterDown = false →
       exec (.indexPulse dt m) s = .next (State.finish ((s.advance dt).setTmc
         { s.tmc with pos := some 0, steps := s.tmc.steps + 1, trayDrive := none, phase := some .DROP, lifter := .down
                      timer := some (.drop, s.now + dt + 300000) }))) ∧
     (s.tmc.phase = some .SEARCH → m.homeMark = false → s.tmc.steps + 1 < s.tmc.trayS + 2 →
       exec (.indexPulse dt m) s = .next (State.finish ((s.advance dt).setTmc
         { s.tmc with steps := s.tmc.steps + 1, trayDrive := some .forward
                      timer := some (.indexWait, s.now + dt + 600000) }))) ∧
     (s.tmc.phase = some .SEARCH → m.homeMark = false → s.tmc.trayS + 2 ≤ s.tmc.steps + 1 →
       ∃ t : State, exec (.indexPulse dt m) s = .next t ∧ t.tmc.st = .JAMMED ∧
         t.tmc.jam.map JamRec.cause = some .HOME_NOT_FOUND) ∧
     (s.tmc.phase ≠ some .STEP → s.tmc.phase ≠ some .ROTATE → s.tmc.phase ≠ some .SEARCH →
       exec (.indexPulse dt m) s = .next (s.advance dt).finish))

/-- R36, R27, R47: DROP ends at the confirm: the slide sensor is read at a slot, slot compare is tested, SETTLE begins. R37, R30, R38:
t_settle expires and the mechanism enters IDLE: MECH is cleared, the pacing interval starts, and then AQ's runner, the end of
RESETTING (R191) and the power-on lamp (R80) take it (their order is the model's choice, log 16). -/
def Obligations.DropAndSettleEnd : Prop :=
  (∀ (dt due : Nat) (m : MechSense) (s : State), s.powered = true → s.tmc.timer = some (.drop, due) →
     ∃ u : State, exec (.lifterDownConfirm dt m) s = .next u.finish ∧
       s.sameBut u [.tmc, .lki] ∧ u.tmc.lifter = .released ∧
       u.tmc.phase = some .SETTLE ∧ u.tmc.timer = some (.settle, s.now + dt + 2000 * (s.tmc.par.tSettle + 1)) ∧
       u.tmc.pos = s.tmc.pos ∧
       (∀ p, s.tmc.pos = some p → 0 < p → m.slide = true → u.tmc.gate = .LOADED p ∧
         u.tmc.slots = s.tmc.slots.modify p (fun r => { r with occ := .PRESENT })) ∧
       (∀ p, s.tmc.pos = some p → 0 < p → m.slide = false → u.tmc.gate = .EMPTY ∧
         u.tmc.slots = s.tmc.slots.modify p (fun r => { r with occ := .EMPTY })) ∧
       (s.tmc.pos = some 0 → u.tmc.gate = .EMPTY ∧ u.tmc.slots = s.tmc.slots) ∧
       u.tmc.slotMatch = (s.tmc.slotMatch || (s.tmc.comparePos.isSome && s.tmc.comparePos == s.tmc.pos))) ∧
  (∀ (dt due : Nat) (s : State), s.powered = true → s.tmc.timer = some (.settle, due) →
     exec (.settleExpiry dt) s = .next (((((((s.advance dt).setNow (max (s.now + dt) due)).setTmc
       { s.tmc with phase := none, timer := none, idleSince := max (s.now + dt) due, st := .IDLE
                    pacingOut := decide (s.tmc.par.pacing = 0) }).setLmc
       { s.lmc with blanks := { s.lmc.blanks with mech := false } }).runHead).resetEnd).powerOnLamp).finish)

/-- R44, R45: CLEAR_JAM starts homing from JAMMED, from the link and from the panel; the jam record and the jam counts are kept;
in any other state the link's request is refused. R48: CLEAR_MATCH clears SLOT_MATCH in either clear mode, with its CLEAR
notice; without it nothing changes. Times are those of the model's clock (logs 1 and 2). -/
def Obligations.ClearJamAndClearMatch : Prop :=
  (∀ (dt : Nat) (s : State),
     (∀ (h : LinkHdr) (arg : Byte), s.addressed h → s.tmc.st = .JAMMED →
       exec (.controlClearJam dt h arg) s = .next (State.finish ((((s.advance dt).setTmc
         { s.tmc with dir := .forward, st := .HOMING, phase := some .DARKEN, timer := none, retriedLift := false
                      retriedDrop := false, steps := 0 }).setLmc
         { s.lmc with blanks := { s.lmc.blanks with mech := true } }).answered h 0x84 .DONE []))) ∧
     (∀ (h : LinkHdr) (arg : Byte), s.addressed h → s.tmc.st ≠ .JAMMED →
       exec (.controlClearJam dt h arg) s =
         .next (State.finish (((s.advance dt).count .linkRefused).answered h 0x84 .REFUSED_STATE []))) ∧
     (s.powered = true → (s.panelKey .STOP).hold = true → s.lki.resetting = false → s.tmc.st = .JAMMED →
       s.aq.mode ≠ .CONSOLE →
       ∃ u : State, exec (.panelStopHold dt) s = .next u.finish ∧
         s.sameBut u [.tmc, .lmc, .rpd] ∧
         u.tmc = { s.tmc with dir := .forward, st := .HOMING, phase := some .DARKEN, timer := none
                              retriedLift := false, retriedDrop := false, steps := 0 } ∧
         u.now = max (s.now + dt) ((s.panelKey .STOP).pressed + 2000000))) ∧
  (∀ (dt : Nat) (h : LinkHdr) (arg : Byte) (s : State), s.addressed h →
     (s.tmc.slotMatch = true → ∃ u : State, exec (.controlClearMatch dt h arg) s = .next u.finish ∧
       s.sameBut u [.tmc, .lki] ∧
       u.answers (s.advance dt) h 0x84 .DONE [] ∧ u.tmc = { s.tmc with slotMatch := false } ∧
       u.lki.notices = ((s.advance dt).condNotice .SLOT_MATCH false s.tmc.comparePos).lki.notices) ∧
     (s.tmc.slotMatch = false →
       exec (.controlClearMatch dt h arg) s = .next (State.finish ((s.advance dt).answered h 0x84 .DONE []))))

/-- R28, R185: SLOT_FLAGS sets the flags of first to last but never that of position 0; SLOT_READ sends three bytes for each
position, or is refused. -/
def Obligations.SlotFlagsAndSlotRead : Prop :=
  ∀ (dt : Nat) (h : LinkHdr) (s : State), s.addressed h →
    (∀ first last flag : Byte, s.unlocked → last.toNat ≤ 120 → first.toNat ≤ last.toNat → flag = 0 ∨ flag = 1 →
      exec (.slotFlags dt h first last flag) s = .next (State.finish (((s.advance dt).setTmc { s.tmc with
        slots := s.tmc.slots.mapIdx (fun i r =>
          if first.toNat ≤ i ∧ i ≤ last.toNat ∧ i ≠ 0 then { r with blank := decide (flag = 1) } else r) }).answered
            h 0x88 .DONE []))) ∧
    (∀ first last flag : Byte, s.unlocked → 120 < last.toNat ∨ last.toNat < first.toNat ∨ 1 < flag.toNat →
      exec (.slotFlags dt h first last flag) s =
        .next (State.finish (((s.advance dt).count .linkRefused).answered h 0x88 .BAD_VALUE []))) ∧
    (∀ first count : Byte, 1 ≤ count.toNat → count.toNat ≤ 8 → first.toNat + count.toNat ≤ 121 →
      exec (.slotRead dt h first count) s = .next (State.finish ((s.advance dt).answered h 0x89 .DONE
        (first :: count :: ((s.tmc.slots.drop first.toNat).take count.toNat).flatMap (fun r =>
          [BitVec.ofNat 8 (match r.occ with
            | .UNKNOWN => 0
            | .PRESENT => 1
            | .EMPTY => 2), BitVec.ofNat 8 r.jams, if r.blank then 1 else 0]))))) ∧
    (∀ first count : Byte, count = 0 ∨ 8 < count.toNat ∨ 121 < first.toNat + count.toNat →
      exec (.slotRead dt h first count) s =
        .next (State.finish (((s.advance dt).count .linkRefused).answered h 0x89 .BAD_VALUE [])))

/-! ## The lamp and the dissolve engine (chapter 3) -/

/-- R67, R68, R70, R71, R73, R74, R75, R84: a lamp update without a failure and without a changer motion: the ramp's step, the
derived blank reasons, the output level, the output drive and the heat estimate. R31: the first lamp update of output
level 0 in DARKEN starts t_dark. R64: a lamp update within a changer motion.
Times are those of the model's clock (logs 1 and 2). -/
def Obligations.LampUpdateFormsTheLight : Prop :=
  (∀ (dt : Nat) (low : Bool) (s : State), s.powered = true → s.lmc.motion = none →
     ¬(low = true ∧ s.lmc.power = .LIT ∧ 200 ≤ s.lmc.outDrive ∧ 3 ≤ s.lmc.failCount + 1) →
     ∃ u : State, exec (.lampUpdate dt low) s = .next u.finish ∧
       s.sameBut u [.tmc, .lmc, .thc, .lki, .cnt, .sts] ∧
       (s.lmc.ramp = none → u.lmc.level = s.lmc.level ∧ u.lmc.ramp = none) ∧
       (∀ r, s.lmc.ramp = some r → u.lmc.level = (if r.n = 0 then r.stop else rampLevel r (r.k + 1)) ∧
         u.lmc.ramp = (if r.n ≤ r.k + 1 then none else some { r with k := r.k + 1 })) ∧
       u.lmc.blanks.mech = s.lmc.blanks.mech ∧ u.lmc.blanks.manual = s.lmc.blanks.manual ∧
       u.lmc.blanks.changer = s.lmc.blanks.changer ∧
       u.lmc.blanks.empty = (s.lmc.par.darkOnEmpty && (s.tmc.gate == .EMPTY || s.tmc.gate == .UNKNOWN)) ∧
       (u.lmc.blanks.slot = true ↔ ∃ p, s.tmc.gate = .LOADED p ∧ s.tmc.slots[p]?.map SlotRec.blank = some true) ∧
       u.lmc.outLevel = (if u.lmc.blanks.mech || u.lmc.blanks.empty || u.lmc.blanks.slot || u.lmc.blanks.manual ||
         u.lmc.blanks.changer then 0 else min (u.lmc.level * s.lmc.par.trim / 1000) s.thc.cEff) ∧
       (s.lmc.power = .OFF ∨ s.lmc.power = .SWAPPING → u.lmc.outDrive = 0) ∧
       (s.lmc.power = .LIT →
         u.lmc.outDrive = max (interpolate s.lmc.par.table u.lmc.outLevel) s.lmc.par.glow) ∧
       (s.lmc.power = .IGNITING → u.lmc.outDrive = s.lmc.par.glow * (s.lmc.ignJ + 1) / s.lmc.ignLen) ∧
       (u.thc.hq : Int) = s.thc.hq + Int.tdiv (64 * (u.lmc.outDrive : Int) - s.thc.hq) 64) ∧
  (∀ (dt : Nat) (low : Bool) (s : State), s.powered = true →
     (∃ u : State, exec (.lampUpdate dt low) s = .next u.finish ∧
       s.sameBut u [.tmc, .lmc, .thc, .lki, .cnt, .sts] ∧
       (s.lmc.blanks.mech = true → u.lmc.outLevel = 0) ∧
       u.tmc = (if s.tmc.phase = some .DARKEN ∧ s.tmc.timer = none ∧ u.lmc.outLevel = 0 then
         { s.tmc with timer := some (.tDark, s.now + dt + 2000 * (s.tmc.par.tDark + 1)) } else s.tmc)) ∧
     (∀ mo, s.lmc.motion = some mo → mo.count + 1 < 150 → s.lmc.power = .OFF ∨ s.lmc.power = .SWAPPING →
       ∃ u : State, exec (.lampUpdate dt low) s = .next u.finish ∧
         s.sameBut u [.tmc, .lmc, .thc] ∧ u.lmc.motion = some { target := mo.target, count := mo.count + 1 } ∧
         u.lmc.active = s.lmc.active ∧ u.lmc.power = s.lmc.power ∧ u.lmc.recA = s.lmc.recA ∧ u.lmc.recB = s.lmc.recB ∧
         u.lmc.blanks.changer = s.lmc.blanks.changer ∧ u.lmc.outDrive = 0 ∧
         (s.lmc.blanks.changer = true → u.lmc.outLevel = 0) ∧
         (s.lmc.ramp = none → u.lmc.level = s.lmc.level ∧ u.lmc.ramp = none) ∧
         (∀ r, s.lmc.ramp = some r → u.lmc.level = (if r.n = 0 then r.stop else rampLevel r (r.k + 1)) ∧
           u.lmc.ramp = (if r.n ≤ r.k + 1 then none else some { r with k := r.k + 1 }))))

/-- R67: the level of a timed ramp at each of its steps lies between start and end, and is the end at the last. R74: the interpolated
drive of a table that does not fall lies between the entries on either side of the level. -/
def Obligations.RampAndTableStayInTheirIntervals : Prop :=
  (∀ (r : Ramp) (k : Nat), 1 ≤ r.n → k ≤ r.n →
     min r.start r.stop ≤ rampLevel r k ∧ rampLevel r k ≤ max r.start r.stop ∧ rampLevel r r.n = r.stop ∧
       (r.start < r.stop → r.curve = .CROSS → rampLevel r k =
         r.start + (r.stop - r.start) * ((4096 * k / r.n) * (8192 - 4096 * k / r.n) / 4096) / 4096) ∧
       (r.stop < r.start → r.curve = .CROSS → rampLevel r k =
         r.start - (r.start - r.stop) * ((4096 * k / r.n) * (4096 * k / r.n) / 4096) / 4096) ∧
       (r.start ≤ r.stop → r.curve = .LINEAR → rampLevel r k = r.start + (r.stop - r.start) * (4096 * k / r.n) / 4096) ∧
       (r.stop < r.start → r.curve = .LINEAR → rampLevel r k = r.start - (r.start - r.stop) * (4096 * k / r.n) / 4096)) ∧
  (∀ (table : List Nat) (level : Nat), table.length = 33 → table.Pairwise (· ≤ ·) → level ≤ 1000 →
     (level < 1000 → interpolate table level = table.getD (level * 32 / 1000) 0 +
       (table.getD (level * 32 / 1000 + 1) 0 - table.getD (level * 32 / 1000) 0) *
         (level * 32 - level * 32 / 1000 * 1000) / 1000) ∧
     interpolate table 1000 = table.getD 32 0 ∧
     table.getD (level * 32 / 1000) 0 ≤ interpolate table level ∧
     interpolate table level ≤ table.getD (min 32 (level * 32 / 1000 + 1)) 0)

/-- R55, R59, R68: the lamp updates at which a ramp ends, an ignition completes and a lit second is full. That the commands RAMP_END,
IGNITION_COMPLETE and LIT_SECOND are that lamp update is the model's choice (log 4). -/
def Obligations.RampIgnitionAndLitSecondComplete : Prop :=
  ∀ (dt : Nat) (low : Bool) (s : State), s.powered = true →
    (∀ r, s.lmc.ramp = some r → r.n = 0 ∨ r.k + 1 = r.n →
      ∃ u : State, exec (.rampEnd dt low) s = .next u.finish ∧
        s.sameBut u [.tmc, .lmc, .thc, .lki, .cnt, .sts] ∧ exec (.lampUpdate dt low) s = .next u.finish ∧
        u.lmc.ramp = none ∧ u.lmc.level = r.stop) ∧
    (s.lmc.power = .IGNITING → s.lmc.motion = none → 1 ≤ s.lmc.ignLen → s.lmc.ignJ + 1 = s.lmc.ignLen →
      ∃ u : State, exec (.ignitionComplete dt low) s = .next u.finish ∧
        s.sameBut u [.tmc, .lmc, .thc, .lki, .cnt, .sts] ∧
        exec (.lampUpdate dt low) s = .next u.finish ∧ u.lmc.power = .LIT ∧ u.lmc.outDrive = s.lmc.par.glow) ∧
    (s.lmc.power = .LIT ∨ s.lmc.power = .IGNITING → s.lmc.motion = none → low = false →
      (s.lmc.lamp s.lmc.active).acc = 99 →
      ∃ u : State, exec (.litSecond dt low) s = .next u.finish ∧
        s.sameBut u [.tmc, .lmc, .thc, .lki, .cnt, .sts] ∧ exec (.lampUpdate dt low) s = .next u.finish ∧
        (u.lmc.lamp s.lmc.active).acc = 0 ∧
        (u.lmc.lamp s.lmc.active).lit = min ((s.lmc.lamp s.lmc.active).lit + 1) 4294967295 ∧
        (u.lmc.lamp s.lmc.active).life =
          decide (s.lmc.par.life * 3600 ≤ min ((s.lmc.lamp s.lmc.active).lit + 1) 4294967295))

/-- R62, R63, R64: the third qualifying LOW reading fails the active lamp: with a usable spare the changer moves it in, else the
lamp is OFF; there is no drive in either case. The 150th lamp update of a changer motion ends it. That LAMP_FAILURE and
CHANGER_MOTION_END are that lamp update is the model's choice (log 4). -/
def Obligations.LampFailureAndTheChanger : Prop :=
  (∀ (dt : Nat) (s : State), s.powered = true → s.lmc.power = .LIT → 200 ≤ s.lmc.outDrive → s.lmc.failCount = 2 →
     s.lmc.motion = none →
     ∃ u : State, exec (.lampFailure dt) s = .next u.finish ∧
       s.sameBut u [.tmc, .lmc, .thc, .lki, .cnt, .sts] ∧ exec (.lampUpdate dt true) s = .next u.finish ∧
       (u.lmc.lamp s.lmc.active).failed = true ∧ u.lmc.failCount = 0 ∧ u.lmc.outDrive = 0 ∧
       u.lmc.noLamp = !u.lmc.available ∧ u.lmc.level = (match s.lmc.ramp with
         | none => s.lmc.level
         | some r => if r.n = 0 then r.stop else rampLevel r (r.k + 1)) ∧
       (s.lmc.par.changer = true → (s.lmc.lamp s.lmc.active.other).usable = true →
         u.lmc.power = .SWAPPING ∧ u.lmc.motion = some { target := s.lmc.active.other, count := 0 } ∧
           u.lmc.blanks.changer = true ∧ u.lmc.outLevel = 0) ∧
       (s.lmc.par.changer = false ∨ (s.lmc.lamp s.lmc.active.other).usable = false →
         u.lmc.power = .OFF ∧ u.lmc.noLamp = true)) ∧
  (∀ (dt : Nat) (low : Bool) (s : State) (mo : Motion), s.powered = true → s.lmc.motion = some mo → mo.count = 149 →
     s.lmc.power = .OFF ∨ s.lmc.power = .SWAPPING →
     ∃ u : State, exec (.changerMotionEnd dt low) s = .next u.finish ∧
       s.sameBut u [.tmc, .lmc, .thc, .lki, .cnt, .sts] ∧
       exec (.lampUpdate dt low) s = .next u.finish ∧ u.lmc.motion = none ∧ u.lmc.active = mo.target ∧
       u.lmc.blanks.changer = false ∧ u.lmc.outDrive = 0 ∧ u.lmc.noLamp = !u.lmc.available ∧
       (s.lmc.power = .OFF → u.lmc.power = .OFF) ∧
       (s.lmc.power = .SWAPPING → (s.lmc.lamp mo.target).usable = false → u.lmc.power = .OFF) ∧
       (s.lmc.power = .SWAPPING → (s.lmc.lamp mo.target).usable = true →
         s.thc.lost = false ∨ s.thc.loss30 = false → 1 ≤ s.lmc.par.ignTime →
         u.lmc.power = .IGNITING ∧ u.lmc.ignJ = 0 ∧ u.lmc.ignLen = s.lmc.par.ignTime ∧
           (u.lmc.lamp mo.target).ignitions = min ((s.lmc.lamp mo.target).ignitions + 1) 65535))

/-- R54, R65: a lamp-present sensor changes: the record follows, NO_LAMP is evaluated again, and an active lamp taken out while it
burns has failed. R56: a LAMP_RESET makes a record new, but not that of a lamp in use. -/
def Obligations.LampPresenceAndLampReset : Prop :=
  (∀ (dt : Nat) (pos : LampPos) (present : Bool) (s : State), s.powered = true → (s.lmc.lamp pos).present = !present →
     ∃ u : State, exec (.lampPresentChange dt pos present) s = .next u.finish ∧
       s.sameBut u [.lmc, .thc, .lki, .cnt, .sts] ∧
       (u.lmc.lamp pos).present = present ∧ u.lmc.noLamp = !u.lmc.available ∧
       (present = true ∨ pos ≠ s.lmc.active ∨ s.lmc.power = .OFF ∨ s.lmc.power = .SWAPPING →
         u.lmc.power = s.lmc.power ∧ (u.lmc.lamp pos).failed = (s.lmc.lamp pos).failed) ∧
       (present = false → pos = s.lmc.active → s.lmc.power = .IGNITING ∨ s.lmc.power = .LIT →
         (u.lmc.lamp pos).failed = true ∧ u.lmc.power = (if s.lmc.par.changer &&
           (s.lmc.lamp s.lmc.active.other).usable then Power.SWAPPING else .OFF) ∧ u.lmc.outDrive = 0)) ∧
  (∀ (dt : Nat) (h : LinkHdr) (pos : Byte) (s : State), s.addressed h → s.unlocked →
     (∀ p, (pos = 0 ∧ p = LampPos.A) ∨ (pos = 1 ∧ p = .B) → p ≠ s.lmc.active ∨ s.lmc.power = .OFF →
       ∃ u : State, exec (.lampReset dt h pos) s = .next u.finish ∧
         s.sameBut u [.lmc, .lki] ∧ u.answers (s.advance dt) h 0x8D .DONE [] ∧
         u.lmc.lamp p = { present := (s.lmc.lamp p).present, failed := false, lit := 0, ignitions := 0, acc := 0
                          life := decide (s.lmc.par.life * 3600 ≤ 0) } ∧
         u.lmc.lamp p.other = s.lmc.lamp p.other ∧ u.lmc.power = s.lmc.power ∧ u.lmc.noLamp = !u.lmc.available) ∧
     (∀ p, (pos = 0 ∧ p = LampPos.A) ∨ (pos = 1 ∧ p = .B) → p = s.lmc.active → s.lmc.power ≠ .OFF →
       exec (.lampReset dt h pos) s =
         .next (State.finish (((s.advance dt).count .linkRefused).answered h 0x8D .BUSY []))) ∧
     (1 < pos.toNat → exec (.lampReset dt h pos) s =
       .next (State.finish (((s.advance dt).count .linkRefused).answered h 0x8D .BAD_VALUE []))))

/-- R57, R58, R60, R77: a CONTROL LAMP by its code. R72: a link BLANK sets or clears MANUAL.
Times are those of the model's clock (logs 1 and 2). -/
def Obligations.ControlLampAndControlBlank : Prop :=
  (∀ (dt : Nat) (h : LinkHdr) (arg : Byte) (s : State), s.addressed h →
     (arg = 0 → ∃ u : State, exec (.controlLamp dt h arg) s = .next u.finish ∧
       s.sameBut u [.lmc, .thc, .lki, .sts] ∧ u.answers (s.advance dt) h 0x84 .DONE [] ∧
       u.lmc.power = .OFF ∧ u.lmc.level = s.lmc.level ∧ u.lmc.ramp = s.lmc.ramp ∧ u.lmc.motion = s.lmc.motion ∧
       (s.lmc.power ≠ .OFF → u.lmc.outDrive = 0 ∧ u.lmc.ignJ = 0 ∧ u.lmc.failCount = 0 ∧
         u.thc.cooldown.map Cooldown.start = some (s.now + dt)) ∧
       (s.lmc.power = .OFF → u.lmc = s.lmc ∧ u.thc = s.thc)) ∧
     (arg = 1 → s.lmc.power = .OFF →
       s.thc.trip = true ∨ s.thc.fanFault = true ∨ s.thc.power = .STANDBY ∨ s.lmc.noLamp = true →
       exec (.controlLamp dt h arg) s =
         .next (State.finish (((s.advance dt).count .linkRefused).answered h 0x84 .REFUSED_STATE []))) ∧
     (arg = 1 → s.lmc.power = .OFF → s.thc.trip = false → s.thc.fanFault = false → s.thc.power = .ACTIVE →
       s.lmc.noLamp = false →
       ∃ u : State, exec (.controlLamp dt h arg) s = .next u.finish ∧
         s.sameBut u [.lmc, .thc, .lki, .cnt, .sts] ∧ u.answers (s.advance dt) h 0x84 .DONE [] ∧
         (s.lmc.motion.isSome = true → u.lmc.power = .SWAPPING ∧ u.lmc.motion = s.lmc.motion) ∧
         (s.lmc.motion = none → (s.lmc.lamp s.lmc.active).usable = true → s.thc.lost = false ∨ s.thc.loss30 = false →
           u.lmc.power = .IGNITING ∧ u.lmc.ignJ = 0 ∧ u.lmc.ignLen = s.lmc.par.ignTime ∧
           (u.lmc.lamp s.lmc.active).ignitions = min ((s.lmc.lamp s.lmc.active).ignitions + 1) 65535) ∧
         (s.lmc.motion = none → (s.lmc.lamp s.lmc.active).usable = false →
           u.lmc.power = .SWAPPING ∧ u.lmc.motion = some { target := s.lmc.active.other, count := 0 } ∧
           u.lmc.blanks.changer = true)) ∧
     (arg = 1 ∧ s.lmc.power ≠ .OFF ∨ arg = 2 ∨ arg = 3 →
       exec (.controlLamp dt h arg) s = .next (State.finish ((s.advance dt).answered h 0x84 .DONE []))) ∧
     (3 < arg.toNat → exec (.controlLamp dt h arg) s =
       .next (State.finish (((s.advance dt).count .linkRefused).answered h 0x84 .BAD_VALUE [])))) ∧
  (∀ (dt : Nat) (h : LinkHdr) (arg : Byte) (s : State), s.addressed h →
     (arg = 0 ∨ arg = 1 → exec (.controlBlank dt h arg) s = .next (State.finish (((s.advance dt).setLmc
       { s.lmc with blanks := { s.lmc.blanks with manual := decide (arg = 1) } }).answered h 0x84 .DONE []))) ∧
     (1 < arg.toNat → exec (.controlBlank dt h arg) s =
       .next (State.finish (((s.advance dt).count .linkRefused).answered h 0x84 .BAD_VALUE []))))

/-! ## Cooling, power hold and standby (chapter 4) -/

/-- R82, R88, R89, R90, R91: a valid sample: temperature, thermal state, THERMAL_WARM, ceiling, trip and resume; an invalid one
changes nothing. R85: the three demands and
their maximum, 100 while SENSOR_LOST or FAN_FAULT is set. R86: the duty and its kick. R82, R92, R93: steps 6 and 7, the cooldown
tests of a sample.
Times are those of the model's clock (logs 1 and 2). -/
def Obligations.TemperatureSampleIsTaken : Prop :=
  (∀ (dt : Nat) (good : Bool) (reading : Int) (s : State), s.powered = true →
     (good = false ∨ reading < 0 ∨ 400 < reading →
       exec (.temperatureSample dt good reading) s = .next (s.advance dt).finish) ∧
     (∀ v : Nat, good = true → reading = v → v ≤ 400 →
       ∃ u : State, exec (.temperatureSample dt good reading) s = .next u.finish ∧
         s.sameBut u [.lmc, .thc, .lki, .sts] ∧
         u.thc.tm = some v ∧ u.thc.lastSample = some (s.now + dt) ∧ u.thc.lossTimer = some (s.now + dt + 1000000) ∧
         u.thc.lost = false ∧ u.thc.warm = decide (s.thc.par.tWarn < v) ∧
         u.thc.tstate = (if v ≤ s.thc.par.tWarn then Thermal.NORMAL else if v < s.thc.par.tTrip then .WARM else .HOT) ∧
         u.thc.cTarget = (if v ≤ s.thc.par.tWarn then 1000
           else if v < s.thc.par.tTrip then 1000 - (1000 - s.thc.par.cMin) * (v - s.thc.par.tWarn) /
             (s.thc.par.tTrip - s.thc.par.tWarn)
           else s.thc.par.cMin) ∧
         u.thc.cEff = (if u.thc.cTarget ≤ s.thc.cEff then u.thc.cTarget else min u.thc.cTarget (s.thc.cEff + 50)) ∧
         u.thc.trip = (if s.thc.trip then decide (s.thc.par.tResume < v) else decide (s.thc.par.tTrip ≤ v)) ∧
         (s.thc.trip = false → s.thc.par.tTrip ≤ v → u.lmc.power = .OFF ∧
           (s.thc.par.tSafe < v → u.thc.cooldown = some { start := s.now + dt, trip := true })) ∧
         (s.thc.trip = true ∨ v < s.thc.par.tTrip → u.lmc = s.lmc))) ∧
  ((∀ (t : Thc) (p : Power),
     fanLamp t p = (if p = .IGNITING ∨ p = .LIT then
       t.par.fMinLit + (t.par.fMax - t.par.fMinLit) * (t.hq / 64) / 1023 else 0) ∧
     fanCommand t = (if t.lost = true ∨ t.fanFault = true then 100
       else max t.fLamp (max t.fTemp (if t.cooldown.isSome then t.par.cdDuty else 0)))) ∧
   ∀ (dt v : Nat) (s : State), s.powered = true → v ≤ 400 →
     ∃ u : State, exec (.temperatureSample dt true v) s = .next u.finish ∧
       u.thc.hq = s.thc.hq ∧ u.thc.fanFault = s.thc.fanFault ∧ u.thc.par = s.thc.par ∧
       u.thc.fLamp = fanLamp s.thc u.lmc.power ∧
       u.thc.fTemp = (if v ≤ s.thc.par.tLo then 0 else if s.thc.par.tHi ≤ v then 100
         else 100 * (v - s.thc.par.tLo) / (s.thc.par.tHi - s.thc.par.tLo)) ∧
       u.thc.fan = fanCommand u.thc ∧
       (u.thc.fan = 0 → u.thc.duty = 0 ∧ u.thc.kick = none) ∧
       (s.thc.fan = 0 → 0 < u.thc.fan → u.thc.duty = 100 ∧ u.thc.kick = some (s.now + dt + 1000000)) ∧
       (s.thc.tm.isSome = true → 0 < s.thc.fan → 0 < u.thc.fan →
         (s.thc.kick = none → u.thc.duty = u.thc.fan ∧ u.thc.kick = none) ∧
         (s.thc.kick.isSome = true → u.thc.duty = s.thc.duty ∧ u.thc.kick = s.thc.kick)) ∧
       (s.thc.trip = true ∨ v < s.thc.par.tTrip →
         (v ≤ s.thc.par.tSafe → u.thc.cooldown = (match s.thc.cooldown with
           | some c => if c.start + 1000000 * s.thc.par.tCool ≤ s.now + dt then none else some c
           | none => none)) ∧
         (s.thc.par.tSafe < v → s.thc.tm.isSome = true → u.thc.cooldown = s.thc.cooldown) ∧
         (s.thc.par.tSafe < v → s.thc.tm = none → u.thc.cooldown = some
           { start := s.now + dt, trip := (s.thc.cooldown.map Cooldown.trip).getD false })))

/-- R83, R84: the sensor falls silent, and the lamp after 30 s of it. R93: when t_cool has passed the cooldown ends if Tm is at most
T_safe, and goes on if it is not or the sensor is lost. R83, R85, R86, R93: the fan at these events and at an
ignition: the demands spelled out, and the kick at a rise from 0.
Times are those of the model's clock (logs 1 and 2). -/
def Obligations.SensorLossAndCooldownEnd : Prop :=
  (∀ (dt : Nat) (s : State), s.powered = true →
     (∀ due, s.thc.lossTimer = some due →
       ∃ u : State, exec (.sensorLossTimerExpiry dt) s = .next u.finish ∧
         s.sameBut u [.thc, .lki] ∧ u.thc.lost = true ∧
         u.thc.lossStart = some (max (s.now + dt) due) ∧ u.thc.fan = 100 ∧ u.thc.tm = s.thc.tm ∧
         u.thc.tstate = s.thc.tstate ∧ u.thc.warm = s.thc.warm ∧
         u.thc.cTarget = min s.thc.cTarget s.thc.par.cMin ∧
         u.thc.cEff = min s.thc.cEff (min s.thc.cTarget s.thc.par.cMin) ∧ u.lmc = s.lmc) ∧
     (∀ start, s.thc.lost = true → s.thc.loss30 = false → s.thc.lossStart = some start →
       ∃ u : State, exec (.lossTime30s dt) s = .next u.finish ∧
         s.sameBut u [.lmc, .thc, .lki, .sts] ∧ u.now = max (s.now + dt) (start + 30000000) ∧
         u.thc.loss30 = true ∧
         (s.lmc.power = .IGNITING ∨ s.lmc.power = .LIT → u.lmc.power = .OFF ∧ u.lmc.outDrive = 0 ∧
           u.thc.cooldown.isSome = true) ∧
         (s.lmc.power = .OFF ∨ s.lmc.power = .SWAPPING → u.lmc = s.lmc))) ∧
  (∀ (dt : Nat) (s : State) (c : Cooldown), s.powered = true → s.thc.cooldown = some c →
     (∀ v, s.thc.tm = some v → v ≤ s.thc.par.tSafe → s.thc.lost = false →
       ∃ u : State, exec (.tCoolExpiry dt) s = .next u.finish ∧
         s.sameBut u [.thc, .lki] ∧ u.thc.cooldown = none ∧
         u.now = max (s.now + dt) (c.start + 1000000 * s.thc.par.tCool) ∧
         u.thc.fLamp = fanLamp s.thc s.lmc.power ∧ u.thc.fan = fanCommand u.thc) ∧
     (∀ v, s.thc.tm = some v → s.thc.par.tSafe < v ∨ s.thc.lost = true →
       exec (.tCoolExpiry dt) s = .next (State.finish ((s.advance dt).setNow
         (max (s.now + dt) (c.start + 1000000 * s.thc.par.tCool)))))) ∧
  (∀ (dt : Nat) (s : State), s.powered = true →
     (∀ due, s.thc.lossTimer = some due → ∃ u : State, exec (.sensorLossTimerExpiry dt) s = .next u.finish ∧
       u.thc.fan = 100 ∧
       (s.thc.fan = 0 → u.thc.duty = 100 ∧ u.thc.kick = some (max (s.now + dt) due + 1000000)) ∧
       (s.thc.fan ≠ 0 → s.thc.kick = none → u.thc.duty = 100 ∧ u.thc.kick = none) ∧
       (s.thc.fan ≠ 0 → s.thc.kick.isSome = true → u.thc.duty = s.thc.duty ∧ u.thc.kick = s.thc.kick)) ∧
     (∀ start, s.thc.lost = true → s.thc.loss30 = false → s.thc.lossStart = some start →
       s.lmc.power = .IGNITING ∨ s.lmc.power = .LIT →
       ∃ u : State, exec (.lossTime30s dt) s = .next u.finish ∧ u.thc.fLamp = 0 ∧ u.thc.fan = 100) ∧
     (∀ c v, s.thc.cooldown = some c → s.thc.tm = some v → v ≤ s.thc.par.tSafe → s.thc.lost = false →
       ∃ u : State, exec (.tCoolExpiry dt) s = .next u.finish ∧
         u.thc.fLamp = (if s.lmc.power = .IGNITING ∨ s.lmc.power = .LIT then
           s.thc.par.fMinLit + (s.thc.par.fMax - s.thc.par.fMinLit) * (s.thc.hq / 64) / 1023 else 0) ∧
         u.thc.fan = (if s.thc.fanFault then 100 else max u.thc.fLamp s.thc.fTemp) ∧
         (u.thc.fan = 0 → u.thc.duty = 0 ∧ u.thc.kick = none) ∧
         (u.thc.fan ≠ 0 → s.thc.fan ≠ 0 → s.thc.kick = none → u.thc.duty = u.thc.fan ∧ u.thc.kick = none)) ∧
     (∀ (h : LinkHdr) (f : Nat), s.addressed h → s.lmc.power = .OFF → s.thc.trip = false → s.thc.fanFault = false →
       s.thc.power = .ACTIVE → s.lmc.noLamp = false → s.thc.lost = false → s.lmc.motion = none →
       (s.lmc.lamp s.lmc.active).usable = true →
       f = max (s.thc.par.fMinLit + (s.thc.par.fMax - s.thc.par.fMinLit) * (s.thc.hq / 64) / 1023) (max s.thc.fTemp
         (if (s.thc.cooldown.map Cooldown.trip).getD false then s.thc.par.cdDuty else 0)) →
       ∃ u : State, exec (.controlLamp dt h 1) s = .next u.finish ∧
         u.thc.cooldown = (if (s.thc.cooldown.map Cooldown.trip).getD false then s.thc.cooldown else none) ∧
         u.thc.fan = f ∧
         (s.thc.fan = 0 → 0 < f → u.thc.duty = 100 ∧ u.thc.kick = some (s.now + dt + 1000000)) ∧
         (s.thc.fan ≠ 0 → 0 < f → s.thc.kick = none → u.thc.duty = f ∧ u.thc.kick = none)))

/-- R86, R87: the kick ends, a tach pulse is counted, and the window that ends is judged.
Times are those of the model's clock (logs 1 and 2). -/
def Obligations.FanIsKickedAndWatched : Prop :=
  ∀ (dt : Nat) (s : State), s.powered = true →
    (∀ due, s.thc.kick = some due → ∃ u : State, exec (.fanKickExpiry dt) s = .next u.finish ∧
      s.sameBut u [.thc] ∧
      u.thc.kick = none ∧ u.thc.duty = s.thc.fan ∧ u.thc.fan = s.thc.fan ∧ u.now = max (s.now + dt) due) ∧
    exec (.fanTachPulse dt) s = .next (State.finish ((s.advance dt).setThc
      { s.thc with tachCount := s.thc.tachCount + 1 })) ∧
    (∃ u : State, exec (.tachWindowEnd dt) s = .next u.finish ∧
      s.sameBut u [.lmc, .thc, .lki, .sts] ∧ u.thc.tachCount = 0 ∧
      u.thc.lastTach = s.thc.tachCount ∧ u.thc.tachDue = s.thc.tachDue + 1000000 ∧
      u.thc.tachQual = decide (30 ≤ u.thc.duty) ∧
      (s.thc.tachQual = true → s.thc.tachCount < s.thc.par.stallThr → s.thc.fanFault = false → s.thc.stall = 0 →
        u.thc.stall = 1 ∧ u.thc.fanFault = false ∧ u.lmc = s.lmc) ∧
      (s.thc.tachQual = true → s.thc.tachCount < s.thc.par.stallThr → s.thc.fanFault = false → 1 ≤ s.thc.stall →
        u.thc.stall = 0 ∧ u.thc.fanFault = true ∧ u.thc.fan = 100 ∧ u.lmc.power = .OFF) ∧
      (s.thc.tachQual = true → s.thc.tachCount < s.thc.par.stallThr → s.thc.fanFault = true →
        u.thc.fanFault = true ∧ u.thc.stall = s.thc.stall) ∧
      (s.thc.tachQual = true → s.thc.par.stallThr ≤ s.thc.tachCount → u.thc.fanFault = false ∧ u.thc.stall = 0) ∧
      (s.thc.tachQual = false → u.thc.fanFault = s.thc.fanFault ∧ (s.thc.fanFault = false → u.thc.stall = 0)))

/-- R94: STANDBY from the link and from the panel: the lamp and the transport off, the sequencer held. R95, R46: WAKE makes the power
state ACTIVE and homes a mechanism in IDLE; the lamp, the tape and the sequencer stay. In ACTIVE it changes nothing.
Times are those of the model's clock (logs 1 and 2). -/
def Obligations.StandbyAndWake : Prop :=
  (∀ (dt : Nat) (s : State), s.thc.power = .ACTIVE →
     (∀ (h : LinkHdr) (arg : Byte), s.addressed h →
       ∃ u : State, exec (.controlStandby dt h arg) s = .next u.finish ∧
         s.sameBut u [.lmc, .thc, .ttc, .ssq, .lki, .sts] ∧ u.answers (s.advance dt) h 0x84 .DONE [] ∧
         u.thc.power = .STANDBY ∧ u.lmc.power = .OFF ∧ (u.ttc.st = .STOPPED ∨ u.ttc.st = .EMPTY) ∧
         u.ssq.st ≠ .READY ∧ u.ssq.st ≠ .RUNNING ∧ u.tmc = s.tmc ∧ u.aq = s.aq) ∧
     (s.powered = true → (s.panelKey .POWER).hold = true → s.lki.resetting = false →
       ∃ u : State, exec (.panelPowerHold dt) s = .next u.finish ∧
         s.sameBut u [.lmc, .thc, .ttc, .ssq, .rpd, .lki, .sts] ∧
         u.now = max (s.now + dt) ((s.panelKey .POWER).pressed + 1000000) ∧ (u.panelKey .POWER).hold = false ∧
         u.thc.power = .STANDBY ∧ u.lmc.power = .OFF ∧ (u.ttc.st = .STOPPED ∨ u.ttc.st = .EMPTY) ∧
         u.ssq.st ≠ .READY ∧ u.ssq.st ≠ .RUNNING ∧ u.tmc = s.tmc ∧ u.aq = s.aq)) ∧
  (∀ (dt : Nat) (h : LinkHdr) (arg : Byte) (s : State), s.addressed h →
     (s.thc.power = .STANDBY → ∃ u : State, exec (.controlWake dt h arg) s = .next u.finish ∧
       s.sameBut u [.tmc, .lmc, .thc, .lki] ∧
       u.answers (s.advance dt) h 0x84 .DONE [] ∧ u.thc = { s.thc with power := .ACTIVE } ∧
       u.lmc.power = s.lmc.power ∧ u.ttc = s.ttc ∧ u.ssq = s.ssq ∧ u.aq = s.aq ∧
       (s.tmc.st = .IDLE → u.tmc.st = .HOMING ∧ u.tmc.phase = some .DARKEN ∧ u.lmc.blanks.mech = true) ∧
       (s.tmc.st ≠ .IDLE → u.tmc = s.tmc ∧ u.lmc = s.lmc)) ∧
     (s.thc.power = .ACTIVE →
       exec (.controlWake dt h arg) s = .next (State.finish ((s.advance dt).answered h 0x84 .DONE []))))

/-! ## The tape and the sound (chapter 5) -/

/-- R100: the cassette-present line changes, and 20 ms later its cassette is found, or found absent; that the one command is both
is the model's choice (log 34). R107, R108, R109: the stall of the capstan and the two ends of the tape. R163: the restart of
the tape empties a queue of step-tagged entries without a notice of the sequencer's own. Times are those of the model's clock
(logs 1 and 2). -/
def Obligations.CassetteAndTapeEnds : Prop :=
  (∀ (dt : Nat) (present : Bool) (s : State), s.powered = true →
     (s.ttc.cassette = !present → exec (.cassettePresentChange dt present) s = .next (State.finish ((s.advance dt).setTtc
       { s.ttc with cassette := present, cassetteDue := some (s.now + dt + 20000) }))) ∧
     (s.ttc.cassette = present → s.ttc.cassetteDue = none →
       exec (.cassettePresentChange dt present) s = .next (s.advance dt).finish) ∧
     (∀ due, s.ttc.cassette = present → s.ttc.cassetteDue = some due →
       ∃ u : State, exec (.cassettePresentChange dt present) s = .next u.finish ∧
         s.sameBut u [.ttc] ∧ u.now = max (s.now + dt) due ∧ u.ttc.cassetteDue = none ∧ u.ttc.servo = s.ttc.servo ∧
         u.ttc.par = s.ttc.par ∧ u.ttc.curVol = s.ttc.curVol ∧
         (present = true → s.ttc.st = .EMPTY → u.ttc.st = .STOPPED ∧ u.ttc.atEnd = false) ∧
         (present = true → s.ttc.st ≠ .EMPTY → u.ttc = { s.ttc with cassetteDue := none }) ∧
         (present = false → u.ttc.st = .EMPTY ∧ u.ttc.atEnd = false ∧ u.ttc.seqHold = false ∧ u.ttc.locked = false ∧
           u.ttc.inLock = 0 ∧ (s.ttc.st ≠ .EMPTY → u.ttc.fgTimer = none ∧ u.ttc.reelTimer = none ∧
             u.ttc.unlockStart = none)))) ∧
  (∀ (dt due : Nat) (s : State), s.powered = true →
     (s.ttc.fgTimer = some due → s.ttc.st = .PLAY → ∃ u : State, exec (.fgTimerExpiry dt) s = .next u.finish ∧
       s.sameBut u [.ttc, .lki] ∧
       u.ttc.st = .STOPPED ∧ u.ttc.atEnd = s.ttc.atEnd ∧ u.ttc.reelTimer = none ∧ u.ssq = s.ssq ∧
       u.lki = (((s.advance dt).reach due).event .TRANSPORT_FAULT none).lki) ∧
     (s.ttc.reelTimer = some due → s.ttc.st = .PLAY ∨ s.ttc.st = .FFWD →
       ∃ u : State, exec (.takeUpReelTimerExpiry dt) s = .next u.finish ∧
         s.sameBut u [.ttc, .lki] ∧
         u.lki = (((s.advance dt).reach due).event .TAPE_END none).lki ∧
         (s.ttc.par.autoRewind = false → u.ttc.st = .STOPPED ∧ u.ttc.atEnd = true) ∧
         (s.ttc.par.autoRewind = true → u.ttc.st = .REWIND ∧ u.ttc.atEnd = false ∧
           u.ttc.reelTimer = some (max (s.now + dt) due + 1500000))) ∧
     (s.ttc.reelTimer = some due → s.ttc.st = .REWIND → s.ttc.par.loop = false →
       ∃ u : State, exec (.supplyReelTimerExpiry dt) s = .next u.finish ∧
         s.sameBut u [.ttc, .lki] ∧ u.ttc.st = .STOPPED ∧ u.ssq = s.ssq ∧
         u.lki = (((s.advance dt).reach due).event .TAPE_REWOUND none).lki) ∧
     (s.ttc.reelTimer = some due → s.ttc.st = .REWIND → s.ttc.par.loop = true → s.ssq.st ≠ .UNLOADED →
       ∃ u : State, exec (.supplyReelTimerExpiry dt) s = .next u.finish ∧
         s.sameBut u [.aq, .tmc, .lmc, .thc, .ttc, .ssq, .lki, .cnt, .sts] ∧ u.ttc.st = .PLAY ∧ u.ssq.st = .READY ∧
         u.ssq.ptr = some s.ssq.head ∧ u.ssq.pend = none ∧ u.ssq.remembered = none ∧ u.ssq.watched = none ∧
         u.ssq.follow = .stopped)) ∧
  (∀ (dt due : Nat) (s : State), s.powered = true → s.ttc.reelTimer = some due → s.ttc.st = .REWIND →
     s.ttc.par.loop = true → s.ssq.st ≠ .UNLOADED → s.lki.resetting = false →
     (∀ e ∈ s.aq.queue, e.tag.isSome = true ∧ (e.running = true → e.action.mech = false)) →
     ∃ u : State, exec (.supplyReelTimerExpiry dt) s = .next u.finish ∧ u.aq.queue = [] ∧ u.ssq.st = .READY ∧
       u.ssq.ptr = some s.ssq.head ∧ u.lki = (((s.advance dt).reach due).event .TAPE_REWOUND none).lki)

/-- R101, R102: a link TAPE op by the state of the transport, and the drive outputs of each transport state (section 5.1).
Times are those of the model's clock (logs 1 and 2). -/
def Obligations.TapeOperationByTheTable : Prop :=
  (∀ (dt : Nat) (h : LinkHdr) (arg : Byte) (s : State), s.addressed h →
     (∀ op x, (arg = 0 ∧ op = TapeOp.PLAY ∧ x = Transport.PLAY) ∨ (arg = 1 ∧ op = .PAUSE ∧ x = .PAUSE) ∨
         (arg = 2 ∧ op = .STOP ∧ x = (if s.ttc.st = .EMPTY then .EMPTY else .STOPPED)) ∨
         (arg = 3 ∧ op = .FFWD ∧ x = .FFWD) ∨ (arg = 4 ∧ op = .REWIND ∧ x = .REWIND) →
       (tapeRefusal op s.ttc.st s.ttc.atEnd (s.thc.power == .STANDBY) = true →
         exec (.controlTape dt h arg) s =
           .next (State.finish (((s.advance dt).count .linkRefused).answered h 0x84 .REFUSED_STATE []))) ∧
       (tapeRefusal op s.ttc.st s.ttc.atEnd (s.thc.power == .STANDBY) = false →
         ∃ u : State, exec (.controlTape dt h arg) s = .next u.finish ∧
           s.sameBut u [.ttc, .lki] ∧
           u.answers (s.advance dt) h 0x84 .DONE [] ∧ u.ttc.st = x ∧ u.ttc.servo = s.ttc.servo ∧
           u.ttc.par = s.ttc.par ∧ u.ttc.curVol = s.ttc.curVol ∧ (x = s.ttc.st → u.ttc = s.ttc) ∧
           (x ≠ s.ttc.st → u.ttc.seqHold = false ∧
             u.ttc.reelTimer = (if x = .PLAY ∨ x = .FFWD ∨ x = .REWIND then some (s.now + dt + 1500000) else none) ∧
             u.ttc.fgTimer = (if x = .PLAY then some (s.now + dt + 200000) else none) ∧
             u.ttc.atEnd = (if x = .REWIND then false else s.ttc.atEnd) ∧
             (x = .PLAY → u.ttc.locked = false ∧ u.ttc.inLock = 0 ∧ u.ttc.fgPeriod = none ∧ u.ttc.lastFg = none)))) ∧
     (4 < arg.toNat → exec (.controlTape dt h arg) s =
       .next (State.finish (((s.advance dt).count .linkRefused).answered h 0x84 .BAD_VALUE [])))) ∧
  (∀ t : Ttc,
     capstanDrive t = (if t.st = .PLAY then t.servo else if t.st = .FFWD ∨ t.st = .REWIND then 1023 else 0) ∧
     (solenoidEngaged t = true ↔ t.st = .PLAY ∨ t.st = .PAUSE) ∧
     (reelDrive t = .takeUpSlipping ↔ t.st = .PLAY) ∧ (reelDrive t = .takeUpDirect ↔ t.st = .FFWD) ∧
     (reelDrive t = .supplyDirect ↔ t.st = .REWIND))

/-- R104, R105, R106: an FG pulse in PLAY measures a period, moves the servo and judges the lock; elsewhere it does nothing.
R108, R109, R114: a reel pulse restarts its watch; the unlock timer passes 300 ms. R112, R114: the volume step moves one
toward the effective target, which is 0 while auto-mute is on and a mute reason holds. Times are those of the model's clock
(logs 1 and 2). -/
def Obligations.FgReelVolumeAndUnlock : Prop :=
  (∀ (dt : Nat) (s : State), s.powered = true →
     (s.ttc.st ≠ .PLAY → exec (.fgPulse dt) s = .next (s.advance dt).finish) ∧
     (s.ttc.st = .PLAY → s.ttc.lastFg = none → exec (.fgPulse dt) s = .next (State.finish ((s.advance dt).setTtc
       { s.ttc with lastFg := some (s.now + dt), fgTimer := some (s.now + dt + 200000) }))) ∧
     (∀ before (d target : Int), s.ttc.st = .PLAY → s.ttc.lastFg = some before → before ≤ s.now →
       target = 1666667 / (1000 + s.ttc.par.trimT) → 0 < 1000 + s.ttc.par.trimT →
       d = (s.now + dt - before : Nat) - target →
       ∃ u : State, exec (.fgPulse dt) s = .next u.finish ∧
         s.sameBut u [.ttc] ∧ u.ttc.fgPeriod = some (s.now + dt - before) ∧
         u.ttc.lastFg = some (s.now + dt) ∧ u.ttc.fgTimer = some (s.now + dt + 200000) ∧ u.ttc.st = .PLAY ∧
         (50 * d > target → u.ttc.servo = min (s.ttc.servo + 4) 1023) ∧
         (400 * d > target → ¬50 * d > target → u.ttc.servo = min (s.ttc.servo + 1) 1023) ∧
         (50 * d < -target → u.ttc.servo = s.ttc.servo - 4) ∧
         (400 * d < -target → ¬50 * d < -target → u.ttc.servo = s.ttc.servo - 1) ∧
         (¬400 * d > target → ¬400 * d < -target → u.ttc.servo = s.ttc.servo) ∧
         (100 * d.natAbs ≤ target → u.ttc.inLock = min (s.ttc.inLock + 1) 8 ∧
           u.ttc.locked = (s.ttc.locked || decide (8 ≤ s.ttc.inLock + 1))) ∧
         (target < 100 * d.natAbs → u.ttc.inLock = 0 ∧ u.ttc.locked = false))) ∧
  (∀ (dt : Nat) (s : State), s.powered = true →
     (s.ttc.st = .PLAY ∨ s.ttc.st = .FFWD → exec (.reelPulse dt .takeUp) s = .next (State.finish ((s.advance dt).setTtc
       { s.ttc with reelTimer := some (s.now + dt + 1500000) }))) ∧
     (s.ttc.st = .REWIND → exec (.reelPulse dt .supply) s = .next (State.finish ((s.advance dt).setTtc
       { s.ttc with reelTimer := some (s.now + dt + 1500000) }))) ∧
     (∀ start, s.ttc.unlockStart = some start → s.ttc.unlockPassed = false →
       exec (.unlockTimer300ms dt) s = .next (State.finish (((s.advance dt).setNow
         (max (s.now + dt) (start + 300000))).setTtc { s.ttc with unlockPassed := true })))) ∧
  (∀ (dt target : Nat) (s : State), s.powered = true →
     target = (if s.ttc.par.autoMute && (s.ttc.st != .PLAY || s.cud.speedOff || s.ttc.unlockPassed)
       then 0 else s.ttc.par.volTarget) →
     exec (.volumeStep dt) s = .next (State.finish ((s.advance dt).setTtc { s.ttc with
       curVol := if s.ttc.curVol < target then s.ttc.curVol + 1
         else if target < s.ttc.curVol then s.ttc.curVol - 1 else s.ttc.curVol })))

/-- R113: G_v is 65536 · 10^((v − 63)/20) rounded, and 0 for v = 0; an I2S frame has both samples scaled at the factor of the current
volume, truncated, in every transport state, and never exceeds its input in magnitude. -/
def Obligations.GainScalesEveryFrame : Prop :=
  (gainTable.length = 64 ∧ gainTable.getD 0 1 = 0 ∧
     ∀ v, 1 ≤ v → v ≤ 63 →
       (2 * gainTable.getD v 0 - 1) ^ 20 * 10 ^ (63 - v) < 131072 ^ 20 ∧
         131072 ^ 20 < (2 * gainTable.getD v 0 + 1) ^ 20 * 10 ^ (63 - v)) ∧
  (∀ (dt : Nat) (left right : Sample) (s : State), s.powered = true →
     exec (.i2sFrame dt left right) s = .next (State.finish ((s.advance dt).setTtc { s.ttc with
       i2sOut := (BitVec.ofInt 24 (Int.tdiv (left.toInt * (gainTable.getD s.ttc.curVol 0 : Nat)) 65536),
                  BitVec.ofInt 24 (Int.tdiv (right.toInt * (gainTable.getD s.ttc.curVol 0 : Nat)) 65536)) })) ∧
     (s.ttc.curVol ≤ 63 → ∀ x : Sample,
       (Int.tdiv (x.toInt * (gainTable.getD s.ttc.curVol 0 : Nat)) 65536).natAbs ≤ x.toInt.natAbs))

/-! ## The cue track (chapter 6) -/

/-- R118, R119, R120, R121, R122, R123: edges of the selected input, the declaration of CARRIER and of NO_CARRIER, a half and a
pair of halves, and the speed-off timer. CARRIER_DETECT is two edges, `gap` apart: the model's choice (log 6). R121: an
interval that is a full, and one that forms a void bit, in 32 bit positions. Times are those of the model's clock (logs 1 and
2). -/
def Obligations.EdgesCarrierAndSpeed : Prop :=
  (∀ (dt : Nat) (s : State), s.powered = true →
     (s.cud.par.source = .NONE → exec (.cueInputEdge dt) s = .next (s.advance dt).finish) ∧
     (s.cud.par.source ≠ .NONE → s.cud.carrier = false → (∀ t, s.cud.lastEdge = some t → 50000 < s.now + dt - t) →
       exec (.cueInputEdge dt) s =
         .next (State.finish ((s.advance dt).setCud { s.cud with lastEdge := some (s.now + dt) }))) ∧
     (∀ t, s.cud.par.source ≠ .NONE → s.cud.carrier = false → s.cud.lastEdge = some t → s.now + dt - t ≤ 50000 →
       ∃ u : State, exec (.cueInputEdge dt) s = .next u.finish ∧
         s.sameBut u [.cud] ∧ u.cud.carrier = true ∧
         u.cud.carrierTimer = some (s.now + dt + 250000) ∧ u.cud.lastEdge = some (s.now + dt) ∧
         u.cud.bits = s.cud.bits ∧ u.cud.pendHalf = s.cud.pendHalf) ∧
     (∀ gap, s.cud.par.source ≠ .NONE → s.cud.carrier = false → gap ≤ 50000 →
       ∃ u : State, exec (.carrierDetect dt gap) s = .next u.finish ∧
         s.sameBut u [.aq, .tmc, .lmc, .thc, .ttc, .cud, .ssq, .lki, .cnt, .sts] ∧ u.now = s.now + dt + gap ∧
         u.cud.carrier = true ∧ u.cud.lastEdge = some (s.now + dt + gap) ∧
         u.cud.carrierTimer = some (s.now + dt + gap + 250000)) ∧
     (∀ t i, s.cud.par.source ≠ .NONE → s.cud.carrier = true → s.cud.lastEdge = some t → i = s.now + dt - t →
       4 * (2 * (i : Int) - s.cud.cellE).natAbs ≤ s.cud.cellE →
       (s.cud.pendHalf = none → exec (.cueInputEdge dt) s = .next (State.finish ((s.advance dt).setCud
         { s.cud with pendHalf := some i, lastEdge := some (s.now + dt)
                      carrierTimer := some (s.now + dt + 250000) }))) ∧
       (∀ h, s.cud.pendHalf = some h → s.cud.bits.length = 32 →
         ∃ u : State, exec (.cueInputEdge dt) s = .next u.finish ∧
           s.sameBut u [.aq, .tmc, .lmc, .thc, .ttc, .cud, .ssq, .lki, .cnt, .sts] ∧ u.cud.pendHalf = none ∧
           u.cud.bits = s.cud.bits.tail ++ [some true] ∧ u.cud.bitIndex = s.cud.bitIndex + 1 ∧
           (u.cud.cellE : Int) = min 3906 (max 2344 (s.cud.cellE + Int.tdiv ((h + i : Nat) - s.cud.cellE) 16)) ∧
           u.cud.speed = 3125000 / u.cud.cellE ∧ u.cud.carrierTimer = some (s.now + dt + 250000))) ∧
     (∀ due, s.cud.carrierTimer = some due →
       ∃ u : State, exec (.carrierTimerExpiry dt) s = .next u.finish ∧
         s.sameBut u [.cud, .lki, .cnt] ∧ u.now = max (s.now + dt) due ∧
         u.cud.carrier = false ∧ u.cud.carrierTimer = none ∧ u.cud.framing = .HUNT ∧ u.cud.pendHalf = none ∧
         u.cud.bits = [] ∧ u.cud.bitIndex = 0 ∧ u.cud.prevAlign = none ∧ u.cud.cellE = 3125 ∧
         u.cud.speed = 1000 ∧ u.cud.speedOff = false ∧ u.cud.speedOffTimer = none ∧
         u.cud.tapeTime = s.cud.tapeTime ∧ u.cud.lastCue = s.cud.lastCue ∧ u.cud.degraded = s.cud.degraded ∧
         (s.cud.framing = .SYNC → u.cud.cueSync = false ∧ u.cud.errs = 0 ∧ u.cud.expected = none ∧
           u.cud.window = none ∧ u.cud.cand = none ∧ u.cud.lock = false ∧ u.cud.sending = false ∧ u.cud.buf = [])) ∧
     (∀ due, s.cud.speedOffTimer = some due → exec (.speedOffTimerExpiry dt) s = .next (State.finish
       ((((s.advance dt).setNow (max (s.now + dt) due)).setCud
         { s.cud with speedOffTimer := none, speedOff := true }).condNotice .TAPE_SPEED_OFF true none)))) ∧
  (∀ (dt t i : Nat) (half full : Bool) (s : State), s.powered = true → s.cud.par.source ≠ .NONE →
     s.cud.carrier = true → s.cud.lastEdge = some t → i = s.now + dt - t → s.cud.bits.length = 32 →
     half = decide (4 * (2 * (i : Int) - s.cud.cellE).natAbs ≤ s.cud.cellE) →
     full = (decide (4 * ((i : Int) - s.cud.cellE).natAbs ≤ s.cud.cellE) && !half) →
     (full = true → s.cud.pendHalf = none →
       ∃ u : State, exec (.cueInputEdge dt) s = .next u.finish ∧
         s.sameBut u [.aq, .tmc, .lmc, .thc, .ttc, .cud, .ssq, .lki, .cnt, .sts] ∧ u.cud.pendHalf = none ∧
         u.cud.bits = s.cud.bits.tail ++ [some false] ∧ u.cud.bitIndex = s.cud.bitIndex + 1 ∧
         (u.cud.cellE : Int) = min 3906 (max 2344 (s.cud.cellE + Int.tdiv ((i : Int) - s.cud.cellE) 16)) ∧
         u.cud.speed = 3125000 / u.cud.cellE ∧ u.cud.lastEdge = some (s.now + dt) ∧
         u.cud.carrierTimer = some (s.now + dt + 250000)) ∧
     (half = false → full = false ∨ s.cud.pendHalf.isSome = true →
       ∃ u : State, exec (.cueInputEdge dt) s = .next u.finish ∧
         s.sameBut u [.cud, .lki, .cnt] ∧ u.cud.pendHalf = none ∧
         u.cud.bits = s.cud.bits.tail ++ [none] ∧ u.cud.bitIndex = s.cud.bitIndex + 1 ∧
         u.cud.cellE = s.cud.cellE ∧ u.cud.speed = s.cud.speed ∧ u.cud.lastEdge = some (s.now + dt) ∧
         u.cud.carrierTimer = some (s.now + dt + 250000) ∧
         u.cnt.live[Ctr.cueViolations.idx]? = s.cnt.live[Ctr.cueViolations.idx]?.map Counter.bump))

/-- R125, R126, R138: a valid frame found in HUNT leads to CONFIRM; the frame that follows it enters SYNC, or returns to HUNT.
Times are those of the model's clock (logs 1 and 2). -/
def Obligations.FramesLeadFromHuntToSync : Prop :=
  ∀ (dt : Nat) (cells : List CueCell) (s : State), s.powered = true → s.cud.carrier = true → cells.length = 32 →
    (∀ c k p, s.cud.framing = .HUNT → s.cud.bits = [] → judgeWindow (cells.map cellValue) = .valid c k p →
      ∃ u : State, exec (.cueFrame dt cells) s = .next u.finish ∧
        s.sameBut u [.cud, .lki, .cnt] ∧ u.cud.framing = .CONFIRM ∧
        u.cud.candAlign = some (s.cud.bitIndex % 32) ∧ u.cud.align = s.cud.align ∧ u.cud.tapeTime = s.cud.tapeTime ∧
        u.cud.lastCue = s.cud.lastCue ∧ u.cud.buf = s.cud.buf) ∧
    (∀ c k p, s.cud.framing = .CONFIRM → s.cud.candAlign = some (s.cud.bitIndex % 32) → s.cud.bits.length ≤ 32 →
      judgeWindow (cells.map cellValue) = .valid c k p →
      ∃ u : State, exec (.cueFrame dt cells) s = .next u.finish ∧
        s.sameBut u [.aq, .tmc, .lmc, .thc, .ttc, .cud, .ssq, .lki, .cnt, .sts] ∧ u.cud.framing = .SYNC ∧ u.cud.cueSync = true ∧
        u.cud.align = s.cud.candAlign ∧ u.cud.prevAlign = s.cud.candAlign ∧
        u.cud.expected = some ((c + 1) % 16) ∧ u.cud.errs = 0 ∧
        (k = .TIME → u.cud.tapeTime = some p) ∧
        (s.cud.par.relay = true → s.cud.sending = false → s.cud.buf = [] → u.cud.sending = true ∧
          u.cud.cueOut = some (frameWord s.cud.regenCount k p) ∧ u.cud.slotDue = some (s.now + dt + 100000) ∧
          u.cud.regenCount = (s.cud.regenCount + 1) % 16 ∧ u.cud.buf = [])) ∧
    (s.cud.framing = .CONFIRM → s.cud.candAlign = some (s.cud.bitIndex % 32) → s.cud.bits.length ≤ 32 →
      (∀ c k p, judgeWindow (cells.map cellValue) ≠ .valid c k p) →
      ∃ u : State, exec (.cueFrame dt cells) s = .next u.finish ∧
        s.sameBut u [.cud, .lki, .cnt] ∧ u.cud.framing = .HUNT)

/-- R127 to R136: a frame in SYNC, by its class: the consecutive errors, the expected count, the degrade window, the tape time,
the candidate and the acceptance of a cue, the regenerator buffer; and the same frame as DEGRADE_WINDOW_CLOSE, where it is
the 16th of its window (log 4, the model's choice). R130, R133, R134: what a frame hands to the show, and the degrade window
at an errored frame that keeps SYNC. R150, R157 to R161: what the show makes of a cue and of a TIME update: the pointer step
fires, a chase runs (its CHASE notice stands last: log 14, the model's choice), the cue is stray, or it is remembered. R110:
a valid STOP frame is the end of the tape in PLAY, with rewind on STOP on and the local tape as the source, and nothing to
the transport otherwise. -/
def Obligations.FramesInSyncAreHandled : Prop :=
  (∀ (dt : Nat) (cells : List CueCell) (s : State), s.powered = true → s.cud.carrier = true → cells.length = 32 →
     s.cud.framing = .SYNC → s.cud.align = some (s.cud.bitIndex % 32) → s.cud.bits.length ≤ 32 →
     (∀ count kind payload, judgeWindow (cells.map cellValue) = .valid count kind payload →
       ∃ u : State, exec (.cueFrame dt cells) s = .next u.finish ∧
         s.sameBut u [.aq, .tmc, .lmc, .thc, .ttc, .cud, .ssq, .lki, .cnt, .sts] ∧ u.cud.framing = .SYNC ∧ u.cud.errs = 0 ∧
         u.cud.expected = some ((count + 1) % 16) ∧
         u.cud.window = (match s.cud.window with
           | none => if count = 0 then some { frames := 1, errors := 0 } else none
           | some w => if 16 ≤ w.frames + 1 then none else some { frames := w.frames + 1, errors := w.errors }) ∧
         u.cud.degraded = (match s.cud.window with
           | none => s.cud.degraded
           | some w => if 16 ≤ w.frames + 1 then decide (s.cud.par.degThr ≤ w.errors) else s.cud.degraded) ∧
         u.cud.tapeTime = (if kind = .TIME then some payload else s.cud.tapeTime) ∧
         (kind ≠ .CUE → u.cud.cand = none ∧ u.cud.lock = false ∧ u.cud.lastCue = s.cud.lastCue) ∧
         (kind = .CUE → ∀ run, run = (if s.cud.cand.map Candidate.number = some payload then
             min ((s.cud.cand.map Candidate.run).getD 0 + 1) 2 else 1) →
           u.cud.cand = some { number := payload, run := run } ∧
           ((if u.cud.degraded then 2 else s.cud.par.confirm) ≤ run ∧
               (s.cud.lock = false ∨ s.cud.lastCue ≠ some payload) →
             u.cud.lastCue = some payload ∧ u.cud.lock = true) ∧
           (¬((if u.cud.degraded then 2 else s.cud.par.confirm) ≤ run ∧
               (s.cud.lock = false ∨ s.cud.lastCue ≠ some payload)) →
             u.cud.lastCue = s.cud.lastCue ∧ u.cud.lock = s.cud.lock)) ∧
         u.cud.buf = (if s.cud.par.relay = true ∧ s.cud.buf.length < 4 then
           s.cud.buf ++ [{ kind := kind, payload := payload }] else s.cud.buf) ∧
         (∀ w, s.cud.window = some w → 15 ≤ w.frames → exec (.degradeWindowClose dt cells) s = .next u.finish)) ∧
     (judgeWindow (cells.map cellValue) = .damaged ∨ judgeWindow (cells.map cellValue) = .wrongSync ∨
         judgeWindow (cells.map cellValue) = .checkError →
       ∀ n, n = (if judgeWindow (cells.map cellValue) = .checkError ∧ s.cud.par.loss = .SYNC_ONLY then 0
         else s.cud.errs + 1) →
       ∃ u : State, exec (.cueFrame dt cells) s = .next u.finish ∧
         s.sameBut u [.cud, .lki, .cnt] ∧ u.cud.tapeTime = s.cud.tapeTime ∧
         u.cud.lastCue = s.cud.lastCue ∧
         (n < 3 → u.cud.framing = .SYNC ∧ u.cud.errs = n ∧ u.cud.cand = s.cud.cand ∧ u.cud.lock = s.cud.lock ∧
           u.cud.expected = s.cud.expected.map (fun e => (e + 1) % 16) ∧ u.cud.buf = s.cud.buf) ∧
         (3 ≤ n → u.cud.framing = .HUNT ∧ u.cud.cueSync = false ∧ u.cud.errs = 0 ∧ u.cud.expected = none ∧
           u.cud.window = none ∧ u.cud.cand = none ∧ u.cud.lock = false ∧ u.cud.sending = false ∧ u.cud.buf = []))) ∧
  (∀ (dt : Nat) (cells : List CueCell) (s : State), s.powered = true → s.cud.carrier = true → cells.length = 32 →
     s.cud.framing = .SYNC → s.cud.align = some (s.cud.bitIndex % 32) → s.cud.bits.length ≤ 32 →
     (∀ count kind payload, judgeWindow (cells.map cellValue) = .valid count kind payload →
       ∃ u : State, exec (.cueFrame dt cells) s = .next u.finish ∧
         (∃ v : State, s.sameBut v [.cud, .lki, .cnt] ∧ v.now = s.now + dt ∧ v.lki.resetting = s.lki.resetting ∧
           (kind = .IDLE ∨ kind = .STOP → u.aq = s.aq ∧ u.ssq = s.ssq) ∧
           (kind = .TIME → u.aq = (v.handTime payload).aq ∧ u.ssq = (v.handTime payload).ssq) ∧
           (kind = .CUE → ∀ run, run = (if s.cud.cand.map Candidate.number = some payload then
               min ((s.cud.cand.map Candidate.run).getD 0 + 1) 2 else 1) →
             ((if u.cud.degraded then 2 else s.cud.par.confirm) ≤ run ∧
                 (s.cud.lock = false ∨ s.cud.lastCue ≠ some payload) →
               u.aq = (v.handCue payload).aq ∧ u.ssq = (v.handCue payload).ssq) ∧
             (¬((if u.cud.degraded then 2 else s.cud.par.confirm) ≤ run ∧
                 (s.cud.lock = false ∨ s.cud.lastCue ≠ some payload)) → u.aq = s.aq ∧ u.ssq = s.ssq)))) ∧
     (judgeWindow (cells.map cellValue) = .damaged ∨ judgeWindow (cells.map cellValue) = .wrongSync ∨
         judgeWindow (cells.map cellValue) = .checkError →
       (if judgeWindow (cells.map cellValue) = .checkError ∧ s.cud.par.loss = .SYNC_ONLY then 0
         else s.cud.errs + 1) < 3 →
       ∃ u : State, exec (.cueFrame dt cells) s = .next u.finish ∧
         ∀ (w : DegWindow) (n : Nat), s.cud.window = some w →
           n = w.errors + (if judgeWindow (cells.map cellValue) = .checkError then 1 else 0) →
           u.cud.window = (if 16 ≤ w.frames + 1 then none else some { frames := w.frames + 1, errors := n }) ∧
           u.cud.degraded = (if 16 ≤ w.frames + 1 then decide (s.cud.par.degThr ≤ n) else s.cud.degraded))) ∧
  (∀ (s : State) (n : Nat),
     (s.aq.mode ≠ .SHOW ∨ s.lki.resetting = true → s.handCue n = s ∧ s.handTime n = s) ∧
     (s.aq.mode = .SHOW → s.lki.resetting = false →
       (s.ssq.st = .UNLOADED → s.handCue n = s) ∧
       (s.ssq.st = .PAUSED → s.handCue n = s.setSsq { s.ssq with remembered := some n }) ∧
       (∀ p, s.ssq.ptr = some p → s.ssq.st = .READY ∨ s.ssq.st = .RUNNING → (s.ssq.step p).trigger = .CUE n →
         s.sameBut (s.handCue n) [.aq, .ssq, .lki] ∧ (s.ssq.followless p → s.fires (s.handCue n) p)) ∧
       (∀ (start : Nat) (fromHead : Bool),
         (s.ssq.st = .READY ∨ s.ssq.st = .RUNNING) ∧ fromHead = false ∧ s.ssq.ptr = some start ∧
             (s.ssq.step start).trigger ≠ .CUE n ∨
           (s.ssq.st = .ENDED ∨ s.ssq.st = .RUNNING ∧ s.ssq.ptr = none) ∧ fromHead = true ∧ start = s.ssq.head →
         ((∀ j h, ¬ s.ssq.finds n start fromHead j h) →
           s.handCue n = (s.event .CUE_STRAY (some n)).count .cueStray) ∧
         (∀ j h, s.ssq.finds n start fromHead j h → s.ssq.followless j →
           s.chases (s.handCue n) j h ∧
           (s.lki.enabled .CHASE = true → (s.handCue n).lki.notices.getLast? =
             some { kind := .CHASE, clear := false, subject := some j, stamp := s.stamp }))) ∧
       (∀ p t, s.ssq.ptr = some p → s.ssq.st = .READY ∨ s.ssq.st = .RUNNING → (s.ssq.step p).trigger = .TIME t →
         t ≤ n → s.sameBut (s.handTime n) [.aq, .ssq, .lki] ∧ (s.ssq.followless p → s.fires (s.handTime n) p)) ∧
       (∀ p, s.ssq.ptr = some p → (∀ t, (s.ssq.step p).trigger = .TIME t → n < t) → s.handTime n = s) ∧
       (s.ssq.ptr = none ∨ s.ssq.st = .UNLOADED ∨ s.ssq.st = .PAUSED ∨ s.ssq.st = .ENDED → s.handTime n = s))) ∧
  (∀ (dt : Nat) (cells : List CueCell) (s : State), s.powered = true → s.cud.carrier = true → cells.length = 32 →
     s.cud.framing = .SYNC → s.cud.align = some (s.cud.bitIndex % 32) → s.cud.bits.length ≤ 32 →
     ∀ count payload, judgeWindow (cells.map cellValue) = .valid count .STOP payload →
     ∃ u : State, exec (.cueFrame dt cells) s = .next u.finish ∧
       (s.ttc.st = .PLAY → s.ttc.par.stopRewind = true → s.cud.par.source = .LOCAL_TAPE →
         (s.ttc.par.autoRewind = false → u.ttc.st = .STOPPED ∧ u.ttc.atEnd = true ∧ u.ttc.reelTimer = none) ∧
         (s.ttc.par.autoRewind = true → u.ttc.st = .REWIND ∧ u.ttc.atEnd = false ∧
           u.ttc.reelTimer = some (s.now + dt + 1500000)) ∧
         u.ttc.fgTimer = none ∧ u.ttc.unlockStart = none ∧ u.ttc.servo = s.ttc.servo ∧ u.ttc.par = s.ttc.par ∧
         (s.lki.enabled .TAPE_END = true → u.lki.notices.getLast? =
           some { kind := .TAPE_END, clear := false, subject := none, stamp := (s.now + dt) / 1000 % 4294967296 })) ∧
       (s.ttc.st ≠ .PLAY ∨ s.ttc.par.stopRewind = false ∨ s.cud.par.source ≠ .LOCAL_TAPE → u.ttc = s.ttc))

/-- R124, R136, R137: a frame slot sends the oldest buffered frame, or an IDLE frame, under the regenerator's count; the frame that
is formed is judged valid with the same fields.
Times are those of the model's clock (logs 1 and 2). -/
def Obligations.RegeneratorSendsValidFrames : Prop :=
  (∀ (dt due : Nat) (f : BufFrame) (s : State), s.powered = true → s.cud.slotDue = some due →
    f = s.cud.buf.headD { kind := .IDLE, payload := 0 } →
    exec (.regenSlot dt) s = .next (State.finish (((s.advance dt).setNow (max (s.now + dt) due)).setCud
      { s.cud with buf := s.cud.buf.tail, cueOut := some (frameWord s.cud.regenCount f.kind f.payload)
                   regenCount := (s.cud.regenCount + 1) % 16, slotDue := some (due + 100000) }))) ∧
    (∀ (count payload : Nat) (kind : FrameKind), count < 16 → payload < 16384 → (kind = .CUE → payload ≠ 0) →
      judgeWindow ((frameBits count kind payload).map some) = .valid count kind payload ∧
      (List.range 32).map (fun i => (frameWord count kind payload).getLsbD (31 - i)) = frameBits count kind payload)

/-! ## The sequencer (chapter 7) -/

/-- R143, R145, R146, R192: a STEP_WRITE is judged by the sequencer state and the record; a STEP_READ sends the record held; a
record that was taken is read back as it was taken. -/
def Obligations.StepRecordsAreWrittenAndRead : Prop :=
  (∀ (dt : Nat) (h : LinkHdr) (index mode : Byte) (record : List Byte) (s : State), s.addressed h → s.unlocked →
    record.length = 26 →
    (s.ssq.st = .RUNNING ∨ s.ssq.st = .PAUSED →
      exec (.stepWrite dt h index mode record) s =
        .next (State.finish (((s.advance dt).count .linkRefused).answered h 0x85 .BUSY []))) ∧
    (s.ssq.st ≠ .RUNNING → s.ssq.st ≠ .PAUSED → 1 < mode.toNat ∨ decodeStep record = none →
      exec (.stepWrite dt h index mode record) s =
        .next (State.finish (((s.advance dt).count .linkRefused).answered h 0x85 .BAD_VALUE []))) ∧
    (∀ r, s.ssq.st ≠ .RUNNING → s.ssq.st ≠ .PAUSED → decodeStep record = some r →
      ((s.ssq.st = .UNLOADED ∨ index.toNat ≠ s.ssq.head ∧ (s.ssq.step s.ssq.head).valid = true ∨ r.valid = true ∧
          index.toNat = s.ssq.head ∧ s.ssq.head < s.ssq.steps.length) → mode = 0 →
        exec (.stepWrite dt h index mode record) s = .next (State.finish (((s.advance dt).setSsq
          { s.ssq with steps := s.ssq.steps.set index.toNat r }).answered h 0x85 .DONE []))) ∧
      (s.ssq.st ≠ .UNLOADED → r.valid = false → index.toNat = s.ssq.head → s.ssq.head < s.ssq.steps.length →
        mode = 0 → exec (.stepWrite dt h index mode record) s = .next (State.finish (((s.advance dt).setSsq
          { s.ssq with steps := s.ssq.steps.set index.toNat r, st := .UNLOADED, ptr := none }).answered h 0x85
            .DONE []))) ∧
      (mode = 1 → r.valid = true → index.toNat < s.ssq.steps.length →
        exec (.stepWrite dt h index mode record) s = .next (State.finish (((s.advance dt).setSsq
          { s.ssq with steps := s.ssq.steps.set index.toNat r, head := index.toNat, st := .READY
                       ptr := some index.toNat, pend := none, remembered := none, watched := none, pausedFrom := none
                       follow := .stopped }).answered h 0x85 .DONE []))) ∧
      (mode = 1 → r.valid = false → index.toNat < s.ssq.steps.length →
        exec (.stepWrite dt h index mode record) s = .next (State.finish ((((s.advance dt).setSsq
          { s.ssq with steps := s.ssq.steps.set index.toNat r, head := index.toNat, st := .UNLOADED, ptr := none
                       pend := none, remembered := none, watched := none, pausedFrom := none
                       follow := .stopped }).count .linkRefused).answered h 0x85 .BAD_VALUE []))))) ∧
    (∀ (dt : Nat) (h : LinkHdr) (index : Byte) (s : State), s.addressed h →
      exec (.stepRead dt h index) s = .next (State.finish ((s.advance dt).answered h 0x86 .DONE
        (index :: encodeStep (s.ssq.step index.toNat))))) ∧
    (∀ (record : List Byte) (r : StepRec), decodeStep record = some r →
      decodeStep (encodeStep r) = some r ∧ (encodeStep r).length = 26)

/-- R147, R160, R162: ARM, PAUSE and RESUME. R161, R162: what a RESUME makes of a pending fire and of the remembered cue, where
the head of the queue waits. R151, R162: a pending fire that brings no entries, placed at a RESUME, lets the FOLLOW timer of
the pointer step start before the remembered cue is judged; a delay of 0 expires then. Times are those of the model's clock
(logs 1 and 2). -/
def Obligations.ArmPauseAndResume : Prop :=
  (∀ (dt : Nat) (h : LinkHdr) (arg : Byte) (s : State), s.addressed h →
     (s.unlocked → ∃ u : State, exec (.arm dt h arg) s = .next u.finish ∧
       s.sameBut u [.aq, .tmc, .lmc, .thc, .ttc, .ssq, .lki, .cnt, .sts] ∧ u.ssq.head = arg.toNat ∧
       u.ssq.steps = s.ssq.steps ∧ u.ssq.pend = none ∧ u.ssq.remembered = none ∧ u.ssq.watched = none ∧
       u.ssq.pausedFrom = none ∧ u.ssq.follow = .stopped ∧ u.ssq.skipped = s.ssq.skipped ∧ u.ttc.st = s.ttc.st ∧
       ((s.ssq.step arg.toNat).valid = true → u.answers (s.advance dt) h 0x87 .DONE [] ∧ u.ssq.st = .READY ∧
         u.ssq.ptr = some arg.toNat) ∧
       ((s.ssq.step arg.toNat).valid = false → u.answers (s.advance dt) h 0x87 .BAD_VALUE [] ∧
         u.ssq.st = .UNLOADED ∧ u.ssq.ptr = none) ∧
       (s.ssq.st = .RUNNING ∨ s.ssq.st = .PAUSED → ∀ e ∈ u.aq.queue, e.tag.isSome = true → e.running = false → False) ∧
       (s.ssq.st ≠ .RUNNING → s.ssq.st ≠ .PAUSED → u.aq = s.aq)) ∧
     (s.ssq.st = .READY ∨ s.ssq.st = .RUNNING → ∃ u : State, exec (.controlPause dt h arg) s = .next u.finish ∧
       s.sameBut u [.ttc, .ssq, .lki] ∧
       u.answers (s.advance dt) h 0x84 .DONE [] ∧ u.ssq.st = .PAUSED ∧ u.ssq.pausedFrom = some s.ssq.st ∧
       u.ssq.ptr = s.ssq.ptr ∧ u.ssq.pend = s.ssq.pend ∧ u.aq = s.aq ∧
       u.ssq.follow = (match s.ssq.follow with
         | .running due => Follow.frozen (due - (s.now + dt))
         | f => f) ∧
       (s.cud.par.source = .LOCAL_TAPE → s.ttc.st = .PLAY → u.ttc.st = .PAUSE ∧ u.ttc.seqHold = true) ∧
       (s.cud.par.source ≠ .LOCAL_TAPE ∨ s.ttc.st ≠ .PLAY → u.ttc = s.ttc)) ∧
     (s.ssq.st = .PAUSED →
       exec (.controlPause dt h arg) s = .next (State.finish ((s.advance dt).answered h 0x84 .DONE []))) ∧
     (s.ssq.st = .UNLOADED ∨ s.ssq.st = .ENDED → exec (.controlPause dt h arg) s =
       .next (State.finish (((s.advance dt).count .linkRefused).answered h 0x84 .REFUSED_STATE []))) ∧
     (s.ssq.st = .PAUSED → s.ssq.pausedFrom = some .READY ∨ s.ssq.pausedFrom = some .RUNNING →
       ∃ u : State, exec (.controlResume dt h arg) s = .next u.finish ∧
         s.sameBut u [.aq, .tmc, .lmc, .thc, .ttc, .ssq, .lki, .cnt, .sts] ∧ u.answers (s.advance dt) h 0x84 .DONE [] ∧
         (u.ssq.st = .READY ∨ u.ssq.st = .RUNNING ∨ u.ssq.st = .ENDED) ∧ u.ssq.pausedFrom = none ∧
         u.ssq.remembered = none ∧ u.ttc.st = (if s.ttc.st = .PAUSE ∧ s.ttc.seqHold = true then .PLAY else s.ttc.st) ∧
         (∀ p left, s.ssq.ptr = some p → s.ssq.remembered = none → s.ssq.follow = .frozen left →
           u.ssq.follow = .running (s.now + dt + left) ∧ some u.ssq.st = s.ssq.pausedFrom ∧ u.ssq.ptr = some p)) ∧
     (s.ssq.st ≠ .PAUSED → exec (.controlResume dt h arg) s =
       .next (State.finish (((s.advance dt).count .linkRefused).answered h 0x84 .REFUSED_STATE [])))) ∧
  (∀ (dt : Nat) (h : LinkHdr) (arg : Byte) (s : State), s.addressed h → ∀ st0, s.ssq.pausedFrom = some st0 →
     s.ssq.st = .PAUSED → st0 = .READY ∨ st0 = .RUNNING →
     (match s.headMove with
       | .wait _ => true
       | _ => false) = true →
     ∃ u : State, exec (.controlResume dt h arg) s = .next u.finish ∧
       (s.ssq.remembered = none → (s.ssq.ptr.any (fun p => match (s.ssq.step p).trigger with
           | .FOLLOW _ => true
           | _ => false)) = false → s.aq.queue ≠ [] →
         (∀ p, s.ssq.pend = some p → st0 = .RUNNING → p.need ≤ 12 - s.aq.queue.length →
           u.aq.queue = s.aq.queue ++ s.ssq.entries p.index p.chase ∧ u.ssq.pend = none) ∧
         (∀ p, s.ssq.pend = some p → st0 = .READY ∨ 12 - s.aq.queue.length < p.need →
           u.aq.queue = s.aq.queue ∧ u.ssq.pend = some p) ∧
         (s.ssq.pend = none → u.aq.queue = s.aq.queue)) ∧
       (∀ n p, s.ssq.remembered = some n → s.ssq.pend = none → s.ssq.ptr = some p →
         (s.aq.mode = .SHOW → (s.ssq.step p).trigger = .CUE n → s.ssq.followless p →
           (s.setSsq { s.ssq with st := st0, pausedFrom := none, remembered := none }).fires u p) ∧
         (s.aq.mode ≠ .SHOW → s.ssq.followless p → (∀ d, (s.ssq.step p).trigger ≠ .FOLLOW d) →
           u.aq.queue = s.aq.queue ∧ u.ssq.ptr = some p ∧ u.ssq.st = st0))) ∧
  (∀ (dt : Nat) (h : LinkHdr) (arg : Byte) (s r : State) (pf : PendFire) (f w d : Nat), s.addressed h →
     s.ssq.st = .PAUSED → s.ssq.pausedFrom = some .RUNNING → s.ssq.pend = some pf → pf.need = 0 →
     s.ssq.entries pf.index pf.chase = [] → s.ssq.watched = some w → (∀ e ∈ s.aq.queue, e.tag ≠ some w) →
     s.ssq.ptr = some f → (s.ssq.step f).trigger = .FOLLOW d → s.ssq.follow = .stopped →
     (match s.headMove with
       | .wait _ => true
       | _ => false) = true →
     r = s.setSsq { s.ssq with st := .RUNNING, pausedFrom := none, pend := none, remembered := none } →
     ∃ u : State, exec (.controlResume dt h arg) s = .next u.finish ∧ u.answers (s.advance dt) h 0x84 .DONE [] ∧
       (0 < d → s.ssq.remembered = none → u.aq.queue = s.aq.queue ∧
         u.ssq = { r.ssq with follow := .running (s.now + dt + 1000 * d) }) ∧
       (d = 0 → s.aq.mode ≠ .SHOW → u.aq.queue = s.aq.queue ∧ u.ssq = { r.ssq with follow := .due }) ∧
       (d = 0 → s.aq.mode = .SHOW → s.ssq.remembered = none → s.ssq.followless f →
         (s.aq.queue ≠ [] → r.fires u f) ∧ u.ssq.watched = some f ∧ u.ssq.ptr = s.ssq.linked (s.ssq.step f).next) ∧
       (∀ n g, d = 0 → s.aq.mode = .SHOW → s.ssq.remembered = some n → s.ssq.linked (s.ssq.step f).next = some g →
         (s.ssq.step g).trigger = .CUE n → s.ssq.followless g → s.aq.queue ≠ [] →
         ∃ v : State, r.fires v f ∧ v.fires u g))

/-- R151, R152, R153: an ADVANCE and a FOLLOW expiry fire the pointer step; outside SHOW the FOLLOW timer becomes due; the FOLLOW
timer starts at a firing that leaves no work outstanding.
Times are those of the model's clock (logs 1 and 2). -/
def Obligations.AdvanceAndFollowFireTheStep : Prop :=
  ∀ (dt : Nat) (s : State),
    (∀ (h : LinkHdr) (arg : Byte) (p : Nat), s.addressed h → s.ssq.ptr = some p →
      s.ssq.st = .READY ∨ s.ssq.st = .RUNNING ∨ s.ssq.st = .PAUSED →
      ∃ u : State, exec (.controlAdvance dt h arg) s = .next u.finish ∧
        s.sameBut u [.aq, .ssq, .lki] ∧ u.answers (s.advance dt) h 0x84 .DONE [] ∧
        (s.ssq.followless p → s.fires u p) ∧
        (∀ j d, s.ssq.linked (s.ssq.step p).next = some j → (s.ssq.step j).trigger = .FOLLOW d → 0 < d →
          s.ssq.st ≠ .PAUSED → s.ssq.pend = none → (s.ssq.step p).actions = [] →
          (∀ e ∈ s.aq.queue, e.tag ≠ some p) →
          u.ssq.ptr = some j ∧ u.ssq.st = .RUNNING ∧ u.ssq.follow = .running (s.now + dt + 1000 * d))) ∧
    (∀ (h : LinkHdr) (arg : Byte), s.addressed h →
      s.ssq.ptr = none ∨ s.ssq.st = .UNLOADED ∨ s.ssq.st = .ENDED → exec (.controlAdvance dt h arg) s =
        .next (State.finish (((s.advance dt).count .linkRefused).answered h 0x84 .REFUSED_STATE []))) ∧
    (∀ due p, s.powered = true → s.ssq.follow = .running due → s.ssq.ptr = some p →
      (s.aq.mode ≠ .SHOW → exec (.followExpiry dt) s = .next (State.finish
        (((s.advance dt).setNow (max (s.now + dt) due)).setSsq { s.ssq with follow := .due }))) ∧
      (s.aq.mode = .SHOW → s.ssq.followless p → ∃ u : State, exec (.followExpiry dt) s = .next u.finish ∧
        s.sameBut u [.aq, .ssq, .lki] ∧
        u.now = max (s.now + dt) due ∧ s.fires u p)) ∧
    (∀ p, s.powered = true → s.ssq.follow = .due → s.ssq.ptr = some p → s.ssq.st = .RUNNING →
      (s.aq.mode ≠ .SHOW → exec (.followDueCheck dt) s = .next (s.advance dt).finish) ∧
      (s.aq.mode = .SHOW → s.ssq.followless p → ∃ u : State, exec (.followDueCheck dt) s = .next u.finish ∧
        s.sameBut u [.aq, .ssq, .lki] ∧
        s.fires u p))

/-! ## The remote line and the panel (chapter 8) -/

/-- R167 to R171: a complete remote frame by its fields, the times of a frame, a time that fails and the low after it, and the
release of a held press; a new press and a repeat step come to AQ as keys. R4 to R7, R9: what AQ makes of every key of the
remote and of the panel but MODE and POWER. Times are those of the model's clock (logs 1 and 2). -/
def Obligations.RemoteFramesArePresses : Prop :=
  (∀ (dt : Nat) (line : RemoteLine) (s : State), s.powered = true →
     (∀ (bits : BitVec 12) (channel code seq : Nat), (s.rpd.dec line).rx = none →
       channel = bits.toNat / 256 → code = bits.toNat / 4 % 64 → seq = bits.toNat % 4 →
       (code = 0 ∨ 13 < code →
         exec (.remoteFrame dt line bits) s = .next (State.finish ((s.advance dt).count .remMalformed))) ∧
       (1 ≤ code → code ≤ 13 → channel ≠ s.rpd.channel → channel ≠ 15 →
         exec (.remoteFrame dt line bits) s = .next (s.advance dt).finish) ∧
       (∀ k, remoteKey code = some k → channel = s.rpd.channel ∨ channel = 15 →
         ((s.rpd.dec line).lastSeq ≠ some seq →
           ∃ u : State, exec (.remoteFrame dt line bits) s = .next u.finish ∧
             s.sameBut u [.aq, .tmc, .lmc, .thc, .ttc, .ssq, .rpd, .lki, .cnt, .sts] ∧
             (u.rpd.dec line).lastSeq = some seq ∧
             (∃ r, (u.rpd.dec line).held = some { key := k, pressed := s.now + dt, releaseDue := s.now + dt + 250000
                                                  repeats := r }) ∧
             (k = .FWD → s.lki.resetting = false → s.aq.mode = .LOCAL → s.aq.queue.length < 12 →
               u.aq.queue = s.aq.queue ++
                 [{ action := .CHANGE_FWD, origin := .REMOTE, tag := none, running := false }]) ∧
             (k = .FWD → s.lki.resetting = false → s.aq.mode ≠ .LOCAL → u.aq = s.aq ∧
               u.lki.notices = ((s.advance dt).event .REMOTE_REFUSED (some 1)).lki.notices) ∧
             (k = .FWD → s.lki.resetting = true → u.aq = s.aq ∧ u.lki = s.lki)) ∧
         ((s.rpd.dec line).lastSeq = some seq → (s.rpd.dec line).held = none →
           exec (.remoteFrame dt line bits) s = .next (State.finish ((s.advance dt).count .remGood))) ∧
         (∀ h, (s.rpd.dec line).lastSeq = some seq → (s.rpd.dec line).held = some h → h.key ≠ k →
           exec (.remoteFrame dt line bits) s =
             .next (State.finish (((s.advance dt).count .remGood).count .remMalformed))) ∧
         (∀ h, (s.rpd.dec line).lastSeq = some seq → (s.rpd.dec line).held = some h → h.key = k →
           h.repeats = false ∨ s.now + dt < h.pressed + 500000 →
           exec (.remoteFrame dt line bits) s = .next (State.finish (((s.advance dt).count .remGood).setDec line
             { s.rpd.dec line with held := some { h with releaseDue := s.now + dt + 250000 } })))) ∧
       exec (.remoteMalformed dt line ([.low 2400, .high 600] ++
         ((List.range 12).flatMap (fun i => [.low 600, .high (if bits.getLsbD (11 - i) then 1800 else 600)])) ++
           [.low 600])) s = exec (.remoteFrame dt line bits) s) ∧
     (∀ us, (s.rpd.dec line).rx = none → us < 1920 ∨ 2880 < us →
       exec (.remoteMalformed dt line [.low us]) s = .next (s.advance dt).finish) ∧
     (∀ start us, (s.rpd.dec line).rx = none → 1920 ≤ start → start ≤ 2880 →
       (720 < us → exec (.remoteMalformed dt line [.low start, .high us]) s =
         .next (State.finish ((s.advance dt).count .remMalformed))) ∧
       (us < 480 → exec (.remoteMalformed dt line [.low start, .high us]) s =
         .next (State.finish (((s.advance dt).setDec line { s.rpd.dec line with rx := some .passing }).count
           .remMalformed)))) ∧
     (∀ us, (s.rpd.dec line).rx = some .passing → exec (.remoteMalformed dt line [.low us]) s =
       .next (State.finish ((s.advance dt).setDec line { s.rpd.dec line with rx := none }))) ∧
     (∀ us next, (s.rpd.dec line).rx = none → 720 < us → us < 1440 →
       exec (.remoteMalformed dt line [.low 2400, .high 600, .low 600, .high us, .low next]) s =
         .next (State.finish ((s.advance dt).count .remMalformed))) ∧
     (∀ us next, (s.rpd.dec line).rx = none → 2160 < us → 1920 ≤ next → next ≤ 2880 →
       exec (.remoteMalformed dt line [.low 2400, .high 600, .low 600, .high us, .low next]) s =
         .next (State.finish (((s.advance dt).setDec line { s.rpd.dec line with rx := some (.inFrame 0 []) }).count
           .remMalformed))) ∧
     (∀ h, (s.rpd.dec line).held = some h →
       exec (.remoteReleaseExpiry dt line) s = .next (State.finish (((s.advance dt).setNow
         (max (s.now + dt) h.releaseDue)).setDec line { s.rpd.dec line with held := none })))) ∧
  (∀ (dt : Nat) (line : RemoteLine) (bits : BitVec 12) (s : State), s.powered = true → (s.rpd.dec line).rx = none →
     ∀ k, remoteKey (bits.toNat / 4 % 64) = some k →
     bits.toNat / 256 = s.rpd.channel ∨ bits.toNat / 256 = 15 →
     ∀ rep : Bool, rep = ((k == .DIM_UP || k == .DIM_DOWN || k == .VOL_UP || k == .VOL_DOWN) && !s.lki.resetting &&
       (if k = .DIM_UP ∨ k = .DIM_DOWN then s.aq.mode == .LOCAL else s.aq.mode != .CONSOLE)) →
     ((s.rpd.dec line).lastSeq ≠ some (bits.toNat % 4) →
       exec (.remoteFrame dt line bits) s = .next (State.finish ((((s.advance dt).count .remGood).setDec line
         { s.rpd.dec line with lastSeq := some (bits.toNat % 4)
                               held := some { key := k, pressed := s.now + dt, releaseDue := s.now + dt + 250000
                                              repeats := rep } }).key .REMOTE k))) ∧
     (∀ h, (s.rpd.dec line).lastSeq = some (bits.toNat % 4) → (s.rpd.dec line).held = some h → h.key = k →
       h.repeats = true → h.pressed + 500000 ≤ s.now + dt →
       exec (.remoteFrame dt line bits) s = .next (State.finish ((((s.advance dt).count .remGood).setDec line
         { s.rpd.dec line with held := some { h with releaseDue := s.now + dt + 250000, repeats := rep } }).key
           .REMOTE k)))) ∧
  (∀ (s : State) (o : Origin) (k : Key), o = .REMOTE ∨ o = .PANEL →
     (s.lki.resetting = true → s.key o k = s) ∧
     (s.lki.resetting = false →
       (∀ code, (k = .FWD ∧ code = 1 ∨ k = .REV ∧ code = 2 ∨ k = .DIM_UP ∧ code = 3 ∨ k = .DIM_DOWN ∧ code = 4 ∨
           k = .LAMP ∧ code = 5 ∧ s.thc.power = .ACTIVE) → s.aq.mode ≠ .LOCAL →
         s.key o k = (s.count .remRefused).event .REMOTE_REFUSED (some code)) ∧
       (∀ code, (k = .PAUSE ∧ code = 7 ∨ k = .ADVANCE ∧ code = 8 ∨ k = .VOL_UP ∧ code = 10 ∨ k = .VOL_DOWN ∧ code = 11 ∨
           k = .TAPE_PLAY ∧ code = 12 ∨ k = .TAPE_STOP ∧ code = 13) → s.aq.mode = .CONSOLE →
         s.key o k = (s.count .remRefused).event .REMOTE_REFUSED (some code)) ∧
       (s.aq.mode = .LOCAL → ∀ base, base = ((s.aq.queue.filterMap (fun e => match e.action with
           | .FADE target _ _ _ => some target
           | _ => none)).getLast?).getD s.lmc.level →
         ∀ a, (k = .FWD ∧ a = .CHANGE_FWD ∨ k = .REV ∧ a = .CHANGE_REV ∨
             k = .DIM_UP ∧ a = .FADE (min (base + 50) 1000) 0 .LINEAR false ∨
             k = .DIM_DOWN ∧ a = .FADE (min (base - 50) 1000) 0 .LINEAR false ∨
             k = .LAMP ∧ s.thc.power = .ACTIVE ∧ a = (if s.lmc.power = .OFF then Action.LAMP_ON else .LAMP_OFF)) →
           (s.aq.queue.length < 12 → s.key o k = s.setAq { s.aq with
             queue := s.aq.queue ++ [{ action := a, origin := o, tag := none, running := false }] }) ∧
           (12 ≤ s.aq.queue.length → s.key o k = s.count .remDropped)) ∧
       (k = .LAMP → o = .REMOTE → s.thc.power = .STANDBY → s.sameBut (s.key o k) [.tmc, .lmc, .thc] ∧
         (s.key o k).thc = { s.thc with power := .ACTIVE } ∧
         (s.tmc.st = .IDLE → (s.key o k).tmc.st = .HOMING ∧ (s.key o k).tmc.phase = some .DARKEN) ∧
         (s.tmc.st ≠ .IDLE → (s.key o k).tmc = s.tmc ∧ (s.key o k).lmc = s.lmc)) ∧
       (k = .BLANK →
         s.key o k = s.setLmc { s.lmc with blanks := { s.lmc.blanks with manual := !s.lmc.blanks.manual } }) ∧
       (k = .STOP → s.stopped (s.key o k)) ∧
       (s.aq.mode ≠ .CONSOLE →
         (k = .VOL_UP → s.key o k = s.setTtc
           { s.ttc with par := { s.ttc.par with volTarget := min (s.ttc.par.volTarget + 1) 63 } }) ∧
         (k = .VOL_DOWN → s.key o k = s.setTtc
           { s.ttc with par := { s.ttc.par with volTarget := min (s.ttc.par.volTarget - 1) 63 } }) ∧
         (k = .TAPE_PLAY → s.sameBut (s.key o k) [.ttc] ∧
           (tapeRefusal .PLAY s.ttc.st s.ttc.atEnd (s.thc.power == .STANDBY) = true → (s.key o k).ttc = s.ttc) ∧
           (tapeRefusal .PLAY s.ttc.st s.ttc.atEnd (s.thc.power == .STANDBY) = false → (s.key o k).ttc.st = .PLAY)) ∧
         (k = .TAPE_STOP → s.sameBut (s.key o k) [.ttc] ∧
           (s.key o k).ttc.st = (if s.ttc.st = .EMPTY then .EMPTY else .STOPPED)) ∧
         (k = .PAUSE →
           (s.ssq.st = .READY ∨ s.ssq.st = .RUNNING → s.sameBut (s.key o k) [.ttc, .ssq] ∧
             (s.key o k).ssq.st = .PAUSED ∧ (s.key o k).ssq.pausedFrom = some s.ssq.st ∧
             (s.key o k).ssq.ptr = s.ssq.ptr ∧ (s.key o k).ssq.pend = s.ssq.pend ∧
             (s.key o k).ttc.st = (if s.cud.par.source = .LOCAL_TAPE ∧ s.ttc.st = .PLAY then .PAUSE else s.ttc.st)) ∧
           (s.ssq.st = .UNLOADED ∨ s.ssq.st = .ENDED → s.key o k = s) ∧
           (s.ssq.st = .PAUSED → s.ssq.pausedFrom = some .READY ∨ s.ssq.pausedFrom = some .RUNNING →
             (s.key o k).ssq.st ≠ .PAUSED ∧ (s.key o k).ssq.pausedFrom = none ∧ (s.key o k).ssq.remembered = none)) ∧
         (k = .ADVANCE →
           (∀ p, s.ssq.ptr = some p → s.ssq.st = .READY ∨ s.ssq.st = .RUNNING ∨ s.ssq.st = .PAUSED →
             s.sameBut (s.key o k) [.aq, .ssq, .lki] ∧ (s.ssq.followless p → s.fires (s.key o k) p)) ∧
           (s.ssq.ptr = none ∨ s.ssq.st = .UNLOADED ∨ s.ssq.st = .ENDED → s.key o k = s)))))

/-- R171, R173, R174, with R3 to R6: the panel lines, the debounced levels, a press of FWD, LAMP and POWER, the repeat steps of
VOL_UP and the MODE hold. A press of any key but MODE, POWER and a LAMP in STANDBY, and every repeat step, comes to AQ as
that key. R174, R175, R176: a press of MODE, and of POWER in ACTIVE, begins its hold and nothing else; the STOP hold in
CONSOLE and outside JAMMED; a hold that is not running completes nothing (log 2). -/
def Obligations.PanelKeysActByTheirLines : Prop :=
  (∀ (dt : Nat) (s : State), s.powered = true → s.rpd.panel.length = 15 →
     (∀ k closed, (s.panelKey k).closed = !closed → exec (.panelLineChange dt k closed) s = .next (State.finish
       ((s.advance dt).setPanel k { s.panelKey k with closed := closed, debounce := some (s.now + dt + 20000) }))) ∧
     (∀ k due, (s.panelKey k).debounce = some due →
       ((s.panelKey k).closed = (s.panelKey k).down → exec (.panelDebounceExpiry dt k) s = .next (State.finish
         (((s.advance dt).setNow (max (s.now + dt) due)).setPanel k { s.panelKey k with debounce := none }))) ∧
       ((s.panelKey k).closed = false → (s.panelKey k).down = true →
         exec (.panelDebounceExpiry dt k) s = .next (State.finish (((s.advance dt).setNow (max (s.now + dt) due)).setPanel
           k { s.panelKey k with down := false, debounce := none, hold := false, nextRepeat := none }))) ∧
       ((s.panelKey k).closed = true → (s.panelKey k).down = false →
         ∃ u : State, exec (.panelDebounceExpiry dt k) s = .next u.finish ∧
           s.sameBut u [.aq, .tmc, .lmc, .thc, .ttc, .ssq, .rpd, .lki, .cnt, .sts] ∧ (u.panelKey k).down = true ∧
           (u.panelKey k).debounce = none ∧ (u.panelKey k).pressed = max (s.now + dt) due ∧
           (k = .MODE ∨ k = .LAMP ∧ s.thc.power = .STANDBY → u.aq = s.aq ∧ u.lki = s.lki ∧ u.thc = s.thc) ∧
           (k = .POWER → s.lki.resetting = false → u.thc.power = .ACTIVE) ∧
           (k = .FWD → s.lki.resetting = false → s.aq.mode = .LOCAL → s.aq.queue.length < 12 →
             u.aq.queue = s.aq.queue ++
               [{ action := .CHANGE_FWD, origin := .PANEL, tag := none, running := false }]))) ∧
     (∀ due, (s.panelKey .VOL_UP).nextRepeat = some due → s.lki.resetting = false →
       ∃ u : State, exec (.panelRepeatStep dt .VOL_UP) s = .next u.finish ∧
         s.sameBut u [.ttc, .rpd, .lki, .cnt] ∧ u.now = max (s.now + dt) due ∧
         (s.aq.mode ≠ .CONSOLE → u.ttc.par.volTarget = min (s.ttc.par.volTarget + 1) 63 ∧
           (u.panelKey .VOL_UP).nextRepeat = some (due + 100000)) ∧
         (s.aq.mode = .CONSOLE → u.ttc = s.ttc ∧ (u.panelKey .VOL_UP).nextRepeat = none)) ∧
     ((s.panelKey .MODE).hold = true → s.lki.resetting = false →
       ∃ u : State, exec (.panelModeHold dt) s = .next u.finish ∧
         s.sameBut u [.aq, .rpd, .lki, .cnt] ∧
         u.now = max (s.now + dt) ((s.panelKey .MODE).pressed + 2000000) ∧ (u.panelKey .MODE).hold = false ∧
         u.aq.mode = (match s.aq.mode with
           | .LOCAL => Mode.SHOW
           | .SHOW => .LOCAL
           | .CONSOLE => .CONSOLE) ∧
         u.aq.queue = s.aq.queue ∧
         (s.aq.mode = .CONSOLE →
           u.lki.notices = (((s.advance dt).reach ((s.panelKey .MODE).pressed + 2000000)).event .REMOTE_REFUSED
             (some 14)).lki.notices))) ∧
  (∀ (dt : Nat) (k : Key) (s : State), s.powered = true → s.rpd.panel.length = 15 →
     ∀ rep : Bool, rep = ((k == .DIM_UP || k == .DIM_DOWN || k == .VOL_UP || k == .VOL_DOWN) && !s.lki.resetting &&
       (if k = .DIM_UP ∨ k = .DIM_DOWN then s.aq.mode == .LOCAL else s.aq.mode != .CONSOLE)) →
     (∀ due, (s.panelKey k).debounce = some due → (s.panelKey k).closed = true → (s.panelKey k).down = false →
       k ≠ .MODE → k ≠ .POWER → ¬(k = .LAMP ∧ s.thc.power = .STANDBY) →
       exec (.panelDebounceExpiry dt k) s = .next (State.finish ((((s.advance dt).reach due).setPanel k
         { s.panelKey k with down := true, debounce := none, pressed := max (s.now + dt) due
                             hold := decide (k = .STOP) && !s.lki.resetting
                             nextRepeat := if rep then some (max (s.now + dt) due + 500000) else none }).key .PANEL k))) ∧
     (∀ due, (s.panelKey k).nextRepeat = some due →
       exec (.panelRepeatStep dt k) s = .next (State.finish ((((s.advance dt).reach due).setPanel k
         { s.panelKey k with nextRepeat := if rep then some (due + 100000) else none }).key .PANEL k)))) ∧
  (∀ (dt : Nat) (s : State), s.powered = true →
     (∀ k due, (s.panelKey k).debounce = some due → (s.panelKey k).closed = true → (s.panelKey k).down = false →
       k = .MODE ∨ k = .POWER ∧ (s.thc.power = .ACTIVE ∨ s.lki.resetting = true) →
       exec (.panelDebounceExpiry dt k) s = .next (State.finish (((s.advance dt).reach due).setPanel k
         { s.panelKey k with down := true, debounce := none, pressed := max (s.now + dt) due
                             hold := !s.lki.resetting, nextRepeat := none }))) ∧
     (∀ due, (s.panelKey .POWER).debounce = some due → (s.panelKey .POWER).closed = true →
       (s.panelKey .POWER).down = false → s.thc.power = .STANDBY → s.rpd.panel.length = 15 →
       ∃ u : State, exec (.panelDebounceExpiry dt .POWER) s = .next u.finish ∧ (u.panelKey .POWER).hold = false ∧
         (u.panelKey .POWER).down = true) ∧
     ((s.panelKey .STOP).hold = true → ∀ w : State, w = ((s.advance dt).reach
         ((s.panelKey .STOP).pressed + 2000000)).setPanel .STOP { s.panelKey .STOP with hold := false } →
       (s.lki.resetting = false → s.tmc.st = .JAMMED → s.aq.mode = .CONSOLE →
         exec (.panelStopHold dt) s = .next (State.finish ((w.count .remRefused).event .REMOTE_REFUSED (some 9)))) ∧
       (s.lki.resetting = true ∨ s.tmc.st ≠ .JAMMED → exec (.panelStopHold dt) s = .next w.finish)) ∧
     (∀ k c, k = .MODE ∧ c = .panelModeHold dt ∨ k = .STOP ∧ c = .panelStopHold dt ∨ k = .POWER ∧ c = .panelPowerHold dt →
       (s.panelKey k).hold = false → exec c s = .next (s.advance dt).finish))

/-! ## The show link (chapter 9) -/

/-- R178, R179, R181, R185: bytes of a frame, the good frame that a request makes, the 2 ms gap, and the response; a byte lasts
260 us, so one that ends later than that after the gap is over began too late. A request's row is its good frame less the
count, and the gap ends at its due time: the model's choices (logs 5 and 2). R180, R182: where a request goes and which test
stops it: nothing is read while a response is sent, a frame for another station is discarded, RESETTING answers every
request, a broadcast acts as the request addressed to the station but for its response, and a kind, a length or a sub-
operation outside the catalogue is BAD_REQUEST. R182: STEP_WRITE, ARM, SLOT_FLAGS and LAMP_RESET are LOCKED while a save
runs. R180, R183: a broadcast at a LISTEN_ONLY station. Times are those of the model's clock (logs 1 and 2). -/
def Obligations.BytesMakeRequests : Prop :=
  (∀ (dt : Nat) (s : State), s.powered = true →
     (∀ (b : Byte) (damaged : Bool), s.deaf = true → exec (.linkByte dt b damaged) s = .next (s.advance dt).finish) ∧
     (∀ (b : Byte) (damaged : Bool), s.deaf = false → s.lki.rx = none → b ≠ 0xC3 ∨ damaged = true →
       exec (.linkByte dt b damaged) s = .next (State.finish ((s.advance dt).setLki { s.lki with resp := .NONE }))) ∧
     (s.deaf = false → s.lki.rx = none → exec (.linkByte dt 0xC3 false) s = .next (State.finish ((s.advance dt).setLki
       { s.lki with resp := .NONE, rx := some { bytes := [], gapDue := s.now + dt + 2000 } }))) ∧
     (∀ (r : LinkRx) (b : Byte), s.deaf = false → s.lki.rx = some r → s.now + dt ≤ r.gapDue + 260 →
       exec (.linkByte dt b true) s =
         .next (State.finish (((s.advance dt).setLki { s.lki with resp := .NONE, rx := none }).count .linkCheck)) ∧
       (r.bytes.length = 3 → 32 < b.toNat → exec (.linkByte dt b false) s =
         .next (State.finish (((s.advance dt).setLki { s.lki with resp := .NONE, rx := none }).count .linkCheck))) ∧
       ((r.bytes.length = 3 → b.toNat ≤ 32) →
         ¬(4 ≤ r.bytes.length ∧ r.bytes.length = (r.bytes.getD 3 0).toNat + 4) →
         exec (.linkByte dt b false) s = .next (State.finish ((s.advance dt).setLki
           { s.lki with resp := .NONE, rx := some { bytes := r.bytes ++ [b], gapDue := s.now + dt + 2000 } }))) ∧
       (4 ≤ r.bytes.length → r.bytes.length = (r.bytes.getD 3 0).toNat + 4 →
         ((r.bytes.map BitVec.toNat).sum + b.toNat) % 256 ≠ 0 → exec (.linkByte dt b false) s =
           .next (State.finish (((s.advance dt).setLki { s.lki with resp := .NONE, rx := none }).count .linkCheck)))) ∧
     (∀ (r : LinkRx) (b : Byte) (damaged : Bool), s.deaf = false → s.lki.rx = some r → r.gapDue + 260 < s.now + dt →
       exec (.linkByte dt b damaged) s =
         exec (.linkByte dt b damaged) ((s.setLki { s.lki with rx := none }).count .linkCheck)) ∧
     (∀ (h : LinkHdr) (r : Req) (c : Instr) (gap : Nat) (l : List Byte) (b : Byte), s.deaf = false →
       r.command dt h = some c → l = [h.dest, h.src, r.code, BitVec.ofNat 8 r.payload.length] ++ r.payload →
       s.lki.rx = some { bytes := l, gapDue := gap } → s.now + dt ≤ gap + 260 →
       ((l.map BitVec.toNat).sum + b.toNat) % 256 = 0 →
       exec (.linkByte dt b false) s = exec c ((s.setLki { s.lki with rx := none }).count .linkGood)) ∧
     (∀ r, s.lki.rx = some r → exec (.linkByteGapExpiry dt) s = .next (State.finish ((((s.advance dt).setNow
       (max (s.now + dt) r.gapDue)).setLki { s.lki with rx := none }).count .linkCheck))) ∧
     (s.lki.rx = none → exec (.linkByteGapExpiry dt) s = .next (s.advance dt).finish) ∧
     (∀ r since, s.lki.resp = .PENDING r since → s.lki.rx = none → exec (.responseStart dt) s =
       .next (State.finish (((s.advance dt).setNow (max (s.now + dt) (since + 500))).setLki
         { s.lki with resp := .SENDING r }))) ∧
     (∀ r, s.lki.resp = .SENDING r → exec (.responseEnd dt) s =
       .next (State.finish ((s.advance dt).setLki { s.lki with resp := .NONE })))) ∧
  (∀ (dt : Nat) (h : LinkHdr) (r : Req) (c : Instr) (s : State), s.powered = true → r.command dt h = some c →
     (s.deaf = true → exec c s = .next (s.advance dt).finish) ∧
     (s.deaf = false → (∃ a, s.lki.addr = .ASSIGNED a ∧ h.dest.toNat ≠ a ∧ h.dest ≠ 31) ∨
         s.lki.addr = .LISTEN_ONLY ∧ h.dest ≠ 31 ∨ s.lki.addr = .UNASSIGNED ∧ ¬(h.dest = 31 ∧ r.code = 0x0F) →
       exec c s = .next (State.finish ((s.advance dt).setLki { s.lki with resp := .NONE }))) ∧
     (s.deaf = false → s.lki.resetting = true → s.lki.addr = .ASSIGNED h.dest.toNat →
       exec c s = .next (State.finish (((s.advance dt).count .linkRefused).answered h (r.code + 0x80) .RESETTING []))) ∧
     (s.deaf = false → s.lki.resetting = true → h.dest = 31 → (∃ a, s.lki.addr = .ASSIGNED a ∧ a ≠ 31) ∨
         s.lki.addr = .LISTEN_ONLY ∨ s.lki.addr = .UNASSIGNED ∧ r.code = 0x0F →
       exec c s =
         .next (State.finish (((s.advance dt).setLki { s.lki with resp := .NONE }).count .linkRefused))) ∧
     (∀ (a : Byte) (own : LinkHdr) (c1 : Instr), s.deaf = false → s.lki.resetting = false → h.dest = 31 → a ≠ 31 →
       s.lki.addr = .ASSIGNED a.toNat → own = { dest := a, src := h.src } → r.command dt own = some c1 →
       r.code ≠ 0x0B → r.code ≠ 0x0F →
       ∃ (u : State) (status : Status) (body : List Byte),
         exec c1 s = .next (State.finish (u.answered own (r.code + 0x80) status body)) ∧ u.now = s.now + dt ∧
         exec c s = .next (State.finish (u.setLki { u.lki with resp := .NONE })))) ∧
  (∀ (dt gap : Nat) (h : LinkHdr) (kind b : Byte) (payload l : List Byte) (s : State), s.powered = true →
     s.deaf = false → payload.length ≤ 32 → l = [h.dest, h.src, kind, BitVec.ofNat 8 payload.length] ++ payload →
     s.lki.rx = some { bytes := l, gapDue := gap } → s.now + dt ≤ gap + 260 →
     ((l.map BitVec.toNat).sum + b.toNat) % 256 = 0 →
     (128 ≤ kind.toNat ∨ (∃ a, s.lki.addr = .ASSIGNED a ∧ h.dest.toNat ≠ a ∧ h.dest ≠ 31) ∨
         s.lki.addr = .LISTEN_ONLY ∧ h.dest ≠ 31 ∨ s.lki.addr = .UNASSIGNED ∧ ¬(h.dest = 31 ∧ kind = 0x0F) →
       exec (.linkByte dt b false) s =
         .next (State.finish (((s.advance dt).setLki { s.lki with resp := .NONE, rx := none }).count .linkGood))) ∧
     ((∀ n, (kind.toNat, n) ∈ [(1, 2), (2, 6), (3, 5), (4, 2), (5, 28), (6, 1), (7, 1), (8, 3), (9, 2), (10, 1), (11, 0),
           (12, 2), (13, 1), (14, 0), (15, 5)] → payload.length ≠ n) ∨
         (∃ sub arg : Byte, kind = 4 ∧ payload = [sub, arg] ∧ (sub = 0 ∨ 14 < sub.toNat)) →
       kind.toNat < 128 → s.lki.resetting = false →
       (s.lki.addr = .ASSIGNED h.dest.toNat → exec (.linkByte dt b false) s =
         .next (State.finish (((((s.advance dt).setLki { s.lki with rx := none }).count .linkGood).count
           .linkRefused).answered h (kind + 0x80) .BAD_REQUEST []))) ∧
       (h.dest = 31 → (∃ a, s.lki.addr = .ASSIGNED a ∧ a ≠ 31) ∨ s.lki.addr = .LISTEN_ONLY →
         exec (.linkByte dt b false) s = .next (State.finish ((((s.advance dt).setLki
           { s.lki with resp := .NONE, rx := none }).count .linkGood).count .linkRefused))))) ∧
  (∀ (dt : Nat) (h : LinkHdr) (index mode : Byte) (record : List Byte) (s : State), s.addressed h →
     record.length ≠ 26 → exec (.stepWrite dt h index mode record) s =
       .next (State.finish (((s.advance dt).count .linkRefused).answered h 0x85 .BAD_REQUEST []))) ∧
  ((∀ (dt : Nat) (h : LinkHdr) (s : State) (c : Instr) (kind : Byte), s.addressed h → s.sts.save ≠ none →
     (∃ index mode record, c = .stepWrite dt h index mode record ∧ record.length = 26 ∧ kind = 0x85) ∨
       (∃ head, c = .arm dt h head ∧ kind = 0x87) ∨
       (∃ first last flag, c = .slotFlags dt h first last flag ∧ kind = 0x88) ∨
       (∃ pos, c = .lampReset dt h pos ∧ kind = 0x8D) →
     exec c s = .next (State.finish (((s.advance dt).count .linkRefused).answered h kind .LOCKED []))) ∧
   (∀ (dt : Nat) (h : LinkHdr) (s : State), s.powered = true → s.deaf = false → s.lki.resetting = false → h.dest = 31 →
     s.lki.addr = .LISTEN_ONLY →
     (∀ (r : Req) (c c1 : Instr) (a : Byte) (own : LinkHdr), r.command dt h = some c → a ≠ 31 →
       own = { dest := a, src := h.src } → r.command dt own = some c1 → r.code ≠ 0x01 → r.code ≠ 0x0B → r.code ≠ 0x0F →
       ∃ (u : State) (status : Status) (body : List Byte),
         exec c1 (s.setLki { s.lki with addr := .ASSIGNED a.toNat }) =
           .next (State.finish (u.answered own (r.code + 0x80) status body)) ∧
         exec c s = .next (State.finish (u.setLki { u.lki with resp := .NONE, addr := .LISTEN_ONLY }))) ∧
     (∀ (group page : Byte), 1 ≤ group.toNat → group.toNat ≤ 10 →
       (page = 0 → exec (.query dt h group page) s = .next (State.finish ((s.advance dt).setLki
         { s.lki with resp := .NONE, copies := s.lki.copies.set (group.toNat - 1) (report (s.advance dt) group.toNat) }))) ∧
       (∀ l, page ≠ 0 → s.lki.copies[group.toNat - 1]? = some (some l) → page.toNat < (l.length + 27) / 28 →
         exec (.query dt h group page) s = .next (State.finish ((s.advance dt).setLki { s.lki with resp := .NONE }))) ∧
       (page ≠ 0 → (∀ l, s.lki.copies[group.toNat - 1]? = some (some l) → (l.length + 27) / 28 ≤ page.toNat) →
         exec (.query dt h group page) s =
           .next (State.finish (((s.advance dt).setLki { s.lki with resp := .NONE }).count .linkRefused)))) ∧
     (∀ (group page : Byte), group = 0 ∨ 10 < group.toNat → exec (.query dt h group page) s =
       .next (State.finish (((s.advance dt).setLki { s.lki with resp := .NONE }).count .linkRefused)))))

/-- R8, R30, R79, R98, R115, R140, R166, R186, R205: the reports of the ten groups, item by item; what R186 leaves open of their
codes is the model's choice (log 20). R187: the report of MODE. R186: page 0 takes the report of its group as the group's
copy, a later page is answered from the copy; the groups are 1 to 10. -/
def Obligations.QueryReportsAGroup : Prop :=
  ((∀ s : State, report s 9 = some
     ([BitVec.ofNat 8 (match s.aq.mode with
         | .LOCAL => 0
         | .SHOW => 1
         | .CONSOLE => 2),
       BitVec.ofNat 8 (match s.aq.startMode with
         | .LOCAL => 0
         | .SHOW => 1
         | .CONSOLE => 2), BitVec.ofNat 8 s.rpd.channel] ++
       (match s.lki.addr with
         | .UNASSIGNED => [0, 0xFF]
         | .ASSIGNED a => [1, BitVec.ofNat 8 a]
         | .LISTEN_ONLY => [2, 0xFF]))) ∧
     ∀ (dt : Nat) (h : LinkHdr) (group page : Byte) (s : State), s.addressed h →
       (∀ rep, report (s.advance dt) group.toNat = some rep → page = 0 →
         exec (.query dt h group page) s = .next (State.finish (((s.advance dt).setLki
           { s.lki with copies := s.lki.copies.set (group.toNat - 1) (some rep) }).answered h 0x81 .DONE
             ([group, 0, BitVec.ofNat 8 ((rep.length + 27) / 28)] ++ rep.take 28)))) ∧
       (1 ≤ group.toNat → group.toNat ≤ 10 → ∃ rep, report (s.advance dt) group.toNat = some rep) ∧
       (∀ rep, 1 ≤ group.toNat → group.toNat ≤ 10 → page ≠ 0 → s.lki.copies[group.toNat - 1]? = some (some rep) →
         (page.toNat < (rep.length + 27) / 28 → exec (.query dt h group page) s = .next (State.finish
           ((s.advance dt).answered h 0x81 .DONE
             ([group, page, BitVec.ofNat 8 ((rep.length + 27) / 28)] ++ (rep.drop (28 * page.toNat)).take 28)))) ∧
         ((rep.length + 27) / 28 ≤ page.toNat → exec (.query dt h group page) s =
           .next (State.finish (((s.advance dt).count .linkRefused).answered h 0x81 .BAD_VALUE [])))) ∧
       (1 ≤ group.toNat → group.toNat ≤ 10 → page ≠ 0 → s.lki.copies[group.toNat - 1]? = some none →
         exec (.query dt h group page) s =
           .next (State.finish (((s.advance dt).count .linkRefused).answered h 0x81 .REFUSED_STATE []))) ∧
       (group = 0 ∨ 10 < group.toNat → exec (.query dt h group page) s =
         .next (State.finish (((s.advance dt).count .linkRefused).answered h 0x81 .BAD_VALUE [])))) ∧
  (∀ n : Nat, enc1 n = [BitVec.ofNat 8 n] ∧ enc2 n = [BitVec.ofNat 8 (n / 256), BitVec.ofNat 8 n] ∧
     enc4 n = [BitVec.ofNat 8 (n / 16777216), BitVec.ofNat 8 (n / 65536), BitVec.ofNat 8 (n / 256), BitVec.ofNat 8 n] ∧
     encBool false = [0] ∧ encBool true = [1]) ∧
  (∀ s : State,
     report s 1 = some (
       enc1 ([MechState.PARKED, .HOMING, .IDLE, .CHANGING, .SEEKING, .JAMMED].idxOf s.tmc.st) ++
       enc1 (match s.tmc.phase with
         | none => 255
         | some .DARKEN => 0
         | some .LIFT => 1
         | some .STEP | some .ROTATE | some .SEARCH => 2
         | some .DROP => 3
         | some .SETTLE => 4) ++
       enc1 (s.tmc.size.getD 255) ++
       (match s.tmc.gate with
         | .EMPTY => ([1, 0, 255] : List Byte)
         | .LOADED p => 1 :: 1 :: enc1 p
         | .UNKNOWN => [1, 255, 255]) ++ enc1 (s.tmc.pos.getD 255) ++
       encBool s.tmc.truncated ++ encBool s.tmc.pacingOut ++ enc1 (s.tmc.comparePos.getD 255) ++
       enc1 ([ClearMode.AUTO, .HELD].idxOf s.tmc.clearMode) ++ encBool s.tmc.slotMatch ++
       (match s.tmc.jam with
         | none => [255]
         | some j => 1 ::
           enc1 ([JamCause.LIFT_TIMEOUT, .DROP_TIMEOUT, .STEP_TIMEOUT, .HOME_NOT_FOUND].idxOf j.cause) ++
           enc1 (match j.phase with
             | .DARKEN => 0
             | .LIFT => 1
             | .STEP | .ROTATE | .SEARCH => 2
             | .DROP => 3
             | .SETTLE => 4) ++ enc1 (j.position.getD 255))) ∧
     report s 2 = some (
       enc1 ([Power.OFF, .IGNITING, .LIT, .SWAPPING].idxOf s.lmc.power) ++ enc1 ([LampPos.A, .B].idxOf s.lmc.active) ++
       ([s.lmc.recA, s.lmc.recB].flatMap (fun r => encBool r.present ++ encBool r.failed ++ enc4 r.lit ++
         enc2 r.ignitions ++ encBool r.life)) ++ encBool s.lmc.noLamp ++
       (match s.lmc.motion with
         | none => [255]
         | some m => (1 : Byte) :: enc1 ([LampPos.A, .B].idxOf m.target) ++ enc1 m.count) ++
       (if s.lmc.power = .IGNITING then enc1 s.lmc.ignJ ++ enc1 s.lmc.ignLen else [255, 255]) ++ enc2 s.lmc.level ++
       (match s.lmc.ramp with
         | none => [255]
         | some r => (1 : Byte) :: enc2 r.start ++ enc2 r.stop ++ enc2 r.n ++ enc2 r.k ++
           enc1 ([Curve.LINEAR, .CROSS].idxOf r.curve)) ++
       (enc1 (([s.lmc.blanks.mech, s.lmc.blanks.empty, s.lmc.blanks.slot, s.lmc.blanks.manual,
           s.lmc.blanks.changer].filter id).length) ++
         (if s.lmc.blanks.mech then [0] else []) ++ (if s.lmc.blanks.empty then [1] else []) ++
         (if s.lmc.blanks.slot then [2] else []) ++ (if s.lmc.blanks.manual then [3] else []) ++
         (if s.lmc.blanks.changer then [4] else [])) ++
       enc2 s.lmc.ceilUsed ++ enc2 s.lmc.outLevel ++ enc2 s.lmc.outDrive ++ enc2 s.lmc.par.trim ++ enc1 s.lmc.par.glow ++
       enc1 s.lmc.par.ignTime ++ enc2 s.lmc.par.life ++ encBool s.lmc.par.changer ++ encBool s.lmc.par.darkOnEmpty ++
       encBool s.lmc.par.powerOnLamp) ∧
     report s 3 = some (s.lmc.par.table.flatMap enc2) ∧
     report s 4 = some (
       enc2 (s.thc.tm.getD 65535) ++ enc1 ([Thermal.NORMAL, .WARM, .HOT].idxOf s.thc.tstate) ++
       enc4 ((s.thc.lastSample.map (fun t => (s.now - t) / 1000)).getD 4294967295) ++ enc2 (s.thc.hq / 64) ++
       enc1 s.thc.fLamp ++ enc1 s.thc.fTemp ++ enc1 (if s.thc.cooldown = none then 0 else s.thc.par.cdDuty) ++
       enc1 s.thc.fan ++ enc1 s.thc.duty ++ encBool s.thc.kick.isSome ++ enc2 s.thc.lastTach ++ enc1 s.thc.stall ++
       encBool s.thc.warm ++ encBool s.thc.trip ++ encBool s.thc.lost ++ encBool s.thc.fanFault ++
       encBool s.thc.cooldown.isSome ++
       enc4 (match s.thc.lost, s.thc.lossStart with
         | true, some t => (s.now - t) / 1000
         | _, _ => 4294967295) ++
       (match s.thc.cooldown with
         | none => [255]
         | some c => (1 : Byte) :: enc4 (c.start / 1000) ++ encBool c.trip ++
           enc4 ((c.start + 1000000 * s.thc.par.tCool - s.now) / 1000)) ++
       enc2 s.thc.cTarget ++ enc2 s.thc.cEff ++ enc1 ([PowerState.ACTIVE, .STANDBY].idxOf s.thc.power) ++
       encBool s.thc.hold ++ enc2 s.thc.par.tLo ++ enc2 s.thc.par.tHi ++ enc2 s.thc.par.tWarn ++ enc2 s.thc.par.tTrip ++
       enc2 s.thc.par.tResume ++ enc2 s.thc.par.tSafe ++ enc2 s.thc.par.cMin ++ enc2 s.thc.par.tCool ++
       enc1 s.thc.par.fMinLit ++ enc1 s.thc.par.fMax ++ enc1 s.thc.par.cdDuty ++ enc1 s.thc.par.stallThr) ∧
     report s 5 = some (
       enc1 ([CueSource.LOCAL_TAPE, .CUE_IN, .NONE].idxOf s.cud.par.source) ++ enc1 (if s.cud.carrier then 0 else 1) ++
       enc2 s.cud.cellE ++ enc2 s.cud.speed ++ encBool s.cud.speedOff ++ encBool s.cud.speedOffTimer.isSome ++
       enc1 ([Framing.HUNT, .CONFIRM, .SYNC].idxOf s.cud.framing) ++ enc1 (s.cud.align.getD 255) ++
       enc1 (s.cud.prevAlign.getD 255) ++ enc1 (s.cud.expected.getD 255) ++ enc1 s.cud.errs ++
       (match s.cud.window with
         | none => [0, 255, 255]
         | some w => (1 : Byte) :: enc1 w.frames ++ enc1 w.errors) ++
       encBool s.cud.degraded ++ encBool s.cud.cueSync ++ enc2 (s.cud.tapeTime.getD 65535) ++
       (match s.cud.cand with
         | none => [255]
         | some k => (1 : Byte) :: enc2 k.number ++ enc1 k.run) ++
       enc2 (s.cud.lastCue.getD 65535) ++ encBool s.cud.lock ++
       enc1 (if s.cud.degraded then 2 else s.cud.par.confirm) ++ enc1 (if s.cud.sending then 0 else 1) ++
       enc1 s.cud.buf.length ++ enc1 s.cud.regenCount ++
       enc1 ([CueSource.LOCAL_TAPE, .CUE_IN, .NONE].idxOf s.cud.par.source) ++ encBool s.cud.par.relay ++
       enc1 ([LossCrit.SYNC_ONLY, .SYNC_OR_CHECK].idxOf s.cud.par.loss) ++ enc1 s.cud.par.degThr ++
       enc1 s.cud.par.confirm) ∧
     report s 6 = some (
       enc1 ([Transport.EMPTY, .STOPPED, .PLAY, .PAUSE, .FFWD, .REWIND].idxOf s.ttc.st) ++ encBool s.ttc.atEnd ++
       encBool s.ttc.seqHold ++ encBool (decide (s.ttc.st ≠ .EMPTY)) ++ [BitVec.ofInt 8 s.ttc.par.trimT] ++
       enc2 (1666667 / (1000 + s.ttc.par.trimT)).toNat ++ enc2 s.ttc.servo ++
       enc4 (s.ttc.fgPeriod.getD 4294967295) ++ enc1 (if s.ttc.locked then 0 else 1) ++ enc1 s.ttc.inLock ++
       (match s.ttc.reelTimer with
         | none => [255, 255, 255, 255, 255]
         | some d => enc4 ((d - s.now) / 1000) ++ enc1 (if s.ttc.st = .REWIND then 1 else 0)) ++
       enc4 ((s.ttc.unlockStart.map (fun t => (s.now - t) / 1000)).getD 4294967295) ++ enc1 s.ttc.par.volTarget ++
       enc1 s.ttc.effTarget ++ enc1 s.ttc.curVol ++
       (match decide (s.ttc.st ≠ .PLAY), s.cud.speedOff, decide (s.ttc.st = .PLAY) && s.ttc.unlockPassed with
         | a, b, c => enc1 (([a, b, c].filter id).length) ++ (if a then [0] else []) ++ (if b then [1] else []) ++
           (if c then [2] else [])) ++
       encBool s.ttc.par.loop ++ encBool s.ttc.par.autoRewind ++ encBool s.ttc.par.stopRewind ++
       encBool s.ttc.par.autoMute) ∧
     report s 7 = some (
       enc1 ([SeqState.UNLOADED, .READY, .RUNNING, .PAUSED, .ENDED].idxOf s.ssq.st) ++
       enc1 ((s.ssq.pausedFrom.map (fun x => [SeqState.UNLOADED, .READY, .RUNNING, .PAUSED, .ENDED].idxOf x)).getD 255) ++
       enc1 s.ssq.head ++ enc1 (s.ssq.ptr.getD 255) ++
       (match s.ssq.pend with
         | none => [255]
         | some p => (1 : Byte) :: enc1 p.index ++ encBool p.chase ++ enc1 p.need) ++
       enc1 (s.ssq.watched.getD 255) ++
       encBool (match s.ssq.watched with
         | none => false
         | some w => decide (s.ssq.pend.map PendFire.index = some w) || s.aq.queue.any (fun e => e.tag == some w)) ++
       (match s.ssq.follow with
         | .stopped => [255]
         | .running d => 1 :: 1 :: enc4 ((d - s.now) / 1000)
         | .frozen left => 1 :: 2 :: enc4 (left / 1000)
         | .due => [1, 3, 0, 0, 0, 0]) ++
       enc2 (s.ssq.remembered.getD 65535) ++ enc2 s.ssq.skipped) ∧
     report s 8 = some (
       enc1 ([RunnerStatus.EMPTY, .WAIT_MECH, .WAIT_PACING, .RUNNING].idxOf s.aq.runner) ++ encBool s.aq.stopPending ++
       enc1 s.aq.queue.length ++
       s.aq.queue.flatMap (fun e => enc1 (match e.action with
           | .FADE _ _ _ _ => 0
           | .CHANGE_FWD => 1
           | .CHANGE_REV => 2
           | .SEEK _ => 3
           | .HOLD _ => 4
           | .LAMP_ON => 5
           | .LAMP_OFF => 6
           | .VOLUME _ => 7
           | .BLANK_ON => 8
           | .BLANK_OFF => 9
           | .MARK => 10) ++ enc1 ([Origin.LINK, .REMOTE, .PANEL, .SHOW].idxOf e.origin) ++ enc1 (e.tag.getD 255) ++
         encBool e.running)) ∧
     report s 10 = some ([0x5A, 0x31, 0x02, 0xD0, 1] ++ enc4 s.sts.serial.toNat ++ encBool s.sts.save.isSome ++
       encBool s.sts.autoPending ++ encBool s.sts.storeLost))

/-- R97, R189, R182: SET: a number is held within its parameter's range and stored, the pair of T_lo and T_hi is kept, an on/off
parameter takes 0 and 1, an unknown parameter is BAD_REQUEST, and a persistent one is LOCKED while a save runs. R47, R48,
R97, R119, R138, R189: the on/off and enumerated parameters, the compare position, and the other parameters with a
consistency pair: the value taken and what it does at once, or the value kept. The order of the four value bytes is the
model's choice (log 21), and so are, at a SET of the compare position to off, the answer of minus one and the position before
it as the subject of the CLEAR notice (log 22). Times are those of the model's clock (logs 1 and 2). -/
def Obligations.SetHoldsValuesInRange : Prop :=
  (∀ (dt : Nat) (h : LinkHdr) (param index : Byte) (value : BitVec 32) (s : State), s.addressed h →
     (∀ lo hi : Nat, s.unlocked → (param.toNat, lo, hi) ∈ [(2, 0, 255), (3, 0, 255), (4, 0, 255), (9, 0, 1000),
         (10, 0, 255), (11, 10, 255), (12, 1, 65535), (23, 0, 1000), (24, 10, 600), (27, 0, 100), (28, 1, 255),
         (34, 0, 63), (38, 1, 16), (39, 1, 2), (40, 0, 14), (41, 0, 60)] →
       ∃ u : State, exec (.set dt h param index value) s = .next u.finish ∧
         s.sameBut u [.aq, .tmc, .lmc, .thc, .ttc, .cud, .rpd, .lki, .cnt] ∧
         ∀ v : Nat, (v : Int) = min (hi : Int) (max (lo : Int) value.toInt) →
           u.answers (s.advance dt) h 0x82 .DONE
             ([param, index, 0, 0, BitVec.ofNat 8 (v / 256), BitVec.ofNat 8 v]) ∧
           (param = 2 ∨ param = 3 ∨ param = 4 → s.sameBut u [.tmc, .lki]) ∧
           (param = 9 ∨ param = 10 ∨ param = 11 ∨ param = 12 → s.sameBut u [.lmc, .lki]) ∧
           (param = 23 ∨ param = 24 ∨ param = 27 ∨ param = 28 → s.sameBut u [.thc, .lki]) ∧
           (param = 34 → s.sameBut u [.ttc, .lki]) ∧ (param = 38 ∨ param = 39 → s.sameBut u [.cud, .lki]) ∧
           (param = 2 → u.tmc = { s.tmc with par := { s.tmc.par with tDark := v } }) ∧
           (param = 3 → u.tmc = { s.tmc with par := { s.tmc.par with tSettle := v } }) ∧
           (param = 4 → u.tmc = { s.tmc with
             par := { s.tmc.par with pacing := v }
             pacingOut := s.tmc.pacingOut || decide (s.tmc.idleSince + 10000 * v ≤ s.now + dt) }) ∧
           (param = 9 → u.lmc = { s.lmc with par := { s.lmc.par with trim := v } }) ∧
           (param = 11 → u.lmc = { s.lmc with par := { s.lmc.par with ignTime := v } }) ∧
           (param = 12 → u.lmc = { s.lmc with
             par := { s.lmc.par with life := v }
             recA := { s.lmc.recA with life := decide (v * 3600 ≤ s.lmc.recA.lit) }
             recB := { s.lmc.recB with life := decide (v * 3600 ≤ s.lmc.recB.lit) } }) ∧
           (param = 23 → u.thc = { s.thc with
             par := { s.thc.par with cMin := v }
             cTarget := if s.thc.lost then min s.thc.cTarget v else s.thc.cTarget
             cEff := if s.thc.lost then min s.thc.cEff (min s.thc.cTarget v) else s.thc.cEff }) ∧
           (param = 24 → u.thc.par = { s.thc.par with tCool := v } ∧ ∀ c, s.thc.cooldown = some c →
             u.thc.cooldown = (if s.thc.lost = false ∧ c.start + 1000000 * v ≤ s.now + dt ∧
               s.thc.tm.any (fun x => decide (x ≤ s.thc.par.tSafe)) = true then none else some c)) ∧
           (param = 27 → u.thc.par = { s.thc.par with cdDuty := v } ∧ u.thc.fLamp = fanLamp s.thc s.lmc.power ∧
             u.thc.fan = fanCommand u.thc) ∧
           (param = 28 → u.thc = { s.thc with par := { s.thc.par with stallThr := v } }) ∧
           (param = 38 → u.cud = { s.cud with par := { s.cud.par with degThr := v } }) ∧
           (param = 39 → u.cud = { s.cud with par := { s.cud.par with confirm := v } }) ∧
           (param = 10 → u.lmc = { s.lmc with par := { s.lmc.par with glow := v } }) ∧
           (param = 34 → u.ttc = { s.ttc with par := { s.ttc.par with volTarget := v } }) ∧
           (param = 40 → u.rpd.channel = v ∧ u.rpd.wired.held = none ∧ u.rpd.ir.held = none) ∧
           (param = 41 → u.cnt.interval = v ∧
             u.cnt.timer = (if v = 0 then none else some (s.now + dt + 1000000 * v)))) ∧
     (∀ v : Nat, s.unlocked → param = 17 → (v : Int) = min 400 (max 0 value.toInt) →
       (v < s.thc.par.tHi → exec (.set dt h param index value) s = .next (State.finish (((s.advance dt).setThc
         { s.thc with par := { s.thc.par with tLo := v } }).answered h 0x82 .DONE
           [param, index, 0, 0, BitVec.ofNat 8 (v / 256), BitVec.ofNat 8 v]))) ∧
       (s.thc.par.tHi ≤ v → ∃ u : State, exec (.set dt h param index value) s = .next u.finish ∧
         s.sameBut u [.lki, .cnt] ∧ u.thc = s.thc ∧
         u.answers (s.advance dt) h 0x82 .BAD_VALUE ([param, index] ++ encInt4 s.thc.par.tLo))) ∧
     (s.unlocked → param = 5 →
       (∀ on : Bool, value = (if on then 1 else 0) → exec (.set dt h param index value) s = .next (State.finish
         (((s.advance dt).setTmc { s.tmc with par := { s.tmc.par with wrapGap := on } }).answered h 0x82 .DONE
           [param, index, 0, 0, 0, if on then 1 else 0]))) ∧
       (value ≠ 0 → value ≠ 1 → exec (.set dt h param index value) s = .next (State.finish
         (((s.advance dt).count .linkRefused).answered h 0x82 .BAD_VALUE
           [param, index, 0, 0, 0, if s.tmc.par.wrapGap then 1 else 0])))) ∧
     (∀ (v low : Nat) (table : List Nat), s.unlocked → param = 16 → index.toNat ≤ 32 → tableOk s.lmc.par.table →
       (v : Int) = min 1023 (max 0 value.toInt) →
       low = max v (if index = 0 then 0 else s.lmc.par.table.getD (index.toNat - 1) 0) →
       table = s.lmc.par.table.mapIdx
         (fun j x => if j < index.toNat then x else if j = index.toNat then low else max x low) →
       exec (.set dt h param index value) s = .next (State.finish (((s.advance dt).setLmc
         { s.lmc with par := { s.lmc.par with table := table } }).answered h 0x82 .DONE
           ([param, index] ++ encInt4 (table.getD index.toNat 0))))) ∧
     (s.unlocked → param = 16 → 32 < index.toNat → ∃ free : BitVec 32, exec (.set dt h param index value) s =
       .next (State.finish ((((s.advance dt).setFree (s.free + 1)).count .linkRefused).answered h 0x82 .BAD_VALUE
         ([param, index] ++ enc4 free.toNat)))) ∧
     (s.unlocked → param = 33 → exec (.set dt h param index value) s = .next (State.finish (((s.advance dt).setTtc
       { s.ttc with par := { s.ttc.par with trimT := min 60 (max (-60) value.toInt) } }).answered h 0x82 .DONE
         ([param, index] ++ encInt4 (min 60 (max (-60) value.toInt)))))) ∧
     (param = 0 ∨ 41 < param.toNat → exec (.set dt h param index value) s =
       .next (State.finish (((s.advance dt).count .linkRefused).answered h 0x82 .BAD_REQUEST []))) ∧
     (s.sts.save.isSome = true → 1 ≤ param.toNat → param.toNat ≤ 41 → param ≠ 7 → param ≠ 8 →
       exec (.set dt h param index value) s =
         .next (State.finish (((s.advance dt).count .linkRefused).answered h 0x82 .LOCKED [])))) ∧
  (∀ (dt : Nat) (h : LinkHdr) (param index : Byte) (value : BitVec 32) (s : State), s.addressed h →
     (∀ on : Bool, s.unlocked → value = (if on then 1 else 0) → param.toNat ∈ [6, 13, 14, 15, 29, 30, 31, 32, 36] →
       ∃ u : State, exec (.set dt h param index value) s = .next u.finish ∧
         s.sameBut u [.tmc, .lmc, .ttc, .cud, .lki] ∧
         u.answers (s.advance dt) h 0x82 .DONE [param, index, 0, 0, 0, if on then 1 else 0] ∧
         u.tmc = (if param = 6 then { s.tmc with par := { s.tmc.par with skipEmpty := on } } else s.tmc) ∧
         (param = 13 → u.lmc.par = { s.lmc.par with changer := on } ∧ u.lmc.noLamp = !u.lmc.available ∧
           u.lmc.recA = s.lmc.recA ∧ u.lmc.recB = s.lmc.recB ∧ u.lmc.power = s.lmc.power) ∧
         (param = 14 → u.lmc = { s.lmc with par := { s.lmc.par with darkOnEmpty := on } }) ∧
         (param = 15 → u.lmc = { s.lmc with par := { s.lmc.par with powerOnLamp := on } }) ∧
         (param = 29 → u.ttc = { s.ttc with par := { s.ttc.par with loop := on } }) ∧
         (param = 30 → u.ttc = { s.ttc with par := { s.ttc.par with autoRewind := on } }) ∧
         (param = 31 → u.ttc = { s.ttc with par := { s.ttc.par with stopRewind := on } }) ∧
         (param = 32 → u.ttc = { s.ttc with par := { s.ttc.par with autoMute := on } }) ∧
         (param = 36 → on = false → u.cud = { s.cud with
           par := { s.cud.par with relay := false }, sending := false, cueOut := none, slotDue := none, buf := [] }) ∧
         (param = 36 → on = true → s.cud.framing ≠ .SYNC ∨ s.cud.sending = true →
           u.cud = { s.cud with par := { s.cud.par with relay := true } }) ∧
         (∀ f, param = 36 → on = true → s.cud.framing = .SYNC → s.cud.sending = false →
           f = s.cud.buf.headD { kind := .IDLE, payload := 0 } → u.cud = { s.cud with
             par := { s.cud.par with relay := true }, sending := true, buf := s.cud.buf.tail
             cueOut := some (frameWord s.cud.regenCount f.kind f.payload)
             regenCount := (s.cud.regenCount + 1) % 16, slotDue := some (s.now + dt + 100000) }) ∧
         (param.toNat ∉ [13, 14, 15] → u.lmc = s.lmc) ∧ (param.toNat ∉ [29, 30, 31, 32] → u.ttc = s.ttc) ∧
         (param ≠ 36 → u.cud = s.cud)) ∧
     (∀ kept : Bool, s.unlocked → value ≠ 0 → value ≠ 1 → (param.toNat, kept) ∈ [(6, s.tmc.par.skipEmpty),
         (13, s.lmc.par.changer), (14, s.lmc.par.darkOnEmpty), (15, s.lmc.par.powerOnLamp), (29, s.ttc.par.loop),
         (30, s.ttc.par.autoRewind), (31, s.ttc.par.stopRewind), (32, s.ttc.par.autoMute), (36, s.cud.par.relay)] →
       exec (.set dt h param index value) s = .next (State.finish (((s.advance dt).count .linkRefused).answered h 0x82
         .BAD_VALUE [param, index, 0, 0, 0, if kept then 1 else 0]))) ∧
     (∀ m, s.unlocked → param = 1 → (value = 0 ∧ m = Mode.LOCAL) ∨ (value = 1 ∧ m = .SHOW) ∨ (value = 2 ∧ m = .CONSOLE) →
       exec (.set dt h param index value) s = .next (State.finish (((s.advance dt).setAq
         { s.aq with startMode := m }).answered h 0x82 .DONE ([param, index] ++ enc4 value.toNat)))) ∧
     (∀ m, param = 8 → (value = 0 ∧ m = ClearMode.AUTO) ∨ (value = 1 ∧ m = .HELD) →
       exec (.set dt h param index value) s = .next (State.finish (((s.advance dt).setTmc
         { s.tmc with clearMode := m }).answered h 0x82 .DONE ([param, index] ++ enc4 value.toNat)))) ∧
     (∀ m, s.unlocked → param = 37 → (value = 0 ∧ m = LossCrit.SYNC_ONLY) ∨ (value = 1 ∧ m = .SYNC_OR_CHECK) →
       exec (.set dt h param index value) s = .next (State.finish (((s.advance dt).setCud
         { s.cud with par := { s.cud.par with loss := m } }).answered h 0x82 .DONE ([param, index] ++ enc4 value.toNat)))) ∧
     (∀ m, s.unlocked → param = 35 →
       (value = 0 ∧ m = CueSource.LOCAL_TAPE) ∨ (value = 1 ∧ m = .CUE_IN) ∨ (value = 2 ∧ m = .NONE) →
       (m = s.cud.par.source → exec (.set dt h param index value) s =
         .next (State.finish ((s.advance dt).answered h 0x82 .DONE ([param, index] ++ enc4 value.toNat)))) ∧
       (m ≠ s.cud.par.source → ∃ u : State, exec (.set dt h param index value) s = .next u.finish ∧
         s.sameBut u [.cud, .lki, .cnt] ∧ u.answers (s.advance dt) h 0x82 .DONE ([param, index] ++ enc4 value.toNat) ∧
         u.cud.par = { s.cud.par with source := m } ∧ u.cud.carrier = false ∧ u.cud.carrierTimer = none ∧
         u.cud.framing = .HUNT ∧ u.cud.pendHalf = none ∧ u.cud.bits = [] ∧ u.cud.bitIndex = 0 ∧
         u.cud.prevAlign = none ∧ u.cud.cellE = 3125 ∧ u.cud.speed = 1000 ∧ u.cud.speedOff = false ∧
         u.cud.speedOffTimer = none ∧ u.cud.tapeTime = s.cud.tapeTime ∧ u.cud.lastCue = s.cud.lastCue ∧
         (s.cud.framing = .SYNC → u.cud.cueSync = false ∧ u.cud.sending = false ∧ u.cud.buf = []))) ∧
     (∀ n kept : Nat, s.unlocked ∨ param = 8 → value.toInt < 0 ∨ (n : Int) ≤ value.toInt → (param.toNat, n, kept) ∈
         [(1, 3, [Mode.LOCAL, .SHOW, .CONSOLE].idxOf s.aq.startMode), (8, 2, [ClearMode.AUTO, .HELD].idxOf s.tmc.clearMode),
           (35, 3, [CueSource.LOCAL_TAPE, .CUE_IN, .NONE].idxOf s.cud.par.source),
           (37, 2, [LossCrit.SYNC_ONLY, .SYNC_OR_CHECK].idxOf s.cud.par.loss)] →
       exec (.set dt h param index value) s = .next (State.finish (((s.advance dt).count .linkRefused).answered h 0x82
         .BAD_VALUE [param, index, 0, 0, 0, BitVec.ofNat 8 kept]))) ∧
     (param = 7 → value.toInt < 0 → ∃ u : State, exec (.set dt h param index value) s = .next u.finish ∧
       s.sameBut u [.tmc, .lki] ∧ u.tmc = { s.tmc with comparePos := none, slotMatch := false } ∧
       u.answers (s.advance dt) h 0x82 .DONE [param, index, 0xFF, 0xFF, 0xFF, 0xFF] ∧
       u.lki.notices = (if s.tmc.slotMatch then (s.advance dt).condNotice .SLOT_MATCH false s.tmc.comparePos
         else s).lki.notices) ∧
     (∀ v : Nat, param = 7 → 0 ≤ value.toInt → (v : Int) = min 120 value.toInt →
       exec (.set dt h param index value) s = .next (State.finish (((s.advance dt).setTmc
         { s.tmc with comparePos := some v }).answered h 0x82 .DONE [param, index, 0, 0, 0, BitVec.ofNat 8 v]))) ∧
     (∀ v kept : Nat, s.unlocked → (v : Int) = min 400 (max 0 value.toInt) → (param.toNat, kept) ∈ [(18, s.thc.par.tHi),
         (19, s.thc.par.tWarn), (20, s.thc.par.tTrip), (21, s.thc.par.tResume), (22, s.thc.par.tSafe)] →
       (param = 18 ∧ v ≤ s.thc.par.tLo ∨ param = 19 ∧ s.thc.par.tTrip ≤ v ∨
           param = 20 ∧ (v ≤ s.thc.par.tWarn ∨ v ≤ s.thc.par.tResume ∨ v ≤ s.thc.par.tSafe) ∨
           param = 21 ∧ s.thc.par.tTrip ≤ v ∨ param = 22 ∧ s.thc.par.tTrip ≤ v →
         exec (.set dt h param index value) s = .next (State.finish (((s.advance dt).count .linkRefused).answered h 0x82
           .BAD_VALUE ([param, index] ++ encInt4 kept)))) ∧
       (param = 18 ∧ s.thc.par.tLo < v ∨ param = 19 ∧ v < s.thc.par.tTrip ∨
           param = 20 ∧ s.thc.par.tWarn < v ∧ s.thc.par.tResume < v ∧ s.thc.par.tSafe < v ∨
           param = 21 ∧ v < s.thc.par.tTrip ∨ param = 22 ∧ v < s.thc.par.tTrip →
         ∃ u : State, exec (.set dt h param index value) s = .next u.finish ∧ s.sameBut u [.thc, .lki] ∧
           u.answers (s.advance dt) h 0x82 .DONE [param, index, 0, 0, BitVec.ofNat 8 (v / 256), BitVec.ofNat 8 v] ∧
           (param = 18 → u.thc = { s.thc with par := { s.thc.par with tHi := v } }) ∧
           (param = 19 → u.thc = { s.thc with par := { s.thc.par with tWarn := v } }) ∧
           (param = 20 → u.thc = { s.thc with par := { s.thc.par with tTrip := v } }) ∧
           (param = 21 → u.thc = { s.thc with par := { s.thc.par with tResume := v } }) ∧
           (param = 22 → u.thc.par = { s.thc.par with tSafe := v } ∧ ∀ c, s.thc.cooldown = some c →
             u.thc.cooldown = (if s.thc.lost = false ∧ c.start + 1000000 * s.thc.par.tCool ≤ s.now + dt ∧
               s.thc.tm.any (fun x => decide (x ≤ v)) = true then none else some c)))) ∧
     (∀ v kept : Nat, s.unlocked → (v : Int) = min 100 (max 0 value.toInt) →
       (param.toNat, kept) ∈ [(25, s.thc.par.fMinLit), (26, s.thc.par.fMax)] →
       (param = 25 ∧ s.thc.par.fMax < v ∨ param = 26 ∧ v < s.thc.par.fMinLit →
         exec (.set dt h param index value) s = .next (State.finish (((s.advance dt).count .linkRefused).answered h 0x82
           .BAD_VALUE ([param, index] ++ encInt4 kept)))) ∧
       (param = 25 ∧ v ≤ s.thc.par.fMax ∨ param = 26 ∧ s.thc.par.fMinLit ≤ v →
         ∃ u : State, exec (.set dt h param index value) s = .next u.finish ∧ s.sameBut u [.thc, .lki] ∧
           u.answers (s.advance dt) h 0x82 .DONE [param, index, 0, 0, 0, BitVec.ofNat 8 v] ∧
           u.thc.par = (if param = 25 then { s.thc.par with fMinLit := v } else { s.thc.par with fMax := v }) ∧
           u.thc.fLamp = fanLamp u.thc s.lmc.power ∧ u.thc.fan = fanCommand u.thc)))

/-- R190: a UNIT_RESET, addressed or broadcast, makes of every block what `State.unitResets` says, block by block (R22, R50, R81, R99,
R117, R142, R165, R177, R186, R200), and an addressed one is answered ACCEPTED. R191: where the mechanism is at rest RESETTING
ends at once. The order of CUD's and TMC's notices is the model's choice (log 27), and so are a panel key DOWN whose line is open
and a low on a remote line (log 35), the alignments and the last edge that CUD keeps (log 28), that a request's row counts no good
frame (log 5), and that the row RESETTING_END is the test of R191 (log 4). R184: ASSIGN. -/
def Obligations.UnitResetAndAssign : Prop :=
  ∀ (dt : Nat) (s : State),
    (∀ h : LinkHdr, s.addressed h → ∃ u : State, exec (.unitReset dt h) s = .next u.finish ∧
      (s.advance dt).unitResets u ∧ u.answers (s.advance dt) h 0x8E .ACCEPTED []) ∧
    (∀ h : LinkHdr, s.powered = true → s.deaf = false → s.lki.resetting = false → h.dest = 31 →
      (∃ a, s.lki.addr = .ASSIGNED a ∧ a ≠ 31) ∨ s.lki.addr = .LISTEN_ONLY →
      ∃ u : State, exec (.unitReset dt h) s = .next u.finish ∧ (s.advance dt).unitResets u ∧ u.lki.resp = .NONE) ∧
    (s.powered = true →
      (s.lki.resetting = true → s.tmc.st = .IDLE ∨ s.tmc.st = .PARKED → s.aq.queue = [] →
        exec (.resettingEnd dt) s = .next (State.finish (((s.advance dt).setLki
          { s.lki with resetting := false, notices := [], lost := 0, attn := false }).event .UNIT_RESET_DONE none))) ∧
      (s.lki.resetting = false ∨ s.tmc.st.moving = true ∨ s.tmc.st = .JAMMED ∨ s.aq.queue ≠ [] →
        exec (.resettingEnd dt) s = .next (s.advance dt).finish)) ∧
    (∀ (h : LinkHdr) (serial : BitVec 32) (addr : Byte),
      (s.addressed h → h.dest ≠ 31 → exec (.assign dt h serial addr) s =
        .next (State.finish (((s.advance dt).count .linkRefused).answered h 0x8F .BAD_REQUEST []))) ∧
      (s.powered = true → s.deaf = false → s.lki.resetting = false → h.dest = 31 → s.lki.addr = .UNASSIGNED →
        (serial = s.sts.serial → 1 ≤ addr.toNat → addr.toNat ≤ 30 → exec (.assign dt h serial addr) s =
          .next (State.finish ((s.advance dt).setLki
            { s.lki with resp := .NONE, addr := .ASSIGNED addr.toNat, assignTaken := true }))) ∧
        (serial = s.sts.serial → addr = 0 ∨ 30 < addr.toNat → exec (.assign dt h serial addr) s =
          .next (State.finish (((s.advance dt).setLki { s.lki with resp := .NONE }).count .linkRefused))) ∧
        (serial ≠ s.sts.serial → exec (.assign dt h serial addr) s =
          .next (State.finish ((s.advance dt).setLki { s.lki with resp := .NONE })))) ∧
      (s.powered = true → s.deaf = false → s.lki.resetting = false → h.dest = 31 → s.lki.addr = .LISTEN_ONLY →
        exec (.assign dt h serial addr) s =
          .next (State.finish (((s.advance dt).setLki { s.lki with resp := .NONE }).count .linkRefused))) ∧
      (∀ a, s.powered = true → s.deaf = false → s.lki.resetting = false → h.dest = 31 → s.lki.addr = .ASSIGNED a →
        a ≠ 31 →
        (s.lki.assignTaken = false ∨ serial = s.sts.serial → exec (.assign dt h serial addr) s =
          .next (State.finish (((s.advance dt).setLki { s.lki with resp := .NONE }).count .linkRefused))) ∧
        (s.lki.assignTaken = true → serial ≠ s.sts.serial → exec (.assign dt h serial addr) s =
          .next (State.finish ((s.advance dt).setLki { s.lki with resp := .NONE })))))

/-! ## Counters, notices and saves (chapters 10 and 11) -/

/-- R195: a COUNTERS_READ sends the snapshot copies of its group with their marks and changes nothing. That the snapshot number,
the snapshot time and the interval length have the most significant byte first is the model's choice (log 21). -/
def Obligations.CountersReadSendsTheSnapshot : Prop :=
  ∀ (dt : Nat) (h : LinkHdr) (group : Byte) (s : State), s.addressed h → s.cnt.snap.length = 24 →
    (∀ start n, (group.toNat, start, n) ∈ [(1, 0, 9), (2, 9, 5), (3, 14, 3), (4, 17, 4), (5, 21, 3)] →
      ∃ marks : Nat, (∀ i, i < 16 → marks.testBit i = (decide (i < n) &&
          ((s.cnt.snap[start + i]?).map Counter.ovf).getD false)) ∧
        exec (.countersRead dt h group) s = .next (State.finish ((s.advance dt).answered h 0x8A .DONE
          ([group, BitVec.ofNat 8 (s.cnt.number / 256), BitVec.ofNat 8 s.cnt.number,
            BitVec.ofNat 8 (s.cnt.snapMs / 16777216), BitVec.ofNat 8 (s.cnt.snapMs / 65536),
            BitVec.ofNat 8 (s.cnt.snapMs / 256), BitVec.ofNat 8 s.cnt.snapMs,
            BitVec.ofNat 8 (s.cnt.lenMs / 16777216), BitVec.ofNat 8 (s.cnt.lenMs / 65536),
            BitVec.ofNat 8 (s.cnt.lenMs / 256), BitVec.ofNat 8 s.cnt.lenMs] ++
            ((s.cnt.snap.drop start).take n).flatMap
              (fun c => [BitVec.ofNat 8 (c.val / 256), BitVec.ofNat 8 c.val]) ++
            [BitVec.ofNat 8 (marks / 256), BitVec.ofNat 8 marks])))) ∧
    (group = 0 ∨ 5 < group.toNat → exec (.countersRead dt h group) s =
      .next (State.finish (((s.advance dt).count .linkRefused).answered h 0x8A .BAD_VALUE [])))

/-- R193, R194: a snapshot, on request and by its timer; a live counter holds at 65535 with its mark set. The interval length is the
difference of the millisecond stamps: the model's choice (log 21).
Times are those of the model's clock (logs 1 and 2). -/
def Obligations.SnapshotsMoveTheCounters : Prop :=
  (∀ c : Counter, c.val < 65535 → c.bump = { c with val := c.val + 1 }) ∧
    (∀ c : Counter, c.val = 65535 → c.bump = { val := 65535, ovf := true }) ∧
    ∀ (dt t : Nat) (s : State) (x : Cnt),
      x = { s.cnt with snap := s.cnt.live, live := s.cnt.live.map (fun _ => { val := 0, ovf := false })
                       number := (s.cnt.number + 1) % 65536
                       lenMs := (t / 1000 % 4294967296 + 4294967296 - s.cnt.snapMs) % 4294967296
                       snapMs := t / 1000 % 4294967296
                       timer := if s.cnt.interval = 0 then none else some (t + 1000000 * s.cnt.interval) } →
      (∀ due, s.powered = true → s.cnt.timer = some due → t = max (s.now + dt) due →
        exec (.snapshotTimerExpiry dt) s = .next (State.finish (((s.advance dt).setNow t).setCnt x))) ∧
      (∀ (h : LinkHdr) (arg : Byte), s.addressed h → t = s.now + dt → exec (.controlSnapshot dt h arg) s =
        .next (State.finish (((s.advance dt).setCnt x).answered h 0x84 .DONE [])))

/-- R199: a NOTICE_POLL takes up to 4 entries from the old end, with the lost count; as a broadcast it is refused. That the lost
count has the most significant byte first is the model's choice (log 21). -/
def Obligations.NoticePollTakesTheOldest : Prop :=
  ∀ (dt : Nat) (h : LinkHdr) (s : State),
    (s.addressed h → h.dest ≠ 31 →
      exec (.noticePoll dt h) s = .next (State.finish (((s.advance dt).setLki
        { s.lki with notices := s.lki.notices.drop 4, lost := 0, attn := decide (s.lki.notices.drop 4 ≠ []) }).answered
          h 0x8B .DONE ([BitVec.ofNat 8 (s.lki.notices.take 4).length, BitVec.ofNat 8 (s.lki.lost / 256),
            BitVec.ofNat 8 s.lki.lost] ++ (s.lki.notices.take 4).flatMap (fun n =>
              [BitVec.ofNat 8 (n.kind.code + (if n.clear then 128 else 0)),
                BitVec.ofNat 8 (n.subject.getD 0xFFFF / 256), BitVec.ofNat 8 (n.subject.getD 0xFFFF),
                BitVec.ofNat 8 (n.stamp / 16777216), BitVec.ofNat 8 (n.stamp / 65536),
                BitVec.ofNat 8 (n.stamp / 256), BitVec.ofNat 8 n.stamp]))))) ∧
    (s.powered = true → s.deaf = false → s.lki.resetting = false → h.dest = 31 →
      s.lki.addr = .LISTEN_ONLY ∨ (∃ a, s.lki.addr = .ASSIGNED a ∧ a ≠ 31) →
      exec (.noticePoll dt h) s =
        .next (State.finish (((s.advance dt).setLki { s.lki with resp := .NONE }).count .linkRefused)))

/-- R197, R198: NOTICE_ENABLE: the enable as asked; a condition that is set is noticed when its kind is switched on; nothing else is.
A notice of a kind that is off is discarded. -/
def Obligations.NoticeEnableSwitchesAKind : Prop :=
  (∀ (s : State) (k : NoticeKind) (clear : Bool) (subject : Option Nat), s.lki.enables.getD k.code false = false →
    s.notice k clear subject = s) ∧
    ∀ (dt : Nat) (h : LinkHdr) (kind flag : Byte) (s : State), s.addressed h →
      (33 < kind.toNat ∨ 1 < flag.toNat → exec (.noticeEnable dt h kind flag) s =
        .next (State.finish (((s.advance dt).count .linkRefused).answered h 0x8C .BAD_VALUE []))) ∧
      (kind.toNat ≤ 33 → flag = 0 ∨ flag = 1 →
        flag = 0 ∨ s.lki.enables.getD kind.toNat false = true ∨ kind.toNat ≤ 21 →
        exec (.noticeEnable dt h kind flag) s = .next (State.finish (((s.advance dt).setLki
          { s.lki with enables := s.lki.enables.set kind.toNat (decide (flag = 1)) }).answered h 0x8C .DONE
            [kind, flag]))) ∧
      (∀ (k : NoticeKind) (subjects : List (Option Nat)), flag = 1 → s.lki.enables.getD kind.toNat false = false →
        (kind = 22 ∧ k = .SLOT_MATCH ∧ subjects = (if s.tmc.slotMatch then [s.tmc.comparePos] else []) ∨
          kind = 23 ∧ k = .THERMAL_WARM ∧ subjects = (if s.thc.warm then [none] else []) ∨
          kind = 24 ∧ k = .THERMAL_TRIP ∧ subjects = (if s.thc.trip then [none] else []) ∨
          kind = 25 ∧ k = .SENSOR_LOST ∧ subjects = (if s.thc.lost then [none] else []) ∨
          kind = 26 ∧ k = .FAN_FAULT ∧ subjects = (if s.thc.fanFault then [none] else []) ∨
          kind = 27 ∧ k = .COOLDOWN ∧ subjects = (if s.thc.cooldown.isSome then [none] else []) ∨
          kind = 28 ∧ k = .NO_LAMP ∧ subjects = (if s.lmc.noLamp then [none] else []) ∨
          kind = 29 ∧ k = .LAMP_LIFE ∧ subjects = (if s.lmc.recA.life then [some 0] else []) ++
            (if s.lmc.recB.life then [some 1] else []) ∨
          kind = 30 ∧ k = .CUE_SYNC ∧ subjects = (if s.cud.cueSync then [none] else []) ∨
          kind = 31 ∧ k = .CUE_DEGRADED ∧ subjects = (if s.cud.degraded then [none] else []) ∨
          kind = 32 ∧ k = .TAPE_SPEED_OFF ∧ subjects = (if s.cud.speedOff then [none] else []) ∨
          kind = 33 ∧ k = .STORE_LOST ∧ subjects = (if s.sts.storeLost then [none] else [])) →
        exec (.noticeEnable dt h kind flag) s = .next (State.finish ((subjects.foldl
          (fun t x => t.condNotice k true x) ((s.advance dt).setLki
            { s.lki with resp := .NONE, enables := s.lki.enables.set kind.toNat true })).answered h 0x8C .DONE
              [kind, flag])))

/-- R201, R202, R203: a SAVE begins a FULL save; the end of a save leaves its image in the record; the lit timer asks for a LAMP
save, which waits while a save runs. R203: the change of the lamp to
OFF asks for a LAMP save and stops the lit timer; its change from OFF starts the lit timer at 15 minutes.
Times are those of the model's clock (logs 1 and 2). -/
def Obligations.SavesWriteTheRecord : Prop :=
  (∀ (dt : Nat) (s : State),
     (∀ (h : LinkHdr) (arg : Byte), s.addressed h →
       (s.sts.save = none → exec (.controlSave dt h arg) s = .next (State.finish (((s.advance dt).setSts
         { s.sts with marker := true, save := some { full := true, image := s.capture, keepMarker := false } }).answered
           h 0x84 .ACCEPTED []))) ∧
       (s.sts.save ≠ none → exec (.controlSave dt h arg) s =
         .next (State.finish (((s.advance dt).count .linkRefused).answered h 0x84 .BUSY [])))) ∧
     (∀ v, s.powered = true → s.sts.save = some v → ∃ u : State, exec (.saveEnd dt) s = .next u.finish ∧
       s.sameBut u [.lki, .sts] ∧
       u.sts.record = v.image ∧ u.sts.checkOk = true ∧
       u.sts.storeLost = (s.sts.storeLost && !v.full) ∧ u.sts.autoPending = false ∧
       (s.sts.autoPending = false → u.sts.save = none ∧ u.sts.marker = v.keepMarker) ∧
       (s.sts.autoPending = true → u.sts.marker = true ∧ u.sts.save = some
         { full := false, keepMarker := u.sts.storeLost
           image := { v.image with lampA := s.lmc.recA.store, lampB := s.lmc.recB.store, active := s.lmc.active } }) ∧
       (v.full = false → u.lki = s.lki) ∧
       (v.full = true → s.sts.storeLost = false → u.lki = ((s.advance dt).event .SAVE_DONE none).lki)) ∧
     (∀ due, s.powered = true → s.sts.litTimer = some due →
       (s.sts.save = none → exec (.litTimerExpiry dt) s = .next (State.finish (((s.advance dt).setNow
         (max (s.now + dt) due)).setSts { s.sts with
           litTimer := some (max (s.now + dt) due + 900000000), marker := true
           save := some { full := false, keepMarker := s.sts.storeLost, image := { s.sts.record with
             lampA := s.lmc.recA.store, lampB := s.lmc.recB.store, active := s.lmc.active } } }))) ∧
       (s.sts.save ≠ none → exec (.litTimerExpiry dt) s = .next (State.finish (((s.advance dt).setNow
         (max (s.now + dt) due)).setSts { s.sts with
           litTimer := some (max (s.now + dt) due + 900000000), autoPending := true }))))) ∧
  (∀ (dt : Nat) (h : LinkHdr) (s : State), s.addressed h →
     (∀ c, c = .controlLamp dt h 0 ∨ (∃ arg, c = .controlStandby dt h arg) ∧ s.thc.power = .ACTIVE →
       (s.lmc.power ≠ .OFF → ∃ u : State, exec c s = .next u.finish ∧
         u.sts = (match s.sts.save with
           | none => { s.sts with
               litTimer := none, marker := true
               save := some { full := false, keepMarker := s.sts.storeLost, image := { s.sts.record with
                 lampA := s.lmc.recA.store, lampB := s.lmc.recB.store, active := s.lmc.active } } }
           | some _ => { s.sts with litTimer := none, autoPending := true })) ∧
       (s.lmc.power = .OFF → ∃ u : State, exec c s = .next u.finish ∧ u.sts = s.sts)) ∧
     (s.lmc.power = .OFF → s.thc.trip = false → s.thc.fanFault = false → s.thc.power = .ACTIVE → s.lmc.noLamp = false →
       s.thc.lost = false ∨ s.thc.loss30 = false →
       ∃ u : State, exec (.controlLamp dt h 1) s = .next u.finish ∧
         u.sts = { s.sts with litTimer := some (s.now + dt + 900000000) }))

/-! ## What every command keeps -/

/-- R196, R200: the notice queue holds at most 16 entries, and ATTN is asserted exactly while it holds one. R96, R112: the power
hold line and the effective target follow the state. -/
def Obligations.OutputsAndNoticesAreKept : Prop :=
  (∀ s t : State, NoticeInv s → step s = .next t → NoticeInv t) ∧
  (∀ s t : State, OutputInv s → step s = .next t → OutputInv t)

/-- R51, R57, R61, R83, R94: no trip, no fan fault and no STANDBY with the lamp on, and no drive on a lamp that is off. -/
def Obligations.LampSafetyIsKept : Prop :=
  ∀ s t : State, LampInv s → step s = .next t → LampInv t

/-- R30 to R46: MECH exactly outside IDLE, the phases with their timers and drives; and no lifter or tray motion without a dark
output level. -/
def Obligations.NoMotionInTheLight : Prop :=
  (∀ s t : State, MechInv s → step s = .next t → MechInv t) ∧
    ∀ s : State, MechInv s → s.mechDriven → s.lmc.outLevel = 0 ∧ s.tmc.st.moving = true ∧ s.lmc.blanks.mech = true

/-- R24 to R29: the slot table, the tray size, the tray position and the gate. -/
def Obligations.TrayRecordsAreKept : Prop :=
  ∀ s t : State, MechInv s → ShapeInv s → TrayInv s → step s = .next t → TrayInv t

/-- R143 to R164: the states of the sequencer. -/
def Obligations.SequencerStatesAreKept : Prop :=
  ∀ s t : State, SeqInv s.ssq → step s = .next t → SeqInv t.ssq

/-- R8, R9, R14: at most 12 entries, only the oldest RUNNING, a step tag exactly on those of SHOW origin, and the HOLD timer runs for
a RUNNING HOLD alone. -/
def Obligations.ActionQueueIsKept : Prop :=
  ∀ s t : State, SeqInv s.ssq → QueueInv s → step s = .next t → QueueInv t

/-- R121, R126, R136, R138: the window, the buffer, CUE_SYNC and cue-out. -/
def Obligations.CueTrackIsKept : Prop :=
  ∀ s t : State, CueInv s → step s = .next t → CueInv t

/-- R27, R76, R104, R112, R143, R198, R201: the tables keep their lengths and the named values their ranges. -/
def Obligations.ShapesAndRangesAreKept : Prop :=
  ∀ s t : State, ShapeInv s → step s = .next t → ShapeInv t
end

