-- ==== Sys2Proof/Laws/State.lean ====
section
/-!
SUPPORT. What replacing one part of the state leaves of it: one lemma per part and update, all by rfl, so that no proof
unfolds a record update.
-/

namespace Sys2Proof.Machine

@[simp] theorem State.setPowered_powered (s : State) (x : Bool) : (s.setPowered x).powered = x := rfl
@[simp] theorem State.setPowered_now (s : State) (x : Bool) : (s.setPowered x).now = s.now := rfl
@[simp] theorem State.setPowered_free (s : State) (x : Bool) : (s.setPowered x).free = s.free := rfl
@[simp] theorem State.setPowered_aq (s : State) (x : Bool) : (s.setPowered x).aq = s.aq := rfl
@[simp] theorem State.setPowered_tmc (s : State) (x : Bool) : (s.setPowered x).tmc = s.tmc := rfl
@[simp] theorem State.setPowered_lmc (s : State) (x : Bool) : (s.setPowered x).lmc = s.lmc := rfl
@[simp] theorem State.setPowered_thc (s : State) (x : Bool) : (s.setPowered x).thc = s.thc := rfl
@[simp] theorem State.setPowered_ttc (s : State) (x : Bool) : (s.setPowered x).ttc = s.ttc := rfl
@[simp] theorem State.setPowered_cud (s : State) (x : Bool) : (s.setPowered x).cud = s.cud := rfl
@[simp] theorem State.setPowered_ssq (s : State) (x : Bool) : (s.setPowered x).ssq = s.ssq := rfl
@[simp] theorem State.setPowered_rpd (s : State) (x : Bool) : (s.setPowered x).rpd = s.rpd := rfl
@[simp] theorem State.setPowered_lki (s : State) (x : Bool) : (s.setPowered x).lki = s.lki := rfl
@[simp] theorem State.setPowered_cnt (s : State) (x : Bool) : (s.setPowered x).cnt = s.cnt := rfl
@[simp] theorem State.setPowered_sts (s : State) (x : Bool) : (s.setPowered x).sts = s.sts := rfl
@[simp] theorem State.setPowered_pending (s : State) (x : Bool) : (s.setPowered x).pending = s.pending := rfl

@[simp] theorem State.setNow_powered (s : State) (x : Nat) : (s.setNow x).powered = s.powered := rfl
@[simp] theorem State.setNow_now (s : State) (x : Nat) : (s.setNow x).now = x := rfl
@[simp] theorem State.setNow_free (s : State) (x : Nat) : (s.setNow x).free = s.free := rfl
@[simp] theorem State.setNow_aq (s : State) (x : Nat) : (s.setNow x).aq = s.aq := rfl
@[simp] theorem State.setNow_tmc (s : State) (x : Nat) : (s.setNow x).tmc = s.tmc := rfl
@[simp] theorem State.setNow_lmc (s : State) (x : Nat) : (s.setNow x).lmc = s.lmc := rfl
@[simp] theorem State.setNow_thc (s : State) (x : Nat) : (s.setNow x).thc = s.thc := rfl
@[simp] theorem State.setNow_ttc (s : State) (x : Nat) : (s.setNow x).ttc = s.ttc := rfl
@[simp] theorem State.setNow_cud (s : State) (x : Nat) : (s.setNow x).cud = s.cud := rfl
@[simp] theorem State.setNow_ssq (s : State) (x : Nat) : (s.setNow x).ssq = s.ssq := rfl
@[simp] theorem State.setNow_rpd (s : State) (x : Nat) : (s.setNow x).rpd = s.rpd := rfl
@[simp] theorem State.setNow_lki (s : State) (x : Nat) : (s.setNow x).lki = s.lki := rfl
@[simp] theorem State.setNow_cnt (s : State) (x : Nat) : (s.setNow x).cnt = s.cnt := rfl
@[simp] theorem State.setNow_sts (s : State) (x : Nat) : (s.setNow x).sts = s.sts := rfl
@[simp] theorem State.setNow_pending (s : State) (x : Nat) : (s.setNow x).pending = s.pending := rfl

@[simp] theorem State.setFree_powered (s : State) (x : Nat) : (s.setFree x).powered = s.powered := rfl
@[simp] theorem State.setFree_now (s : State) (x : Nat) : (s.setFree x).now = s.now := rfl
@[simp] theorem State.setFree_free (s : State) (x : Nat) : (s.setFree x).free = x := rfl
@[simp] theorem State.setFree_aq (s : State) (x : Nat) : (s.setFree x).aq = s.aq := rfl
@[simp] theorem State.setFree_tmc (s : State) (x : Nat) : (s.setFree x).tmc = s.tmc := rfl
@[simp] theorem State.setFree_lmc (s : State) (x : Nat) : (s.setFree x).lmc = s.lmc := rfl
@[simp] theorem State.setFree_thc (s : State) (x : Nat) : (s.setFree x).thc = s.thc := rfl
@[simp] theorem State.setFree_ttc (s : State) (x : Nat) : (s.setFree x).ttc = s.ttc := rfl
@[simp] theorem State.setFree_cud (s : State) (x : Nat) : (s.setFree x).cud = s.cud := rfl
@[simp] theorem State.setFree_ssq (s : State) (x : Nat) : (s.setFree x).ssq = s.ssq := rfl
@[simp] theorem State.setFree_rpd (s : State) (x : Nat) : (s.setFree x).rpd = s.rpd := rfl
@[simp] theorem State.setFree_lki (s : State) (x : Nat) : (s.setFree x).lki = s.lki := rfl
@[simp] theorem State.setFree_cnt (s : State) (x : Nat) : (s.setFree x).cnt = s.cnt := rfl
@[simp] theorem State.setFree_sts (s : State) (x : Nat) : (s.setFree x).sts = s.sts := rfl
@[simp] theorem State.setFree_pending (s : State) (x : Nat) : (s.setFree x).pending = s.pending := rfl

@[simp] theorem State.setAq_powered (s : State) (x : Aq) : (s.setAq x).powered = s.powered := rfl
@[simp] theorem State.setAq_now (s : State) (x : Aq) : (s.setAq x).now = s.now := rfl
@[simp] theorem State.setAq_free (s : State) (x : Aq) : (s.setAq x).free = s.free := rfl
@[simp] theorem State.setAq_aq (s : State) (x : Aq) : (s.setAq x).aq = x := rfl
@[simp] theorem State.setAq_tmc (s : State) (x : Aq) : (s.setAq x).tmc = s.tmc := rfl
@[simp] theorem State.setAq_lmc (s : State) (x : Aq) : (s.setAq x).lmc = s.lmc := rfl
@[simp] theorem State.setAq_thc (s : State) (x : Aq) : (s.setAq x).thc = s.thc := rfl
@[simp] theorem State.setAq_ttc (s : State) (x : Aq) : (s.setAq x).ttc = s.ttc := rfl
@[simp] theorem State.setAq_cud (s : State) (x : Aq) : (s.setAq x).cud = s.cud := rfl
@[simp] theorem State.setAq_ssq (s : State) (x : Aq) : (s.setAq x).ssq = s.ssq := rfl
@[simp] theorem State.setAq_rpd (s : State) (x : Aq) : (s.setAq x).rpd = s.rpd := rfl
@[simp] theorem State.setAq_lki (s : State) (x : Aq) : (s.setAq x).lki = s.lki := rfl
@[simp] theorem State.setAq_cnt (s : State) (x : Aq) : (s.setAq x).cnt = s.cnt := rfl
@[simp] theorem State.setAq_sts (s : State) (x : Aq) : (s.setAq x).sts = s.sts := rfl
@[simp] theorem State.setAq_pending (s : State) (x : Aq) : (s.setAq x).pending = s.pending := rfl

@[simp] theorem State.setTmc_powered (s : State) (x : Tmc) : (s.setTmc x).powered = s.powered := rfl
@[simp] theorem State.setTmc_now (s : State) (x : Tmc) : (s.setTmc x).now = s.now := rfl
@[simp] theorem State.setTmc_free (s : State) (x : Tmc) : (s.setTmc x).free = s.free := rfl
@[simp] theorem State.setTmc_aq (s : State) (x : Tmc) : (s.setTmc x).aq = s.aq := rfl
@[simp] theorem State.setTmc_tmc (s : State) (x : Tmc) : (s.setTmc x).tmc = x := rfl
@[simp] theorem State.setTmc_lmc (s : State) (x : Tmc) : (s.setTmc x).lmc = s.lmc := rfl
@[simp] theorem State.setTmc_thc (s : State) (x : Tmc) : (s.setTmc x).thc = s.thc := rfl
@[simp] theorem State.setTmc_ttc (s : State) (x : Tmc) : (s.setTmc x).ttc = s.ttc := rfl
@[simp] theorem State.setTmc_cud (s : State) (x : Tmc) : (s.setTmc x).cud = s.cud := rfl
@[simp] theorem State.setTmc_ssq (s : State) (x : Tmc) : (s.setTmc x).ssq = s.ssq := rfl
@[simp] theorem State.setTmc_rpd (s : State) (x : Tmc) : (s.setTmc x).rpd = s.rpd := rfl
@[simp] theorem State.setTmc_lki (s : State) (x : Tmc) : (s.setTmc x).lki = s.lki := rfl
@[simp] theorem State.setTmc_cnt (s : State) (x : Tmc) : (s.setTmc x).cnt = s.cnt := rfl
@[simp] theorem State.setTmc_sts (s : State) (x : Tmc) : (s.setTmc x).sts = s.sts := rfl
@[simp] theorem State.setTmc_pending (s : State) (x : Tmc) : (s.setTmc x).pending = s.pending := rfl

@[simp] theorem State.setLmc_powered (s : State) (x : Lmc) : (s.setLmc x).powered = s.powered := rfl
@[simp] theorem State.setLmc_now (s : State) (x : Lmc) : (s.setLmc x).now = s.now := rfl
@[simp] theorem State.setLmc_free (s : State) (x : Lmc) : (s.setLmc x).free = s.free := rfl
@[simp] theorem State.setLmc_aq (s : State) (x : Lmc) : (s.setLmc x).aq = s.aq := rfl
@[simp] theorem State.setLmc_tmc (s : State) (x : Lmc) : (s.setLmc x).tmc = s.tmc := rfl
@[simp] theorem State.setLmc_lmc (s : State) (x : Lmc) : (s.setLmc x).lmc = x := rfl
@[simp] theorem State.setLmc_thc (s : State) (x : Lmc) : (s.setLmc x).thc = s.thc := rfl
@[simp] theorem State.setLmc_ttc (s : State) (x : Lmc) : (s.setLmc x).ttc = s.ttc := rfl
@[simp] theorem State.setLmc_cud (s : State) (x : Lmc) : (s.setLmc x).cud = s.cud := rfl
@[simp] theorem State.setLmc_ssq (s : State) (x : Lmc) : (s.setLmc x).ssq = s.ssq := rfl
@[simp] theorem State.setLmc_rpd (s : State) (x : Lmc) : (s.setLmc x).rpd = s.rpd := rfl
@[simp] theorem State.setLmc_lki (s : State) (x : Lmc) : (s.setLmc x).lki = s.lki := rfl
@[simp] theorem State.setLmc_cnt (s : State) (x : Lmc) : (s.setLmc x).cnt = s.cnt := rfl
@[simp] theorem State.setLmc_sts (s : State) (x : Lmc) : (s.setLmc x).sts = s.sts := rfl
@[simp] theorem State.setLmc_pending (s : State) (x : Lmc) : (s.setLmc x).pending = s.pending := rfl

@[simp] theorem State.setThc_powered (s : State) (x : Thc) : (s.setThc x).powered = s.powered := rfl
@[simp] theorem State.setThc_now (s : State) (x : Thc) : (s.setThc x).now = s.now := rfl
@[simp] theorem State.setThc_free (s : State) (x : Thc) : (s.setThc x).free = s.free := rfl
@[simp] theorem State.setThc_aq (s : State) (x : Thc) : (s.setThc x).aq = s.aq := rfl
@[simp] theorem State.setThc_tmc (s : State) (x : Thc) : (s.setThc x).tmc = s.tmc := rfl
@[simp] theorem State.setThc_lmc (s : State) (x : Thc) : (s.setThc x).lmc = s.lmc := rfl
@[simp] theorem State.setThc_thc (s : State) (x : Thc) : (s.setThc x).thc = x := rfl
@[simp] theorem State.setThc_ttc (s : State) (x : Thc) : (s.setThc x).ttc = s.ttc := rfl
@[simp] theorem State.setThc_cud (s : State) (x : Thc) : (s.setThc x).cud = s.cud := rfl
@[simp] theorem State.setThc_ssq (s : State) (x : Thc) : (s.setThc x).ssq = s.ssq := rfl
@[simp] theorem State.setThc_rpd (s : State) (x : Thc) : (s.setThc x).rpd = s.rpd := rfl
@[simp] theorem State.setThc_lki (s : State) (x : Thc) : (s.setThc x).lki = s.lki := rfl
@[simp] theorem State.setThc_cnt (s : State) (x : Thc) : (s.setThc x).cnt = s.cnt := rfl
@[simp] theorem State.setThc_sts (s : State) (x : Thc) : (s.setThc x).sts = s.sts := rfl
@[simp] theorem State.setThc_pending (s : State) (x : Thc) : (s.setThc x).pending = s.pending := rfl

@[simp] theorem State.setTtc_powered (s : State) (x : Ttc) : (s.setTtc x).powered = s.powered := rfl
@[simp] theorem State.setTtc_now (s : State) (x : Ttc) : (s.setTtc x).now = s.now := rfl
@[simp] theorem State.setTtc_free (s : State) (x : Ttc) : (s.setTtc x).free = s.free := rfl
@[simp] theorem State.setTtc_aq (s : State) (x : Ttc) : (s.setTtc x).aq = s.aq := rfl
@[simp] theorem State.setTtc_tmc (s : State) (x : Ttc) : (s.setTtc x).tmc = s.tmc := rfl
@[simp] theorem State.setTtc_lmc (s : State) (x : Ttc) : (s.setTtc x).lmc = s.lmc := rfl
@[simp] theorem State.setTtc_thc (s : State) (x : Ttc) : (s.setTtc x).thc = s.thc := rfl
@[simp] theorem State.setTtc_ttc (s : State) (x : Ttc) : (s.setTtc x).ttc = x := rfl
@[simp] theorem State.setTtc_cud (s : State) (x : Ttc) : (s.setTtc x).cud = s.cud := rfl
@[simp] theorem State.setTtc_ssq (s : State) (x : Ttc) : (s.setTtc x).ssq = s.ssq := rfl
@[simp] theorem State.setTtc_rpd (s : State) (x : Ttc) : (s.setTtc x).rpd = s.rpd := rfl
@[simp] theorem State.setTtc_lki (s : State) (x : Ttc) : (s.setTtc x).lki = s.lki := rfl
@[simp] theorem State.setTtc_cnt (s : State) (x : Ttc) : (s.setTtc x).cnt = s.cnt := rfl
@[simp] theorem State.setTtc_sts (s : State) (x : Ttc) : (s.setTtc x).sts = s.sts := rfl
@[simp] theorem State.setTtc_pending (s : State) (x : Ttc) : (s.setTtc x).pending = s.pending := rfl

@[simp] theorem State.setCud_powered (s : State) (x : Cud) : (s.setCud x).powered = s.powered := rfl
@[simp] theorem State.setCud_now (s : State) (x : Cud) : (s.setCud x).now = s.now := rfl
@[simp] theorem State.setCud_free (s : State) (x : Cud) : (s.setCud x).free = s.free := rfl
@[simp] theorem State.setCud_aq (s : State) (x : Cud) : (s.setCud x).aq = s.aq := rfl
@[simp] theorem State.setCud_tmc (s : State) (x : Cud) : (s.setCud x).tmc = s.tmc := rfl
@[simp] theorem State.setCud_lmc (s : State) (x : Cud) : (s.setCud x).lmc = s.lmc := rfl
@[simp] theorem State.setCud_thc (s : State) (x : Cud) : (s.setCud x).thc = s.thc := rfl
@[simp] theorem State.setCud_ttc (s : State) (x : Cud) : (s.setCud x).ttc = s.ttc := rfl
@[simp] theorem State.setCud_cud (s : State) (x : Cud) : (s.setCud x).cud = x := rfl
@[simp] theorem State.setCud_ssq (s : State) (x : Cud) : (s.setCud x).ssq = s.ssq := rfl
@[simp] theorem State.setCud_rpd (s : State) (x : Cud) : (s.setCud x).rpd = s.rpd := rfl
@[simp] theorem State.setCud_lki (s : State) (x : Cud) : (s.setCud x).lki = s.lki := rfl
@[simp] theorem State.setCud_cnt (s : State) (x : Cud) : (s.setCud x).cnt = s.cnt := rfl
@[simp] theorem State.setCud_sts (s : State) (x : Cud) : (s.setCud x).sts = s.sts := rfl
@[simp] theorem State.setCud_pending (s : State) (x : Cud) : (s.setCud x).pending = s.pending := rfl

@[simp] theorem State.setSsq_powered (s : State) (x : Ssq) : (s.setSsq x).powered = s.powered := rfl
@[simp] theorem State.setSsq_now (s : State) (x : Ssq) : (s.setSsq x).now = s.now := rfl
@[simp] theorem State.setSsq_free (s : State) (x : Ssq) : (s.setSsq x).free = s.free := rfl
@[simp] theorem State.setSsq_aq (s : State) (x : Ssq) : (s.setSsq x).aq = s.aq := rfl
@[simp] theorem State.setSsq_tmc (s : State) (x : Ssq) : (s.setSsq x).tmc = s.tmc := rfl
@[simp] theorem State.setSsq_lmc (s : State) (x : Ssq) : (s.setSsq x).lmc = s.lmc := rfl
@[simp] theorem State.setSsq_thc (s : State) (x : Ssq) : (s.setSsq x).thc = s.thc := rfl
@[simp] theorem State.setSsq_ttc (s : State) (x : Ssq) : (s.setSsq x).ttc = s.ttc := rfl
@[simp] theorem State.setSsq_cud (s : State) (x : Ssq) : (s.setSsq x).cud = s.cud := rfl
@[simp] theorem State.setSsq_ssq (s : State) (x : Ssq) : (s.setSsq x).ssq = x := rfl
@[simp] theorem State.setSsq_rpd (s : State) (x : Ssq) : (s.setSsq x).rpd = s.rpd := rfl
@[simp] theorem State.setSsq_lki (s : State) (x : Ssq) : (s.setSsq x).lki = s.lki := rfl
@[simp] theorem State.setSsq_cnt (s : State) (x : Ssq) : (s.setSsq x).cnt = s.cnt := rfl
@[simp] theorem State.setSsq_sts (s : State) (x : Ssq) : (s.setSsq x).sts = s.sts := rfl
@[simp] theorem State.setSsq_pending (s : State) (x : Ssq) : (s.setSsq x).pending = s.pending := rfl

@[simp] theorem State.setRpd_powered (s : State) (x : Rpd) : (s.setRpd x).powered = s.powered := rfl
@[simp] theorem State.setRpd_now (s : State) (x : Rpd) : (s.setRpd x).now = s.now := rfl
@[simp] theorem State.setRpd_free (s : State) (x : Rpd) : (s.setRpd x).free = s.free := rfl
@[simp] theorem State.setRpd_aq (s : State) (x : Rpd) : (s.setRpd x).aq = s.aq := rfl
@[simp] theorem State.setRpd_tmc (s : State) (x : Rpd) : (s.setRpd x).tmc = s.tmc := rfl
@[simp] theorem State.setRpd_lmc (s : State) (x : Rpd) : (s.setRpd x).lmc = s.lmc := rfl
@[simp] theorem State.setRpd_thc (s : State) (x : Rpd) : (s.setRpd x).thc = s.thc := rfl
@[simp] theorem State.setRpd_ttc (s : State) (x : Rpd) : (s.setRpd x).ttc = s.ttc := rfl
@[simp] theorem State.setRpd_cud (s : State) (x : Rpd) : (s.setRpd x).cud = s.cud := rfl
@[simp] theorem State.setRpd_ssq (s : State) (x : Rpd) : (s.setRpd x).ssq = s.ssq := rfl
@[simp] theorem State.setRpd_rpd (s : State) (x : Rpd) : (s.setRpd x).rpd = x := rfl
@[simp] theorem State.setRpd_lki (s : State) (x : Rpd) : (s.setRpd x).lki = s.lki := rfl
@[simp] theorem State.setRpd_cnt (s : State) (x : Rpd) : (s.setRpd x).cnt = s.cnt := rfl
@[simp] theorem State.setRpd_sts (s : State) (x : Rpd) : (s.setRpd x).sts = s.sts := rfl
@[simp] theorem State.setRpd_pending (s : State) (x : Rpd) : (s.setRpd x).pending = s.pending := rfl

@[simp] theorem State.setLki_powered (s : State) (x : Lki) : (s.setLki x).powered = s.powered := rfl
@[simp] theorem State.setLki_now (s : State) (x : Lki) : (s.setLki x).now = s.now := rfl
@[simp] theorem State.setLki_free (s : State) (x : Lki) : (s.setLki x).free = s.free := rfl
@[simp] theorem State.setLki_aq (s : State) (x : Lki) : (s.setLki x).aq = s.aq := rfl
@[simp] theorem State.setLki_tmc (s : State) (x : Lki) : (s.setLki x).tmc = s.tmc := rfl
@[simp] theorem State.setLki_lmc (s : State) (x : Lki) : (s.setLki x).lmc = s.lmc := rfl
@[simp] theorem State.setLki_thc (s : State) (x : Lki) : (s.setLki x).thc = s.thc := rfl
@[simp] theorem State.setLki_ttc (s : State) (x : Lki) : (s.setLki x).ttc = s.ttc := rfl
@[simp] theorem State.setLki_cud (s : State) (x : Lki) : (s.setLki x).cud = s.cud := rfl
@[simp] theorem State.setLki_ssq (s : State) (x : Lki) : (s.setLki x).ssq = s.ssq := rfl
@[simp] theorem State.setLki_rpd (s : State) (x : Lki) : (s.setLki x).rpd = s.rpd := rfl
@[simp] theorem State.setLki_lki (s : State) (x : Lki) : (s.setLki x).lki = x := rfl
@[simp] theorem State.setLki_cnt (s : State) (x : Lki) : (s.setLki x).cnt = s.cnt := rfl
@[simp] theorem State.setLki_sts (s : State) (x : Lki) : (s.setLki x).sts = s.sts := rfl
@[simp] theorem State.setLki_pending (s : State) (x : Lki) : (s.setLki x).pending = s.pending := rfl

@[simp] theorem State.setCnt_powered (s : State) (x : Cnt) : (s.setCnt x).powered = s.powered := rfl
@[simp] theorem State.setCnt_now (s : State) (x : Cnt) : (s.setCnt x).now = s.now := rfl
@[simp] theorem State.setCnt_free (s : State) (x : Cnt) : (s.setCnt x).free = s.free := rfl
@[simp] theorem State.setCnt_aq (s : State) (x : Cnt) : (s.setCnt x).aq = s.aq := rfl
@[simp] theorem State.setCnt_tmc (s : State) (x : Cnt) : (s.setCnt x).tmc = s.tmc := rfl
@[simp] theorem State.setCnt_lmc (s : State) (x : Cnt) : (s.setCnt x).lmc = s.lmc := rfl
@[simp] theorem State.setCnt_thc (s : State) (x : Cnt) : (s.setCnt x).thc = s.thc := rfl
@[simp] theorem State.setCnt_ttc (s : State) (x : Cnt) : (s.setCnt x).ttc = s.ttc := rfl
@[simp] theorem State.setCnt_cud (s : State) (x : Cnt) : (s.setCnt x).cud = s.cud := rfl
@[simp] theorem State.setCnt_ssq (s : State) (x : Cnt) : (s.setCnt x).ssq = s.ssq := rfl
@[simp] theorem State.setCnt_rpd (s : State) (x : Cnt) : (s.setCnt x).rpd = s.rpd := rfl
@[simp] theorem State.setCnt_lki (s : State) (x : Cnt) : (s.setCnt x).lki = s.lki := rfl
@[simp] theorem State.setCnt_cnt (s : State) (x : Cnt) : (s.setCnt x).cnt = x := rfl
@[simp] theorem State.setCnt_sts (s : State) (x : Cnt) : (s.setCnt x).sts = s.sts := rfl
@[simp] theorem State.setCnt_pending (s : State) (x : Cnt) : (s.setCnt x).pending = s.pending := rfl

@[simp] theorem State.setSts_powered (s : State) (x : Sts) : (s.setSts x).powered = s.powered := rfl
@[simp] theorem State.setSts_now (s : State) (x : Sts) : (s.setSts x).now = s.now := rfl
@[simp] theorem State.setSts_free (s : State) (x : Sts) : (s.setSts x).free = s.free := rfl
@[simp] theorem State.setSts_aq (s : State) (x : Sts) : (s.setSts x).aq = s.aq := rfl
@[simp] theorem State.setSts_tmc (s : State) (x : Sts) : (s.setSts x).tmc = s.tmc := rfl
@[simp] theorem State.setSts_lmc (s : State) (x : Sts) : (s.setSts x).lmc = s.lmc := rfl
@[simp] theorem State.setSts_thc (s : State) (x : Sts) : (s.setSts x).thc = s.thc := rfl
@[simp] theorem State.setSts_ttc (s : State) (x : Sts) : (s.setSts x).ttc = s.ttc := rfl
@[simp] theorem State.setSts_cud (s : State) (x : Sts) : (s.setSts x).cud = s.cud := rfl
@[simp] theorem State.setSts_ssq (s : State) (x : Sts) : (s.setSts x).ssq = s.ssq := rfl
@[simp] theorem State.setSts_rpd (s : State) (x : Sts) : (s.setSts x).rpd = s.rpd := rfl
@[simp] theorem State.setSts_lki (s : State) (x : Sts) : (s.setSts x).lki = s.lki := rfl
@[simp] theorem State.setSts_cnt (s : State) (x : Sts) : (s.setSts x).cnt = s.cnt := rfl
@[simp] theorem State.setSts_sts (s : State) (x : Sts) : (s.setSts x).sts = x := rfl
@[simp] theorem State.setSts_pending (s : State) (x : Sts) : (s.setSts x).pending = s.pending := rfl

@[simp] theorem State.setPending_powered (s : State) (x : List Instr) : (s.setPending x).powered = s.powered := rfl
@[simp] theorem State.setPending_now (s : State) (x : List Instr) : (s.setPending x).now = s.now := rfl
@[simp] theorem State.setPending_free (s : State) (x : List Instr) : (s.setPending x).free = s.free := rfl
@[simp] theorem State.setPending_aq (s : State) (x : List Instr) : (s.setPending x).aq = s.aq := rfl
@[simp] theorem State.setPending_tmc (s : State) (x : List Instr) : (s.setPending x).tmc = s.tmc := rfl
@[simp] theorem State.setPending_lmc (s : State) (x : List Instr) : (s.setPending x).lmc = s.lmc := rfl
@[simp] theorem State.setPending_thc (s : State) (x : List Instr) : (s.setPending x).thc = s.thc := rfl
@[simp] theorem State.setPending_ttc (s : State) (x : List Instr) : (s.setPending x).ttc = s.ttc := rfl
@[simp] theorem State.setPending_cud (s : State) (x : List Instr) : (s.setPending x).cud = s.cud := rfl
@[simp] theorem State.setPending_ssq (s : State) (x : List Instr) : (s.setPending x).ssq = s.ssq := rfl
@[simp] theorem State.setPending_rpd (s : State) (x : List Instr) : (s.setPending x).rpd = s.rpd := rfl
@[simp] theorem State.setPending_lki (s : State) (x : List Instr) : (s.setPending x).lki = s.lki := rfl
@[simp] theorem State.setPending_cnt (s : State) (x : List Instr) : (s.setPending x).cnt = s.cnt := rfl
@[simp] theorem State.setPending_sts (s : State) (x : List Instr) : (s.setPending x).sts = s.sts := rfl
@[simp] theorem State.setPending_pending (s : State) (x : List Instr) : (s.setPending x).pending = x := rfl

/-! ## A part replaced twice, or by itself -/

@[simp] theorem State.setPowered_twice (s : State) (x y : Bool) : (s.setPowered x).setPowered y = s.setPowered y := rfl
@[simp] theorem State.setNow_twice (s : State) (x y : Nat) : (s.setNow x).setNow y = s.setNow y := rfl
@[simp] theorem State.setFree_twice (s : State) (x y : Nat) : (s.setFree x).setFree y = s.setFree y := rfl
@[simp] theorem State.setAq_twice (s : State) (x y : Aq) : (s.setAq x).setAq y = s.setAq y := rfl
@[simp] theorem State.setTmc_twice (s : State) (x y : Tmc) : (s.setTmc x).setTmc y = s.setTmc y := rfl
@[simp] theorem State.setLmc_twice (s : State) (x y : Lmc) : (s.setLmc x).setLmc y = s.setLmc y := rfl
@[simp] theorem State.setThc_twice (s : State) (x y : Thc) : (s.setThc x).setThc y = s.setThc y := rfl
@[simp] theorem State.setTtc_twice (s : State) (x y : Ttc) : (s.setTtc x).setTtc y = s.setTtc y := rfl
@[simp] theorem State.setCud_twice (s : State) (x y : Cud) : (s.setCud x).setCud y = s.setCud y := rfl
@[simp] theorem State.setSsq_twice (s : State) (x y : Ssq) : (s.setSsq x).setSsq y = s.setSsq y := rfl
@[simp] theorem State.setRpd_twice (s : State) (x y : Rpd) : (s.setRpd x).setRpd y = s.setRpd y := rfl
@[simp] theorem State.setLki_twice (s : State) (x y : Lki) : (s.setLki x).setLki y = s.setLki y := rfl
@[simp] theorem State.setCnt_twice (s : State) (x y : Cnt) : (s.setCnt x).setCnt y = s.setCnt y := rfl
@[simp] theorem State.setSts_twice (s : State) (x y : Sts) : (s.setSts x).setSts y = s.setSts y := rfl
@[simp] theorem State.setPending_twice (s : State) (x y : List Instr) : (s.setPending x).setPending y = s.setPending y := rfl
@[simp] theorem State.setPowered_self (s : State) : s.setPowered s.powered = s := rfl
@[simp] theorem State.setNow_self (s : State) : s.setNow s.now = s := rfl
@[simp] theorem State.setFree_self (s : State) : s.setFree s.free = s := rfl
@[simp] theorem State.setAq_self (s : State) : s.setAq s.aq = s := rfl
@[simp] theorem State.setTmc_self (s : State) : s.setTmc s.tmc = s := rfl
@[simp] theorem State.setLmc_self (s : State) : s.setLmc s.lmc = s := rfl
@[simp] theorem State.setThc_self (s : State) : s.setThc s.thc = s := rfl
@[simp] theorem State.setTtc_self (s : State) : s.setTtc s.ttc = s := rfl
@[simp] theorem State.setCud_self (s : State) : s.setCud s.cud = s := rfl
@[simp] theorem State.setSsq_self (s : State) : s.setSsq s.ssq = s := rfl
@[simp] theorem State.setRpd_self (s : State) : s.setRpd s.rpd = s := rfl
@[simp] theorem State.setLki_self (s : State) : s.setLki s.lki = s := rfl
@[simp] theorem State.setCnt_self (s : State) : s.setCnt s.cnt = s := rfl
@[simp] theorem State.setSts_self (s : State) : s.setSts s.sts = s := rfl
@[simp] theorem State.setPending_self (s : State) : s.setPending s.pending = s := rfl

end Sys2Proof.Machine
end

