-- ==== Sys2Proof/Laws/OpsFrames.lean ====
section
/-!
SUPPORT. Frames of the shared operations of Machine/Flags.lean and Machine/Ops.lean.
Each lemma says of one operation which parts of the state it leaves as they are.
-/

set_option linter.all false

namespace Sys2Proof.Machine

@[simp] theorem join_fields (l : Lki) (n : Notice) :
    (l.join n).rx = l.rx ∧ (l.join n).resp = l.resp ∧ (l.join n).addr = l.addr ∧
      (l.join n).assignTaken = l.assignTaken ∧ (l.join n).resetting = l.resetting ∧ (l.join n).copies = l.copies ∧
      (l.join n).enables = l.enables := by
  unfold Lki.join; split <;> simp

@[simp] theorem setDuty_fields (t : Thc) (d : Nat) :
    (t.setDuty d).tm = t.tm ∧ (t.setDuty d).hq = t.hq ∧ (t.setDuty d).trip = t.trip ∧
      (t.setDuty d).lost = t.lost ∧ (t.setDuty d).loss30 = t.loss30 ∧ (t.setDuty d).fanFault = t.fanFault ∧
      (t.setDuty d).cooldown = t.cooldown ∧ (t.setDuty d).cEff = t.cEff ∧ (t.setDuty d).power = t.power ∧
      (t.setDuty d).par = t.par ∧ (t.setDuty d).tstate = t.tstate ∧ (t.setDuty d).cTarget = t.cTarget ∧
      (t.setDuty d).fTemp = t.fTemp := by
  unfold Thc.setDuty; simp

@[simp] theorem setFan_fields (t : Thc) (n d : Nat) :
    (t.setFan n d).tm = t.tm ∧ (t.setFan n d).hq = t.hq ∧ (t.setFan n d).trip = t.trip ∧
      (t.setFan n d).lost = t.lost ∧ (t.setFan n d).loss30 = t.loss30 ∧ (t.setFan n d).fanFault = t.fanFault ∧
      (t.setFan n d).cooldown = t.cooldown ∧ (t.setFan n d).cEff = t.cEff ∧ (t.setFan n d).power = t.power ∧
      (t.setFan n d).par = t.par ∧ (t.setFan n d).tstate = t.tstate ∧ (t.setFan n d).cTarget = t.cTarget ∧
      (t.setFan n d).fTemp = t.fTemp := by
  unfold Thc.setFan; (repeat' split) <;> simp

@[simp] theorem setLamp_fields (l : Lmc) (p : LampPos) (r : LampRec) :
    (l.setLamp p r).power = l.power ∧ (l.setLamp p r).active = l.active ∧ (l.setLamp p r).noLamp = l.noLamp ∧
      (l.setLamp p r).blanks = l.blanks ∧ (l.setLamp p r).outLevel = l.outLevel ∧
      (l.setLamp p r).outDrive = l.outDrive ∧ (l.setLamp p r).level = l.level ∧ (l.setLamp p r).par = l.par ∧
      (l.setLamp p r).motion = l.motion ∧ (l.setLamp p r).ramp = l.ramp ∧ (l.setLamp p r).poLamp = l.poLamp := by
  unfold Lmc.setLamp; cases p <;> simp

@[simp] theorem notice_frame (s : State) (k : NoticeKind) (clear : Bool) (subject : Option Nat) :
    (s.notice k clear subject).powered = s.powered ∧ (s.notice k clear subject).now = s.now ∧
      (s.notice k clear subject).free = s.free ∧ (s.notice k clear subject).aq = s.aq ∧
      (s.notice k clear subject).tmc = s.tmc ∧ (s.notice k clear subject).lmc = s.lmc ∧
      (s.notice k clear subject).thc = s.thc ∧ (s.notice k clear subject).ttc = s.ttc ∧
      (s.notice k clear subject).cud = s.cud ∧ (s.notice k clear subject).ssq = s.ssq ∧
      (s.notice k clear subject).rpd = s.rpd ∧ (s.notice k clear subject).cnt = s.cnt ∧
      (s.notice k clear subject).sts = s.sts ∧ (s.notice k clear subject).pending = s.pending ∧
      (s.notice k clear subject).lki.rx = s.lki.rx ∧ (s.notice k clear subject).lki.resp = s.lki.resp ∧
      (s.notice k clear subject).lki.addr = s.lki.addr ∧
      (s.notice k clear subject).lki.assignTaken = s.lki.assignTaken ∧
      (s.notice k clear subject).lki.resetting = s.lki.resetting ∧
      (s.notice k clear subject).lki.copies = s.lki.copies ∧
      (s.notice k clear subject).lki.enables = s.lki.enables := by
  unfold State.notice; (try unfold State.whenDue); (try dsimp only)
  (repeat' split) <;> first | (simp; done) | ((repeat' apply And.intro) <;> first | rfl | simp)

@[simp] theorem event_frame (s : State) (k : NoticeKind) (subject : Option Nat) :
    (s.event k subject).powered = s.powered ∧ (s.event k subject).now = s.now ∧ (s.event k subject).free = s.free ∧
      (s.event k subject).aq = s.aq ∧ (s.event k subject).tmc = s.tmc ∧ (s.event k subject).lmc = s.lmc ∧
      (s.event k subject).thc = s.thc ∧ (s.event k subject).ttc = s.ttc ∧ (s.event k subject).cud = s.cud ∧
      (s.event k subject).ssq = s.ssq ∧ (s.event k subject).rpd = s.rpd ∧ (s.event k subject).cnt = s.cnt ∧
      (s.event k subject).sts = s.sts ∧ (s.event k subject).pending = s.pending ∧
      (s.event k subject).lki.rx = s.lki.rx ∧ (s.event k subject).lki.resp = s.lki.resp ∧
      (s.event k subject).lki.addr = s.lki.addr ∧ (s.event k subject).lki.assignTaken = s.lki.assignTaken ∧
      (s.event k subject).lki.resetting = s.lki.resetting ∧ (s.event k subject).lki.copies = s.lki.copies ∧
      (s.event k subject).lki.enables = s.lki.enables := by
  unfold State.event; (try unfold State.whenDue); (try dsimp only)
  (repeat' split) <;> first | (simp; done) | ((repeat' apply And.intro) <;> first | rfl | simp)

@[simp] theorem condNotice_frame (s : State) (k : NoticeKind) (v : Bool) (subject : Option Nat) :
    (s.condNotice k v subject).powered = s.powered ∧ (s.condNotice k v subject).now = s.now ∧
      (s.condNotice k v subject).free = s.free ∧ (s.condNotice k v subject).aq = s.aq ∧
      (s.condNotice k v subject).tmc = s.tmc ∧ (s.condNotice k v subject).lmc = s.lmc ∧
      (s.condNotice k v subject).thc = s.thc ∧ (s.condNotice k v subject).ttc = s.ttc ∧
      (s.condNotice k v subject).cud = s.cud ∧ (s.condNotice k v subject).ssq = s.ssq ∧
      (s.condNotice k v subject).rpd = s.rpd ∧ (s.condNotice k v subject).cnt = s.cnt ∧
      (s.condNotice k v subject).sts = s.sts ∧ (s.condNotice k v subject).pending = s.pending ∧
      (s.condNotice k v subject).lki.rx = s.lki.rx ∧ (s.condNotice k v subject).lki.resp = s.lki.resp ∧
      (s.condNotice k v subject).lki.addr = s.lki.addr ∧
      (s.condNotice k v subject).lki.assignTaken = s.lki.assignTaken ∧
      (s.condNotice k v subject).lki.resetting = s.lki.resetting ∧
      (s.condNotice k v subject).lki.copies = s.lki.copies ∧
      (s.condNotice k v subject).lki.enables = s.lki.enables := by
  unfold State.condNotice; (try unfold State.whenDue); (try dsimp only)
  (repeat' split) <;> first | (simp; done) | ((repeat' apply And.intro) <;> first | rfl | simp)

@[simp] theorem foldNotices_frame (k : NoticeKind) (l : List (Option Nat)) (s : State) :
    (l.foldl (fun t x => t.condNotice k true x) s).powered = s.powered ∧
      (l.foldl (fun t x => t.condNotice k true x) s).now = s.now ∧
      (l.foldl (fun t x => t.condNotice k true x) s).free = s.free ∧
      (l.foldl (fun t x => t.condNotice k true x) s).aq = s.aq ∧
      (l.foldl (fun t x => t.condNotice k true x) s).tmc = s.tmc ∧
      (l.foldl (fun t x => t.condNotice k true x) s).lmc = s.lmc ∧
      (l.foldl (fun t x => t.condNotice k true x) s).thc = s.thc ∧
      (l.foldl (fun t x => t.condNotice k true x) s).ttc = s.ttc ∧
      (l.foldl (fun t x => t.condNotice k true x) s).cud = s.cud ∧
      (l.foldl (fun t x => t.condNotice k true x) s).ssq = s.ssq ∧
      (l.foldl (fun t x => t.condNotice k true x) s).rpd = s.rpd ∧
      (l.foldl (fun t x => t.condNotice k true x) s).cnt = s.cnt ∧
      (l.foldl (fun t x => t.condNotice k true x) s).sts = s.sts ∧
      (l.foldl (fun t x => t.condNotice k true x) s).pending = s.pending ∧
      (l.foldl (fun t x => t.condNotice k true x) s).lki.rx = s.lki.rx ∧
      (l.foldl (fun t x => t.condNotice k true x) s).lki.resp = s.lki.resp ∧
      (l.foldl (fun t x => t.condNotice k true x) s).lki.addr = s.lki.addr ∧
      (l.foldl (fun t x => t.condNotice k true x) s).lki.assignTaken = s.lki.assignTaken ∧
      (l.foldl (fun t x => t.condNotice k true x) s).lki.resetting = s.lki.resetting ∧
      (l.foldl (fun t x => t.condNotice k true x) s).lki.copies = s.lki.copies ∧
      (l.foldl (fun t x => t.condNotice k true x) s).lki.enables = s.lki.enables := by
  induction l generalizing s with
  | nil => simp
  | cons c l ih => simp [ih]

@[simp] theorem count_frame (s : State) (c : Ctr) :
    (s.count c).powered = s.powered ∧ (s.count c).now = s.now ∧ (s.count c).free = s.free ∧ (s.count c).aq = s.aq ∧
      (s.count c).tmc = s.tmc ∧ (s.count c).lmc = s.lmc ∧ (s.count c).thc = s.thc ∧ (s.count c).ttc = s.ttc ∧
      (s.count c).cud = s.cud ∧ (s.count c).ssq = s.ssq ∧ (s.count c).rpd = s.rpd ∧ (s.count c).lki = s.lki ∧
      (s.count c).sts = s.sts ∧ (s.count c).pending = s.pending ∧ (s.count c).cnt.snap = s.cnt.snap ∧
      (s.count c).cnt.number = s.cnt.number := by
  unfold State.count; (try unfold State.whenDue); (try dsimp only)
  (repeat' split) <;> first | (simp; done) | ((repeat' apply And.intro) <;> first | rfl | simp)

@[simp] theorem advance_frame (s : State) (dt : Nat) :
    (s.advance dt).powered = s.powered ∧ (s.advance dt).free = s.free ∧ (s.advance dt).aq = s.aq ∧
      (s.advance dt).tmc = s.tmc ∧ (s.advance dt).lmc = s.lmc ∧ (s.advance dt).thc = s.thc ∧
      (s.advance dt).ttc = s.ttc ∧ (s.advance dt).cud = s.cud ∧ (s.advance dt).ssq = s.ssq ∧
      (s.advance dt).rpd = s.rpd ∧ (s.advance dt).lki = s.lki ∧ (s.advance dt).cnt = s.cnt ∧
      (s.advance dt).sts = s.sts ∧ (s.advance dt).pending = s.pending := by
  unfold State.advance; (try unfold State.whenDue); (try dsimp only)
  (repeat' split) <;> first | (simp; done) | ((repeat' apply And.intro) <;> first | rfl | simp)

@[simp] theorem reach_frame (s : State) (due : Nat) :
    (s.reach due).powered = s.powered ∧ (s.reach due).free = s.free ∧ (s.reach due).aq = s.aq ∧
      (s.reach due).tmc = s.tmc ∧ (s.reach due).lmc = s.lmc ∧ (s.reach due).thc = s.thc ∧
      (s.reach due).ttc = s.ttc ∧ (s.reach due).cud = s.cud ∧ (s.reach due).ssq = s.ssq ∧
      (s.reach due).rpd = s.rpd ∧ (s.reach due).lki = s.lki ∧ (s.reach due).cnt = s.cnt ∧
      (s.reach due).sts = s.sts ∧ (s.reach due).pending = s.pending := by
  unfold State.reach; (try unfold State.whenDue); (try dsimp only)
  (repeat' split) <;> first | (simp; done) | ((repeat' apply And.intro) <;> first | rfl | simp)

@[simp] theorem beginSave_frame (s : State) (full : Bool) :
    (s.beginSave full).powered = s.powered ∧ (s.beginSave full).now = s.now ∧ (s.beginSave full).free = s.free ∧
      (s.beginSave full).aq = s.aq ∧ (s.beginSave full).tmc = s.tmc ∧ (s.beginSave full).lmc = s.lmc ∧
      (s.beginSave full).thc = s.thc ∧ (s.beginSave full).ttc = s.ttc ∧ (s.beginSave full).cud = s.cud ∧
      (s.beginSave full).ssq = s.ssq ∧ (s.beginSave full).rpd = s.rpd ∧ (s.beginSave full).lki = s.lki ∧
      (s.beginSave full).cnt = s.cnt ∧ (s.beginSave full).pending = s.pending ∧
      (s.beginSave full).sts.record = s.sts.record ∧ (s.beginSave full).sts.serial = s.sts.serial ∧
      (s.beginSave full).sts.storeLost = s.sts.storeLost := by
  unfold State.beginSave; (try unfold State.whenDue); (try dsimp only)
  (repeat' split) <;> first | (simp; done) | ((repeat' apply And.intro) <;> first | rfl | simp)

@[simp] theorem autoSave_frame (s : State) :
    s.autoSave.powered = s.powered ∧ s.autoSave.now = s.now ∧ s.autoSave.free = s.free ∧ s.autoSave.aq = s.aq ∧
      s.autoSave.tmc = s.tmc ∧ s.autoSave.lmc = s.lmc ∧ s.autoSave.thc = s.thc ∧ s.autoSave.ttc = s.ttc ∧
      s.autoSave.cud = s.cud ∧ s.autoSave.ssq = s.ssq ∧ s.autoSave.rpd = s.rpd ∧ s.autoSave.lki = s.lki ∧
      s.autoSave.cnt = s.cnt ∧ s.autoSave.pending = s.pending ∧ s.autoSave.sts.record = s.sts.record ∧
      s.autoSave.sts.serial = s.sts.serial ∧ s.autoSave.sts.storeLost = s.sts.storeLost := by
  unfold State.autoSave; (try unfold State.whenDue); (try dsimp only)
  (repeat' split) <;> first | (simp; done) | ((repeat' apply And.intro) <;> first | rfl | simp)

@[simp] theorem storeReport_frame (s : State) (old new : Power) :
    (s.storeReport old new).powered = s.powered ∧ (s.storeReport old new).now = s.now ∧
      (s.storeReport old new).free = s.free ∧ (s.storeReport old new).aq = s.aq ∧
      (s.storeReport old new).tmc = s.tmc ∧ (s.storeReport old new).lmc = s.lmc ∧
      (s.storeReport old new).thc = s.thc ∧ (s.storeReport old new).ttc = s.ttc ∧
      (s.storeReport old new).cud = s.cud ∧ (s.storeReport old new).ssq = s.ssq ∧
      (s.storeReport old new).rpd = s.rpd ∧ (s.storeReport old new).lki = s.lki ∧
      (s.storeReport old new).cnt = s.cnt ∧ (s.storeReport old new).pending = s.pending ∧
      (s.storeReport old new).sts.record = s.sts.record ∧ (s.storeReport old new).sts.serial = s.sts.serial ∧
      (s.storeReport old new).sts.storeLost = s.sts.storeLost := by
  unfold State.storeReport; (try unfold State.whenDue); (try dsimp only)
  (repeat' split) <;> first | (simp; done) | ((repeat' apply And.intro) <;> first | rfl | simp)

@[simp] theorem recomputeFan_frame (s : State) :
    s.recomputeFan.powered = s.powered ∧ s.recomputeFan.now = s.now ∧ s.recomputeFan.free = s.free ∧
      s.recomputeFan.aq = s.aq ∧ s.recomputeFan.tmc = s.tmc ∧ s.recomputeFan.lmc = s.lmc ∧
      s.recomputeFan.ttc = s.ttc ∧ s.recomputeFan.cud = s.cud ∧ s.recomputeFan.ssq = s.ssq ∧
      s.recomputeFan.rpd = s.rpd ∧ s.recomputeFan.lki = s.lki ∧ s.recomputeFan.cnt = s.cnt ∧
      s.recomputeFan.sts = s.sts ∧ s.recomputeFan.pending = s.pending ∧ s.recomputeFan.thc.trip = s.thc.trip ∧
      s.recomputeFan.thc.fanFault = s.thc.fanFault ∧ s.recomputeFan.thc.power = s.thc.power ∧
      s.recomputeFan.thc.lost = s.thc.lost ∧ s.recomputeFan.thc.loss30 = s.thc.loss30 ∧
      s.recomputeFan.thc.par = s.thc.par ∧ s.recomputeFan.thc.tm = s.thc.tm ∧ s.recomputeFan.thc.hq = s.thc.hq ∧
      s.recomputeFan.thc.cEff = s.thc.cEff := by
  unfold State.recomputeFan; (try unfold State.whenDue); (try dsimp only)
  (repeat' split) <;> first | (simp; done) | ((repeat' apply And.intro) <;> first | rfl | simp)

@[simp] theorem cooldownOn_frame (s : State) (trip : Bool) :
    (s.cooldownOn trip).powered = s.powered ∧ (s.cooldownOn trip).now = s.now ∧ (s.cooldownOn trip).free = s.free ∧
      (s.cooldownOn trip).aq = s.aq ∧ (s.cooldownOn trip).tmc = s.tmc ∧ (s.cooldownOn trip).lmc = s.lmc ∧
      (s.cooldownOn trip).ttc = s.ttc ∧ (s.cooldownOn trip).cud = s.cud ∧ (s.cooldownOn trip).ssq = s.ssq ∧
      (s.cooldownOn trip).rpd = s.rpd ∧ (s.cooldownOn trip).cnt = s.cnt ∧ (s.cooldownOn trip).sts = s.sts ∧
      (s.cooldownOn trip).pending = s.pending ∧ (s.cooldownOn trip).thc.trip = s.thc.trip ∧
      (s.cooldownOn trip).thc.fanFault = s.thc.fanFault ∧ (s.cooldownOn trip).thc.power = s.thc.power ∧
      (s.cooldownOn trip).thc.lost = s.thc.lost ∧ (s.cooldownOn trip).thc.loss30 = s.thc.loss30 ∧
      (s.cooldownOn trip).thc.par = s.thc.par ∧ (s.cooldownOn trip).thc.tm = s.thc.tm ∧
      (s.cooldownOn trip).thc.hq = s.thc.hq ∧ (s.cooldownOn trip).thc.cEff = s.thc.cEff ∧
      (s.cooldownOn trip).lki.rx = s.lki.rx ∧ (s.cooldownOn trip).lki.resp = s.lki.resp ∧
      (s.cooldownOn trip).lki.addr = s.lki.addr ∧ (s.cooldownOn trip).lki.assignTaken = s.lki.assignTaken ∧
      (s.cooldownOn trip).lki.resetting = s.lki.resetting ∧ (s.cooldownOn trip).lki.copies = s.lki.copies ∧
      (s.cooldownOn trip).lki.enables = s.lki.enables := by
  unfold State.cooldownOn; (try unfold State.whenDue); (try dsimp only)
  (repeat' split) <;> first | (simp; done) | ((repeat' apply And.intro) <;> first | rfl | simp)

@[simp] theorem cooldownOff_frame (s : State) :
    s.cooldownOff.powered = s.powered ∧ s.cooldownOff.now = s.now ∧ s.cooldownOff.free = s.free ∧
      s.cooldownOff.aq = s.aq ∧ s.cooldownOff.tmc = s.tmc ∧ s.cooldownOff.lmc = s.lmc ∧
      s.cooldownOff.ttc = s.ttc ∧ s.cooldownOff.cud = s.cud ∧ s.cooldownOff.ssq = s.ssq ∧
      s.cooldownOff.rpd = s.rpd ∧ s.cooldownOff.cnt = s.cnt ∧ s.cooldownOff.sts = s.sts ∧
      s.cooldownOff.pending = s.pending ∧ s.cooldownOff.thc.trip = s.thc.trip ∧
      s.cooldownOff.thc.fanFault = s.thc.fanFault ∧ s.cooldownOff.thc.power = s.thc.power ∧
      s.cooldownOff.thc.lost = s.thc.lost ∧ s.cooldownOff.thc.loss30 = s.thc.loss30 ∧
      s.cooldownOff.thc.par = s.thc.par ∧ s.cooldownOff.thc.tm = s.thc.tm ∧ s.cooldownOff.thc.hq = s.thc.hq ∧
      s.cooldownOff.thc.cEff = s.thc.cEff ∧ s.cooldownOff.lki.rx = s.lki.rx ∧
      s.cooldownOff.lki.resp = s.lki.resp ∧ s.cooldownOff.lki.addr = s.lki.addr ∧
      s.cooldownOff.lki.assignTaken = s.lki.assignTaken ∧ s.cooldownOff.lki.resetting = s.lki.resetting ∧
      s.cooldownOff.lki.copies = s.lki.copies ∧ s.cooldownOff.lki.enables = s.lki.enables := by
  unfold State.cooldownOff; (try unfold State.whenDue); (try dsimp only)
  (repeat' split) <;> first | (simp; done) | ((repeat' apply And.intro) <;> first | rfl | simp)

@[simp] theorem cooldownTest_frame (s : State) :
    s.cooldownTest.powered = s.powered ∧ s.cooldownTest.now = s.now ∧ s.cooldownTest.free = s.free ∧
      s.cooldownTest.aq = s.aq ∧ s.cooldownTest.tmc = s.tmc ∧ s.cooldownTest.lmc = s.lmc ∧
      s.cooldownTest.ttc = s.ttc ∧ s.cooldownTest.cud = s.cud ∧ s.cooldownTest.ssq = s.ssq ∧
      s.cooldownTest.rpd = s.rpd ∧ s.cooldownTest.cnt = s.cnt ∧ s.cooldownTest.sts = s.sts ∧
      s.cooldownTest.pending = s.pending ∧ s.cooldownTest.thc.trip = s.thc.trip ∧
      s.cooldownTest.thc.fanFault = s.thc.fanFault ∧ s.cooldownTest.thc.power = s.thc.power ∧
      s.cooldownTest.thc.lost = s.thc.lost ∧ s.cooldownTest.thc.loss30 = s.thc.loss30 ∧
      s.cooldownTest.thc.par = s.thc.par ∧ s.cooldownTest.thc.tm = s.thc.tm ∧ s.cooldownTest.thc.hq = s.thc.hq ∧
      s.cooldownTest.thc.cEff = s.thc.cEff ∧ s.cooldownTest.lki.rx = s.lki.rx ∧
      s.cooldownTest.lki.resp = s.lki.resp ∧ s.cooldownTest.lki.addr = s.lki.addr ∧
      s.cooldownTest.lki.assignTaken = s.lki.assignTaken ∧ s.cooldownTest.lki.resetting = s.lki.resetting ∧
      s.cooldownTest.lki.copies = s.lki.copies ∧ s.cooldownTest.lki.enables = s.lki.enables := by
  unfold State.cooldownTest; (try unfold State.whenDue); (try dsimp only)
  (repeat' split) <;> first | (simp; done) | ((repeat' apply And.intro) <;> first | rfl | simp)

@[simp] theorem coolReport_frame (s : State) (new : Power) (trip : Bool) :
    (s.coolReport new trip).powered = s.powered ∧ (s.coolReport new trip).now = s.now ∧
      (s.coolReport new trip).free = s.free ∧ (s.coolReport new trip).aq = s.aq ∧
      (s.coolReport new trip).tmc = s.tmc ∧ (s.coolReport new trip).lmc = s.lmc ∧
      (s.coolReport new trip).ttc = s.ttc ∧ (s.coolReport new trip).cud = s.cud ∧
      (s.coolReport new trip).ssq = s.ssq ∧ (s.coolReport new trip).rpd = s.rpd ∧
      (s.coolReport new trip).cnt = s.cnt ∧ (s.coolReport new trip).sts = s.sts ∧
      (s.coolReport new trip).pending = s.pending ∧ (s.coolReport new trip).thc.trip = s.thc.trip ∧
      (s.coolReport new trip).thc.fanFault = s.thc.fanFault ∧ (s.coolReport new trip).thc.power = s.thc.power ∧
      (s.coolReport new trip).thc.lost = s.thc.lost ∧ (s.coolReport new trip).thc.loss30 = s.thc.loss30 ∧
      (s.coolReport new trip).thc.par = s.thc.par ∧ (s.coolReport new trip).thc.tm = s.thc.tm ∧
      (s.coolReport new trip).thc.hq = s.thc.hq ∧ (s.coolReport new trip).thc.cEff = s.thc.cEff ∧
      (s.coolReport new trip).lki.rx = s.lki.rx ∧ (s.coolReport new trip).lki.resp = s.lki.resp ∧
      (s.coolReport new trip).lki.addr = s.lki.addr ∧
      (s.coolReport new trip).lki.assignTaken = s.lki.assignTaken ∧
      (s.coolReport new trip).lki.resetting = s.lki.resetting ∧
      (s.coolReport new trip).lki.copies = s.lki.copies ∧ (s.coolReport new trip).lki.enables = s.lki.enables := by
  unfold State.coolReport; (try unfold State.whenDue); (try dsimp only)
  (repeat' split) <;> first | (simp; done) | ((repeat' apply And.intro) <;> first | rfl | simp)

@[simp] theorem evalNoLamp_frame (s : State) :
    s.evalNoLamp.powered = s.powered ∧ s.evalNoLamp.now = s.now ∧ s.evalNoLamp.free = s.free ∧
      s.evalNoLamp.aq = s.aq ∧ s.evalNoLamp.tmc = s.tmc ∧ s.evalNoLamp.thc = s.thc ∧ s.evalNoLamp.ttc = s.ttc ∧
      s.evalNoLamp.cud = s.cud ∧ s.evalNoLamp.ssq = s.ssq ∧ s.evalNoLamp.rpd = s.rpd ∧ s.evalNoLamp.cnt = s.cnt ∧
      s.evalNoLamp.sts = s.sts ∧ s.evalNoLamp.pending = s.pending ∧ s.evalNoLamp.lmc.power = s.lmc.power ∧
      s.evalNoLamp.lmc.active = s.lmc.active ∧ s.evalNoLamp.lmc.blanks = s.lmc.blanks ∧
      s.evalNoLamp.lmc.outLevel = s.lmc.outLevel ∧ s.evalNoLamp.lmc.level = s.lmc.level ∧
      s.evalNoLamp.lmc.par = s.lmc.par ∧ s.evalNoLamp.lmc.outDrive = s.lmc.outDrive ∧
      s.evalNoLamp.lki.rx = s.lki.rx ∧ s.evalNoLamp.lki.resp = s.lki.resp ∧ s.evalNoLamp.lki.addr = s.lki.addr ∧
      s.evalNoLamp.lki.assignTaken = s.lki.assignTaken ∧ s.evalNoLamp.lki.resetting = s.lki.resetting ∧
      s.evalNoLamp.lki.copies = s.lki.copies ∧ s.evalNoLamp.lki.enables = s.lki.enables := by
  unfold State.evalNoLamp; (try unfold State.whenDue); (try dsimp only)
  (repeat' split) <;> first | (simp; done) | ((repeat' apply And.intro) <;> first | rfl | simp)

@[simp] theorem evalLife_frame (s : State) (p : LampPos) :
    (s.evalLife p).powered = s.powered ∧ (s.evalLife p).now = s.now ∧ (s.evalLife p).free = s.free ∧
      (s.evalLife p).aq = s.aq ∧ (s.evalLife p).tmc = s.tmc ∧ (s.evalLife p).thc = s.thc ∧
      (s.evalLife p).ttc = s.ttc ∧ (s.evalLife p).cud = s.cud ∧ (s.evalLife p).ssq = s.ssq ∧
      (s.evalLife p).rpd = s.rpd ∧ (s.evalLife p).cnt = s.cnt ∧ (s.evalLife p).sts = s.sts ∧
      (s.evalLife p).pending = s.pending ∧ (s.evalLife p).lmc.power = s.lmc.power ∧
      (s.evalLife p).lmc.active = s.lmc.active ∧ (s.evalLife p).lmc.blanks = s.lmc.blanks ∧
      (s.evalLife p).lmc.outLevel = s.lmc.outLevel ∧ (s.evalLife p).lmc.level = s.lmc.level ∧
      (s.evalLife p).lmc.par = s.lmc.par ∧ (s.evalLife p).lmc.outDrive = s.lmc.outDrive ∧
      (s.evalLife p).lki.rx = s.lki.rx ∧ (s.evalLife p).lki.resp = s.lki.resp ∧
      (s.evalLife p).lki.addr = s.lki.addr ∧ (s.evalLife p).lki.assignTaken = s.lki.assignTaken ∧
      (s.evalLife p).lki.resetting = s.lki.resetting ∧ (s.evalLife p).lki.copies = s.lki.copies ∧
      (s.evalLife p).lki.enables = s.lki.enables := by
  unfold State.evalLife; (try unfold State.whenDue); (try dsimp only)
  (repeat' split) <;> first | (simp; done) | ((repeat' apply And.intro) <;> first | rfl | simp)

@[simp] theorem setPower_frame (s : State) (p : Power) (trip : Bool) :
    (s.setPower p trip).powered = s.powered ∧ (s.setPower p trip).now = s.now ∧ (s.setPower p trip).free = s.free ∧
      (s.setPower p trip).aq = s.aq ∧ (s.setPower p trip).tmc = s.tmc ∧ (s.setPower p trip).ttc = s.ttc ∧
      (s.setPower p trip).cud = s.cud ∧ (s.setPower p trip).ssq = s.ssq ∧ (s.setPower p trip).rpd = s.rpd ∧
      (s.setPower p trip).cnt = s.cnt ∧ (s.setPower p trip).pending = s.pending ∧
      (s.setPower p trip).lmc.active = s.lmc.active ∧ (s.setPower p trip).lmc.blanks = s.lmc.blanks ∧
      (s.setPower p trip).lmc.outLevel = s.lmc.outLevel ∧ (s.setPower p trip).lmc.level = s.lmc.level ∧
      (s.setPower p trip).lmc.par = s.lmc.par ∧ (s.setPower p trip).thc.trip = s.thc.trip ∧
      (s.setPower p trip).thc.fanFault = s.thc.fanFault ∧ (s.setPower p trip).thc.power = s.thc.power ∧
      (s.setPower p trip).thc.lost = s.thc.lost ∧ (s.setPower p trip).thc.loss30 = s.thc.loss30 ∧
      (s.setPower p trip).thc.par = s.thc.par ∧ (s.setPower p trip).thc.tm = s.thc.tm ∧
      (s.setPower p trip).thc.hq = s.thc.hq ∧ (s.setPower p trip).thc.cEff = s.thc.cEff ∧
      (s.setPower p trip).lki.rx = s.lki.rx ∧ (s.setPower p trip).lki.resp = s.lki.resp ∧
      (s.setPower p trip).lki.addr = s.lki.addr ∧ (s.setPower p trip).lki.assignTaken = s.lki.assignTaken ∧
      (s.setPower p trip).lki.resetting = s.lki.resetting ∧ (s.setPower p trip).lki.copies = s.lki.copies ∧
      (s.setPower p trip).lki.enables = s.lki.enables ∧ (s.setPower p trip).sts.record = s.sts.record ∧
      (s.setPower p trip).sts.serial = s.sts.serial ∧ (s.setPower p trip).sts.storeLost = s.sts.storeLost := by
  unfold State.setPower; (try unfold State.whenDue); (try dsimp only)
  (repeat' split) <;> first | (simp; done) | ((repeat' apply And.intro) <;> first | rfl | simp)

@[simp] theorem lampOff_frame (s : State) (trip : Bool) :
    (s.lampOff trip).powered = s.powered ∧ (s.lampOff trip).now = s.now ∧ (s.lampOff trip).free = s.free ∧
      (s.lampOff trip).aq = s.aq ∧ (s.lampOff trip).tmc = s.tmc ∧ (s.lampOff trip).ttc = s.ttc ∧
      (s.lampOff trip).cud = s.cud ∧ (s.lampOff trip).ssq = s.ssq ∧ (s.lampOff trip).rpd = s.rpd ∧
      (s.lampOff trip).cnt = s.cnt ∧ (s.lampOff trip).pending = s.pending ∧
      (s.lampOff trip).lmc.active = s.lmc.active ∧ (s.lampOff trip).lmc.blanks = s.lmc.blanks ∧
      (s.lampOff trip).lmc.outLevel = s.lmc.outLevel ∧ (s.lampOff trip).lmc.level = s.lmc.level ∧
      (s.lampOff trip).lmc.par = s.lmc.par ∧ (s.lampOff trip).thc.trip = s.thc.trip ∧
      (s.lampOff trip).thc.fanFault = s.thc.fanFault ∧ (s.lampOff trip).thc.power = s.thc.power ∧
      (s.lampOff trip).thc.lost = s.thc.lost ∧ (s.lampOff trip).thc.loss30 = s.thc.loss30 ∧
      (s.lampOff trip).thc.par = s.thc.par ∧ (s.lampOff trip).thc.tm = s.thc.tm ∧
      (s.lampOff trip).thc.hq = s.thc.hq ∧ (s.lampOff trip).thc.cEff = s.thc.cEff ∧
      (s.lampOff trip).lki.rx = s.lki.rx ∧ (s.lampOff trip).lki.resp = s.lki.resp ∧
      (s.lampOff trip).lki.addr = s.lki.addr ∧ (s.lampOff trip).lki.assignTaken = s.lki.assignTaken ∧
      (s.lampOff trip).lki.resetting = s.lki.resetting ∧ (s.lampOff trip).lki.copies = s.lki.copies ∧
      (s.lampOff trip).lki.enables = s.lki.enables ∧ (s.lampOff trip).sts.record = s.sts.record ∧
      (s.lampOff trip).sts.serial = s.sts.serial ∧ (s.lampOff trip).sts.storeLost = s.sts.storeLost := by
  unfold State.lampOff; (try unfold State.whenDue); (try dsimp only)
  (repeat' split) <;> first | (simp; done) | ((repeat' apply And.intro) <;> first | rfl | simp)

@[simp] theorem enterIgniting_frame (s : State) :
    s.enterIgniting.powered = s.powered ∧ s.enterIgniting.now = s.now ∧ s.enterIgniting.free = s.free ∧
      s.enterIgniting.aq = s.aq ∧ s.enterIgniting.tmc = s.tmc ∧ s.enterIgniting.ttc = s.ttc ∧
      s.enterIgniting.cud = s.cud ∧ s.enterIgniting.ssq = s.ssq ∧ s.enterIgniting.rpd = s.rpd ∧
      s.enterIgniting.pending = s.pending ∧ s.enterIgniting.lmc.active = s.lmc.active ∧
      s.enterIgniting.lmc.blanks = s.lmc.blanks ∧ s.enterIgniting.lmc.outLevel = s.lmc.outLevel ∧
      s.enterIgniting.lmc.level = s.lmc.level ∧ s.enterIgniting.lmc.par = s.lmc.par ∧
      s.enterIgniting.thc.trip = s.thc.trip ∧ s.enterIgniting.thc.fanFault = s.thc.fanFault ∧
      s.enterIgniting.thc.power = s.thc.power ∧ s.enterIgniting.thc.lost = s.thc.lost ∧
      s.enterIgniting.thc.loss30 = s.thc.loss30 ∧ s.enterIgniting.thc.par = s.thc.par ∧
      s.enterIgniting.thc.tm = s.thc.tm ∧ s.enterIgniting.thc.hq = s.thc.hq ∧
      s.enterIgniting.thc.cEff = s.thc.cEff ∧ s.enterIgniting.lki.rx = s.lki.rx ∧
      s.enterIgniting.lki.resp = s.lki.resp ∧ s.enterIgniting.lki.addr = s.lki.addr ∧
      s.enterIgniting.lki.assignTaken = s.lki.assignTaken ∧ s.enterIgniting.lki.resetting = s.lki.resetting ∧
      s.enterIgniting.lki.copies = s.lki.copies ∧ s.enterIgniting.lki.enables = s.lki.enables ∧
      s.enterIgniting.cnt.snap = s.cnt.snap ∧ s.enterIgniting.cnt.number = s.cnt.number ∧
      s.enterIgniting.sts.record = s.sts.record ∧ s.enterIgniting.sts.serial = s.sts.serial ∧
      s.enterIgniting.sts.storeLost = s.sts.storeLost := by
  unfold State.enterIgniting; (try unfold State.whenDue); (try dsimp only)
  (repeat' split) <;> first | (simp; done) | ((repeat' apply And.intro) <;> first | rfl | simp)

@[simp] theorem beginMotion_frame (s : State) :
    s.beginMotion.powered = s.powered ∧ s.beginMotion.now = s.now ∧ s.beginMotion.free = s.free ∧
      s.beginMotion.aq = s.aq ∧ s.beginMotion.tmc = s.tmc ∧ s.beginMotion.thc = s.thc ∧
      s.beginMotion.ttc = s.ttc ∧ s.beginMotion.cud = s.cud ∧ s.beginMotion.ssq = s.ssq ∧
      s.beginMotion.rpd = s.rpd ∧ s.beginMotion.lki = s.lki ∧ s.beginMotion.cnt = s.cnt ∧
      s.beginMotion.sts = s.sts ∧ s.beginMotion.pending = s.pending ∧ s.beginMotion.lmc.power = s.lmc.power ∧
      s.beginMotion.lmc.active = s.lmc.active ∧ s.beginMotion.lmc.blanks.mech = s.lmc.blanks.mech ∧
      s.beginMotion.lmc.outLevel = s.lmc.outLevel ∧ s.beginMotion.lmc.level = s.lmc.level ∧
      s.beginMotion.lmc.par = s.lmc.par ∧ s.beginMotion.lmc.outDrive = s.lmc.outDrive := by
  unfold State.beginMotion; (try unfold State.whenDue); (try dsimp only)
  (repeat' split) <;> first | (simp; done) | ((repeat' apply And.intro) <;> first | rfl | simp)

@[simp] theorem ignite_frame (s : State) :
    s.ignite.powered = s.powered ∧ s.ignite.now = s.now ∧ s.ignite.free = s.free ∧ s.ignite.aq = s.aq ∧
      s.ignite.tmc = s.tmc ∧ s.ignite.ttc = s.ttc ∧ s.ignite.cud = s.cud ∧ s.ignite.ssq = s.ssq ∧
      s.ignite.rpd = s.rpd ∧ s.ignite.pending = s.pending ∧ s.ignite.lmc.active = s.lmc.active ∧
      s.ignite.lmc.blanks.mech = s.lmc.blanks.mech ∧ s.ignite.lmc.outLevel = s.lmc.outLevel ∧
      s.ignite.lmc.level = s.lmc.level ∧ s.ignite.lmc.par = s.lmc.par ∧ s.ignite.thc.trip = s.thc.trip ∧
      s.ignite.thc.fanFault = s.thc.fanFault ∧ s.ignite.thc.power = s.thc.power ∧ s.ignite.thc.lost = s.thc.lost ∧
      s.ignite.thc.loss30 = s.thc.loss30 ∧ s.ignite.thc.par = s.thc.par ∧ s.ignite.thc.tm = s.thc.tm ∧
      s.ignite.thc.hq = s.thc.hq ∧ s.ignite.thc.cEff = s.thc.cEff ∧ s.ignite.lki.rx = s.lki.rx ∧
      s.ignite.lki.resp = s.lki.resp ∧ s.ignite.lki.addr = s.lki.addr ∧
      s.ignite.lki.assignTaken = s.lki.assignTaken ∧ s.ignite.lki.resetting = s.lki.resetting ∧
      s.ignite.lki.copies = s.lki.copies ∧ s.ignite.lki.enables = s.lki.enables ∧ s.ignite.cnt.snap = s.cnt.snap ∧
      s.ignite.cnt.number = s.cnt.number ∧ s.ignite.sts.record = s.sts.record ∧
      s.ignite.sts.serial = s.sts.serial ∧ s.ignite.sts.storeLost = s.sts.storeLost := by
  unfold State.ignite; (try unfold State.whenDue); (try dsimp only)
  (repeat' split) <;> first | (simp; done) | ((repeat' apply And.intro) <;> first | rfl | simp)

@[simp] theorem lampFail_frame (s : State) :
    s.lampFail.powered = s.powered ∧ s.lampFail.now = s.now ∧ s.lampFail.free = s.free ∧ s.lampFail.aq = s.aq ∧
      s.lampFail.tmc = s.tmc ∧ s.lampFail.ttc = s.ttc ∧ s.lampFail.cud = s.cud ∧ s.lampFail.ssq = s.ssq ∧
      s.lampFail.rpd = s.rpd ∧ s.lampFail.pending = s.pending ∧ s.lampFail.lmc.active = s.lmc.active ∧
      s.lampFail.lmc.blanks.mech = s.lmc.blanks.mech ∧ s.lampFail.lmc.outLevel = s.lmc.outLevel ∧
      s.lampFail.lmc.level = s.lmc.level ∧ s.lampFail.lmc.par = s.lmc.par ∧ s.lampFail.thc.trip = s.thc.trip ∧
      s.lampFail.thc.fanFault = s.thc.fanFault ∧ s.lampFail.thc.power = s.thc.power ∧
      s.lampFail.thc.lost = s.thc.lost ∧ s.lampFail.thc.loss30 = s.thc.loss30 ∧ s.lampFail.thc.par = s.thc.par ∧
      s.lampFail.thc.tm = s.thc.tm ∧ s.lampFail.thc.hq = s.thc.hq ∧ s.lampFail.thc.cEff = s.thc.cEff ∧
      s.lampFail.lki.rx = s.lki.rx ∧ s.lampFail.lki.resp = s.lki.resp ∧ s.lampFail.lki.addr = s.lki.addr ∧
      s.lampFail.lki.assignTaken = s.lki.assignTaken ∧ s.lampFail.lki.resetting = s.lki.resetting ∧
      s.lampFail.lki.copies = s.lki.copies ∧ s.lampFail.lki.enables = s.lki.enables ∧
      s.lampFail.cnt.snap = s.cnt.snap ∧ s.lampFail.cnt.number = s.cnt.number ∧
      s.lampFail.sts.record = s.sts.record ∧ s.lampFail.sts.serial = s.sts.serial ∧
      s.lampFail.sts.storeLost = s.sts.storeLost := by
  unfold State.lampFail; (try unfold State.whenDue); (try dsimp only)
  (repeat' split) <;> first | (simp; done) | ((repeat' apply And.intro) <;> first | rfl | simp)

@[simp] theorem startRamp_frame (s : State) (target time : Nat) (curve : Curve) :
    (s.startRamp target time curve).powered = s.powered ∧ (s.startRamp target time curve).now = s.now ∧
      (s.startRamp target time curve).free = s.free ∧ (s.startRamp target time curve).aq = s.aq ∧
      (s.startRamp target time curve).tmc = s.tmc ∧ (s.startRamp target time curve).thc = s.thc ∧
      (s.startRamp target time curve).ttc = s.ttc ∧ (s.startRamp target time curve).cud = s.cud ∧
      (s.startRamp target time curve).ssq = s.ssq ∧ (s.startRamp target time curve).rpd = s.rpd ∧
      (s.startRamp target time curve).lki = s.lki ∧ (s.startRamp target time curve).cnt = s.cnt ∧
      (s.startRamp target time curve).sts = s.sts ∧ (s.startRamp target time curve).pending = s.pending ∧
      (s.startRamp target time curve).lmc.power = s.lmc.power ∧
      (s.startRamp target time curve).lmc.active = s.lmc.active ∧
      (s.startRamp target time curve).lmc.blanks = s.lmc.blanks ∧
      (s.startRamp target time curve).lmc.outLevel = s.lmc.outLevel ∧
      (s.startRamp target time curve).lmc.level = s.lmc.level ∧
      (s.startRamp target time curve).lmc.par = s.lmc.par ∧
      (s.startRamp target time curve).lmc.outDrive = s.lmc.outDrive := by
  unfold State.startRamp; (try unfold State.whenDue); (try dsimp only)
  (repeat' split) <;> first | (simp; done) | ((repeat' apply And.intro) <;> first | rfl | simp)

@[simp] theorem setManual_frame (s : State) (v : Bool) :
    (s.setManual v).powered = s.powered ∧ (s.setManual v).now = s.now ∧ (s.setManual v).free = s.free ∧
      (s.setManual v).aq = s.aq ∧ (s.setManual v).tmc = s.tmc ∧ (s.setManual v).thc = s.thc ∧
      (s.setManual v).ttc = s.ttc ∧ (s.setManual v).cud = s.cud ∧ (s.setManual v).ssq = s.ssq ∧
      (s.setManual v).rpd = s.rpd ∧ (s.setManual v).lki = s.lki ∧ (s.setManual v).cnt = s.cnt ∧
      (s.setManual v).sts = s.sts ∧ (s.setManual v).pending = s.pending ∧
      (s.setManual v).lmc.power = s.lmc.power ∧ (s.setManual v).lmc.active = s.lmc.active ∧
      (s.setManual v).lmc.blanks.mech = s.lmc.blanks.mech ∧ (s.setManual v).lmc.outLevel = s.lmc.outLevel ∧
      (s.setManual v).lmc.level = s.lmc.level ∧ (s.setManual v).lmc.par = s.lmc.par ∧
      (s.setManual v).lmc.outDrive = s.lmc.outDrive := by
  unfold State.setManual; (try unfold State.whenDue); (try dsimp only)
  (repeat' split) <;> first | (simp; done) | ((repeat' apply And.intro) <;> first | rfl | simp)

@[simp] theorem setVolume_frame (s : State) (v : Nat) :
    (s.setVolume v).powered = s.powered ∧ (s.setVolume v).now = s.now ∧ (s.setVolume v).free = s.free ∧
      (s.setVolume v).aq = s.aq ∧ (s.setVolume v).tmc = s.tmc ∧ (s.setVolume v).lmc = s.lmc ∧
      (s.setVolume v).thc = s.thc ∧ (s.setVolume v).cud = s.cud ∧ (s.setVolume v).ssq = s.ssq ∧
      (s.setVolume v).rpd = s.rpd ∧ (s.setVolume v).lki = s.lki ∧ (s.setVolume v).cnt = s.cnt ∧
      (s.setVolume v).sts = s.sts ∧ (s.setVolume v).pending = s.pending ∧ (s.setVolume v).ttc.st = s.ttc.st ∧
      (s.setVolume v).ttc.curVol = s.ttc.curVol ∧ (s.setVolume v).ttc.servo = s.ttc.servo := by
  unfold State.setVolume; (try unfold State.whenDue); (try dsimp only)
  (repeat' split) <;> first | (simp; done) | ((repeat' apply And.intro) <;> first | rfl | simp)

@[simp] theorem setTransport_frame (s : State) (t : Transport) :
    (s.setTransport t).powered = s.powered ∧ (s.setTransport t).now = s.now ∧ (s.setTransport t).free = s.free ∧
      (s.setTransport t).aq = s.aq ∧ (s.setTransport t).tmc = s.tmc ∧ (s.setTransport t).lmc = s.lmc ∧
      (s.setTransport t).thc = s.thc ∧ (s.setTransport t).cud = s.cud ∧ (s.setTransport t).ssq = s.ssq ∧
      (s.setTransport t).rpd = s.rpd ∧ (s.setTransport t).lki = s.lki ∧ (s.setTransport t).cnt = s.cnt ∧
      (s.setTransport t).sts = s.sts ∧ (s.setTransport t).pending = s.pending ∧
      (s.setTransport t).ttc.curVol = s.ttc.curVol ∧ (s.setTransport t).ttc.servo = s.ttc.servo := by
  unfold State.setTransport; (try unfold State.whenDue); (try dsimp only)
  (repeat' split) <;> first | (simp; done) | ((repeat' apply And.intro) <;> first | rfl | simp)

@[simp] theorem tape_frame (s : State) (op : TapeOp) :
    (s.tape op).powered = s.powered ∧ (s.tape op).now = s.now ∧ (s.tape op).free = s.free ∧ (s.tape op).aq = s.aq ∧
      (s.tape op).tmc = s.tmc ∧ (s.tape op).lmc = s.lmc ∧ (s.tape op).thc = s.thc ∧ (s.tape op).cud = s.cud ∧
      (s.tape op).ssq = s.ssq ∧ (s.tape op).rpd = s.rpd ∧ (s.tape op).lki = s.lki ∧ (s.tape op).cnt = s.cnt ∧
      (s.tape op).sts = s.sts ∧ (s.tape op).pending = s.pending ∧ (s.tape op).ttc.curVol = s.ttc.curVol ∧
      (s.tape op).ttc.servo = s.ttc.servo := by
  unfold State.tape; (try unfold State.whenDue); (try dsimp only)
  (repeat' split) <;> first | (simp; done) | ((repeat' apply And.intro) <;> first | rfl | simp)

@[simp] theorem seqPause_frame (s : State) :
    s.seqPause.powered = s.powered ∧ s.seqPause.now = s.now ∧ s.seqPause.free = s.free ∧ s.seqPause.aq = s.aq ∧
      s.seqPause.tmc = s.tmc ∧ s.seqPause.lmc = s.lmc ∧ s.seqPause.thc = s.thc ∧ s.seqPause.cud = s.cud ∧
      s.seqPause.ssq = s.ssq ∧ s.seqPause.rpd = s.rpd ∧ s.seqPause.lki = s.lki ∧ s.seqPause.cnt = s.cnt ∧
      s.seqPause.sts = s.sts ∧ s.seqPause.pending = s.pending ∧ s.seqPause.ttc.curVol = s.ttc.curVol ∧
      s.seqPause.ttc.servo = s.ttc.servo := by
  unfold State.seqPause; (try unfold State.whenDue); (try dsimp only)
  (repeat' split) <;> first | (simp; done) | ((repeat' apply And.intro) <;> first | rfl | simp)

@[simp] theorem seqResume_frame (s : State) :
    s.seqResume.powered = s.powered ∧ s.seqResume.now = s.now ∧ s.seqResume.free = s.free ∧ s.seqResume.aq = s.aq ∧
      s.seqResume.tmc = s.tmc ∧ s.seqResume.lmc = s.lmc ∧ s.seqResume.thc = s.thc ∧ s.seqResume.cud = s.cud ∧
      s.seqResume.ssq = s.ssq ∧ s.seqResume.rpd = s.rpd ∧ s.seqResume.lki = s.lki ∧ s.seqResume.cnt = s.cnt ∧
      s.seqResume.sts = s.sts ∧ s.seqResume.pending = s.pending ∧ s.seqResume.ttc.curVol = s.ttc.curVol ∧
      s.seqResume.ttc.servo = s.ttc.servo := by
  unfold State.seqResume; (try unfold State.whenDue); (try dsimp only)
  (repeat' split) <;> first | (simp; done) | ((repeat' apply And.intro) <;> first | rfl | simp)

@[simp] theorem setMech_frame (s : State) (st : MechState) :
    (s.setMech st).powered = s.powered ∧ (s.setMech st).now = s.now ∧ (s.setMech st).free = s.free ∧
      (s.setMech st).aq = s.aq ∧ (s.setMech st).thc = s.thc ∧ (s.setMech st).ttc = s.ttc ∧
      (s.setMech st).cud = s.cud ∧ (s.setMech st).ssq = s.ssq ∧ (s.setMech st).rpd = s.rpd ∧
      (s.setMech st).lki = s.lki ∧ (s.setMech st).cnt = s.cnt ∧ (s.setMech st).sts = s.sts ∧
      (s.setMech st).pending = s.pending ∧ (s.setMech st).tmc.phase = s.tmc.phase ∧
      (s.setMech st).tmc.timer = s.tmc.timer ∧ (s.setMech st).tmc.lifter = s.tmc.lifter ∧
      (s.setMech st).tmc.trayDrive = s.tmc.trayDrive ∧ (s.setMech st).tmc.qualDue = s.tmc.qualDue ∧
      (s.setMech st).tmc.trayPresent = s.tmc.trayPresent ∧ (s.setMech st).tmc.slots = s.tmc.slots ∧
      (s.setMech st).tmc.size = s.tmc.size ∧ (s.setMech st).tmc.pos = s.tmc.pos ∧
      (s.setMech st).tmc.gate = s.tmc.gate ∧ (s.setMech st).tmc.jam = s.tmc.jam ∧
      (s.setMech st).tmc.comparePos = s.tmc.comparePos ∧ (s.setMech st).tmc.par = s.tmc.par ∧
      (s.setMech st).lmc.power = s.lmc.power ∧ (s.setMech st).lmc.active = s.lmc.active ∧
      (s.setMech st).lmc.outLevel = s.lmc.outLevel ∧ (s.setMech st).lmc.level = s.lmc.level ∧
      (s.setMech st).lmc.par = s.lmc.par ∧ (s.setMech st).lmc.outDrive = s.lmc.outDrive := by
  unfold State.setMech; (try unfold State.whenDue); (try dsimp only)
  (repeat' split) <;> first | (simp; done) | ((repeat' apply And.intro) <;> first | rfl | simp)

@[simp] theorem beginCycle_frame (s : State) (st : MechState) :
    (s.beginCycle st).powered = s.powered ∧ (s.beginCycle st).now = s.now ∧ (s.beginCycle st).free = s.free ∧
      (s.beginCycle st).aq = s.aq ∧ (s.beginCycle st).thc = s.thc ∧ (s.beginCycle st).ttc = s.ttc ∧
      (s.beginCycle st).cud = s.cud ∧ (s.beginCycle st).ssq = s.ssq ∧ (s.beginCycle st).rpd = s.rpd ∧
      (s.beginCycle st).lki = s.lki ∧ (s.beginCycle st).cnt = s.cnt ∧ (s.beginCycle st).sts = s.sts ∧
      (s.beginCycle st).pending = s.pending ∧ (s.beginCycle st).tmc.lifter = s.tmc.lifter ∧
      (s.beginCycle st).tmc.trayDrive = s.tmc.trayDrive ∧ (s.beginCycle st).tmc.qualDue = s.tmc.qualDue ∧
      (s.beginCycle st).tmc.trayPresent = s.tmc.trayPresent ∧ (s.beginCycle st).tmc.slots = s.tmc.slots ∧
      (s.beginCycle st).tmc.size = s.tmc.size ∧ (s.beginCycle st).tmc.pos = s.tmc.pos ∧
      (s.beginCycle st).tmc.gate = s.tmc.gate ∧ (s.beginCycle st).tmc.jam = s.tmc.jam ∧
      (s.beginCycle st).tmc.comparePos = s.tmc.comparePos ∧ (s.beginCycle st).tmc.par = s.tmc.par ∧
      (s.beginCycle st).lmc.power = s.lmc.power ∧ (s.beginCycle st).lmc.active = s.lmc.active ∧
      (s.beginCycle st).lmc.outLevel = s.lmc.outLevel ∧ (s.beginCycle st).lmc.level = s.lmc.level ∧
      (s.beginCycle st).lmc.par = s.lmc.par ∧ (s.beginCycle st).lmc.outDrive = s.lmc.outDrive := by
  unfold State.beginCycle; (try unfold State.whenDue); (try dsimp only)
  (repeat' split) <;> first | (simp; done) | ((repeat' apply And.intro) <;> first | rfl | simp)

@[simp] theorem startHoming_frame (s : State) :
    s.startHoming.powered = s.powered ∧ s.startHoming.now = s.now ∧ s.startHoming.free = s.free ∧
      s.startHoming.aq = s.aq ∧ s.startHoming.thc = s.thc ∧ s.startHoming.ttc = s.ttc ∧
      s.startHoming.cud = s.cud ∧ s.startHoming.ssq = s.ssq ∧ s.startHoming.rpd = s.rpd ∧
      s.startHoming.lki = s.lki ∧ s.startHoming.cnt = s.cnt ∧ s.startHoming.sts = s.sts ∧
      s.startHoming.pending = s.pending ∧ s.startHoming.tmc.lifter = s.tmc.lifter ∧
      s.startHoming.tmc.trayDrive = s.tmc.trayDrive ∧ s.startHoming.tmc.qualDue = s.tmc.qualDue ∧
      s.startHoming.tmc.trayPresent = s.tmc.trayPresent ∧ s.startHoming.tmc.slots = s.tmc.slots ∧
      s.startHoming.tmc.size = s.tmc.size ∧ s.startHoming.tmc.pos = s.tmc.pos ∧
      s.startHoming.tmc.gate = s.tmc.gate ∧ s.startHoming.tmc.jam = s.tmc.jam ∧
      s.startHoming.tmc.comparePos = s.tmc.comparePos ∧ s.startHoming.tmc.par = s.tmc.par ∧
      s.startHoming.lmc.power = s.lmc.power ∧ s.startHoming.lmc.active = s.lmc.active ∧
      s.startHoming.lmc.outLevel = s.lmc.outLevel ∧ s.startHoming.lmc.level = s.lmc.level ∧
      s.startHoming.lmc.par = s.lmc.par ∧ s.startHoming.lmc.outDrive = s.lmc.outDrive := by
  unfold State.startHoming; (try unfold State.whenDue); (try dsimp only)
  (repeat' split) <;> first | (simp; done) | ((repeat' apply And.intro) <;> first | rfl | simp)

@[simp] theorem startChange_frame (s : State) (d : Dir) :
    (s.startChange d).powered = s.powered ∧ (s.startChange d).now = s.now ∧ (s.startChange d).free = s.free ∧
      (s.startChange d).aq = s.aq ∧ (s.startChange d).thc = s.thc ∧ (s.startChange d).ttc = s.ttc ∧
      (s.startChange d).cud = s.cud ∧ (s.startChange d).ssq = s.ssq ∧ (s.startChange d).rpd = s.rpd ∧
      (s.startChange d).lki = s.lki ∧ (s.startChange d).sts = s.sts ∧ (s.startChange d).pending = s.pending ∧
      (s.startChange d).tmc.lifter = s.tmc.lifter ∧ (s.startChange d).tmc.trayDrive = s.tmc.trayDrive ∧
      (s.startChange d).tmc.qualDue = s.tmc.qualDue ∧ (s.startChange d).tmc.trayPresent = s.tmc.trayPresent ∧
      (s.startChange d).tmc.slots = s.tmc.slots ∧ (s.startChange d).tmc.size = s.tmc.size ∧
      (s.startChange d).tmc.pos = s.tmc.pos ∧ (s.startChange d).tmc.gate = s.tmc.gate ∧
      (s.startChange d).tmc.jam = s.tmc.jam ∧ (s.startChange d).tmc.comparePos = s.tmc.comparePos ∧
      (s.startChange d).tmc.par = s.tmc.par ∧ (s.startChange d).lmc.power = s.lmc.power ∧
      (s.startChange d).lmc.active = s.lmc.active ∧ (s.startChange d).lmc.outLevel = s.lmc.outLevel ∧
      (s.startChange d).lmc.level = s.lmc.level ∧ (s.startChange d).lmc.par = s.lmc.par ∧
      (s.startChange d).lmc.outDrive = s.lmc.outDrive ∧ (s.startChange d).cnt.snap = s.cnt.snap ∧
      (s.startChange d).cnt.number = s.cnt.number := by
  unfold State.startChange; (try unfold State.whenDue); (try dsimp only)
  (repeat' split) <;> first | (simp; done) | ((repeat' apply And.intro) <;> first | rfl | simp)

@[simp] theorem startSeek_frame (s : State) (target : Nat) :
    (s.startSeek target).powered = s.powered ∧ (s.startSeek target).now = s.now ∧ (s.startSeek target).free = s.free ∧
      (s.startSeek target).aq = s.aq ∧ (s.startSeek target).thc = s.thc ∧ (s.startSeek target).ttc = s.ttc ∧
      (s.startSeek target).cud = s.cud ∧ (s.startSeek target).ssq = s.ssq ∧ (s.startSeek target).rpd = s.rpd ∧
      (s.startSeek target).lki = s.lki ∧ (s.startSeek target).sts = s.sts ∧
      (s.startSeek target).pending = s.pending ∧ (s.startSeek target).tmc.lifter = s.tmc.lifter ∧
      (s.startSeek target).tmc.trayDrive = s.tmc.trayDrive ∧ (s.startSeek target).tmc.qualDue = s.tmc.qualDue ∧
      (s.startSeek target).tmc.trayPresent = s.tmc.trayPresent ∧ (s.startSeek target).tmc.slots = s.tmc.slots ∧
      (s.startSeek target).tmc.size = s.tmc.size ∧ (s.startSeek target).tmc.pos = s.tmc.pos ∧
      (s.startSeek target).tmc.gate = s.tmc.gate ∧ (s.startSeek target).tmc.jam = s.tmc.jam ∧
      (s.startSeek target).tmc.comparePos = s.tmc.comparePos ∧ (s.startSeek target).tmc.par = s.tmc.par ∧
      (s.startSeek target).lmc.power = s.lmc.power ∧ (s.startSeek target).lmc.active = s.lmc.active ∧
      (s.startSeek target).lmc.outLevel = s.lmc.outLevel ∧ (s.startSeek target).lmc.level = s.lmc.level ∧
      (s.startSeek target).lmc.par = s.lmc.par ∧ (s.startSeek target).lmc.outDrive = s.lmc.outDrive ∧
      (s.startSeek target).cnt.snap = s.cnt.snap ∧ (s.startSeek target).cnt.number = s.cnt.number := by
  unfold State.startSeek; (try unfold State.whenDue); (try dsimp only)
  (repeat' split) <;> first | (simp; done) | ((repeat' apply And.intro) <;> first | rfl | simp)

@[simp] theorem truncate_frame (s : State) :
    s.truncate.powered = s.powered ∧ s.truncate.now = s.now ∧ s.truncate.free = s.free ∧ s.truncate.aq = s.aq ∧
      s.truncate.lmc = s.lmc ∧ s.truncate.thc = s.thc ∧ s.truncate.ttc = s.ttc ∧ s.truncate.cud = s.cud ∧
      s.truncate.ssq = s.ssq ∧ s.truncate.rpd = s.rpd ∧ s.truncate.lki = s.lki ∧ s.truncate.cnt = s.cnt ∧
      s.truncate.sts = s.sts ∧ s.truncate.pending = s.pending ∧ s.truncate.tmc.st = s.tmc.st ∧
      s.truncate.tmc.phase = s.tmc.phase ∧ s.truncate.tmc.timer = s.tmc.timer ∧
      s.truncate.tmc.lifter = s.tmc.lifter ∧ s.truncate.tmc.trayDrive = s.tmc.trayDrive ∧
      s.truncate.tmc.qualDue = s.tmc.qualDue ∧ s.truncate.tmc.trayPresent = s.tmc.trayPresent ∧
      s.truncate.tmc.slots = s.tmc.slots ∧ s.truncate.tmc.size = s.tmc.size ∧ s.truncate.tmc.pos = s.tmc.pos ∧
      s.truncate.tmc.gate = s.tmc.gate ∧ s.truncate.tmc.jam = s.tmc.jam ∧
      s.truncate.tmc.comparePos = s.tmc.comparePos ∧ s.truncate.tmc.par = s.tmc.par := by
  unfold State.truncate; (try unfold State.whenDue); (try dsimp only)
  (repeat' split) <;> first | (simp; done) | ((repeat' apply And.intro) <;> first | rfl | simp)

@[simp] theorem clearMatch_frame (s : State) (subject : Option Nat) :
    (s.clearMatch subject).powered = s.powered ∧ (s.clearMatch subject).now = s.now ∧
      (s.clearMatch subject).free = s.free ∧ (s.clearMatch subject).aq = s.aq ∧
      (s.clearMatch subject).lmc = s.lmc ∧ (s.clearMatch subject).thc = s.thc ∧
      (s.clearMatch subject).ttc = s.ttc ∧ (s.clearMatch subject).cud = s.cud ∧
      (s.clearMatch subject).ssq = s.ssq ∧ (s.clearMatch subject).rpd = s.rpd ∧
      (s.clearMatch subject).cnt = s.cnt ∧ (s.clearMatch subject).sts = s.sts ∧
      (s.clearMatch subject).pending = s.pending ∧ (s.clearMatch subject).tmc.st = s.tmc.st ∧
      (s.clearMatch subject).tmc.phase = s.tmc.phase ∧ (s.clearMatch subject).tmc.timer = s.tmc.timer ∧
      (s.clearMatch subject).tmc.lifter = s.tmc.lifter ∧ (s.clearMatch subject).tmc.trayDrive = s.tmc.trayDrive ∧
      (s.clearMatch subject).tmc.qualDue = s.tmc.qualDue ∧
      (s.clearMatch subject).tmc.trayPresent = s.tmc.trayPresent ∧
      (s.clearMatch subject).tmc.slots = s.tmc.slots ∧ (s.clearMatch subject).tmc.size = s.tmc.size ∧
      (s.clearMatch subject).tmc.pos = s.tmc.pos ∧ (s.clearMatch subject).tmc.gate = s.tmc.gate ∧
      (s.clearMatch subject).tmc.jam = s.tmc.jam ∧ (s.clearMatch subject).tmc.comparePos = s.tmc.comparePos ∧
      (s.clearMatch subject).tmc.par = s.tmc.par ∧ (s.clearMatch subject).lki.rx = s.lki.rx ∧
      (s.clearMatch subject).lki.resp = s.lki.resp ∧ (s.clearMatch subject).lki.addr = s.lki.addr ∧
      (s.clearMatch subject).lki.assignTaken = s.lki.assignTaken ∧
      (s.clearMatch subject).lki.resetting = s.lki.resetting ∧ (s.clearMatch subject).lki.copies = s.lki.copies ∧
      (s.clearMatch subject).lki.enables = s.lki.enables := by
  unfold State.clearMatch; (try unfold State.whenDue); (try dsimp only)
  (repeat' split) <;> first | (simp; done) | ((repeat' apply And.intro) <;> first | rfl | simp)

@[simp] theorem testMatch_frame (s : State) :
    s.testMatch.powered = s.powered ∧ s.testMatch.now = s.now ∧ s.testMatch.free = s.free ∧ s.testMatch.aq = s.aq ∧
      s.testMatch.lmc = s.lmc ∧ s.testMatch.thc = s.thc ∧ s.testMatch.ttc = s.ttc ∧ s.testMatch.cud = s.cud ∧
      s.testMatch.ssq = s.ssq ∧ s.testMatch.rpd = s.rpd ∧ s.testMatch.cnt = s.cnt ∧ s.testMatch.sts = s.sts ∧
      s.testMatch.pending = s.pending ∧ s.testMatch.tmc.st = s.tmc.st ∧ s.testMatch.tmc.phase = s.tmc.phase ∧
      s.testMatch.tmc.timer = s.tmc.timer ∧ s.testMatch.tmc.lifter = s.tmc.lifter ∧
      s.testMatch.tmc.trayDrive = s.tmc.trayDrive ∧ s.testMatch.tmc.qualDue = s.tmc.qualDue ∧
      s.testMatch.tmc.trayPresent = s.tmc.trayPresent ∧ s.testMatch.tmc.slots = s.tmc.slots ∧
      s.testMatch.tmc.size = s.tmc.size ∧ s.testMatch.tmc.pos = s.tmc.pos ∧ s.testMatch.tmc.gate = s.tmc.gate ∧
      s.testMatch.tmc.jam = s.tmc.jam ∧ s.testMatch.tmc.comparePos = s.tmc.comparePos ∧
      s.testMatch.tmc.par = s.tmc.par ∧ s.testMatch.lki.rx = s.lki.rx ∧ s.testMatch.lki.resp = s.lki.resp ∧
      s.testMatch.lki.addr = s.lki.addr ∧ s.testMatch.lki.assignTaken = s.lki.assignTaken ∧
      s.testMatch.lki.resetting = s.lki.resetting ∧ s.testMatch.lki.copies = s.lki.copies ∧
      s.testMatch.lki.enables = s.lki.enables := by
  unfold State.testMatch; (try unfold State.whenDue); (try dsimp only)
  (repeat' split) <;> first | (simp; done) | ((repeat' apply And.intro) <;> first | rfl | simp)

@[simp] theorem dropEnds_frame (s : State) (m : MechSense) :
    (s.dropEnds m).powered = s.powered ∧ (s.dropEnds m).now = s.now ∧ (s.dropEnds m).free = s.free ∧
      (s.dropEnds m).aq = s.aq ∧ (s.dropEnds m).lmc = s.lmc ∧ (s.dropEnds m).thc = s.thc ∧
      (s.dropEnds m).ttc = s.ttc ∧ (s.dropEnds m).cud = s.cud ∧ (s.dropEnds m).ssq = s.ssq ∧
      (s.dropEnds m).rpd = s.rpd ∧ (s.dropEnds m).cnt = s.cnt ∧ (s.dropEnds m).sts = s.sts ∧
      (s.dropEnds m).pending = s.pending ∧ (s.dropEnds m).tmc.st = s.tmc.st ∧
      (s.dropEnds m).tmc.trayDrive = s.tmc.trayDrive ∧ (s.dropEnds m).tmc.qualDue = s.tmc.qualDue ∧
      (s.dropEnds m).tmc.trayPresent = s.tmc.trayPresent ∧ (s.dropEnds m).tmc.size = s.tmc.size ∧
      (s.dropEnds m).tmc.pos = s.tmc.pos ∧ (s.dropEnds m).tmc.jam = s.tmc.jam ∧
      (s.dropEnds m).tmc.comparePos = s.tmc.comparePos ∧ (s.dropEnds m).tmc.par = s.tmc.par ∧
      (s.dropEnds m).lki.rx = s.lki.rx ∧ (s.dropEnds m).lki.resp = s.lki.resp ∧
      (s.dropEnds m).lki.addr = s.lki.addr ∧ (s.dropEnds m).lki.assignTaken = s.lki.assignTaken ∧
      (s.dropEnds m).lki.resetting = s.lki.resetting ∧ (s.dropEnds m).lki.copies = s.lki.copies ∧
      (s.dropEnds m).lki.enables = s.lki.enables := by
  unfold State.dropEnds; (try unfold State.whenDue); (try dsimp only)
  (repeat' split) <;> first | (simp; done) | ((repeat' apply And.intro) <;> first | rfl | simp)

@[simp] theorem beginDrop_frame (s : State) (m : MechSense) :
    (s.beginDrop m).powered = s.powered ∧ (s.beginDrop m).now = s.now ∧ (s.beginDrop m).free = s.free ∧
      (s.beginDrop m).aq = s.aq ∧ (s.beginDrop m).lmc = s.lmc ∧ (s.beginDrop m).thc = s.thc ∧
      (s.beginDrop m).ttc = s.ttc ∧ (s.beginDrop m).cud = s.cud ∧ (s.beginDrop m).ssq = s.ssq ∧
      (s.beginDrop m).rpd = s.rpd ∧ (s.beginDrop m).cnt = s.cnt ∧ (s.beginDrop m).sts = s.sts ∧
      (s.beginDrop m).pending = s.pending ∧ (s.beginDrop m).tmc.st = s.tmc.st ∧
      (s.beginDrop m).tmc.qualDue = s.tmc.qualDue ∧ (s.beginDrop m).tmc.trayPresent = s.tmc.trayPresent ∧
      (s.beginDrop m).tmc.size = s.tmc.size ∧ (s.beginDrop m).tmc.pos = s.tmc.pos ∧
      (s.beginDrop m).tmc.jam = s.tmc.jam ∧ (s.beginDrop m).tmc.comparePos = s.tmc.comparePos ∧
      (s.beginDrop m).tmc.par = s.tmc.par ∧ (s.beginDrop m).lki.rx = s.lki.rx ∧
      (s.beginDrop m).lki.resp = s.lki.resp ∧ (s.beginDrop m).lki.addr = s.lki.addr ∧
      (s.beginDrop m).lki.assignTaken = s.lki.assignTaken ∧ (s.beginDrop m).lki.resetting = s.lki.resetting ∧
      (s.beginDrop m).lki.copies = s.lki.copies ∧ (s.beginDrop m).lki.enables = s.lki.enables := by
  unfold State.beginDrop; (try unfold State.whenDue); (try dsimp only)
  (repeat' split) <;> first | (simp; done) | ((repeat' apply And.intro) <;> first | rfl | simp)

@[simp] theorem driveTray_frame (s : State) (p : Phase) (d : Dir) :
    (s.driveTray p d).powered = s.powered ∧ (s.driveTray p d).now = s.now ∧ (s.driveTray p d).free = s.free ∧
      (s.driveTray p d).aq = s.aq ∧ (s.driveTray p d).lmc = s.lmc ∧ (s.driveTray p d).thc = s.thc ∧
      (s.driveTray p d).ttc = s.ttc ∧ (s.driveTray p d).cud = s.cud ∧ (s.driveTray p d).ssq = s.ssq ∧
      (s.driveTray p d).rpd = s.rpd ∧ (s.driveTray p d).lki = s.lki ∧ (s.driveTray p d).cnt = s.cnt ∧
      (s.driveTray p d).sts = s.sts ∧ (s.driveTray p d).pending = s.pending ∧
      (s.driveTray p d).tmc.st = s.tmc.st ∧ (s.driveTray p d).tmc.lifter = s.tmc.lifter ∧
      (s.driveTray p d).tmc.qualDue = s.tmc.qualDue ∧ (s.driveTray p d).tmc.trayPresent = s.tmc.trayPresent ∧
      (s.driveTray p d).tmc.slots = s.tmc.slots ∧ (s.driveTray p d).tmc.size = s.tmc.size ∧
      (s.driveTray p d).tmc.pos = s.tmc.pos ∧ (s.driveTray p d).tmc.gate = s.tmc.gate ∧
      (s.driveTray p d).tmc.jam = s.tmc.jam ∧ (s.driveTray p d).tmc.comparePos = s.tmc.comparePos ∧
      (s.driveTray p d).tmc.par = s.tmc.par := by
  unfold State.driveTray; (try unfold State.whenDue); (try dsimp only)
  (repeat' split) <;> first | (simp; done) | ((repeat' apply And.intro) <;> first | rfl | simp)

@[simp] theorem homeFound_frame (s : State) (m : MechSense) :
    (s.homeFound m).powered = s.powered ∧ (s.homeFound m).now = s.now ∧ (s.homeFound m).free = s.free ∧
      (s.homeFound m).aq = s.aq ∧ (s.homeFound m).lmc = s.lmc ∧ (s.homeFound m).thc = s.thc ∧
      (s.homeFound m).ttc = s.ttc ∧ (s.homeFound m).cud = s.cud ∧ (s.homeFound m).ssq = s.ssq ∧
      (s.homeFound m).rpd = s.rpd ∧ (s.homeFound m).cnt = s.cnt ∧ (s.homeFound m).sts = s.sts ∧
      (s.homeFound m).pending = s.pending ∧ (s.homeFound m).tmc.st = s.tmc.st ∧
      (s.homeFound m).tmc.qualDue = s.tmc.qualDue ∧ (s.homeFound m).tmc.trayPresent = s.tmc.trayPresent ∧
      (s.homeFound m).tmc.size = s.tmc.size ∧ (s.homeFound m).tmc.jam = s.tmc.jam ∧
      (s.homeFound m).tmc.comparePos = s.tmc.comparePos ∧ (s.homeFound m).tmc.par = s.tmc.par ∧
      (s.homeFound m).lki.rx = s.lki.rx ∧ (s.homeFound m).lki.resp = s.lki.resp ∧
      (s.homeFound m).lki.addr = s.lki.addr ∧ (s.homeFound m).lki.assignTaken = s.lki.assignTaken ∧
      (s.homeFound m).lki.resetting = s.lki.resetting ∧ (s.homeFound m).lki.copies = s.lki.copies ∧
      (s.homeFound m).lki.enables = s.lki.enables := by
  unfold State.homeFound; (try unfold State.whenDue); (try dsimp only)
  (repeat' split) <;> first | (simp; done) | ((repeat' apply And.intro) <;> first | rfl | simp)

@[simp] theorem liftEnds_frame (s : State) (m : MechSense) :
    (s.liftEnds m).powered = s.powered ∧ (s.liftEnds m).now = s.now ∧ (s.liftEnds m).free = s.free ∧
      (s.liftEnds m).aq = s.aq ∧ (s.liftEnds m).lmc = s.lmc ∧ (s.liftEnds m).thc = s.thc ∧
      (s.liftEnds m).ttc = s.ttc ∧ (s.liftEnds m).cud = s.cud ∧ (s.liftEnds m).ssq = s.ssq ∧
      (s.liftEnds m).rpd = s.rpd ∧ (s.liftEnds m).cnt = s.cnt ∧ (s.liftEnds m).sts = s.sts ∧
      (s.liftEnds m).pending = s.pending ∧ (s.liftEnds m).tmc.st = s.tmc.st ∧
      (s.liftEnds m).tmc.qualDue = s.tmc.qualDue ∧ (s.liftEnds m).tmc.trayPresent = s.tmc.trayPresent ∧
      (s.liftEnds m).tmc.size = s.tmc.size ∧ (s.liftEnds m).tmc.jam = s.tmc.jam ∧
      (s.liftEnds m).tmc.comparePos = s.tmc.comparePos ∧ (s.liftEnds m).tmc.par = s.tmc.par ∧
      (s.liftEnds m).lki.rx = s.lki.rx ∧ (s.liftEnds m).lki.resp = s.lki.resp ∧
      (s.liftEnds m).lki.addr = s.lki.addr ∧ (s.liftEnds m).lki.assignTaken = s.lki.assignTaken ∧
      (s.liftEnds m).lki.resetting = s.lki.resetting ∧ (s.liftEnds m).lki.copies = s.lki.copies ∧
      (s.liftEnds m).lki.enables = s.lki.enables := by
  unfold State.liftEnds; (try unfold State.whenDue); (try dsimp only)
  (repeat' split) <;> first | (simp; done) | ((repeat' apply And.intro) <;> first | rfl | simp)

@[simp] theorem beginLift_frame (s : State) (m : MechSense) :
    (s.beginLift m).powered = s.powered ∧ (s.beginLift m).now = s.now ∧ (s.beginLift m).free = s.free ∧
      (s.beginLift m).aq = s.aq ∧ (s.beginLift m).lmc = s.lmc ∧ (s.beginLift m).thc = s.thc ∧
      (s.beginLift m).ttc = s.ttc ∧ (s.beginLift m).cud = s.cud ∧ (s.beginLift m).ssq = s.ssq ∧
      (s.beginLift m).rpd = s.rpd ∧ (s.beginLift m).cnt = s.cnt ∧ (s.beginLift m).sts = s.sts ∧
      (s.beginLift m).pending = s.pending ∧ (s.beginLift m).tmc.st = s.tmc.st ∧
      (s.beginLift m).tmc.qualDue = s.tmc.qualDue ∧ (s.beginLift m).tmc.trayPresent = s.tmc.trayPresent ∧
      (s.beginLift m).tmc.size = s.tmc.size ∧ (s.beginLift m).tmc.jam = s.tmc.jam ∧
      (s.beginLift m).tmc.comparePos = s.tmc.comparePos ∧ (s.beginLift m).tmc.par = s.tmc.par ∧
      (s.beginLift m).lki.rx = s.lki.rx ∧ (s.beginLift m).lki.resp = s.lki.resp ∧
      (s.beginLift m).lki.addr = s.lki.addr ∧ (s.beginLift m).lki.assignTaken = s.lki.assignTaken ∧
      (s.beginLift m).lki.resetting = s.lki.resetting ∧ (s.beginLift m).lki.copies = s.lki.copies ∧
      (s.beginLift m).lki.enables = s.lki.enables := by
  unfold State.beginLift; (try unfold State.whenDue); (try dsimp only)
  (repeat' split) <;> first | (simp; done) | ((repeat' apply And.intro) <;> first | rfl | simp)

@[simp] theorem evalPacing_frame (s : State) :
    s.evalPacing.powered = s.powered ∧ s.evalPacing.now = s.now ∧ s.evalPacing.free = s.free ∧
      s.evalPacing.aq = s.aq ∧ s.evalPacing.lmc = s.lmc ∧ s.evalPacing.thc = s.thc ∧ s.evalPacing.ttc = s.ttc ∧
      s.evalPacing.cud = s.cud ∧ s.evalPacing.ssq = s.ssq ∧ s.evalPacing.rpd = s.rpd ∧ s.evalPacing.lki = s.lki ∧
      s.evalPacing.cnt = s.cnt ∧ s.evalPacing.sts = s.sts ∧ s.evalPacing.pending = s.pending ∧
      s.evalPacing.tmc.st = s.tmc.st ∧ s.evalPacing.tmc.phase = s.tmc.phase ∧
      s.evalPacing.tmc.timer = s.tmc.timer ∧ s.evalPacing.tmc.lifter = s.tmc.lifter ∧
      s.evalPacing.tmc.trayDrive = s.tmc.trayDrive ∧ s.evalPacing.tmc.qualDue = s.tmc.qualDue ∧
      s.evalPacing.tmc.trayPresent = s.tmc.trayPresent ∧ s.evalPacing.tmc.slots = s.tmc.slots ∧
      s.evalPacing.tmc.size = s.tmc.size ∧ s.evalPacing.tmc.pos = s.tmc.pos ∧ s.evalPacing.tmc.gate = s.tmc.gate ∧
      s.evalPacing.tmc.jam = s.tmc.jam ∧ s.evalPacing.tmc.comparePos = s.tmc.comparePos ∧
      s.evalPacing.tmc.par = s.tmc.par := by
  unfold State.evalPacing; (try unfold State.whenDue); (try dsimp only)
  (repeat' split) <;> first | (simp; done) | ((repeat' apply And.intro) <;> first | rfl | simp)

end Sys2Proof.Machine
end

