-- ==== Sys2Proof/Laws/RunnerFrames.lean ====
section
/-!
SUPPORT. Frames of the runner and the sequencer (Machine/Runner.lean).
Each lemma says of one operation which parts of the state it leaves as they are.
-/

set_option linter.all false

namespace Sys2Proof.Machine

@[simp] theorem skip_fields (q : Ssq) (n : Nat) :
    (q.skip n).steps = q.steps ∧ (q.skip n).head = q.head ∧ (q.skip n).st = q.st ∧ (q.skip n).ptr = q.ptr ∧
      (q.skip n).pend = q.pend ∧ (q.skip n).remembered = q.remembered ∧ (q.skip n).pausedFrom = q.pausedFrom ∧
      (q.skip n).watched = q.watched ∧ (q.skip n).follow = q.follow := by
  unfold Ssq.skip; simp

@[simp] theorem enqueue_frame (s : State) (es : List Entry) :
    (s.enqueue es).powered = s.powered ∧ (s.enqueue es).now = s.now ∧ (s.enqueue es).free = s.free ∧
      (s.enqueue es).tmc = s.tmc ∧ (s.enqueue es).lmc = s.lmc ∧ (s.enqueue es).thc = s.thc ∧ (s.enqueue es).ttc = s.ttc ∧
      (s.enqueue es).cud = s.cud ∧ (s.enqueue es).ssq = s.ssq ∧ (s.enqueue es).rpd = s.rpd ∧ (s.enqueue es).lki = s.lki ∧
      (s.enqueue es).cnt = s.cnt ∧ (s.enqueue es).sts = s.sts ∧ (s.enqueue es).pending = s.pending ∧
      (s.enqueue es).aq.mode = s.aq.mode ∧ (s.enqueue es).aq.startMode = s.aq.startMode ∧
      (s.enqueue es).aq.stopPending = s.aq.stopPending ∧ (s.enqueue es).aq.holdDue = s.aq.holdDue ∧
      (s.enqueue es).aq.lastReport = s.aq.lastReport := by
  unfold State.enqueue; (try unfold State.whenDue); (try dsimp only)
  (repeat' split) <;> first | (simp; done) | ((repeat' apply And.intro) <;> first | rfl | simp)

@[simp] theorem endTest_frame (s : State) :
    s.endTest.powered = s.powered ∧ s.endTest.now = s.now ∧ s.endTest.free = s.free ∧ s.endTest.aq = s.aq ∧
      s.endTest.tmc = s.tmc ∧ s.endTest.lmc = s.lmc ∧ s.endTest.thc = s.thc ∧ s.endTest.ttc = s.ttc ∧
      s.endTest.cud = s.cud ∧ s.endTest.rpd = s.rpd ∧ s.endTest.cnt = s.cnt ∧ s.endTest.sts = s.sts ∧
      s.endTest.pending = s.pending ∧ s.endTest.ssq.steps = s.ssq.steps ∧ s.endTest.ssq.head = s.ssq.head ∧
      s.endTest.ssq.ptr = s.ssq.ptr ∧ s.endTest.ssq.pend = s.ssq.pend ∧
      s.endTest.ssq.remembered = s.ssq.remembered ∧ s.endTest.lki.rx = s.lki.rx ∧
      s.endTest.lki.resp = s.lki.resp ∧ s.endTest.lki.addr = s.lki.addr ∧
      s.endTest.lki.assignTaken = s.lki.assignTaken ∧ s.endTest.lki.resetting = s.lki.resetting ∧
      s.endTest.lki.copies = s.lki.copies ∧ s.endTest.lki.enables = s.lki.enables := by
  unfold State.endTest; (try unfold State.whenDue); (try dsimp only)
  (repeat' split) <;> first | (simp; done) | ((repeat' apply And.intro) <;> first | rfl | simp)

@[simp] theorem fireCore_frame (s : State) (j : Nat) (chase : Bool) :
    (s.fireCore j chase).powered = s.powered ∧ (s.fireCore j chase).now = s.now ∧ (s.fireCore j chase).free = s.free ∧
      (s.fireCore j chase).tmc = s.tmc ∧ (s.fireCore j chase).lmc = s.lmc ∧ (s.fireCore j chase).thc = s.thc ∧
      (s.fireCore j chase).ttc = s.ttc ∧ (s.fireCore j chase).cud = s.cud ∧ (s.fireCore j chase).rpd = s.rpd ∧
      (s.fireCore j chase).lki = s.lki ∧ (s.fireCore j chase).cnt = s.cnt ∧ (s.fireCore j chase).sts = s.sts ∧
      (s.fireCore j chase).pending = s.pending ∧ (s.fireCore j chase).aq.mode = s.aq.mode ∧
      (s.fireCore j chase).aq.startMode = s.aq.startMode ∧
      (s.fireCore j chase).aq.stopPending = s.aq.stopPending ∧ (s.fireCore j chase).aq.holdDue = s.aq.holdDue ∧
      (s.fireCore j chase).ssq.steps = s.ssq.steps ∧ (s.fireCore j chase).ssq.head = s.ssq.head ∧
      (s.fireCore j chase).ssq.remembered = s.ssq.remembered ∧
      (s.fireCore j chase).aq.lastReport = s.aq.lastReport := by
  unfold State.fireCore; (try unfold State.whenDue); (try dsimp only)
  (repeat' split) <;> first | (simp; done) | ((repeat' apply And.intro) <;> first | rfl | simp)

@[simp] theorem checks_frame (n : Nat) (s : State) :
    (State.checks n s).powered = s.powered ∧ (State.checks n s).now = s.now ∧ (State.checks n s).free = s.free ∧
      (State.checks n s).tmc = s.tmc ∧ (State.checks n s).lmc = s.lmc ∧ (State.checks n s).thc = s.thc ∧
      (State.checks n s).ttc = s.ttc ∧ (State.checks n s).cud = s.cud ∧ (State.checks n s).rpd = s.rpd ∧
      (State.checks n s).cnt = s.cnt ∧ (State.checks n s).sts = s.sts ∧ (State.checks n s).pending = s.pending ∧
      (State.checks n s).aq.mode = s.aq.mode ∧ (State.checks n s).aq.startMode = s.aq.startMode ∧
      (State.checks n s).aq.stopPending = s.aq.stopPending ∧ (State.checks n s).aq.holdDue = s.aq.holdDue ∧
      (State.checks n s).ssq.steps = s.ssq.steps ∧ (State.checks n s).ssq.head = s.ssq.head ∧
      (State.checks n s).ssq.remembered = s.ssq.remembered ∧ (State.checks n s).lki.rx = s.lki.rx ∧
      (State.checks n s).lki.resp = s.lki.resp ∧ (State.checks n s).lki.addr = s.lki.addr ∧
      (State.checks n s).lki.assignTaken = s.lki.assignTaken ∧
      (State.checks n s).lki.resetting = s.lki.resetting ∧ (State.checks n s).lki.copies = s.lki.copies ∧
      (State.checks n s).lki.enables = s.lki.enables ∧
      (State.checks n s).aq.lastReport = s.aq.lastReport := by
  induction n generalizing s with
  | zero => unfold State.checks; split <;> simp
  | succ n ih => unfold State.checks; (repeat' split) <;> simp [ih]

@[simp] theorem fire_frame (s : State) (j : Nat) (chase : Bool) :
    (s.fire j chase).powered = s.powered ∧ (s.fire j chase).now = s.now ∧ (s.fire j chase).free = s.free ∧
      (s.fire j chase).tmc = s.tmc ∧ (s.fire j chase).lmc = s.lmc ∧ (s.fire j chase).thc = s.thc ∧
      (s.fire j chase).ttc = s.ttc ∧ (s.fire j chase).cud = s.cud ∧ (s.fire j chase).rpd = s.rpd ∧
      (s.fire j chase).cnt = s.cnt ∧ (s.fire j chase).sts = s.sts ∧ (s.fire j chase).pending = s.pending ∧
      (s.fire j chase).aq.mode = s.aq.mode ∧ (s.fire j chase).aq.startMode = s.aq.startMode ∧
      (s.fire j chase).aq.stopPending = s.aq.stopPending ∧ (s.fire j chase).aq.holdDue = s.aq.holdDue ∧
      (s.fire j chase).ssq.steps = s.ssq.steps ∧ (s.fire j chase).ssq.head = s.ssq.head ∧
      (s.fire j chase).ssq.remembered = s.ssq.remembered ∧ (s.fire j chase).lki.rx = s.lki.rx ∧
      (s.fire j chase).lki.resp = s.lki.resp ∧ (s.fire j chase).lki.addr = s.lki.addr ∧
      (s.fire j chase).lki.assignTaken = s.lki.assignTaken ∧ (s.fire j chase).lki.resetting = s.lki.resetting ∧
      (s.fire j chase).lki.copies = s.lki.copies ∧ (s.fire j chase).lki.enables = s.lki.enables ∧
      (s.fire j chase).aq.lastReport = s.aq.lastReport := by
  unfold State.fire; (try unfold State.whenDue); (try dsimp only)
  (repeat' split) <;> first | (simp; done) | ((repeat' apply And.intro) <;> first | rfl | simp)

@[simp] theorem offerPending_frame (s : State) :
    s.offerPending.powered = s.powered ∧ s.offerPending.now = s.now ∧ s.offerPending.free = s.free ∧
      s.offerPending.tmc = s.tmc ∧ s.offerPending.lmc = s.lmc ∧ s.offerPending.thc = s.thc ∧
      s.offerPending.ttc = s.ttc ∧ s.offerPending.cud = s.cud ∧ s.offerPending.rpd = s.rpd ∧
      s.offerPending.lki = s.lki ∧ s.offerPending.cnt = s.cnt ∧ s.offerPending.sts = s.sts ∧
      s.offerPending.pending = s.pending ∧ s.offerPending.aq.mode = s.aq.mode ∧
      s.offerPending.aq.startMode = s.aq.startMode ∧ s.offerPending.aq.stopPending = s.aq.stopPending ∧
      s.offerPending.aq.holdDue = s.aq.holdDue ∧ s.offerPending.ssq.steps = s.ssq.steps ∧
      s.offerPending.ssq.head = s.ssq.head ∧ s.offerPending.ssq.st = s.ssq.st ∧
      s.offerPending.ssq.ptr = s.ssq.ptr ∧ s.offerPending.ssq.remembered = s.ssq.remembered ∧
      s.offerPending.aq.lastReport = s.aq.lastReport := by
  unfold State.offerPending; (try unfold State.whenDue); (try dsimp only)
  (repeat' split) <;> first | (simp; done) | ((repeat' apply And.intro) <;> first | rfl | simp)

@[simp] theorem followTest_frame (s : State) :
    s.followTest.powered = s.powered ∧ s.followTest.now = s.now ∧ s.followTest.free = s.free ∧
      s.followTest.tmc = s.tmc ∧ s.followTest.lmc = s.lmc ∧ s.followTest.thc = s.thc ∧
      s.followTest.ttc = s.ttc ∧ s.followTest.cud = s.cud ∧ s.followTest.rpd = s.rpd ∧
      s.followTest.cnt = s.cnt ∧ s.followTest.sts = s.sts ∧ s.followTest.pending = s.pending ∧
      s.followTest.aq.mode = s.aq.mode ∧ s.followTest.aq.startMode = s.aq.startMode ∧
      s.followTest.aq.stopPending = s.aq.stopPending ∧ s.followTest.aq.holdDue = s.aq.holdDue ∧
      s.followTest.ssq.steps = s.ssq.steps ∧ s.followTest.ssq.head = s.ssq.head ∧
      s.followTest.ssq.remembered = s.ssq.remembered ∧ s.followTest.lki.rx = s.lki.rx ∧
      s.followTest.lki.resp = s.lki.resp ∧ s.followTest.lki.addr = s.lki.addr ∧
      s.followTest.lki.assignTaken = s.lki.assignTaken ∧
      s.followTest.lki.resetting = s.lki.resetting ∧ s.followTest.lki.copies = s.lki.copies ∧
      s.followTest.lki.enables = s.lki.enables ∧
      s.followTest.aq.lastReport = s.aq.lastReport := by
  unfold State.followTest; split <;> simp

@[simp] theorem takeReport_frame (s : State) :
    s.takeReport.powered = s.powered ∧ s.takeReport.now = s.now ∧ s.takeReport.free = s.free ∧ s.takeReport.tmc = s.tmc ∧
      s.takeReport.lmc = s.lmc ∧ s.takeReport.thc = s.thc ∧ s.takeReport.ttc = s.ttc ∧ s.takeReport.cud = s.cud ∧
      s.takeReport.rpd = s.rpd ∧ s.takeReport.cnt = s.cnt ∧ s.takeReport.sts = s.sts ∧ s.takeReport.pending = s.pending ∧
      s.takeReport.aq.mode = s.aq.mode ∧ s.takeReport.aq.startMode = s.aq.startMode ∧
      s.takeReport.aq.stopPending = s.aq.stopPending ∧ s.takeReport.aq.holdDue = s.aq.holdDue ∧
      s.takeReport.ssq.steps = s.ssq.steps ∧ s.takeReport.ssq.head = s.ssq.head ∧
      s.takeReport.ssq.remembered = s.ssq.remembered ∧ s.takeReport.lki.rx = s.lki.rx ∧ s.takeReport.lki.resp = s.lki.resp ∧
      s.takeReport.lki.addr = s.lki.addr ∧ s.takeReport.lki.assignTaken = s.lki.assignTaken ∧
      s.takeReport.lki.resetting = s.lki.resetting ∧ s.takeReport.lki.copies = s.lki.copies ∧
      s.takeReport.lki.enables = s.lki.enables ∧
      s.takeReport.aq.lastReport = s.aq.lastReport := by
  unfold State.takeReport; (try unfold State.whenDue); (try dsimp only)
  (repeat' split) <;> first | (simp; done) | ((repeat' apply And.intro) <;> first | rfl | simp)

@[simp] theorem report_frame (s : State) (rep : Bool) (tag : Option Nat) (m : Manner) :
    (s.report rep tag m).powered = s.powered ∧ (s.report rep tag m).now = s.now ∧ (s.report rep tag m).free = s.free ∧ (s.report rep tag m).tmc = s.tmc ∧
      (s.report rep tag m).lmc = s.lmc ∧ (s.report rep tag m).thc = s.thc ∧ (s.report rep tag m).ttc = s.ttc ∧ (s.report rep tag m).cud = s.cud ∧
      (s.report rep tag m).rpd = s.rpd ∧ (s.report rep tag m).cnt = s.cnt ∧ (s.report rep tag m).sts = s.sts ∧ (s.report rep tag m).pending = s.pending ∧
      (s.report rep tag m).aq.mode = s.aq.mode ∧ (s.report rep tag m).aq.startMode = s.aq.startMode ∧
      (s.report rep tag m).aq.stopPending = s.aq.stopPending ∧ (s.report rep tag m).aq.holdDue = s.aq.holdDue ∧
      (s.report rep tag m).ssq.steps = s.ssq.steps ∧ (s.report rep tag m).ssq.head = s.ssq.head ∧
      (s.report rep tag m).ssq.remembered = s.ssq.remembered ∧ (s.report rep tag m).lki.rx = s.lki.rx ∧ (s.report rep tag m).lki.resp = s.lki.resp ∧
      (s.report rep tag m).lki.addr = s.lki.addr ∧ (s.report rep tag m).lki.assignTaken = s.lki.assignTaken ∧
      (s.report rep tag m).lki.resetting = s.lki.resetting ∧ (s.report rep tag m).lki.copies = s.lki.copies ∧
      (s.report rep tag m).lki.enables = s.lki.enables := by
  unfold State.report; (try unfold State.whenDue); (try dsimp only)
  (repeat' split) <;> first | (simp; done) | ((repeat' apply And.intro) <;> first | rfl | simp)

/-- R17: what a departure report carries. -/
theorem report_lastReport (s : State) (rep : Bool) (tag : Option Nat) (m : Manner) :
    (s.report rep tag m).aq.lastReport = some { tag := tag, manner := m, room := s.room } := by
  unfold State.report; cases rep <;> simp

@[simp] theorem reportAll_frame (rep : Bool) (l : List (Option Nat × Manner)) (s : State) :
    (s.reportAll rep l).powered = s.powered ∧ (s.reportAll rep l).now = s.now ∧ (s.reportAll rep l).free = s.free ∧ (s.reportAll rep l).tmc = s.tmc ∧
      (s.reportAll rep l).lmc = s.lmc ∧ (s.reportAll rep l).thc = s.thc ∧ (s.reportAll rep l).ttc = s.ttc ∧ (s.reportAll rep l).cud = s.cud ∧
      (s.reportAll rep l).rpd = s.rpd ∧ (s.reportAll rep l).cnt = s.cnt ∧ (s.reportAll rep l).sts = s.sts ∧ (s.reportAll rep l).pending = s.pending ∧
      (s.reportAll rep l).aq.mode = s.aq.mode ∧ (s.reportAll rep l).aq.startMode = s.aq.startMode ∧
      (s.reportAll rep l).aq.stopPending = s.aq.stopPending ∧ (s.reportAll rep l).aq.holdDue = s.aq.holdDue ∧
      (s.reportAll rep l).ssq.steps = s.ssq.steps ∧ (s.reportAll rep l).ssq.head = s.ssq.head ∧
      (s.reportAll rep l).ssq.remembered = s.ssq.remembered ∧ (s.reportAll rep l).lki.rx = s.lki.rx ∧ (s.reportAll rep l).lki.resp = s.lki.resp ∧
      (s.reportAll rep l).lki.addr = s.lki.addr ∧ (s.reportAll rep l).lki.assignTaken = s.lki.assignTaken ∧
      (s.reportAll rep l).lki.resetting = s.lki.resetting ∧ (s.reportAll rep l).lki.copies = s.lki.copies ∧
      (s.reportAll rep l).lki.enables = s.lki.enables := by
  induction l generalizing s with
  | nil => simp [State.reportAll]
  | cons d l ih =>
    have h := ih (s.report rep d.1 d.2)
    simp only [State.reportAll, List.foldl_cons] at h ⊢
    simpa using h

@[simp] theorem resetEnd_frame (s : State) :
    s.resetEnd.powered = s.powered ∧ s.resetEnd.now = s.now ∧ s.resetEnd.free = s.free ∧ s.resetEnd.aq = s.aq ∧
      s.resetEnd.tmc = s.tmc ∧ s.resetEnd.lmc = s.lmc ∧ s.resetEnd.thc = s.thc ∧ s.resetEnd.ttc = s.ttc ∧
      s.resetEnd.cud = s.cud ∧ s.resetEnd.ssq = s.ssq ∧ s.resetEnd.rpd = s.rpd ∧ s.resetEnd.cnt = s.cnt ∧
      s.resetEnd.sts = s.sts ∧ s.resetEnd.pending = s.pending ∧ s.resetEnd.lki.rx = s.lki.rx ∧
      s.resetEnd.lki.resp = s.lki.resp ∧ s.resetEnd.lki.addr = s.lki.addr ∧
      s.resetEnd.lki.assignTaken = s.lki.assignTaken ∧ s.resetEnd.lki.copies = s.lki.copies ∧
      s.resetEnd.lki.enables = s.lki.enables := by
  unfold State.resetEnd; (try unfold State.whenDue); (try dsimp only)
  (repeat' split) <;> first | (simp; done) | ((repeat' apply And.intro) <;> first | rfl | simp)

@[simp] theorem startEffect_frame (s : State) (e : Entry) :
    (s.startEffect e).powered = s.powered ∧ (s.startEffect e).now = s.now ∧ (s.startEffect e).free = s.free ∧
      (s.startEffect e).cud = s.cud ∧ (s.startEffect e).ssq = s.ssq ∧ (s.startEffect e).rpd = s.rpd ∧
      (s.startEffect e).pending = s.pending ∧ (s.startEffect e).aq.mode = s.aq.mode ∧
      (s.startEffect e).aq.startMode = s.aq.startMode ∧ (s.startEffect e).aq.queue = s.aq.queue ∧
      (s.startEffect e).aq.stopPending = s.aq.stopPending ∧ (s.startEffect e).tmc.lifter = s.tmc.lifter ∧
      (s.startEffect e).tmc.trayDrive = s.tmc.trayDrive ∧ (s.startEffect e).tmc.qualDue = s.tmc.qualDue ∧
      (s.startEffect e).tmc.trayPresent = s.tmc.trayPresent ∧ (s.startEffect e).tmc.slots = s.tmc.slots ∧
      (s.startEffect e).tmc.size = s.tmc.size ∧ (s.startEffect e).tmc.pos = s.tmc.pos ∧
      (s.startEffect e).tmc.gate = s.tmc.gate ∧ (s.startEffect e).tmc.jam = s.tmc.jam ∧
      (s.startEffect e).tmc.comparePos = s.tmc.comparePos ∧ (s.startEffect e).tmc.par = s.tmc.par ∧
      (s.startEffect e).lmc.active = s.lmc.active ∧ (s.startEffect e).lmc.outLevel = s.lmc.outLevel ∧
      (s.startEffect e).lmc.level = s.lmc.level ∧ (s.startEffect e).lmc.par = s.lmc.par ∧
      (s.startEffect e).thc.trip = s.thc.trip ∧ (s.startEffect e).thc.fanFault = s.thc.fanFault ∧
      (s.startEffect e).thc.power = s.thc.power ∧ (s.startEffect e).thc.lost = s.thc.lost ∧
      (s.startEffect e).thc.loss30 = s.thc.loss30 ∧ (s.startEffect e).thc.par = s.thc.par ∧
      (s.startEffect e).thc.tm = s.thc.tm ∧ (s.startEffect e).thc.hq = s.thc.hq ∧
      (s.startEffect e).thc.cEff = s.thc.cEff ∧ (s.startEffect e).ttc.st = s.ttc.st ∧
      (s.startEffect e).ttc.curVol = s.ttc.curVol ∧ (s.startEffect e).ttc.servo = s.ttc.servo ∧
      (s.startEffect e).lki.rx = s.lki.rx ∧ (s.startEffect e).lki.resp = s.lki.resp ∧
      (s.startEffect e).lki.addr = s.lki.addr ∧ (s.startEffect e).lki.assignTaken = s.lki.assignTaken ∧
      (s.startEffect e).lki.resetting = s.lki.resetting ∧ (s.startEffect e).lki.copies = s.lki.copies ∧
      (s.startEffect e).lki.enables = s.lki.enables ∧ (s.startEffect e).cnt.snap = s.cnt.snap ∧
      (s.startEffect e).cnt.number = s.cnt.number ∧ (s.startEffect e).sts.record = s.sts.record ∧
      (s.startEffect e).sts.serial = s.sts.serial ∧ (s.startEffect e).sts.storeLost = s.sts.storeLost := by
  unfold State.startEffect; (try unfold State.whenDue); (try dsimp only)
  (repeat' split) <;> first | (simp; done) | ((repeat' apply And.intro) <;> first | rfl | simp)

@[simp] theorem startHead_frame (s : State) (e : Entry) :
    (s.startHead e).powered = s.powered ∧ (s.startHead e).now = s.now ∧ (s.startHead e).free = s.free ∧
      (s.startHead e).cud = s.cud ∧ (s.startHead e).ssq = s.ssq ∧ (s.startHead e).rpd = s.rpd ∧
      (s.startHead e).pending = s.pending ∧ (s.startHead e).aq.mode = s.aq.mode ∧
      (s.startHead e).aq.startMode = s.aq.startMode ∧ (s.startHead e).aq.stopPending = s.aq.stopPending ∧
      (s.startHead e).tmc.lifter = s.tmc.lifter ∧ (s.startHead e).tmc.trayDrive = s.tmc.trayDrive ∧
      (s.startHead e).tmc.qualDue = s.tmc.qualDue ∧ (s.startHead e).tmc.trayPresent = s.tmc.trayPresent ∧
      (s.startHead e).tmc.slots = s.tmc.slots ∧ (s.startHead e).tmc.size = s.tmc.size ∧
      (s.startHead e).tmc.pos = s.tmc.pos ∧ (s.startHead e).tmc.gate = s.tmc.gate ∧
      (s.startHead e).tmc.jam = s.tmc.jam ∧ (s.startHead e).tmc.comparePos = s.tmc.comparePos ∧
      (s.startHead e).tmc.par = s.tmc.par ∧ (s.startHead e).lmc.active = s.lmc.active ∧
      (s.startHead e).lmc.outLevel = s.lmc.outLevel ∧ (s.startHead e).lmc.level = s.lmc.level ∧
      (s.startHead e).lmc.par = s.lmc.par ∧ (s.startHead e).thc.trip = s.thc.trip ∧
      (s.startHead e).thc.fanFault = s.thc.fanFault ∧ (s.startHead e).thc.power = s.thc.power ∧
      (s.startHead e).thc.lost = s.thc.lost ∧ (s.startHead e).thc.loss30 = s.thc.loss30 ∧
      (s.startHead e).thc.par = s.thc.par ∧ (s.startHead e).thc.tm = s.thc.tm ∧
      (s.startHead e).thc.hq = s.thc.hq ∧ (s.startHead e).thc.cEff = s.thc.cEff ∧
      (s.startHead e).ttc.st = s.ttc.st ∧ (s.startHead e).ttc.curVol = s.ttc.curVol ∧
      (s.startHead e).ttc.servo = s.ttc.servo ∧ (s.startHead e).lki.rx = s.lki.rx ∧
      (s.startHead e).lki.resp = s.lki.resp ∧ (s.startHead e).lki.addr = s.lki.addr ∧
      (s.startHead e).lki.assignTaken = s.lki.assignTaken ∧ (s.startHead e).lki.resetting = s.lki.resetting ∧
      (s.startHead e).lki.copies = s.lki.copies ∧ (s.startHead e).lki.enables = s.lki.enables ∧
      (s.startHead e).cnt.snap = s.cnt.snap ∧ (s.startHead e).cnt.number = s.cnt.number ∧
      (s.startHead e).sts.record = s.sts.record ∧ (s.startHead e).sts.serial = s.sts.serial ∧
      (s.startHead e).sts.storeLost = s.sts.storeLost := by
  unfold State.startHead; (try unfold State.whenDue); (try dsimp only)
  (repeat' split) <;> first | (simp; done) | ((repeat' apply And.intro) <;> first | rfl | simp)

@[simp] theorem stoppedIfPending_frame (s : State) :
    s.stoppedIfPending.powered = s.powered ∧ s.stoppedIfPending.now = s.now ∧ s.stoppedIfPending.free = s.free ∧
      s.stoppedIfPending.tmc = s.tmc ∧ s.stoppedIfPending.lmc = s.lmc ∧ s.stoppedIfPending.thc = s.thc ∧
      s.stoppedIfPending.ttc = s.ttc ∧ s.stoppedIfPending.cud = s.cud ∧ s.stoppedIfPending.ssq = s.ssq ∧
      s.stoppedIfPending.rpd = s.rpd ∧ s.stoppedIfPending.cnt = s.cnt ∧ s.stoppedIfPending.sts = s.sts ∧
      s.stoppedIfPending.pending = s.pending ∧ s.stoppedIfPending.aq.mode = s.aq.mode ∧
      s.stoppedIfPending.aq.startMode = s.aq.startMode ∧ s.stoppedIfPending.aq.queue = s.aq.queue ∧
      s.stoppedIfPending.aq.holdDue = s.aq.holdDue ∧ s.stoppedIfPending.lki.rx = s.lki.rx ∧
      s.stoppedIfPending.lki.resp = s.lki.resp ∧ s.stoppedIfPending.lki.addr = s.lki.addr ∧
      s.stoppedIfPending.lki.assignTaken = s.lki.assignTaken ∧
      s.stoppedIfPending.lki.resetting = s.lki.resetting ∧ s.stoppedIfPending.lki.copies = s.lki.copies ∧
      s.stoppedIfPending.lki.enables = s.lki.enables := by
  unfold State.stoppedIfPending; (try unfold State.whenDue); (try dsimp only)
  (repeat' split) <;> first | (simp; done) | ((repeat' apply And.intro) <;> first | rfl | simp)

@[simp] theorem depart_frame (s : State) (e : Entry) (dropped rep : Bool) :
    (s.depart e dropped rep).powered = s.powered ∧ (s.depart e dropped rep).now = s.now ∧
      (s.depart e dropped rep).free = s.free ∧ (s.depart e dropped rep).tmc = s.tmc ∧
      (s.depart e dropped rep).lmc = s.lmc ∧ (s.depart e dropped rep).thc = s.thc ∧
      (s.depart e dropped rep).ttc = s.ttc ∧ (s.depart e dropped rep).cud = s.cud ∧
      (s.depart e dropped rep).rpd = s.rpd ∧ (s.depart e dropped rep).cnt = s.cnt ∧
      (s.depart e dropped rep).sts = s.sts ∧ (s.depart e dropped rep).pending = s.pending ∧
      (s.depart e dropped rep).aq.mode = s.aq.mode ∧ (s.depart e dropped rep).aq.startMode = s.aq.startMode ∧
      (s.depart e dropped rep).aq.holdDue = s.aq.holdDue ∧ (s.depart e dropped rep).ssq.steps = s.ssq.steps ∧
      (s.depart e dropped rep).ssq.head = s.ssq.head ∧
      (s.depart e dropped rep).ssq.remembered = s.ssq.remembered ∧ (s.depart e dropped rep).lki.rx = s.lki.rx ∧
      (s.depart e dropped rep).lki.resp = s.lki.resp ∧ (s.depart e dropped rep).lki.addr = s.lki.addr ∧
      (s.depart e dropped rep).lki.assignTaken = s.lki.assignTaken ∧
      (s.depart e dropped rep).lki.copies = s.lki.copies ∧ (s.depart e dropped rep).lki.enables = s.lki.enables := by
  unfold State.depart; (try unfold State.whenDue); (try dsimp only)
  (repeat' split) <;> first | (simp; done) | ((repeat' apply And.intro) <;> first | rfl | simp)

@[simp] theorem settle_frame (n : Nat) (r : Bool) (s : State) :
    (State.settle n r s).powered = s.powered ∧ (State.settle n r s).now = s.now ∧ (State.settle n r s).free = s.free ∧
      (State.settle n r s).cud = s.cud ∧ (State.settle n r s).rpd = s.rpd ∧
      (State.settle n r s).pending = s.pending ∧ (State.settle n r s).aq.mode = s.aq.mode ∧
      (State.settle n r s).aq.startMode = s.aq.startMode ∧ (State.settle n r s).tmc.lifter = s.tmc.lifter ∧
      (State.settle n r s).tmc.trayDrive = s.tmc.trayDrive ∧ (State.settle n r s).tmc.qualDue = s.tmc.qualDue ∧
      (State.settle n r s).tmc.trayPresent = s.tmc.trayPresent ∧ (State.settle n r s).tmc.slots = s.tmc.slots ∧
      (State.settle n r s).tmc.size = s.tmc.size ∧ (State.settle n r s).tmc.pos = s.tmc.pos ∧
      (State.settle n r s).tmc.gate = s.tmc.gate ∧ (State.settle n r s).tmc.jam = s.tmc.jam ∧
      (State.settle n r s).tmc.comparePos = s.tmc.comparePos ∧ (State.settle n r s).tmc.par = s.tmc.par ∧
      (State.settle n r s).lmc.active = s.lmc.active ∧ (State.settle n r s).lmc.outLevel = s.lmc.outLevel ∧
      (State.settle n r s).lmc.level = s.lmc.level ∧ (State.settle n r s).lmc.par = s.lmc.par ∧
      (State.settle n r s).thc.trip = s.thc.trip ∧ (State.settle n r s).thc.fanFault = s.thc.fanFault ∧
      (State.settle n r s).thc.power = s.thc.power ∧ (State.settle n r s).thc.lost = s.thc.lost ∧
      (State.settle n r s).thc.loss30 = s.thc.loss30 ∧ (State.settle n r s).thc.par = s.thc.par ∧
      (State.settle n r s).thc.tm = s.thc.tm ∧ (State.settle n r s).thc.hq = s.thc.hq ∧
      (State.settle n r s).thc.cEff = s.thc.cEff ∧ (State.settle n r s).ttc.st = s.ttc.st ∧
      (State.settle n r s).ttc.curVol = s.ttc.curVol ∧ (State.settle n r s).ttc.servo = s.ttc.servo ∧
      (State.settle n r s).ssq.steps = s.ssq.steps ∧ (State.settle n r s).ssq.head = s.ssq.head ∧
      (State.settle n r s).ssq.remembered = s.ssq.remembered ∧ (State.settle n r s).lki.rx = s.lki.rx ∧
      (State.settle n r s).lki.resp = s.lki.resp ∧ (State.settle n r s).lki.addr = s.lki.addr ∧
      (State.settle n r s).lki.assignTaken = s.lki.assignTaken ∧ (State.settle n r s).lki.copies = s.lki.copies ∧
      (State.settle n r s).lki.enables = s.lki.enables ∧ (State.settle n r s).cnt.snap = s.cnt.snap ∧
      (State.settle n r s).cnt.number = s.cnt.number ∧ (State.settle n r s).sts.record = s.sts.record ∧
      (State.settle n r s).sts.serial = s.sts.serial ∧ (State.settle n r s).sts.storeLost = s.sts.storeLost := by
  induction n generalizing s with
  | zero => simp [State.settle]
  | succ n ih => unfold State.settle; split <;> simp [ih]

@[simp] theorem runHead_frame (s : State) :
    s.runHead.powered = s.powered ∧ s.runHead.now = s.now ∧ s.runHead.free = s.free ∧ s.runHead.cud = s.cud ∧
      s.runHead.rpd = s.rpd ∧ s.runHead.pending = s.pending ∧ s.runHead.aq.mode = s.aq.mode ∧
      s.runHead.aq.startMode = s.aq.startMode ∧ s.runHead.tmc.lifter = s.tmc.lifter ∧
      s.runHead.tmc.trayDrive = s.tmc.trayDrive ∧ s.runHead.tmc.qualDue = s.tmc.qualDue ∧
      s.runHead.tmc.trayPresent = s.tmc.trayPresent ∧ s.runHead.tmc.slots = s.tmc.slots ∧
      s.runHead.tmc.size = s.tmc.size ∧ s.runHead.tmc.pos = s.tmc.pos ∧ s.runHead.tmc.gate = s.tmc.gate ∧
      s.runHead.tmc.jam = s.tmc.jam ∧ s.runHead.tmc.comparePos = s.tmc.comparePos ∧
      s.runHead.tmc.par = s.tmc.par ∧ s.runHead.lmc.active = s.lmc.active ∧
      s.runHead.lmc.outLevel = s.lmc.outLevel ∧ s.runHead.lmc.level = s.lmc.level ∧
      s.runHead.lmc.par = s.lmc.par ∧ s.runHead.thc.trip = s.thc.trip ∧ s.runHead.thc.fanFault = s.thc.fanFault ∧
      s.runHead.thc.power = s.thc.power ∧ s.runHead.thc.lost = s.thc.lost ∧ s.runHead.thc.loss30 = s.thc.loss30 ∧
      s.runHead.thc.par = s.thc.par ∧ s.runHead.thc.tm = s.thc.tm ∧ s.runHead.thc.hq = s.thc.hq ∧
      s.runHead.thc.cEff = s.thc.cEff ∧ s.runHead.ttc.st = s.ttc.st ∧ s.runHead.ttc.curVol = s.ttc.curVol ∧
      s.runHead.ttc.servo = s.ttc.servo ∧ s.runHead.ssq.steps = s.ssq.steps ∧ s.runHead.ssq.head = s.ssq.head ∧
      s.runHead.ssq.remembered = s.ssq.remembered ∧ s.runHead.lki.rx = s.lki.rx ∧
      s.runHead.lki.resp = s.lki.resp ∧ s.runHead.lki.addr = s.lki.addr ∧
      s.runHead.lki.assignTaken = s.lki.assignTaken ∧ s.runHead.lki.copies = s.lki.copies ∧
      s.runHead.lki.enables = s.lki.enables ∧ s.runHead.cnt.snap = s.cnt.snap ∧
      s.runHead.cnt.number = s.cnt.number ∧ s.runHead.sts.record = s.sts.record ∧
      s.runHead.sts.serial = s.sts.serial ∧ s.runHead.sts.storeLost = s.sts.storeLost := by
  unfold State.runHead; (try unfold State.whenDue); (try dsimp only)
  (repeat' split) <;> first | (simp; done) | ((repeat' apply And.intro) <;> first | rfl | simp)

@[simp] theorem runHeadQuiet_frame (s : State) :
    s.runHeadQuiet.powered = s.powered ∧ s.runHeadQuiet.now = s.now ∧ s.runHeadQuiet.free = s.free ∧
      s.runHeadQuiet.cud = s.cud ∧ s.runHeadQuiet.rpd = s.rpd ∧ s.runHeadQuiet.pending = s.pending ∧
      s.runHeadQuiet.aq.mode = s.aq.mode ∧ s.runHeadQuiet.aq.startMode = s.aq.startMode ∧
      s.runHeadQuiet.tmc.lifter = s.tmc.lifter ∧ s.runHeadQuiet.tmc.trayDrive = s.tmc.trayDrive ∧
      s.runHeadQuiet.tmc.qualDue = s.tmc.qualDue ∧ s.runHeadQuiet.tmc.trayPresent = s.tmc.trayPresent ∧
      s.runHeadQuiet.tmc.slots = s.tmc.slots ∧ s.runHeadQuiet.tmc.size = s.tmc.size ∧
      s.runHeadQuiet.tmc.pos = s.tmc.pos ∧ s.runHeadQuiet.tmc.gate = s.tmc.gate ∧
      s.runHeadQuiet.tmc.jam = s.tmc.jam ∧ s.runHeadQuiet.tmc.comparePos = s.tmc.comparePos ∧
      s.runHeadQuiet.tmc.par = s.tmc.par ∧ s.runHeadQuiet.lmc.active = s.lmc.active ∧
      s.runHeadQuiet.lmc.outLevel = s.lmc.outLevel ∧ s.runHeadQuiet.lmc.level = s.lmc.level ∧
      s.runHeadQuiet.lmc.par = s.lmc.par ∧ s.runHeadQuiet.thc.trip = s.thc.trip ∧
      s.runHeadQuiet.thc.fanFault = s.thc.fanFault ∧ s.runHeadQuiet.thc.power = s.thc.power ∧
      s.runHeadQuiet.thc.lost = s.thc.lost ∧ s.runHeadQuiet.thc.loss30 = s.thc.loss30 ∧
      s.runHeadQuiet.thc.par = s.thc.par ∧ s.runHeadQuiet.thc.tm = s.thc.tm ∧ s.runHeadQuiet.thc.hq = s.thc.hq ∧
      s.runHeadQuiet.thc.cEff = s.thc.cEff ∧ s.runHeadQuiet.ttc.st = s.ttc.st ∧
      s.runHeadQuiet.ttc.curVol = s.ttc.curVol ∧ s.runHeadQuiet.ttc.servo = s.ttc.servo ∧
      s.runHeadQuiet.ssq.steps = s.ssq.steps ∧ s.runHeadQuiet.ssq.head = s.ssq.head ∧
      s.runHeadQuiet.ssq.remembered = s.ssq.remembered ∧ s.runHeadQuiet.lki.rx = s.lki.rx ∧
      s.runHeadQuiet.lki.resp = s.lki.resp ∧ s.runHeadQuiet.lki.addr = s.lki.addr ∧
      s.runHeadQuiet.lki.assignTaken = s.lki.assignTaken ∧ s.runHeadQuiet.lki.copies = s.lki.copies ∧
      s.runHeadQuiet.lki.enables = s.lki.enables ∧ s.runHeadQuiet.cnt.snap = s.cnt.snap ∧
      s.runHeadQuiet.cnt.number = s.cnt.number ∧ s.runHeadQuiet.sts.record = s.sts.record ∧
      s.runHeadQuiet.sts.serial = s.sts.serial ∧ s.runHeadQuiet.sts.storeLost = s.sts.storeLost := by
  unfold State.runHeadQuiet; (try unfold State.whenDue); (try dsimp only)
  (repeat' split) <;> first | (simp; done) | ((repeat' apply And.intro) <;> first | rfl | simp)

@[simp] theorem endRunning_frame (s : State) (e : Entry) :
    (s.endRunning e).powered = s.powered ∧ (s.endRunning e).now = s.now ∧ (s.endRunning e).free = s.free ∧
      (s.endRunning e).thc = s.thc ∧ (s.endRunning e).ttc = s.ttc ∧ (s.endRunning e).cud = s.cud ∧
      (s.endRunning e).ssq = s.ssq ∧ (s.endRunning e).rpd = s.rpd ∧ (s.endRunning e).lki = s.lki ∧
      (s.endRunning e).cnt = s.cnt ∧ (s.endRunning e).sts = s.sts ∧ (s.endRunning e).pending = s.pending ∧
      (s.endRunning e).aq.mode = s.aq.mode ∧ (s.endRunning e).aq.startMode = s.aq.startMode ∧
      (s.endRunning e).aq.queue = s.aq.queue ∧ (s.endRunning e).aq.stopPending = s.aq.stopPending ∧
      (s.endRunning e).tmc.st = s.tmc.st ∧ (s.endRunning e).tmc.phase = s.tmc.phase ∧
      (s.endRunning e).tmc.timer = s.tmc.timer ∧ (s.endRunning e).tmc.lifter = s.tmc.lifter ∧
      (s.endRunning e).tmc.trayDrive = s.tmc.trayDrive ∧ (s.endRunning e).tmc.qualDue = s.tmc.qualDue ∧
      (s.endRunning e).tmc.trayPresent = s.tmc.trayPresent ∧ (s.endRunning e).tmc.slots = s.tmc.slots ∧
      (s.endRunning e).tmc.size = s.tmc.size ∧ (s.endRunning e).tmc.pos = s.tmc.pos ∧
      (s.endRunning e).tmc.gate = s.tmc.gate ∧ (s.endRunning e).tmc.jam = s.tmc.jam ∧
      (s.endRunning e).tmc.comparePos = s.tmc.comparePos ∧ (s.endRunning e).tmc.par = s.tmc.par ∧
      (s.endRunning e).lmc.power = s.lmc.power ∧ (s.endRunning e).lmc.active = s.lmc.active ∧
      (s.endRunning e).lmc.blanks = s.lmc.blanks ∧ (s.endRunning e).lmc.outLevel = s.lmc.outLevel ∧
      (s.endRunning e).lmc.level = s.lmc.level ∧ (s.endRunning e).lmc.par = s.lmc.par ∧
      (s.endRunning e).lmc.outDrive = s.lmc.outDrive := by
  unfold State.endRunning; (try unfold State.whenDue); (try dsimp only)
  (repeat' split) <;> first | (simp; done) | ((repeat' apply And.intro) <;> first | rfl | simp)

@[simp] theorem flushQueue_frame (s : State) (cover : Entry → Bool) (jam : Bool) :
    (s.flushQueue cover jam).powered = s.powered ∧ (s.flushQueue cover jam).now = s.now ∧
      (s.flushQueue cover jam).free = s.free ∧ (s.flushQueue cover jam).thc = s.thc ∧
      (s.flushQueue cover jam).ttc = s.ttc ∧ (s.flushQueue cover jam).cud = s.cud ∧
      (s.flushQueue cover jam).ssq = s.ssq ∧ (s.flushQueue cover jam).rpd = s.rpd ∧
      (s.flushQueue cover jam).lki = s.lki ∧ (s.flushQueue cover jam).cnt = s.cnt ∧
      (s.flushQueue cover jam).sts = s.sts ∧ (s.flushQueue cover jam).pending = s.pending ∧
      (s.flushQueue cover jam).aq.mode = s.aq.mode ∧ (s.flushQueue cover jam).aq.startMode = s.aq.startMode ∧
      (s.flushQueue cover jam).aq.stopPending = s.aq.stopPending ∧ (s.flushQueue cover jam).tmc.st = s.tmc.st ∧
      (s.flushQueue cover jam).tmc.phase = s.tmc.phase ∧ (s.flushQueue cover jam).tmc.timer = s.tmc.timer ∧
      (s.flushQueue cover jam).tmc.lifter = s.tmc.lifter ∧
      (s.flushQueue cover jam).tmc.trayDrive = s.tmc.trayDrive ∧
      (s.flushQueue cover jam).tmc.qualDue = s.tmc.qualDue ∧
      (s.flushQueue cover jam).tmc.trayPresent = s.tmc.trayPresent ∧
      (s.flushQueue cover jam).tmc.slots = s.tmc.slots ∧ (s.flushQueue cover jam).tmc.size = s.tmc.size ∧
      (s.flushQueue cover jam).tmc.pos = s.tmc.pos ∧ (s.flushQueue cover jam).tmc.gate = s.tmc.gate ∧
      (s.flushQueue cover jam).tmc.jam = s.tmc.jam ∧ (s.flushQueue cover jam).tmc.comparePos = s.tmc.comparePos ∧
      (s.flushQueue cover jam).tmc.par = s.tmc.par ∧ (s.flushQueue cover jam).lmc.power = s.lmc.power ∧
      (s.flushQueue cover jam).lmc.active = s.lmc.active ∧ (s.flushQueue cover jam).lmc.blanks = s.lmc.blanks ∧
      (s.flushQueue cover jam).lmc.outLevel = s.lmc.outLevel ∧ (s.flushQueue cover jam).lmc.level = s.lmc.level ∧
      (s.flushQueue cover jam).lmc.par = s.lmc.par ∧ (s.flushQueue cover jam).lmc.outDrive = s.lmc.outDrive := by
  unfold State.flushQueue; (try unfold State.whenDue); (try dsimp only)
  (repeat' split) <;> first | (simp; done) | ((repeat' apply And.intro) <;> first | rfl | simp)

@[simp] theorem flushReported_frame (s : State) (cover : Entry → Bool) (jam rep : Bool) :
    (s.flushReported cover jam rep).powered = s.powered ∧ (s.flushReported cover jam rep).now = s.now ∧
      (s.flushReported cover jam rep).free = s.free ∧ (s.flushReported cover jam rep).thc = s.thc ∧
      (s.flushReported cover jam rep).ttc = s.ttc ∧ (s.flushReported cover jam rep).cud = s.cud ∧
      (s.flushReported cover jam rep).rpd = s.rpd ∧ (s.flushReported cover jam rep).cnt = s.cnt ∧
      (s.flushReported cover jam rep).sts = s.sts ∧ (s.flushReported cover jam rep).pending = s.pending ∧
      (s.flushReported cover jam rep).aq.mode = s.aq.mode ∧ (s.flushReported cover jam rep).aq.startMode = s.aq.startMode ∧
      (s.flushReported cover jam rep).aq.stopPending = s.aq.stopPending ∧ (s.flushReported cover jam rep).tmc.st = s.tmc.st ∧
      (s.flushReported cover jam rep).tmc.phase = s.tmc.phase ∧ (s.flushReported cover jam rep).tmc.timer = s.tmc.timer ∧
      (s.flushReported cover jam rep).tmc.lifter = s.tmc.lifter ∧
      (s.flushReported cover jam rep).tmc.trayDrive = s.tmc.trayDrive ∧
      (s.flushReported cover jam rep).tmc.qualDue = s.tmc.qualDue ∧
      (s.flushReported cover jam rep).tmc.trayPresent = s.tmc.trayPresent ∧
      (s.flushReported cover jam rep).tmc.slots = s.tmc.slots ∧ (s.flushReported cover jam rep).tmc.size = s.tmc.size ∧
      (s.flushReported cover jam rep).tmc.pos = s.tmc.pos ∧ (s.flushReported cover jam rep).tmc.gate = s.tmc.gate ∧
      (s.flushReported cover jam rep).tmc.jam = s.tmc.jam ∧ (s.flushReported cover jam rep).tmc.comparePos = s.tmc.comparePos ∧
      (s.flushReported cover jam rep).tmc.par = s.tmc.par ∧ (s.flushReported cover jam rep).lmc.power = s.lmc.power ∧
      (s.flushReported cover jam rep).lmc.active = s.lmc.active ∧ (s.flushReported cover jam rep).lmc.blanks = s.lmc.blanks ∧
      (s.flushReported cover jam rep).lmc.outLevel = s.lmc.outLevel ∧ (s.flushReported cover jam rep).lmc.level = s.lmc.level ∧
      (s.flushReported cover jam rep).lmc.par = s.lmc.par ∧ (s.flushReported cover jam rep).lmc.outDrive = s.lmc.outDrive ∧
      (s.flushReported cover jam rep).ssq.steps = s.ssq.steps ∧ (s.flushReported cover jam rep).ssq.head = s.ssq.head ∧
      (s.flushReported cover jam rep).ssq.remembered = s.ssq.remembered ∧ (s.flushReported cover jam rep).lki.rx = s.lki.rx ∧
      (s.flushReported cover jam rep).lki.resp = s.lki.resp ∧ (s.flushReported cover jam rep).lki.addr = s.lki.addr ∧
      (s.flushReported cover jam rep).lki.assignTaken = s.lki.assignTaken ∧
      (s.flushReported cover jam rep).lki.resetting = s.lki.resetting ∧
      (s.flushReported cover jam rep).lki.copies = s.lki.copies ∧ (s.flushReported cover jam rep).lki.enables = s.lki.enables := by
  unfold State.flushReported; (try unfold State.whenDue); (try dsimp only)
  (repeat' split) <;> first | (simp; done) | ((repeat' apply And.intro) <;> first | rfl | simp)

@[simp] theorem flush_frame (s : State) (cover : Entry → Bool) (jam rep : Bool) :
    (s.flush cover jam rep).powered = s.powered ∧ (s.flush cover jam rep).now = s.now ∧
      (s.flush cover jam rep).free = s.free ∧ (s.flush cover jam rep).thc = s.thc ∧
      (s.flush cover jam rep).ttc = s.ttc ∧ (s.flush cover jam rep).cud = s.cud ∧
      (s.flush cover jam rep).rpd = s.rpd ∧ (s.flush cover jam rep).cnt = s.cnt ∧
      (s.flush cover jam rep).sts = s.sts ∧ (s.flush cover jam rep).pending = s.pending ∧
      (s.flush cover jam rep).aq.mode = s.aq.mode ∧ (s.flush cover jam rep).aq.startMode = s.aq.startMode ∧
      (s.flush cover jam rep).aq.stopPending = s.aq.stopPending ∧ (s.flush cover jam rep).tmc.st = s.tmc.st ∧
      (s.flush cover jam rep).tmc.phase = s.tmc.phase ∧ (s.flush cover jam rep).tmc.timer = s.tmc.timer ∧
      (s.flush cover jam rep).tmc.lifter = s.tmc.lifter ∧
      (s.flush cover jam rep).tmc.trayDrive = s.tmc.trayDrive ∧
      (s.flush cover jam rep).tmc.qualDue = s.tmc.qualDue ∧
      (s.flush cover jam rep).tmc.trayPresent = s.tmc.trayPresent ∧
      (s.flush cover jam rep).tmc.slots = s.tmc.slots ∧ (s.flush cover jam rep).tmc.size = s.tmc.size ∧
      (s.flush cover jam rep).tmc.pos = s.tmc.pos ∧ (s.flush cover jam rep).tmc.gate = s.tmc.gate ∧
      (s.flush cover jam rep).tmc.jam = s.tmc.jam ∧ (s.flush cover jam rep).tmc.comparePos = s.tmc.comparePos ∧
      (s.flush cover jam rep).tmc.par = s.tmc.par ∧ (s.flush cover jam rep).lmc.power = s.lmc.power ∧
      (s.flush cover jam rep).lmc.active = s.lmc.active ∧ (s.flush cover jam rep).lmc.blanks = s.lmc.blanks ∧
      (s.flush cover jam rep).lmc.outLevel = s.lmc.outLevel ∧ (s.flush cover jam rep).lmc.level = s.lmc.level ∧
      (s.flush cover jam rep).lmc.par = s.lmc.par ∧ (s.flush cover jam rep).lmc.outDrive = s.lmc.outDrive ∧
      (s.flush cover jam rep).ssq.steps = s.ssq.steps ∧ (s.flush cover jam rep).ssq.head = s.ssq.head ∧
      (s.flush cover jam rep).ssq.remembered = s.ssq.remembered ∧ (s.flush cover jam rep).lki.rx = s.lki.rx ∧
      (s.flush cover jam rep).lki.resp = s.lki.resp ∧ (s.flush cover jam rep).lki.addr = s.lki.addr ∧
      (s.flush cover jam rep).lki.assignTaken = s.lki.assignTaken ∧
      (s.flush cover jam rep).lki.copies = s.lki.copies ∧ (s.flush cover jam rep).lki.enables = s.lki.enables := by
  unfold State.flush; (try unfold State.whenDue); (try dsimp only)
  (repeat' split) <;> first | (simp; done) | ((repeat' apply And.intro) <;> first | rfl | simp)

@[simp] theorem pauseSeq_frame (s : State) :
    s.pauseSeq.powered = s.powered ∧ s.pauseSeq.now = s.now ∧ s.pauseSeq.free = s.free ∧ s.pauseSeq.aq = s.aq ∧
      s.pauseSeq.tmc = s.tmc ∧ s.pauseSeq.lmc = s.lmc ∧ s.pauseSeq.thc = s.thc ∧ s.pauseSeq.cud = s.cud ∧
      s.pauseSeq.rpd = s.rpd ∧ s.pauseSeq.lki = s.lki ∧ s.pauseSeq.cnt = s.cnt ∧ s.pauseSeq.sts = s.sts ∧
      s.pauseSeq.pending = s.pending ∧ s.pauseSeq.ttc.curVol = s.ttc.curVol ∧ s.pauseSeq.ttc.servo = s.ttc.servo ∧
      s.pauseSeq.ssq.steps = s.ssq.steps ∧ s.pauseSeq.ssq.head = s.ssq.head ∧ s.pauseSeq.ssq.ptr = s.ssq.ptr ∧
      s.pauseSeq.ssq.pend = s.ssq.pend ∧ s.pauseSeq.ssq.remembered = s.ssq.remembered := by
  unfold State.pauseSeq; (try unfold State.whenDue); (try dsimp only)
  (repeat' split) <;> first | (simp; done) | ((repeat' apply And.intro) <;> first | rfl | simp)

@[simp] theorem chase_frame (s : State) (j h : Nat) :
    (s.chase j h).powered = s.powered ∧ (s.chase j h).now = s.now ∧ (s.chase j h).free = s.free ∧
      (s.chase j h).cud = s.cud ∧ (s.chase j h).rpd = s.rpd ∧ (s.chase j h).pending = s.pending ∧
      (s.chase j h).aq.mode = s.aq.mode ∧ (s.chase j h).aq.startMode = s.aq.startMode ∧
      (s.chase j h).tmc.lifter = s.tmc.lifter ∧ (s.chase j h).tmc.trayDrive = s.tmc.trayDrive ∧
      (s.chase j h).tmc.qualDue = s.tmc.qualDue ∧ (s.chase j h).tmc.trayPresent = s.tmc.trayPresent ∧
      (s.chase j h).tmc.slots = s.tmc.slots ∧ (s.chase j h).tmc.size = s.tmc.size ∧
      (s.chase j h).tmc.pos = s.tmc.pos ∧ (s.chase j h).tmc.gate = s.tmc.gate ∧
      (s.chase j h).tmc.jam = s.tmc.jam ∧ (s.chase j h).tmc.comparePos = s.tmc.comparePos ∧
      (s.chase j h).tmc.par = s.tmc.par ∧ (s.chase j h).lmc.active = s.lmc.active ∧
      (s.chase j h).lmc.outLevel = s.lmc.outLevel ∧ (s.chase j h).lmc.level = s.lmc.level ∧
      (s.chase j h).lmc.par = s.lmc.par ∧ (s.chase j h).thc.trip = s.thc.trip ∧
      (s.chase j h).thc.fanFault = s.thc.fanFault ∧ (s.chase j h).thc.power = s.thc.power ∧
      (s.chase j h).thc.lost = s.thc.lost ∧ (s.chase j h).thc.loss30 = s.thc.loss30 ∧
      (s.chase j h).thc.par = s.thc.par ∧ (s.chase j h).thc.tm = s.thc.tm ∧ (s.chase j h).thc.hq = s.thc.hq ∧
      (s.chase j h).thc.cEff = s.thc.cEff ∧ (s.chase j h).ttc.st = s.ttc.st ∧
      (s.chase j h).ttc.curVol = s.ttc.curVol ∧ (s.chase j h).ttc.servo = s.ttc.servo ∧
      (s.chase j h).ssq.steps = s.ssq.steps ∧ (s.chase j h).ssq.head = s.ssq.head ∧
      (s.chase j h).ssq.remembered = s.ssq.remembered ∧ (s.chase j h).lki.rx = s.lki.rx ∧
      (s.chase j h).lki.resp = s.lki.resp ∧ (s.chase j h).lki.addr = s.lki.addr ∧
      (s.chase j h).lki.assignTaken = s.lki.assignTaken ∧ (s.chase j h).lki.copies = s.lki.copies ∧
      (s.chase j h).lki.enables = s.lki.enables ∧ (s.chase j h).cnt.snap = s.cnt.snap ∧
      (s.chase j h).cnt.number = s.cnt.number ∧ (s.chase j h).sts.record = s.sts.record ∧
      (s.chase j h).sts.serial = s.sts.serial ∧ (s.chase j h).sts.storeLost = s.sts.storeLost := by
  unfold State.chase; (try unfold State.whenDue); (try dsimp only)
  (repeat' split) <;> first | (simp; done) | ((repeat' apply And.intro) <;> first | rfl | simp)

@[simp] theorem chaseCue_frame (s : State) (n start : Nat) (fromHead : Bool) :
    (s.chaseCue n start fromHead).powered = s.powered ∧ (s.chaseCue n start fromHead).now = s.now ∧
      (s.chaseCue n start fromHead).free = s.free ∧ (s.chaseCue n start fromHead).cud = s.cud ∧
      (s.chaseCue n start fromHead).rpd = s.rpd ∧ (s.chaseCue n start fromHead).pending = s.pending ∧
      (s.chaseCue n start fromHead).aq.mode = s.aq.mode ∧
      (s.chaseCue n start fromHead).aq.startMode = s.aq.startMode ∧
      (s.chaseCue n start fromHead).tmc.lifter = s.tmc.lifter ∧
      (s.chaseCue n start fromHead).tmc.trayDrive = s.tmc.trayDrive ∧
      (s.chaseCue n start fromHead).tmc.qualDue = s.tmc.qualDue ∧
      (s.chaseCue n start fromHead).tmc.trayPresent = s.tmc.trayPresent ∧
      (s.chaseCue n start fromHead).tmc.slots = s.tmc.slots ∧
      (s.chaseCue n start fromHead).tmc.size = s.tmc.size ∧ (s.chaseCue n start fromHead).tmc.pos = s.tmc.pos ∧
      (s.chaseCue n start fromHead).tmc.gate = s.tmc.gate ∧ (s.chaseCue n start fromHead).tmc.jam = s.tmc.jam ∧
      (s.chaseCue n start fromHead).tmc.comparePos = s.tmc.comparePos ∧
      (s.chaseCue n start fromHead).tmc.par = s.tmc.par ∧
      (s.chaseCue n start fromHead).lmc.active = s.lmc.active ∧
      (s.chaseCue n start fromHead).lmc.outLevel = s.lmc.outLevel ∧
      (s.chaseCue n start fromHead).lmc.level = s.lmc.level ∧ (s.chaseCue n start fromHead).lmc.par = s.lmc.par ∧
      (s.chaseCue n start fromHead).thc.trip = s.thc.trip ∧
      (s.chaseCue n start fromHead).thc.fanFault = s.thc.fanFault ∧
      (s.chaseCue n start fromHead).thc.power = s.thc.power ∧
      (s.chaseCue n start fromHead).thc.lost = s.thc.lost ∧
      (s.chaseCue n start fromHead).thc.loss30 = s.thc.loss30 ∧
      (s.chaseCue n start fromHead).thc.par = s.thc.par ∧ (s.chaseCue n start fromHead).thc.tm = s.thc.tm ∧
      (s.chaseCue n start fromHead).thc.hq = s.thc.hq ∧ (s.chaseCue n start fromHead).thc.cEff = s.thc.cEff ∧
      (s.chaseCue n start fromHead).ttc.st = s.ttc.st ∧ (s.chaseCue n start fromHead).ttc.curVol = s.ttc.curVol ∧
      (s.chaseCue n start fromHead).ttc.servo = s.ttc.servo ∧
      (s.chaseCue n start fromHead).ssq.steps = s.ssq.steps ∧
      (s.chaseCue n start fromHead).ssq.head = s.ssq.head ∧
      (s.chaseCue n start fromHead).ssq.remembered = s.ssq.remembered ∧
      (s.chaseCue n start fromHead).lki.rx = s.lki.rx ∧ (s.chaseCue n start fromHead).lki.resp = s.lki.resp ∧
      (s.chaseCue n start fromHead).lki.addr = s.lki.addr ∧
      (s.chaseCue n start fromHead).lki.assignTaken = s.lki.assignTaken ∧
      (s.chaseCue n start fromHead).lki.copies = s.lki.copies ∧
      (s.chaseCue n start fromHead).lki.enables = s.lki.enables ∧
      (s.chaseCue n start fromHead).cnt.snap = s.cnt.snap ∧
      (s.chaseCue n start fromHead).cnt.number = s.cnt.number ∧
      (s.chaseCue n start fromHead).sts.record = s.sts.record ∧
      (s.chaseCue n start fromHead).sts.serial = s.sts.serial ∧
      (s.chaseCue n start fromHead).sts.storeLost = s.sts.storeLost := by
  unfold State.chaseCue; (try unfold State.whenDue); (try dsimp only)
  (repeat' split) <;> first | (simp; done) | ((repeat' apply And.intro) <;> first | rfl | simp)

@[simp] theorem seqCue_frame (s : State) (n : Nat) :
    (s.seqCue n).powered = s.powered ∧ (s.seqCue n).now = s.now ∧ (s.seqCue n).free = s.free ∧
      (s.seqCue n).cud = s.cud ∧ (s.seqCue n).rpd = s.rpd ∧ (s.seqCue n).pending = s.pending ∧
      (s.seqCue n).aq.mode = s.aq.mode ∧ (s.seqCue n).aq.startMode = s.aq.startMode ∧
      (s.seqCue n).tmc.lifter = s.tmc.lifter ∧ (s.seqCue n).tmc.trayDrive = s.tmc.trayDrive ∧
      (s.seqCue n).tmc.qualDue = s.tmc.qualDue ∧ (s.seqCue n).tmc.trayPresent = s.tmc.trayPresent ∧
      (s.seqCue n).tmc.slots = s.tmc.slots ∧ (s.seqCue n).tmc.size = s.tmc.size ∧
      (s.seqCue n).tmc.pos = s.tmc.pos ∧ (s.seqCue n).tmc.gate = s.tmc.gate ∧ (s.seqCue n).tmc.jam = s.tmc.jam ∧
      (s.seqCue n).tmc.comparePos = s.tmc.comparePos ∧ (s.seqCue n).tmc.par = s.tmc.par ∧
      (s.seqCue n).lmc.active = s.lmc.active ∧ (s.seqCue n).lmc.outLevel = s.lmc.outLevel ∧
      (s.seqCue n).lmc.level = s.lmc.level ∧ (s.seqCue n).lmc.par = s.lmc.par ∧
      (s.seqCue n).thc.trip = s.thc.trip ∧ (s.seqCue n).thc.fanFault = s.thc.fanFault ∧
      (s.seqCue n).thc.power = s.thc.power ∧ (s.seqCue n).thc.lost = s.thc.lost ∧
      (s.seqCue n).thc.loss30 = s.thc.loss30 ∧ (s.seqCue n).thc.par = s.thc.par ∧ (s.seqCue n).thc.tm = s.thc.tm ∧
      (s.seqCue n).thc.hq = s.thc.hq ∧ (s.seqCue n).thc.cEff = s.thc.cEff ∧ (s.seqCue n).ttc.st = s.ttc.st ∧
      (s.seqCue n).ttc.curVol = s.ttc.curVol ∧ (s.seqCue n).ttc.servo = s.ttc.servo ∧
      (s.seqCue n).ssq.steps = s.ssq.steps ∧ (s.seqCue n).ssq.head = s.ssq.head ∧ (s.seqCue n).lki.rx = s.lki.rx ∧
      (s.seqCue n).lki.resp = s.lki.resp ∧ (s.seqCue n).lki.addr = s.lki.addr ∧
      (s.seqCue n).lki.assignTaken = s.lki.assignTaken ∧ (s.seqCue n).lki.copies = s.lki.copies ∧
      (s.seqCue n).lki.enables = s.lki.enables ∧ (s.seqCue n).cnt.snap = s.cnt.snap ∧
      (s.seqCue n).cnt.number = s.cnt.number ∧ (s.seqCue n).sts.record = s.sts.record ∧
      (s.seqCue n).sts.serial = s.sts.serial ∧ (s.seqCue n).sts.storeLost = s.sts.storeLost := by
  unfold State.seqCue; (try unfold State.whenDue); (try dsimp only)
  (repeat' split) <;> first | (simp; done) | ((repeat' apply And.intro) <;> first | rfl | simp)

@[simp] theorem seqTime_frame (s : State) (v : Nat) :
    (s.seqTime v).powered = s.powered ∧ (s.seqTime v).now = s.now ∧ (s.seqTime v).free = s.free ∧
      (s.seqTime v).tmc = s.tmc ∧ (s.seqTime v).lmc = s.lmc ∧ (s.seqTime v).thc = s.thc ∧
      (s.seqTime v).ttc = s.ttc ∧ (s.seqTime v).cud = s.cud ∧ (s.seqTime v).rpd = s.rpd ∧
      (s.seqTime v).cnt = s.cnt ∧ (s.seqTime v).sts = s.sts ∧ (s.seqTime v).pending = s.pending ∧
      (s.seqTime v).aq.mode = s.aq.mode ∧ (s.seqTime v).aq.startMode = s.aq.startMode ∧
      (s.seqTime v).aq.stopPending = s.aq.stopPending ∧ (s.seqTime v).aq.holdDue = s.aq.holdDue ∧
      (s.seqTime v).ssq.steps = s.ssq.steps ∧ (s.seqTime v).ssq.head = s.ssq.head ∧
      (s.seqTime v).ssq.remembered = s.ssq.remembered ∧ (s.seqTime v).lki.rx = s.lki.rx ∧
      (s.seqTime v).lki.resp = s.lki.resp ∧ (s.seqTime v).lki.addr = s.lki.addr ∧
      (s.seqTime v).lki.assignTaken = s.lki.assignTaken ∧ (s.seqTime v).lki.resetting = s.lki.resetting ∧
      (s.seqTime v).lki.copies = s.lki.copies ∧ (s.seqTime v).lki.enables = s.lki.enables := by
  unfold State.seqTime; (try unfold State.whenDue); (try dsimp only)
  (repeat' split) <;> first | (simp; done) | ((repeat' apply And.intro) <;> first | rfl | simp)

@[simp] theorem handCue_frame (s : State) (n : Nat) :
    (s.handCue n).powered = s.powered ∧ (s.handCue n).now = s.now ∧ (s.handCue n).free = s.free ∧
      (s.handCue n).cud = s.cud ∧ (s.handCue n).rpd = s.rpd ∧ (s.handCue n).pending = s.pending ∧
      (s.handCue n).aq.mode = s.aq.mode ∧ (s.handCue n).aq.startMode = s.aq.startMode ∧
      (s.handCue n).tmc.lifter = s.tmc.lifter ∧ (s.handCue n).tmc.trayDrive = s.tmc.trayDrive ∧
      (s.handCue n).tmc.qualDue = s.tmc.qualDue ∧ (s.handCue n).tmc.trayPresent = s.tmc.trayPresent ∧
      (s.handCue n).tmc.slots = s.tmc.slots ∧ (s.handCue n).tmc.size = s.tmc.size ∧
      (s.handCue n).tmc.pos = s.tmc.pos ∧ (s.handCue n).tmc.gate = s.tmc.gate ∧
      (s.handCue n).tmc.jam = s.tmc.jam ∧ (s.handCue n).tmc.comparePos = s.tmc.comparePos ∧
      (s.handCue n).tmc.par = s.tmc.par ∧ (s.handCue n).lmc.active = s.lmc.active ∧
      (s.handCue n).lmc.outLevel = s.lmc.outLevel ∧ (s.handCue n).lmc.level = s.lmc.level ∧
      (s.handCue n).lmc.par = s.lmc.par ∧ (s.handCue n).thc.trip = s.thc.trip ∧
      (s.handCue n).thc.fanFault = s.thc.fanFault ∧ (s.handCue n).thc.power = s.thc.power ∧
      (s.handCue n).thc.lost = s.thc.lost ∧ (s.handCue n).thc.loss30 = s.thc.loss30 ∧
      (s.handCue n).thc.par = s.thc.par ∧ (s.handCue n).thc.tm = s.thc.tm ∧ (s.handCue n).thc.hq = s.thc.hq ∧
      (s.handCue n).thc.cEff = s.thc.cEff ∧ (s.handCue n).ttc.st = s.ttc.st ∧
      (s.handCue n).ttc.curVol = s.ttc.curVol ∧ (s.handCue n).ttc.servo = s.ttc.servo ∧
      (s.handCue n).ssq.steps = s.ssq.steps ∧ (s.handCue n).ssq.head = s.ssq.head ∧
      (s.handCue n).lki.rx = s.lki.rx ∧ (s.handCue n).lki.resp = s.lki.resp ∧
      (s.handCue n).lki.addr = s.lki.addr ∧ (s.handCue n).lki.assignTaken = s.lki.assignTaken ∧
      (s.handCue n).lki.copies = s.lki.copies ∧ (s.handCue n).lki.enables = s.lki.enables ∧
      (s.handCue n).cnt.snap = s.cnt.snap ∧ (s.handCue n).cnt.number = s.cnt.number ∧
      (s.handCue n).sts.record = s.sts.record ∧ (s.handCue n).sts.serial = s.sts.serial ∧
      (s.handCue n).sts.storeLost = s.sts.storeLost := by
  unfold State.handCue; (try unfold State.whenDue); (try dsimp only)
  (repeat' split) <;> first | (simp; done) | ((repeat' apply And.intro) <;> first | rfl | simp)

@[simp] theorem handTime_frame (s : State) (v : Nat) :
    (s.handTime v).powered = s.powered ∧ (s.handTime v).now = s.now ∧ (s.handTime v).free = s.free ∧
      (s.handTime v).tmc = s.tmc ∧ (s.handTime v).lmc = s.lmc ∧ (s.handTime v).thc = s.thc ∧
      (s.handTime v).ttc = s.ttc ∧ (s.handTime v).cud = s.cud ∧ (s.handTime v).rpd = s.rpd ∧
      (s.handTime v).cnt = s.cnt ∧ (s.handTime v).sts = s.sts ∧ (s.handTime v).pending = s.pending ∧
      (s.handTime v).aq.mode = s.aq.mode ∧ (s.handTime v).aq.startMode = s.aq.startMode ∧
      (s.handTime v).aq.stopPending = s.aq.stopPending ∧ (s.handTime v).aq.holdDue = s.aq.holdDue ∧
      (s.handTime v).ssq.steps = s.ssq.steps ∧ (s.handTime v).ssq.head = s.ssq.head ∧
      (s.handTime v).ssq.remembered = s.ssq.remembered ∧ (s.handTime v).lki.rx = s.lki.rx ∧
      (s.handTime v).lki.resp = s.lki.resp ∧ (s.handTime v).lki.addr = s.lki.addr ∧
      (s.handTime v).lki.assignTaken = s.lki.assignTaken ∧ (s.handTime v).lki.resetting = s.lki.resetting ∧
      (s.handTime v).lki.copies = s.lki.copies ∧ (s.handTime v).lki.enables = s.lki.enables := by
  unfold State.handTime; (try unfold State.whenDue); (try dsimp only)
  (repeat' split) <;> first | (simp; done) | ((repeat' apply And.intro) <;> first | rfl | simp)

@[simp] theorem advanceSeq_frame (s : State) :
    s.advanceSeq.powered = s.powered ∧ s.advanceSeq.now = s.now ∧ s.advanceSeq.free = s.free ∧
      s.advanceSeq.tmc = s.tmc ∧ s.advanceSeq.lmc = s.lmc ∧ s.advanceSeq.thc = s.thc ∧ s.advanceSeq.ttc = s.ttc ∧
      s.advanceSeq.cud = s.cud ∧ s.advanceSeq.rpd = s.rpd ∧ s.advanceSeq.cnt = s.cnt ∧ s.advanceSeq.sts = s.sts ∧
      s.advanceSeq.pending = s.pending ∧ s.advanceSeq.aq.mode = s.aq.mode ∧
      s.advanceSeq.aq.startMode = s.aq.startMode ∧ s.advanceSeq.aq.stopPending = s.aq.stopPending ∧
      s.advanceSeq.aq.holdDue = s.aq.holdDue ∧ s.advanceSeq.ssq.steps = s.ssq.steps ∧
      s.advanceSeq.ssq.head = s.ssq.head ∧ s.advanceSeq.ssq.remembered = s.ssq.remembered ∧
      s.advanceSeq.lki.rx = s.lki.rx ∧ s.advanceSeq.lki.resp = s.lki.resp ∧ s.advanceSeq.lki.addr = s.lki.addr ∧
      s.advanceSeq.lki.assignTaken = s.lki.assignTaken ∧ s.advanceSeq.lki.resetting = s.lki.resetting ∧
      s.advanceSeq.lki.copies = s.lki.copies ∧ s.advanceSeq.lki.enables = s.lki.enables := by
  unfold State.advanceSeq; (try unfold State.whenDue); (try dsimp only)
  (repeat' split) <;> first | (simp; done) | ((repeat' apply And.intro) <;> first | rfl | simp)

@[simp] theorem judgeRemembered_frame (s : State) :
    s.judgeRemembered.powered = s.powered ∧ s.judgeRemembered.now = s.now ∧ s.judgeRemembered.free = s.free ∧
      s.judgeRemembered.cud = s.cud ∧ s.judgeRemembered.rpd = s.rpd ∧ s.judgeRemembered.pending = s.pending ∧
      s.judgeRemembered.aq.mode = s.aq.mode ∧ s.judgeRemembered.aq.startMode = s.aq.startMode ∧
      s.judgeRemembered.tmc.lifter = s.tmc.lifter ∧ s.judgeRemembered.tmc.trayDrive = s.tmc.trayDrive ∧
      s.judgeRemembered.tmc.qualDue = s.tmc.qualDue ∧ s.judgeRemembered.tmc.trayPresent = s.tmc.trayPresent ∧
      s.judgeRemembered.tmc.slots = s.tmc.slots ∧ s.judgeRemembered.tmc.size = s.tmc.size ∧
      s.judgeRemembered.tmc.pos = s.tmc.pos ∧ s.judgeRemembered.tmc.gate = s.tmc.gate ∧
      s.judgeRemembered.tmc.jam = s.tmc.jam ∧ s.judgeRemembered.tmc.comparePos = s.tmc.comparePos ∧
      s.judgeRemembered.tmc.par = s.tmc.par ∧ s.judgeRemembered.lmc.active = s.lmc.active ∧
      s.judgeRemembered.lmc.outLevel = s.lmc.outLevel ∧ s.judgeRemembered.lmc.level = s.lmc.level ∧
      s.judgeRemembered.lmc.par = s.lmc.par ∧ s.judgeRemembered.thc.trip = s.thc.trip ∧
      s.judgeRemembered.thc.fanFault = s.thc.fanFault ∧ s.judgeRemembered.thc.power = s.thc.power ∧
      s.judgeRemembered.thc.lost = s.thc.lost ∧ s.judgeRemembered.thc.loss30 = s.thc.loss30 ∧
      s.judgeRemembered.thc.par = s.thc.par ∧ s.judgeRemembered.thc.tm = s.thc.tm ∧
      s.judgeRemembered.thc.hq = s.thc.hq ∧ s.judgeRemembered.thc.cEff = s.thc.cEff ∧
      s.judgeRemembered.ttc.st = s.ttc.st ∧ s.judgeRemembered.ttc.curVol = s.ttc.curVol ∧
      s.judgeRemembered.ttc.servo = s.ttc.servo ∧ s.judgeRemembered.ssq.steps = s.ssq.steps ∧
      s.judgeRemembered.ssq.head = s.ssq.head ∧ s.judgeRemembered.lki.rx = s.lki.rx ∧
      s.judgeRemembered.lki.resp = s.lki.resp ∧ s.judgeRemembered.lki.addr = s.lki.addr ∧
      s.judgeRemembered.lki.assignTaken = s.lki.assignTaken ∧ s.judgeRemembered.lki.copies = s.lki.copies ∧
      s.judgeRemembered.lki.enables = s.lki.enables ∧ s.judgeRemembered.cnt.snap = s.cnt.snap ∧
      s.judgeRemembered.cnt.number = s.cnt.number ∧ s.judgeRemembered.sts.record = s.sts.record ∧
      s.judgeRemembered.sts.serial = s.sts.serial ∧ s.judgeRemembered.sts.storeLost = s.sts.storeLost := by
  unfold State.judgeRemembered; (try unfold State.whenDue); (try dsimp only)
  (repeat' split) <;> first | (simp; done) | ((repeat' apply And.intro) <;> first | rfl | simp)

@[simp] theorem resumeSeq_frame (s : State) :
    s.resumeSeq.powered = s.powered ∧ s.resumeSeq.now = s.now ∧ s.resumeSeq.free = s.free ∧ s.resumeSeq.cud = s.cud ∧
      s.resumeSeq.rpd = s.rpd ∧ s.resumeSeq.pending = s.pending ∧ s.resumeSeq.aq.mode = s.aq.mode ∧
      s.resumeSeq.aq.startMode = s.aq.startMode ∧ s.resumeSeq.tmc.lifter = s.tmc.lifter ∧
      s.resumeSeq.tmc.trayDrive = s.tmc.trayDrive ∧ s.resumeSeq.tmc.qualDue = s.tmc.qualDue ∧
      s.resumeSeq.tmc.trayPresent = s.tmc.trayPresent ∧ s.resumeSeq.tmc.slots = s.tmc.slots ∧
      s.resumeSeq.tmc.size = s.tmc.size ∧ s.resumeSeq.tmc.pos = s.tmc.pos ∧ s.resumeSeq.tmc.gate = s.tmc.gate ∧
      s.resumeSeq.tmc.jam = s.tmc.jam ∧ s.resumeSeq.tmc.comparePos = s.tmc.comparePos ∧
      s.resumeSeq.tmc.par = s.tmc.par ∧ s.resumeSeq.lmc.active = s.lmc.active ∧
      s.resumeSeq.lmc.outLevel = s.lmc.outLevel ∧ s.resumeSeq.lmc.level = s.lmc.level ∧
      s.resumeSeq.lmc.par = s.lmc.par ∧ s.resumeSeq.thc.trip = s.thc.trip ∧
      s.resumeSeq.thc.fanFault = s.thc.fanFault ∧ s.resumeSeq.thc.power = s.thc.power ∧
      s.resumeSeq.thc.lost = s.thc.lost ∧ s.resumeSeq.thc.loss30 = s.thc.loss30 ∧
      s.resumeSeq.thc.par = s.thc.par ∧ s.resumeSeq.thc.tm = s.thc.tm ∧ s.resumeSeq.thc.hq = s.thc.hq ∧
      s.resumeSeq.thc.cEff = s.thc.cEff ∧ s.resumeSeq.ttc.curVol = s.ttc.curVol ∧
      s.resumeSeq.ttc.servo = s.ttc.servo ∧ s.resumeSeq.ssq.steps = s.ssq.steps ∧
      s.resumeSeq.ssq.head = s.ssq.head ∧ s.resumeSeq.lki.rx = s.lki.rx ∧ s.resumeSeq.lki.resp = s.lki.resp ∧
      s.resumeSeq.lki.addr = s.lki.addr ∧ s.resumeSeq.lki.assignTaken = s.lki.assignTaken ∧
      s.resumeSeq.lki.copies = s.lki.copies ∧ s.resumeSeq.lki.enables = s.lki.enables ∧
      s.resumeSeq.cnt.snap = s.cnt.snap ∧ s.resumeSeq.cnt.number = s.cnt.number ∧
      s.resumeSeq.sts.record = s.sts.record ∧ s.resumeSeq.sts.serial = s.sts.serial ∧
      s.resumeSeq.sts.storeLost = s.sts.storeLost := by
  unfold State.resumeSeq; (try unfold State.whenDue); (try dsimp only)
  (repeat' split) <;> first | (simp; done) | ((repeat' apply And.intro) <;> first | rfl | simp)

@[simp] theorem restartSeq_frame (s : State) :
    s.restartSeq.powered = s.powered ∧ s.restartSeq.now = s.now ∧ s.restartSeq.free = s.free ∧
      s.restartSeq.cud = s.cud ∧ s.restartSeq.rpd = s.rpd ∧ s.restartSeq.pending = s.pending ∧
      s.restartSeq.aq.mode = s.aq.mode ∧ s.restartSeq.aq.startMode = s.aq.startMode ∧
      s.restartSeq.tmc.lifter = s.tmc.lifter ∧ s.restartSeq.tmc.trayDrive = s.tmc.trayDrive ∧
      s.restartSeq.tmc.qualDue = s.tmc.qualDue ∧ s.restartSeq.tmc.trayPresent = s.tmc.trayPresent ∧
      s.restartSeq.tmc.slots = s.tmc.slots ∧ s.restartSeq.tmc.size = s.tmc.size ∧
      s.restartSeq.tmc.pos = s.tmc.pos ∧ s.restartSeq.tmc.gate = s.tmc.gate ∧ s.restartSeq.tmc.jam = s.tmc.jam ∧
      s.restartSeq.tmc.comparePos = s.tmc.comparePos ∧ s.restartSeq.tmc.par = s.tmc.par ∧
      s.restartSeq.lmc.active = s.lmc.active ∧ s.restartSeq.lmc.outLevel = s.lmc.outLevel ∧
      s.restartSeq.lmc.level = s.lmc.level ∧ s.restartSeq.lmc.par = s.lmc.par ∧
      s.restartSeq.thc.trip = s.thc.trip ∧ s.restartSeq.thc.fanFault = s.thc.fanFault ∧
      s.restartSeq.thc.power = s.thc.power ∧ s.restartSeq.thc.lost = s.thc.lost ∧
      s.restartSeq.thc.loss30 = s.thc.loss30 ∧ s.restartSeq.thc.par = s.thc.par ∧ s.restartSeq.thc.tm = s.thc.tm ∧
      s.restartSeq.thc.hq = s.thc.hq ∧ s.restartSeq.thc.cEff = s.thc.cEff ∧ s.restartSeq.ttc.st = s.ttc.st ∧
      s.restartSeq.ttc.curVol = s.ttc.curVol ∧ s.restartSeq.ttc.servo = s.ttc.servo ∧
      s.restartSeq.ssq.steps = s.ssq.steps ∧ s.restartSeq.ssq.head = s.ssq.head ∧ s.restartSeq.lki.rx = s.lki.rx ∧
      s.restartSeq.lki.resp = s.lki.resp ∧ s.restartSeq.lki.addr = s.lki.addr ∧
      s.restartSeq.lki.assignTaken = s.lki.assignTaken ∧ s.restartSeq.lki.copies = s.lki.copies ∧
      s.restartSeq.lki.enables = s.lki.enables ∧ s.restartSeq.cnt.snap = s.cnt.snap ∧
      s.restartSeq.cnt.number = s.cnt.number ∧ s.restartSeq.sts.record = s.sts.record ∧
      s.restartSeq.sts.serial = s.sts.serial ∧ s.restartSeq.sts.storeLost = s.sts.storeLost := by
  unfold State.restartSeq; (try unfold State.whenDue); (try dsimp only)
  (repeat' split) <;> first | (simp; done) | ((repeat' apply And.intro) <;> first | rfl | simp)

@[simp] theorem armSeq_frame (s : State) (head : Nat) :
    (s.armSeq head).powered = s.powered ∧ (s.armSeq head).now = s.now ∧ (s.armSeq head).free = s.free ∧
      (s.armSeq head).cud = s.cud ∧ (s.armSeq head).rpd = s.rpd ∧ (s.armSeq head).pending = s.pending ∧
      (s.armSeq head).aq.mode = s.aq.mode ∧ (s.armSeq head).aq.startMode = s.aq.startMode ∧
      (s.armSeq head).tmc.lifter = s.tmc.lifter ∧ (s.armSeq head).tmc.trayDrive = s.tmc.trayDrive ∧
      (s.armSeq head).tmc.qualDue = s.tmc.qualDue ∧ (s.armSeq head).tmc.trayPresent = s.tmc.trayPresent ∧
      (s.armSeq head).tmc.slots = s.tmc.slots ∧ (s.armSeq head).tmc.size = s.tmc.size ∧
      (s.armSeq head).tmc.pos = s.tmc.pos ∧ (s.armSeq head).tmc.gate = s.tmc.gate ∧
      (s.armSeq head).tmc.jam = s.tmc.jam ∧ (s.armSeq head).tmc.comparePos = s.tmc.comparePos ∧
      (s.armSeq head).tmc.par = s.tmc.par ∧ (s.armSeq head).lmc.active = s.lmc.active ∧
      (s.armSeq head).lmc.outLevel = s.lmc.outLevel ∧ (s.armSeq head).lmc.level = s.lmc.level ∧
      (s.armSeq head).lmc.par = s.lmc.par ∧ (s.armSeq head).thc.trip = s.thc.trip ∧
      (s.armSeq head).thc.fanFault = s.thc.fanFault ∧ (s.armSeq head).thc.power = s.thc.power ∧
      (s.armSeq head).thc.lost = s.thc.lost ∧ (s.armSeq head).thc.loss30 = s.thc.loss30 ∧
      (s.armSeq head).thc.par = s.thc.par ∧ (s.armSeq head).thc.tm = s.thc.tm ∧
      (s.armSeq head).thc.hq = s.thc.hq ∧ (s.armSeq head).thc.cEff = s.thc.cEff ∧
      (s.armSeq head).ttc.st = s.ttc.st ∧ (s.armSeq head).ttc.curVol = s.ttc.curVol ∧
      (s.armSeq head).ttc.servo = s.ttc.servo ∧ (s.armSeq head).ssq.steps = s.ssq.steps ∧
      (s.armSeq head).lki.rx = s.lki.rx ∧ (s.armSeq head).lki.resp = s.lki.resp ∧
      (s.armSeq head).lki.addr = s.lki.addr ∧ (s.armSeq head).lki.assignTaken = s.lki.assignTaken ∧
      (s.armSeq head).lki.copies = s.lki.copies ∧ (s.armSeq head).lki.enables = s.lki.enables ∧
      (s.armSeq head).cnt.snap = s.cnt.snap ∧ (s.armSeq head).cnt.number = s.cnt.number ∧
      (s.armSeq head).sts.record = s.sts.record ∧ (s.armSeq head).sts.serial = s.sts.serial ∧
      (s.armSeq head).sts.storeLost = s.sts.storeLost := by
  unfold State.armSeq; (try unfold State.whenDue); (try dsimp only)
  (repeat' split) <;> first | (simp; done) | ((repeat' apply And.intro) <;> first | rfl | simp)

@[simp] theorem stopAll_frame (s : State) :
    s.stopAll.powered = s.powered ∧ s.stopAll.now = s.now ∧ s.stopAll.free = s.free ∧ s.stopAll.thc = s.thc ∧
      s.stopAll.cud = s.cud ∧ s.stopAll.rpd = s.rpd ∧ s.stopAll.cnt = s.cnt ∧ s.stopAll.sts = s.sts ∧
      s.stopAll.pending = s.pending := by
  unfold State.stopAll; (try unfold State.whenDue); (try dsimp only)
  (repeat' split) <;> first | (simp; done) | ((repeat' apply And.intro) <;> first | rfl | simp)

@[simp] theorem standby_frame (s : State) :
    s.standby.powered = s.powered ∧ s.standby.now = s.now ∧ s.standby.free = s.free ∧ s.standby.aq = s.aq ∧
      s.standby.tmc = s.tmc ∧ s.standby.cud = s.cud ∧ s.standby.rpd = s.rpd ∧ s.standby.cnt = s.cnt ∧
      s.standby.pending = s.pending ∧ s.standby.lmc.active = s.lmc.active ∧ s.standby.lmc.blanks = s.lmc.blanks ∧
      s.standby.lmc.outLevel = s.lmc.outLevel ∧ s.standby.lmc.level = s.lmc.level ∧
      s.standby.lmc.par = s.lmc.par ∧ s.standby.thc.trip = s.thc.trip ∧ s.standby.thc.fanFault = s.thc.fanFault ∧
      s.standby.thc.lost = s.thc.lost ∧ s.standby.thc.loss30 = s.thc.loss30 ∧ s.standby.thc.par = s.thc.par ∧
      s.standby.thc.tm = s.thc.tm ∧ s.standby.thc.hq = s.thc.hq ∧ s.standby.thc.cEff = s.thc.cEff ∧
      s.standby.ttc.curVol = s.ttc.curVol ∧ s.standby.ttc.servo = s.ttc.servo ∧
      s.standby.ssq.steps = s.ssq.steps ∧ s.standby.ssq.head = s.ssq.head ∧ s.standby.ssq.ptr = s.ssq.ptr ∧
      s.standby.ssq.pend = s.ssq.pend ∧ s.standby.ssq.remembered = s.ssq.remembered ∧
      s.standby.lki.rx = s.lki.rx ∧ s.standby.lki.resp = s.lki.resp ∧ s.standby.lki.addr = s.lki.addr ∧
      s.standby.lki.assignTaken = s.lki.assignTaken ∧ s.standby.lki.resetting = s.lki.resetting ∧
      s.standby.lki.copies = s.lki.copies ∧ s.standby.lki.enables = s.lki.enables ∧
      s.standby.sts.record = s.sts.record ∧ s.standby.sts.serial = s.sts.serial ∧
      s.standby.sts.storeLost = s.sts.storeLost := by
  unfold State.standby; (try unfold State.whenDue); (try dsimp only)
  (repeat' split) <;> first | (simp; done) | ((repeat' apply And.intro) <;> first | rfl | simp)

@[simp] theorem wake_frame (s : State) :
    s.wake.powered = s.powered ∧ s.wake.now = s.now ∧ s.wake.free = s.free ∧ s.wake.aq = s.aq ∧ s.wake.ttc = s.ttc ∧
      s.wake.cud = s.cud ∧ s.wake.ssq = s.ssq ∧ s.wake.rpd = s.rpd ∧ s.wake.lki = s.lki ∧ s.wake.cnt = s.cnt ∧
      s.wake.sts = s.sts ∧ s.wake.pending = s.pending ∧ s.wake.tmc.lifter = s.tmc.lifter ∧
      s.wake.tmc.trayDrive = s.tmc.trayDrive ∧ s.wake.tmc.qualDue = s.tmc.qualDue ∧
      s.wake.tmc.trayPresent = s.tmc.trayPresent ∧ s.wake.tmc.slots = s.tmc.slots ∧ s.wake.tmc.size = s.tmc.size ∧
      s.wake.tmc.pos = s.tmc.pos ∧ s.wake.tmc.gate = s.tmc.gate ∧ s.wake.tmc.jam = s.tmc.jam ∧
      s.wake.tmc.comparePos = s.tmc.comparePos ∧ s.wake.tmc.par = s.tmc.par ∧ s.wake.lmc.power = s.lmc.power ∧
      s.wake.lmc.active = s.lmc.active ∧ s.wake.lmc.outLevel = s.lmc.outLevel ∧ s.wake.lmc.level = s.lmc.level ∧
      s.wake.lmc.par = s.lmc.par ∧ s.wake.lmc.outDrive = s.lmc.outDrive ∧ s.wake.thc.trip = s.thc.trip ∧
      s.wake.thc.fanFault = s.thc.fanFault ∧ s.wake.thc.lost = s.thc.lost ∧ s.wake.thc.loss30 = s.thc.loss30 ∧
      s.wake.thc.par = s.thc.par ∧ s.wake.thc.tm = s.thc.tm ∧ s.wake.thc.hq = s.thc.hq ∧
      s.wake.thc.cEff = s.thc.cEff := by
  unfold State.wake; (try unfold State.whenDue); (try dsimp only)
  (repeat' split) <;> first | (simp; done) | ((repeat' apply And.intro) <;> first | rfl | simp)

@[simp] theorem powerOnLamp_frame (s : State) :
    s.powerOnLamp.powered = s.powered ∧ s.powerOnLamp.now = s.now ∧ s.powerOnLamp.free = s.free ∧
      s.powerOnLamp.aq = s.aq ∧ s.powerOnLamp.tmc = s.tmc ∧ s.powerOnLamp.ttc = s.ttc ∧
      s.powerOnLamp.cud = s.cud ∧ s.powerOnLamp.ssq = s.ssq ∧ s.powerOnLamp.rpd = s.rpd ∧
      s.powerOnLamp.pending = s.pending ∧ s.powerOnLamp.lmc.active = s.lmc.active ∧
      s.powerOnLamp.lmc.blanks.mech = s.lmc.blanks.mech ∧ s.powerOnLamp.lmc.outLevel = s.lmc.outLevel ∧
      s.powerOnLamp.lmc.level = s.lmc.level ∧ s.powerOnLamp.lmc.par = s.lmc.par ∧
      s.powerOnLamp.thc.trip = s.thc.trip ∧ s.powerOnLamp.thc.fanFault = s.thc.fanFault ∧
      s.powerOnLamp.thc.power = s.thc.power ∧ s.powerOnLamp.thc.lost = s.thc.lost ∧
      s.powerOnLamp.thc.loss30 = s.thc.loss30 ∧ s.powerOnLamp.thc.par = s.thc.par ∧
      s.powerOnLamp.thc.tm = s.thc.tm ∧ s.powerOnLamp.thc.hq = s.thc.hq ∧ s.powerOnLamp.thc.cEff = s.thc.cEff ∧
      s.powerOnLamp.lki.rx = s.lki.rx ∧ s.powerOnLamp.lki.resp = s.lki.resp ∧
      s.powerOnLamp.lki.addr = s.lki.addr ∧ s.powerOnLamp.lki.assignTaken = s.lki.assignTaken ∧
      s.powerOnLamp.lki.resetting = s.lki.resetting ∧ s.powerOnLamp.lki.copies = s.lki.copies ∧
      s.powerOnLamp.lki.enables = s.lki.enables ∧ s.powerOnLamp.cnt.snap = s.cnt.snap ∧
      s.powerOnLamp.cnt.number = s.cnt.number ∧ s.powerOnLamp.sts.record = s.sts.record ∧
      s.powerOnLamp.sts.serial = s.sts.serial ∧ s.powerOnLamp.sts.storeLost = s.sts.storeLost := by
  unfold State.powerOnLamp; (try unfold State.whenDue); (try dsimp only)
  (repeat' split) <;> first | (simp; done) | ((repeat' apply And.intro) <;> first | rfl | simp)

@[simp] theorem enterIdle_frame (s : State) :
    s.enterIdle.powered = s.powered ∧ s.enterIdle.now = s.now ∧ s.enterIdle.free = s.free ∧ s.enterIdle.cud = s.cud ∧
      s.enterIdle.rpd = s.rpd ∧ s.enterIdle.pending = s.pending ∧ s.enterIdle.aq.mode = s.aq.mode ∧
      s.enterIdle.aq.startMode = s.aq.startMode ∧ s.enterIdle.tmc.lifter = s.tmc.lifter ∧
      s.enterIdle.tmc.trayDrive = s.tmc.trayDrive ∧ s.enterIdle.tmc.qualDue = s.tmc.qualDue ∧
      s.enterIdle.tmc.trayPresent = s.tmc.trayPresent ∧ s.enterIdle.tmc.slots = s.tmc.slots ∧
      s.enterIdle.tmc.size = s.tmc.size ∧ s.enterIdle.tmc.pos = s.tmc.pos ∧ s.enterIdle.tmc.gate = s.tmc.gate ∧
      s.enterIdle.tmc.jam = s.tmc.jam ∧ s.enterIdle.tmc.comparePos = s.tmc.comparePos ∧
      s.enterIdle.tmc.par = s.tmc.par ∧ s.enterIdle.lmc.active = s.lmc.active ∧
      s.enterIdle.lmc.outLevel = s.lmc.outLevel ∧ s.enterIdle.lmc.level = s.lmc.level ∧
      s.enterIdle.lmc.par = s.lmc.par ∧ s.enterIdle.thc.trip = s.thc.trip ∧
      s.enterIdle.thc.fanFault = s.thc.fanFault ∧ s.enterIdle.thc.power = s.thc.power ∧
      s.enterIdle.thc.lost = s.thc.lost ∧ s.enterIdle.thc.loss30 = s.thc.loss30 ∧
      s.enterIdle.thc.par = s.thc.par ∧ s.enterIdle.thc.tm = s.thc.tm ∧ s.enterIdle.thc.hq = s.thc.hq ∧
      s.enterIdle.thc.cEff = s.thc.cEff ∧ s.enterIdle.ttc.st = s.ttc.st ∧ s.enterIdle.ttc.curVol = s.ttc.curVol ∧
      s.enterIdle.ttc.servo = s.ttc.servo ∧ s.enterIdle.ssq.steps = s.ssq.steps ∧
      s.enterIdle.ssq.head = s.ssq.head ∧ s.enterIdle.ssq.remembered = s.ssq.remembered ∧
      s.enterIdle.lki.rx = s.lki.rx ∧ s.enterIdle.lki.resp = s.lki.resp ∧ s.enterIdle.lki.addr = s.lki.addr ∧
      s.enterIdle.lki.assignTaken = s.lki.assignTaken ∧ s.enterIdle.lki.copies = s.lki.copies ∧
      s.enterIdle.lki.enables = s.lki.enables ∧ s.enterIdle.cnt.snap = s.cnt.snap ∧
      s.enterIdle.cnt.number = s.cnt.number ∧ s.enterIdle.sts.record = s.sts.record ∧
      s.enterIdle.sts.serial = s.sts.serial ∧ s.enterIdle.sts.storeLost = s.sts.storeLost := by
  unfold State.enterIdle; (try unfold State.whenDue); (try dsimp only)
  (repeat' split) <;> first | (simp; done) | ((repeat' apply And.intro) <;> first | rfl | simp)

@[simp] theorem enterParked_frame (s : State) :
    s.enterParked.powered = s.powered ∧ s.enterParked.now = s.now ∧ s.enterParked.free = s.free ∧
      s.enterParked.cud = s.cud ∧ s.enterParked.rpd = s.rpd ∧ s.enterParked.pending = s.pending ∧
      s.enterParked.aq.mode = s.aq.mode ∧ s.enterParked.aq.startMode = s.aq.startMode ∧
      s.enterParked.tmc.comparePos = s.tmc.comparePos ∧ s.enterParked.tmc.par = s.tmc.par ∧
      s.enterParked.lmc.active = s.lmc.active ∧ s.enterParked.lmc.outLevel = s.lmc.outLevel ∧
      s.enterParked.lmc.level = s.lmc.level ∧ s.enterParked.lmc.par = s.lmc.par ∧
      s.enterParked.thc.trip = s.thc.trip ∧ s.enterParked.thc.fanFault = s.thc.fanFault ∧
      s.enterParked.thc.power = s.thc.power ∧ s.enterParked.thc.lost = s.thc.lost ∧
      s.enterParked.thc.loss30 = s.thc.loss30 ∧ s.enterParked.thc.par = s.thc.par ∧
      s.enterParked.thc.tm = s.thc.tm ∧ s.enterParked.thc.hq = s.thc.hq ∧ s.enterParked.thc.cEff = s.thc.cEff ∧
      s.enterParked.ttc.st = s.ttc.st ∧ s.enterParked.ttc.curVol = s.ttc.curVol ∧
      s.enterParked.ttc.servo = s.ttc.servo ∧ s.enterParked.ssq.steps = s.ssq.steps ∧
      s.enterParked.ssq.head = s.ssq.head ∧ s.enterParked.ssq.remembered = s.ssq.remembered ∧
      s.enterParked.lki.rx = s.lki.rx ∧ s.enterParked.lki.resp = s.lki.resp ∧
      s.enterParked.lki.addr = s.lki.addr ∧ s.enterParked.lki.assignTaken = s.lki.assignTaken ∧
      s.enterParked.lki.copies = s.lki.copies ∧ s.enterParked.lki.enables = s.lki.enables ∧
      s.enterParked.cnt.snap = s.cnt.snap ∧ s.enterParked.cnt.number = s.cnt.number ∧
      s.enterParked.sts.record = s.sts.record ∧ s.enterParked.sts.serial = s.sts.serial ∧
      s.enterParked.sts.storeLost = s.sts.storeLost := by
  unfold State.enterParked; (try unfold State.whenDue); (try dsimp only)
  (repeat' split) <;> first | (simp; done) | ((repeat' apply And.intro) <;> first | rfl | simp)

@[simp] theorem countJam_frame (s : State) (pos : Option Nat) :
    (s.countJam pos).powered = s.powered ∧ (s.countJam pos).now = s.now ∧ (s.countJam pos).free = s.free ∧
      (s.countJam pos).aq = s.aq ∧ (s.countJam pos).lmc = s.lmc ∧ (s.countJam pos).thc = s.thc ∧
      (s.countJam pos).ttc = s.ttc ∧ (s.countJam pos).cud = s.cud ∧ (s.countJam pos).ssq = s.ssq ∧
      (s.countJam pos).rpd = s.rpd ∧ (s.countJam pos).cnt = s.cnt ∧ (s.countJam pos).sts = s.sts ∧
      (s.countJam pos).pending = s.pending ∧ (s.countJam pos).tmc.st = s.tmc.st ∧
      (s.countJam pos).tmc.phase = s.tmc.phase ∧ (s.countJam pos).tmc.timer = s.tmc.timer ∧
      (s.countJam pos).tmc.lifter = s.tmc.lifter ∧ (s.countJam pos).tmc.trayDrive = s.tmc.trayDrive ∧
      (s.countJam pos).tmc.qualDue = s.tmc.qualDue ∧ (s.countJam pos).tmc.trayPresent = s.tmc.trayPresent ∧
      (s.countJam pos).tmc.size = s.tmc.size ∧ (s.countJam pos).tmc.pos = s.tmc.pos ∧
      (s.countJam pos).tmc.gate = s.tmc.gate ∧ (s.countJam pos).tmc.jam = s.tmc.jam ∧
      (s.countJam pos).tmc.comparePos = s.tmc.comparePos ∧ (s.countJam pos).tmc.par = s.tmc.par ∧
      (s.countJam pos).lki.rx = s.lki.rx ∧ (s.countJam pos).lki.resp = s.lki.resp ∧
      (s.countJam pos).lki.addr = s.lki.addr ∧ (s.countJam pos).lki.assignTaken = s.lki.assignTaken ∧
      (s.countJam pos).lki.resetting = s.lki.resetting ∧ (s.countJam pos).lki.copies = s.lki.copies ∧
      (s.countJam pos).lki.enables = s.lki.enables := by
  unfold State.countJam; (try unfold State.whenDue); (try dsimp only)
  (repeat' split) <;> first | (simp; done) | ((repeat' apply And.intro) <;> first | rfl | simp)

@[simp] theorem jamMech_frame (s : State) (cause : JamCause) :
    (s.jamMech cause).powered = s.powered ∧ (s.jamMech cause).now = s.now ∧ (s.jamMech cause).free = s.free ∧
      (s.jamMech cause).aq = s.aq ∧ (s.jamMech cause).thc = s.thc ∧ (s.jamMech cause).ttc = s.ttc ∧
      (s.jamMech cause).cud = s.cud ∧ (s.jamMech cause).ssq = s.ssq ∧ (s.jamMech cause).rpd = s.rpd ∧
      (s.jamMech cause).sts = s.sts ∧ (s.jamMech cause).pending = s.pending ∧
      (s.jamMech cause).tmc.qualDue = s.tmc.qualDue ∧ (s.jamMech cause).tmc.trayPresent = s.tmc.trayPresent ∧
      (s.jamMech cause).tmc.size = s.tmc.size ∧ (s.jamMech cause).tmc.comparePos = s.tmc.comparePos ∧
      (s.jamMech cause).tmc.par = s.tmc.par ∧ (s.jamMech cause).lmc.power = s.lmc.power ∧
      (s.jamMech cause).lmc.active = s.lmc.active ∧ (s.jamMech cause).lmc.outLevel = s.lmc.outLevel ∧
      (s.jamMech cause).lmc.level = s.lmc.level ∧ (s.jamMech cause).lmc.par = s.lmc.par ∧
      (s.jamMech cause).lmc.outDrive = s.lmc.outDrive ∧ (s.jamMech cause).lki.rx = s.lki.rx ∧
      (s.jamMech cause).lki.resp = s.lki.resp ∧ (s.jamMech cause).lki.addr = s.lki.addr ∧
      (s.jamMech cause).lki.assignTaken = s.lki.assignTaken ∧ (s.jamMech cause).lki.resetting = s.lki.resetting ∧
      (s.jamMech cause).lki.copies = s.lki.copies ∧ (s.jamMech cause).lki.enables = s.lki.enables ∧
      (s.jamMech cause).cnt.snap = s.cnt.snap ∧ (s.jamMech cause).cnt.number = s.cnt.number := by
  unfold State.jamMech; (try unfold State.whenDue); (try dsimp only)
  (repeat' split) <;> first | (simp; done) | ((repeat' apply And.intro) <;> first | rfl | simp)

@[simp] theorem noteWaiting_frame (s : State) :
    s.noteWaiting.powered = s.powered ∧ s.noteWaiting.now = s.now ∧ s.noteWaiting.free = s.free ∧
      s.noteWaiting.aq = s.aq ∧ s.noteWaiting.tmc = s.tmc ∧ s.noteWaiting.lmc = s.lmc ∧
      s.noteWaiting.thc = s.thc ∧ s.noteWaiting.ttc = s.ttc ∧ s.noteWaiting.cud = s.cud ∧
      s.noteWaiting.ssq = s.ssq ∧ s.noteWaiting.rpd = s.rpd ∧ s.noteWaiting.cnt = s.cnt ∧
      s.noteWaiting.sts = s.sts ∧ s.noteWaiting.pending = s.pending ∧ s.noteWaiting.lki.rx = s.lki.rx ∧
      s.noteWaiting.lki.resp = s.lki.resp ∧ s.noteWaiting.lki.addr = s.lki.addr ∧
      s.noteWaiting.lki.assignTaken = s.lki.assignTaken ∧ s.noteWaiting.lki.resetting = s.lki.resetting ∧
      s.noteWaiting.lki.copies = s.lki.copies ∧ s.noteWaiting.lki.enables = s.lki.enables := by
  unfold State.noteWaiting; (try unfold State.whenDue); (try dsimp only)
  (repeat' split) <;> first | (simp; done) | ((repeat' apply And.intro) <;> first | rfl | simp)

@[simp] theorem enterJammed_frame (s : State) (cause : JamCause) :
    (s.enterJammed cause).powered = s.powered ∧ (s.enterJammed cause).now = s.now ∧
      (s.enterJammed cause).free = s.free ∧ (s.enterJammed cause).thc = s.thc ∧
      (s.enterJammed cause).cud = s.cud ∧ (s.enterJammed cause).rpd = s.rpd ∧ (s.enterJammed cause).sts = s.sts ∧
      (s.enterJammed cause).pending = s.pending ∧ (s.enterJammed cause).aq.mode = s.aq.mode ∧
      (s.enterJammed cause).aq.startMode = s.aq.startMode ∧ (s.enterJammed cause).tmc.qualDue = s.tmc.qualDue ∧
      (s.enterJammed cause).tmc.trayPresent = s.tmc.trayPresent ∧ (s.enterJammed cause).tmc.size = s.tmc.size ∧
      (s.enterJammed cause).tmc.comparePos = s.tmc.comparePos ∧ (s.enterJammed cause).tmc.par = s.tmc.par ∧
      (s.enterJammed cause).lmc.power = s.lmc.power ∧ (s.enterJammed cause).lmc.active = s.lmc.active ∧
      (s.enterJammed cause).lmc.outLevel = s.lmc.outLevel ∧ (s.enterJammed cause).lmc.level = s.lmc.level ∧
      (s.enterJammed cause).lmc.par = s.lmc.par ∧ (s.enterJammed cause).lmc.outDrive = s.lmc.outDrive ∧
      (s.enterJammed cause).ttc.curVol = s.ttc.curVol ∧ (s.enterJammed cause).ttc.servo = s.ttc.servo ∧
      (s.enterJammed cause).ssq.steps = s.ssq.steps ∧ (s.enterJammed cause).ssq.head = s.ssq.head ∧
      (s.enterJammed cause).ssq.remembered = s.ssq.remembered ∧ (s.enterJammed cause).lki.rx = s.lki.rx ∧
      (s.enterJammed cause).lki.resp = s.lki.resp ∧ (s.enterJammed cause).lki.addr = s.lki.addr ∧
      (s.enterJammed cause).lki.assignTaken = s.lki.assignTaken ∧
      (s.enterJammed cause).lki.copies = s.lki.copies ∧ (s.enterJammed cause).lki.enables = s.lki.enables ∧
      (s.enterJammed cause).cnt.snap = s.cnt.snap ∧ (s.enterJammed cause).cnt.number = s.cnt.number := by
  unfold State.enterJammed; (try unfold State.whenDue); (try dsimp only)
  (repeat' split) <;> first | (simp; done) | ((repeat' apply And.intro) <;> first | rfl | simp)

@[simp] theorem refresh_frame (s : State) :
    s.refresh.powered = s.powered ∧ s.refresh.now = s.now ∧ s.refresh.free = s.free ∧ s.refresh.aq = s.aq ∧
      s.refresh.tmc = s.tmc ∧ s.refresh.lmc = s.lmc ∧ s.refresh.cud = s.cud ∧ s.refresh.ssq = s.ssq ∧
      s.refresh.rpd = s.rpd ∧ s.refresh.lki = s.lki ∧ s.refresh.cnt = s.cnt ∧ s.refresh.sts = s.sts ∧
      s.refresh.pending = s.pending ∧ s.refresh.thc.trip = s.thc.trip ∧ s.refresh.thc.fanFault = s.thc.fanFault ∧
      s.refresh.thc.power = s.thc.power ∧ s.refresh.thc.lost = s.thc.lost ∧ s.refresh.thc.loss30 = s.thc.loss30 ∧
      s.refresh.thc.par = s.thc.par ∧ s.refresh.thc.tm = s.thc.tm ∧ s.refresh.thc.hq = s.thc.hq ∧
      s.refresh.thc.cEff = s.thc.cEff ∧ s.refresh.ttc.st = s.ttc.st ∧ s.refresh.ttc.curVol = s.ttc.curVol ∧
      s.refresh.ttc.servo = s.ttc.servo := by
  unfold State.refresh; (try unfold State.whenDue); (try dsimp only)
  (repeat' split) <;> first | (simp; done) | ((repeat' apply And.intro) <;> first | rfl | simp)

@[simp] theorem finish_frame (s : State) :
    s.finish.powered = s.powered ∧ s.finish.now = s.now ∧ s.finish.free = s.free ∧ s.finish.cud = s.cud ∧
      s.finish.rpd = s.rpd ∧ s.finish.pending = s.pending ∧ s.finish.aq.mode = s.aq.mode ∧
      s.finish.aq.startMode = s.aq.startMode ∧ s.finish.tmc.lifter = s.tmc.lifter ∧
      s.finish.tmc.trayDrive = s.tmc.trayDrive ∧ s.finish.tmc.qualDue = s.tmc.qualDue ∧
      s.finish.tmc.trayPresent = s.tmc.trayPresent ∧ s.finish.tmc.slots = s.tmc.slots ∧
      s.finish.tmc.size = s.tmc.size ∧ s.finish.tmc.pos = s.tmc.pos ∧ s.finish.tmc.gate = s.tmc.gate ∧
      s.finish.tmc.jam = s.tmc.jam ∧ s.finish.tmc.comparePos = s.tmc.comparePos ∧ s.finish.tmc.par = s.tmc.par ∧
      s.finish.lmc.active = s.lmc.active ∧ s.finish.lmc.outLevel = s.lmc.outLevel ∧
      s.finish.lmc.level = s.lmc.level ∧ s.finish.lmc.par = s.lmc.par ∧ s.finish.thc.trip = s.thc.trip ∧
      s.finish.thc.fanFault = s.thc.fanFault ∧ s.finish.thc.power = s.thc.power ∧ s.finish.thc.lost = s.thc.lost ∧
      s.finish.thc.loss30 = s.thc.loss30 ∧ s.finish.thc.par = s.thc.par ∧ s.finish.thc.tm = s.thc.tm ∧
      s.finish.thc.hq = s.thc.hq ∧ s.finish.thc.cEff = s.thc.cEff ∧ s.finish.ttc.st = s.ttc.st ∧
      s.finish.ttc.curVol = s.ttc.curVol ∧ s.finish.ttc.servo = s.ttc.servo ∧ s.finish.ssq.steps = s.ssq.steps ∧
      s.finish.ssq.head = s.ssq.head ∧ s.finish.ssq.remembered = s.ssq.remembered ∧ s.finish.lki.rx = s.lki.rx ∧
      s.finish.lki.resp = s.lki.resp ∧ s.finish.lki.addr = s.lki.addr ∧
      s.finish.lki.assignTaken = s.lki.assignTaken ∧ s.finish.lki.copies = s.lki.copies ∧
      s.finish.lki.enables = s.lki.enables ∧ s.finish.cnt.snap = s.cnt.snap ∧ s.finish.cnt.number = s.cnt.number ∧
      s.finish.sts.record = s.sts.record ∧ s.finish.sts.serial = s.sts.serial ∧
      s.finish.sts.storeLost = s.sts.storeLost := by
  unfold State.finish; (try unfold State.whenDue); (try dsimp only)
  (repeat' split) <;> first | (simp; done) | ((repeat' apply And.intro) <;> first | rfl | simp)

theorem whenDue_keeps {α : Type} (g : State → α) (s : State) (d : Option Nat) (f : State → State)
    (hr : ∀ t x, g (State.reach t x) = g t) (h : ∀ t, g (f t) = g t) : g (s.whenDue d f) = g s := by
  unfold State.whenDue; split
  · rw [h, hr]
  · rfl

end Sys2Proof.Machine
end

