-- ==== Sys2Proof/Laws/BlockFrames.lean ====
section
/-!
SUPPORT. Frames of the commands of the blocks (chapters 2 to 7, 10, 11).
Each lemma says of one operation which parts of the state it leaves as they are.
-/

set_option linter.all false

namespace Sys2Proof.Machine

@[simp] theorem slot_fields (c : Cud) (t : Nat) :
    (c.slot t).par = c.par ∧ (c.slot t).carrier = c.carrier ∧ (c.slot t).framing = c.framing := by
  unfold Cud.slot; simp

@[simp] theorem silence_fields (c : Cud) :
    (c.silence).par = c.par ∧ (c.silence).carrier = c.carrier ∧ (c.silence).framing = c.framing := by
  unfold Cud.silence; simp

@[simp] theorem push_fields (c : Cud) (b : Option Bool) :
    (c.push b).par = c.par ∧ (c.push b).carrier = c.carrier ∧ (c.push b).framing = c.framing := by
  unfold Cud.push; simp

@[simp] theorem judgeLock_fields (t : Ttc) (g : Bool) (n : Nat) :
    (t.judgeLock g n).st = t.st ∧ (t.judgeLock g n).curVol = t.curVol ∧ (t.judgeLock g n).servo = t.servo ∧
      (t.judgeLock g n).par = t.par := by
  unfold Ttc.judgeLock; dsimp only; (repeat' split) <;> simp

@[simp] theorem fg_fields (t : Ttc) (n : Nat) :
    (t.fg n).st = t.st ∧ (t.fg n).curVol = t.curVol ∧ (t.fg n).par = t.par := by
  unfold Ttc.fg; dsimp only; (repeat' split) <;> simp

@[simp] theorem trayInsertion_frame (s : State) :
    (trayInsertion s).powered = s.powered ∧ (trayInsertion s).now = s.now ∧ (trayInsertion s).free = s.free ∧
      (trayInsertion s).aq = s.aq ∧ (trayInsertion s).lmc = s.lmc ∧ (trayInsertion s).thc = s.thc ∧
      (trayInsertion s).ttc = s.ttc ∧ (trayInsertion s).cud = s.cud ∧ (trayInsertion s).ssq = s.ssq ∧
      (trayInsertion s).rpd = s.rpd ∧ (trayInsertion s).lki = s.lki ∧ (trayInsertion s).cnt = s.cnt ∧
      (trayInsertion s).sts = s.sts ∧ (trayInsertion s).pending = s.pending ∧
      (trayInsertion s).tmc.st = s.tmc.st ∧ (trayInsertion s).tmc.phase = s.tmc.phase ∧
      (trayInsertion s).tmc.timer = s.tmc.timer ∧ (trayInsertion s).tmc.lifter = s.tmc.lifter ∧
      (trayInsertion s).tmc.trayDrive = s.tmc.trayDrive ∧ (trayInsertion s).tmc.slots = s.tmc.slots ∧
      (trayInsertion s).tmc.size = s.tmc.size ∧ (trayInsertion s).tmc.pos = s.tmc.pos ∧
      (trayInsertion s).tmc.gate = s.tmc.gate ∧ (trayInsertion s).tmc.jam = s.tmc.jam ∧
      (trayInsertion s).tmc.comparePos = s.tmc.comparePos ∧ (trayInsertion s).tmc.par = s.tmc.par := by
  unfold trayInsertion; (try unfold State.whenDue); (try dsimp only)
  (repeat' split) <;> first | (simp; done) | ((repeat' apply And.intro) <;> first | rfl | simp)

@[simp] theorem qualify_frame (s : State) (code : TrayCode) :
    (s.qualify code).powered = s.powered ∧ (s.qualify code).now = s.now ∧ (s.qualify code).free = s.free ∧
      (s.qualify code).aq = s.aq ∧ (s.qualify code).thc = s.thc ∧ (s.qualify code).ttc = s.ttc ∧
      (s.qualify code).cud = s.cud ∧ (s.qualify code).ssq = s.ssq ∧ (s.qualify code).rpd = s.rpd ∧
      (s.qualify code).cnt = s.cnt ∧ (s.qualify code).sts = s.sts ∧ (s.qualify code).pending = s.pending ∧
      (s.qualify code).tmc.lifter = s.tmc.lifter ∧ (s.qualify code).tmc.trayDrive = s.tmc.trayDrive ∧
      (s.qualify code).tmc.trayPresent = s.tmc.trayPresent ∧ (s.qualify code).tmc.slots = s.tmc.slots ∧
      (s.qualify code).tmc.pos = s.tmc.pos ∧ (s.qualify code).tmc.gate = s.tmc.gate ∧
      (s.qualify code).tmc.jam = s.tmc.jam ∧ (s.qualify code).tmc.comparePos = s.tmc.comparePos ∧
      (s.qualify code).tmc.par = s.tmc.par ∧ (s.qualify code).lmc.power = s.lmc.power ∧
      (s.qualify code).lmc.active = s.lmc.active ∧ (s.qualify code).lmc.outLevel = s.lmc.outLevel ∧
      (s.qualify code).lmc.level = s.lmc.level ∧ (s.qualify code).lmc.par = s.lmc.par ∧
      (s.qualify code).lmc.outDrive = s.lmc.outDrive ∧ (s.qualify code).lki.rx = s.lki.rx ∧
      (s.qualify code).lki.resp = s.lki.resp ∧ (s.qualify code).lki.addr = s.lki.addr ∧
      (s.qualify code).lki.assignTaken = s.lki.assignTaken ∧ (s.qualify code).lki.resetting = s.lki.resetting ∧
      (s.qualify code).lki.copies = s.lki.copies ∧ (s.qualify code).lki.enables = s.lki.enables := by
  unfold State.qualify; (try unfold State.whenDue); (try dsimp only)
  (repeat' split) <;> first | (simp; done) | ((repeat' apply And.intro) <;> first | rfl | simp)

@[simp] theorem trayQualifyExpiry_frame (code : TrayCode) (s : State) :
    (trayQualifyExpiry code s).powered = s.powered ∧ (trayQualifyExpiry code s).free = s.free ∧
      (trayQualifyExpiry code s).aq = s.aq ∧ (trayQualifyExpiry code s).thc = s.thc ∧
      (trayQualifyExpiry code s).ttc = s.ttc ∧ (trayQualifyExpiry code s).cud = s.cud ∧
      (trayQualifyExpiry code s).ssq = s.ssq ∧ (trayQualifyExpiry code s).rpd = s.rpd ∧
      (trayQualifyExpiry code s).cnt = s.cnt ∧ (trayQualifyExpiry code s).sts = s.sts ∧
      (trayQualifyExpiry code s).pending = s.pending ∧ (trayQualifyExpiry code s).tmc.lifter = s.tmc.lifter ∧
      (trayQualifyExpiry code s).tmc.trayDrive = s.tmc.trayDrive ∧
      (trayQualifyExpiry code s).tmc.trayPresent = s.tmc.trayPresent ∧
      (trayQualifyExpiry code s).tmc.slots = s.tmc.slots ∧ (trayQualifyExpiry code s).tmc.pos = s.tmc.pos ∧
      (trayQualifyExpiry code s).tmc.gate = s.tmc.gate ∧ (trayQualifyExpiry code s).tmc.jam = s.tmc.jam ∧
      (trayQualifyExpiry code s).tmc.comparePos = s.tmc.comparePos ∧
      (trayQualifyExpiry code s).tmc.par = s.tmc.par ∧ (trayQualifyExpiry code s).lmc.power = s.lmc.power ∧
      (trayQualifyExpiry code s).lmc.active = s.lmc.active ∧
      (trayQualifyExpiry code s).lmc.outLevel = s.lmc.outLevel ∧
      (trayQualifyExpiry code s).lmc.level = s.lmc.level ∧ (trayQualifyExpiry code s).lmc.par = s.lmc.par ∧
      (trayQualifyExpiry code s).lmc.outDrive = s.lmc.outDrive ∧ (trayQualifyExpiry code s).lki.rx = s.lki.rx ∧
      (trayQualifyExpiry code s).lki.resp = s.lki.resp ∧ (trayQualifyExpiry code s).lki.addr = s.lki.addr ∧
      (trayQualifyExpiry code s).lki.assignTaken = s.lki.assignTaken ∧
      (trayQualifyExpiry code s).lki.resetting = s.lki.resetting ∧
      (trayQualifyExpiry code s).lki.copies = s.lki.copies ∧
      (trayQualifyExpiry code s).lki.enables = s.lki.enables := by
  unfold trayQualifyExpiry; (try unfold State.whenDue); (try dsimp only)
  (repeat' split) <;> first | (simp; done) | ((repeat' apply And.intro) <;> first | rfl | simp)

@[simp] theorem trayRemoval_frame (s : State) :
    (trayRemoval s).powered = s.powered ∧ (trayRemoval s).now = s.now ∧ (trayRemoval s).free = s.free ∧
      (trayRemoval s).cud = s.cud ∧ (trayRemoval s).rpd = s.rpd ∧ (trayRemoval s).pending = s.pending ∧
      (trayRemoval s).aq.mode = s.aq.mode ∧ (trayRemoval s).aq.startMode = s.aq.startMode ∧
      (trayRemoval s).tmc.comparePos = s.tmc.comparePos ∧ (trayRemoval s).tmc.par = s.tmc.par ∧
      (trayRemoval s).lmc.active = s.lmc.active ∧ (trayRemoval s).lmc.outLevel = s.lmc.outLevel ∧
      (trayRemoval s).lmc.level = s.lmc.level ∧ (trayRemoval s).lmc.par = s.lmc.par ∧
      (trayRemoval s).thc.trip = s.thc.trip ∧ (trayRemoval s).thc.fanFault = s.thc.fanFault ∧
      (trayRemoval s).thc.power = s.thc.power ∧ (trayRemoval s).thc.lost = s.thc.lost ∧
      (trayRemoval s).thc.loss30 = s.thc.loss30 ∧ (trayRemoval s).thc.par = s.thc.par ∧
      (trayRemoval s).thc.tm = s.thc.tm ∧ (trayRemoval s).thc.hq = s.thc.hq ∧
      (trayRemoval s).thc.cEff = s.thc.cEff ∧ (trayRemoval s).ttc.st = s.ttc.st ∧
      (trayRemoval s).ttc.curVol = s.ttc.curVol ∧ (trayRemoval s).ttc.servo = s.ttc.servo ∧
      (trayRemoval s).ssq.steps = s.ssq.steps ∧ (trayRemoval s).ssq.head = s.ssq.head ∧
      (trayRemoval s).ssq.remembered = s.ssq.remembered ∧ (trayRemoval s).lki.rx = s.lki.rx ∧
      (trayRemoval s).lki.resp = s.lki.resp ∧ (trayRemoval s).lki.addr = s.lki.addr ∧
      (trayRemoval s).lki.assignTaken = s.lki.assignTaken ∧ (trayRemoval s).lki.copies = s.lki.copies ∧
      (trayRemoval s).lki.enables = s.lki.enables ∧ (trayRemoval s).cnt.snap = s.cnt.snap ∧
      (trayRemoval s).cnt.number = s.cnt.number ∧ (trayRemoval s).sts.record = s.sts.record ∧
      (trayRemoval s).sts.serial = s.sts.serial ∧ (trayRemoval s).sts.storeLost = s.sts.storeLost := by
  unfold trayRemoval; (try unfold State.whenDue); (try dsimp only)
  (repeat' split) <;> first | (simp; done) | ((repeat' apply And.intro) <;> first | rfl | simp)

@[simp] theorem tDarkExpiry_frame (m : MechSense) (s : State) :
    (tDarkExpiry m s).powered = s.powered ∧ (tDarkExpiry m s).free = s.free ∧ (tDarkExpiry m s).aq = s.aq ∧
      (tDarkExpiry m s).lmc = s.lmc ∧ (tDarkExpiry m s).thc = s.thc ∧ (tDarkExpiry m s).ttc = s.ttc ∧
      (tDarkExpiry m s).cud = s.cud ∧ (tDarkExpiry m s).ssq = s.ssq ∧ (tDarkExpiry m s).rpd = s.rpd ∧
      (tDarkExpiry m s).cnt = s.cnt ∧ (tDarkExpiry m s).sts = s.sts ∧ (tDarkExpiry m s).pending = s.pending ∧
      (tDarkExpiry m s).tmc.st = s.tmc.st ∧ (tDarkExpiry m s).tmc.qualDue = s.tmc.qualDue ∧
      (tDarkExpiry m s).tmc.trayPresent = s.tmc.trayPresent ∧ (tDarkExpiry m s).tmc.size = s.tmc.size ∧
      (tDarkExpiry m s).tmc.jam = s.tmc.jam ∧ (tDarkExpiry m s).tmc.comparePos = s.tmc.comparePos ∧
      (tDarkExpiry m s).tmc.par = s.tmc.par ∧ (tDarkExpiry m s).lki.rx = s.lki.rx ∧
      (tDarkExpiry m s).lki.resp = s.lki.resp ∧ (tDarkExpiry m s).lki.addr = s.lki.addr ∧
      (tDarkExpiry m s).lki.assignTaken = s.lki.assignTaken ∧ (tDarkExpiry m s).lki.resetting = s.lki.resetting ∧
      (tDarkExpiry m s).lki.copies = s.lki.copies ∧ (tDarkExpiry m s).lki.enables = s.lki.enables := by
  unfold tDarkExpiry; (try unfold State.whenDue); (try dsimp only)
  (repeat' split) <;> first | (simp; done) | ((repeat' apply And.intro) <;> first | rfl | simp)

@[simp] theorem lifterUpConfirm_frame (m : MechSense) (s : State) :
    (lifterUpConfirm m s).powered = s.powered ∧ (lifterUpConfirm m s).now = s.now ∧
      (lifterUpConfirm m s).free = s.free ∧ (lifterUpConfirm m s).aq = s.aq ∧ (lifterUpConfirm m s).lmc = s.lmc ∧
      (lifterUpConfirm m s).thc = s.thc ∧ (lifterUpConfirm m s).ttc = s.ttc ∧ (lifterUpConfirm m s).cud = s.cud ∧
      (lifterUpConfirm m s).ssq = s.ssq ∧ (lifterUpConfirm m s).rpd = s.rpd ∧ (lifterUpConfirm m s).cnt = s.cnt ∧
      (lifterUpConfirm m s).sts = s.sts ∧ (lifterUpConfirm m s).pending = s.pending ∧
      (lifterUpConfirm m s).tmc.st = s.tmc.st ∧ (lifterUpConfirm m s).tmc.qualDue = s.tmc.qualDue ∧
      (lifterUpConfirm m s).tmc.trayPresent = s.tmc.trayPresent ∧ (lifterUpConfirm m s).tmc.size = s.tmc.size ∧
      (lifterUpConfirm m s).tmc.jam = s.tmc.jam ∧ (lifterUpConfirm m s).tmc.comparePos = s.tmc.comparePos ∧
      (lifterUpConfirm m s).tmc.par = s.tmc.par ∧ (lifterUpConfirm m s).lki.rx = s.lki.rx ∧
      (lifterUpConfirm m s).lki.resp = s.lki.resp ∧ (lifterUpConfirm m s).lki.addr = s.lki.addr ∧
      (lifterUpConfirm m s).lki.assignTaken = s.lki.assignTaken ∧
      (lifterUpConfirm m s).lki.resetting = s.lki.resetting ∧ (lifterUpConfirm m s).lki.copies = s.lki.copies ∧
      (lifterUpConfirm m s).lki.enables = s.lki.enables := by
  unfold lifterUpConfirm; (try unfold State.whenDue); (try dsimp only)
  (repeat' split) <;> first | (simp; done) | ((repeat' apply And.intro) <;> first | rfl | simp)

@[simp] theorem retry_frame (s : State) (c : Ctr) :
    (s.retry c).powered = s.powered ∧ (s.retry c).now = s.now ∧ (s.retry c).free = s.free ∧ (s.retry c).aq = s.aq ∧
      (s.retry c).lmc = s.lmc ∧ (s.retry c).thc = s.thc ∧ (s.retry c).ttc = s.ttc ∧ (s.retry c).cud = s.cud ∧
      (s.retry c).ssq = s.ssq ∧ (s.retry c).rpd = s.rpd ∧ (s.retry c).lki = s.lki ∧ (s.retry c).sts = s.sts ∧
      (s.retry c).pending = s.pending ∧ (s.retry c).tmc.st = s.tmc.st ∧ (s.retry c).tmc.phase = s.tmc.phase ∧
      (s.retry c).tmc.trayDrive = s.tmc.trayDrive ∧ (s.retry c).tmc.qualDue = s.tmc.qualDue ∧
      (s.retry c).tmc.trayPresent = s.tmc.trayPresent ∧ (s.retry c).tmc.slots = s.tmc.slots ∧
      (s.retry c).tmc.size = s.tmc.size ∧ (s.retry c).tmc.pos = s.tmc.pos ∧ (s.retry c).tmc.gate = s.tmc.gate ∧
      (s.retry c).tmc.jam = s.tmc.jam ∧ (s.retry c).tmc.comparePos = s.tmc.comparePos ∧
      (s.retry c).tmc.par = s.tmc.par ∧ (s.retry c).cnt.snap = s.cnt.snap ∧
      (s.retry c).cnt.number = s.cnt.number := by
  unfold State.retry; (try unfold State.whenDue); (try dsimp only)
  (repeat' split) <;> first | (simp; done) | ((repeat' apply And.intro) <;> first | rfl | simp)

@[simp] theorem liftTimeout_frame (s : State) :
    s.liftTimeout.powered = s.powered ∧ s.liftTimeout.now = s.now ∧ s.liftTimeout.free = s.free ∧
      s.liftTimeout.thc = s.thc ∧ s.liftTimeout.cud = s.cud ∧ s.liftTimeout.rpd = s.rpd ∧
      s.liftTimeout.sts = s.sts ∧ s.liftTimeout.pending = s.pending ∧ s.liftTimeout.aq.mode = s.aq.mode ∧
      s.liftTimeout.aq.startMode = s.aq.startMode ∧ s.liftTimeout.tmc.qualDue = s.tmc.qualDue ∧
      s.liftTimeout.tmc.trayPresent = s.tmc.trayPresent ∧ s.liftTimeout.tmc.size = s.tmc.size ∧
      s.liftTimeout.tmc.comparePos = s.tmc.comparePos ∧ s.liftTimeout.tmc.par = s.tmc.par ∧
      s.liftTimeout.lmc.power = s.lmc.power ∧ s.liftTimeout.lmc.active = s.lmc.active ∧
      s.liftTimeout.lmc.outLevel = s.lmc.outLevel ∧ s.liftTimeout.lmc.level = s.lmc.level ∧
      s.liftTimeout.lmc.par = s.lmc.par ∧ s.liftTimeout.lmc.outDrive = s.lmc.outDrive ∧
      s.liftTimeout.ttc.curVol = s.ttc.curVol ∧ s.liftTimeout.ttc.servo = s.ttc.servo ∧
      s.liftTimeout.ssq.steps = s.ssq.steps ∧ s.liftTimeout.ssq.head = s.ssq.head ∧
      s.liftTimeout.ssq.remembered = s.ssq.remembered ∧ s.liftTimeout.lki.rx = s.lki.rx ∧
      s.liftTimeout.lki.resp = s.lki.resp ∧ s.liftTimeout.lki.addr = s.lki.addr ∧
      s.liftTimeout.lki.assignTaken = s.lki.assignTaken ∧ s.liftTimeout.lki.copies = s.lki.copies ∧
      s.liftTimeout.lki.enables = s.lki.enables ∧ s.liftTimeout.cnt.snap = s.cnt.snap ∧
      s.liftTimeout.cnt.number = s.cnt.number := by
  unfold State.liftTimeout; (try unfold State.whenDue); (try dsimp only)
  (repeat' split) <;> first | (simp; done) | ((repeat' apply And.intro) <;> first | rfl | simp)

@[simp] theorem liftTimerExpiry_frame (s : State) :
    (liftTimerExpiry s).powered = s.powered ∧ (liftTimerExpiry s).free = s.free ∧ (liftTimerExpiry s).thc = s.thc ∧
      (liftTimerExpiry s).cud = s.cud ∧ (liftTimerExpiry s).rpd = s.rpd ∧ (liftTimerExpiry s).sts = s.sts ∧
      (liftTimerExpiry s).pending = s.pending ∧ (liftTimerExpiry s).aq.mode = s.aq.mode ∧
      (liftTimerExpiry s).aq.startMode = s.aq.startMode ∧ (liftTimerExpiry s).tmc.qualDue = s.tmc.qualDue ∧
      (liftTimerExpiry s).tmc.trayPresent = s.tmc.trayPresent ∧ (liftTimerExpiry s).tmc.size = s.tmc.size ∧
      (liftTimerExpiry s).tmc.comparePos = s.tmc.comparePos ∧ (liftTimerExpiry s).tmc.par = s.tmc.par ∧
      (liftTimerExpiry s).lmc.power = s.lmc.power ∧ (liftTimerExpiry s).lmc.active = s.lmc.active ∧
      (liftTimerExpiry s).lmc.outLevel = s.lmc.outLevel ∧ (liftTimerExpiry s).lmc.level = s.lmc.level ∧
      (liftTimerExpiry s).lmc.par = s.lmc.par ∧ (liftTimerExpiry s).lmc.outDrive = s.lmc.outDrive ∧
      (liftTimerExpiry s).ttc.curVol = s.ttc.curVol ∧ (liftTimerExpiry s).ttc.servo = s.ttc.servo ∧
      (liftTimerExpiry s).ssq.steps = s.ssq.steps ∧ (liftTimerExpiry s).ssq.head = s.ssq.head ∧
      (liftTimerExpiry s).ssq.remembered = s.ssq.remembered ∧ (liftTimerExpiry s).lki.rx = s.lki.rx ∧
      (liftTimerExpiry s).lki.resp = s.lki.resp ∧ (liftTimerExpiry s).lki.addr = s.lki.addr ∧
      (liftTimerExpiry s).lki.assignTaken = s.lki.assignTaken ∧ (liftTimerExpiry s).lki.copies = s.lki.copies ∧
      (liftTimerExpiry s).lki.enables = s.lki.enables ∧ (liftTimerExpiry s).cnt.snap = s.cnt.snap ∧
      (liftTimerExpiry s).cnt.number = s.cnt.number := by
  unfold liftTimerExpiry; (try unfold State.whenDue); (try dsimp only)
  (repeat' split) <;> first | (simp; done) | ((repeat' apply And.intro) <;> first | rfl | simp)

@[simp] theorem dropTimeout_frame (s : State) :
    s.dropTimeout.powered = s.powered ∧ s.dropTimeout.now = s.now ∧ s.dropTimeout.free = s.free ∧
      s.dropTimeout.thc = s.thc ∧ s.dropTimeout.cud = s.cud ∧ s.dropTimeout.rpd = s.rpd ∧
      s.dropTimeout.sts = s.sts ∧ s.dropTimeout.pending = s.pending ∧ s.dropTimeout.aq.mode = s.aq.mode ∧
      s.dropTimeout.aq.startMode = s.aq.startMode ∧ s.dropTimeout.tmc.qualDue = s.tmc.qualDue ∧
      s.dropTimeout.tmc.trayPresent = s.tmc.trayPresent ∧ s.dropTimeout.tmc.size = s.tmc.size ∧
      s.dropTimeout.tmc.comparePos = s.tmc.comparePos ∧ s.dropTimeout.tmc.par = s.tmc.par ∧
      s.dropTimeout.lmc.power = s.lmc.power ∧ s.dropTimeout.lmc.active = s.lmc.active ∧
      s.dropTimeout.lmc.outLevel = s.lmc.outLevel ∧ s.dropTimeout.lmc.level = s.lmc.level ∧
      s.dropTimeout.lmc.par = s.lmc.par ∧ s.dropTimeout.lmc.outDrive = s.lmc.outDrive ∧
      s.dropTimeout.ttc.curVol = s.ttc.curVol ∧ s.dropTimeout.ttc.servo = s.ttc.servo ∧
      s.dropTimeout.ssq.steps = s.ssq.steps ∧ s.dropTimeout.ssq.head = s.ssq.head ∧
      s.dropTimeout.ssq.remembered = s.ssq.remembered ∧ s.dropTimeout.lki.rx = s.lki.rx ∧
      s.dropTimeout.lki.resp = s.lki.resp ∧ s.dropTimeout.lki.addr = s.lki.addr ∧
      s.dropTimeout.lki.assignTaken = s.lki.assignTaken ∧ s.dropTimeout.lki.copies = s.lki.copies ∧
      s.dropTimeout.lki.enables = s.lki.enables ∧ s.dropTimeout.cnt.snap = s.cnt.snap ∧
      s.dropTimeout.cnt.number = s.cnt.number := by
  unfold State.dropTimeout; (try unfold State.whenDue); (try dsimp only)
  (repeat' split) <;> first | (simp; done) | ((repeat' apply And.intro) <;> first | rfl | simp)

@[simp] theorem dropTimerExpiry_frame (s : State) :
    (dropTimerExpiry s).powered = s.powered ∧ (dropTimerExpiry s).free = s.free ∧ (dropTimerExpiry s).thc = s.thc ∧
      (dropTimerExpiry s).cud = s.cud ∧ (dropTimerExpiry s).rpd = s.rpd ∧ (dropTimerExpiry s).sts = s.sts ∧
      (dropTimerExpiry s).pending = s.pending ∧ (dropTimerExpiry s).aq.mode = s.aq.mode ∧
      (dropTimerExpiry s).aq.startMode = s.aq.startMode ∧ (dropTimerExpiry s).tmc.qualDue = s.tmc.qualDue ∧
      (dropTimerExpiry s).tmc.trayPresent = s.tmc.trayPresent ∧ (dropTimerExpiry s).tmc.size = s.tmc.size ∧
      (dropTimerExpiry s).tmc.comparePos = s.tmc.comparePos ∧ (dropTimerExpiry s).tmc.par = s.tmc.par ∧
      (dropTimerExpiry s).lmc.power = s.lmc.power ∧ (dropTimerExpiry s).lmc.active = s.lmc.active ∧
      (dropTimerExpiry s).lmc.outLevel = s.lmc.outLevel ∧ (dropTimerExpiry s).lmc.level = s.lmc.level ∧
      (dropTimerExpiry s).lmc.par = s.lmc.par ∧ (dropTimerExpiry s).lmc.outDrive = s.lmc.outDrive ∧
      (dropTimerExpiry s).ttc.curVol = s.ttc.curVol ∧ (dropTimerExpiry s).ttc.servo = s.ttc.servo ∧
      (dropTimerExpiry s).ssq.steps = s.ssq.steps ∧ (dropTimerExpiry s).ssq.head = s.ssq.head ∧
      (dropTimerExpiry s).ssq.remembered = s.ssq.remembered ∧ (dropTimerExpiry s).lki.rx = s.lki.rx ∧
      (dropTimerExpiry s).lki.resp = s.lki.resp ∧ (dropTimerExpiry s).lki.addr = s.lki.addr ∧
      (dropTimerExpiry s).lki.assignTaken = s.lki.assignTaken ∧ (dropTimerExpiry s).lki.copies = s.lki.copies ∧
      (dropTimerExpiry s).lki.enables = s.lki.enables ∧ (dropTimerExpiry s).cnt.snap = s.cnt.snap ∧
      (dropTimerExpiry s).cnt.number = s.cnt.number := by
  unfold dropTimerExpiry; (try unfold State.whenDue); (try dsimp only)
  (repeat' split) <;> first | (simp; done) | ((repeat' apply And.intro) <;> first | rfl | simp)

@[simp] theorem retryPhase_frame (s : State) (m : MechSense) :
    (s.retryPhase m).powered = s.powered ∧ (s.retryPhase m).now = s.now ∧ (s.retryPhase m).free = s.free ∧
      (s.retryPhase m).aq = s.aq ∧ (s.retryPhase m).lmc = s.lmc ∧ (s.retryPhase m).thc = s.thc ∧
      (s.retryPhase m).ttc = s.ttc ∧ (s.retryPhase m).cud = s.cud ∧ (s.retryPhase m).ssq = s.ssq ∧
      (s.retryPhase m).rpd = s.rpd ∧ (s.retryPhase m).cnt = s.cnt ∧ (s.retryPhase m).sts = s.sts ∧
      (s.retryPhase m).pending = s.pending ∧ (s.retryPhase m).tmc.st = s.tmc.st ∧
      (s.retryPhase m).tmc.qualDue = s.tmc.qualDue ∧ (s.retryPhase m).tmc.trayPresent = s.tmc.trayPresent ∧
      (s.retryPhase m).tmc.size = s.tmc.size ∧ (s.retryPhase m).tmc.jam = s.tmc.jam ∧
      (s.retryPhase m).tmc.comparePos = s.tmc.comparePos ∧ (s.retryPhase m).tmc.par = s.tmc.par ∧
      (s.retryPhase m).lki.rx = s.lki.rx ∧ (s.retryPhase m).lki.resp = s.lki.resp ∧
      (s.retryPhase m).lki.addr = s.lki.addr ∧ (s.retryPhase m).lki.assignTaken = s.lki.assignTaken ∧
      (s.retryPhase m).lki.resetting = s.lki.resetting ∧ (s.retryPhase m).lki.copies = s.lki.copies ∧
      (s.retryPhase m).lki.enables = s.lki.enables := by
  unfold State.retryPhase; (try unfold State.whenDue); (try dsimp only)
  (repeat' split) <;> first | (simp; done) | ((repeat' apply And.intro) <;> first | rfl | simp)

@[simp] theorem retryPauseExpiry_frame (m : MechSense) (s : State) :
    (retryPauseExpiry m s).powered = s.powered ∧ (retryPauseExpiry m s).free = s.free ∧
      (retryPauseExpiry m s).aq = s.aq ∧ (retryPauseExpiry m s).lmc = s.lmc ∧ (retryPauseExpiry m s).thc = s.thc ∧
      (retryPauseExpiry m s).ttc = s.ttc ∧ (retryPauseExpiry m s).cud = s.cud ∧
      (retryPauseExpiry m s).ssq = s.ssq ∧ (retryPauseExpiry m s).rpd = s.rpd ∧
      (retryPauseExpiry m s).cnt = s.cnt ∧ (retryPauseExpiry m s).sts = s.sts ∧
      (retryPauseExpiry m s).pending = s.pending ∧ (retryPauseExpiry m s).tmc.st = s.tmc.st ∧
      (retryPauseExpiry m s).tmc.qualDue = s.tmc.qualDue ∧
      (retryPauseExpiry m s).tmc.trayPresent = s.tmc.trayPresent ∧ (retryPauseExpiry m s).tmc.size = s.tmc.size ∧
      (retryPauseExpiry m s).tmc.jam = s.tmc.jam ∧ (retryPauseExpiry m s).tmc.comparePos = s.tmc.comparePos ∧
      (retryPauseExpiry m s).tmc.par = s.tmc.par ∧ (retryPauseExpiry m s).lki.rx = s.lki.rx ∧
      (retryPauseExpiry m s).lki.resp = s.lki.resp ∧ (retryPauseExpiry m s).lki.addr = s.lki.addr ∧
      (retryPauseExpiry m s).lki.assignTaken = s.lki.assignTaken ∧
      (retryPauseExpiry m s).lki.resetting = s.lki.resetting ∧ (retryPauseExpiry m s).lki.copies = s.lki.copies ∧
      (retryPauseExpiry m s).lki.enables = s.lki.enables := by
  unfold retryPauseExpiry; (try unfold State.whenDue); (try dsimp only)
  (repeat' split) <;> first | (simp; done) | ((repeat' apply And.intro) <;> first | rfl | simp)

@[simp] theorem moveTray_frame (s : State) :
    s.moveTray.powered = s.powered ∧ s.moveTray.now = s.now ∧ s.moveTray.free = s.free ∧ s.moveTray.aq = s.aq ∧
      s.moveTray.lmc = s.lmc ∧ s.moveTray.thc = s.thc ∧ s.moveTray.ttc = s.ttc ∧ s.moveTray.cud = s.cud ∧
      s.moveTray.ssq = s.ssq ∧ s.moveTray.rpd = s.rpd ∧ s.moveTray.lki = s.lki ∧ s.moveTray.cnt = s.cnt ∧
      s.moveTray.sts = s.sts ∧ s.moveTray.pending = s.pending ∧ s.moveTray.tmc.st = s.tmc.st ∧
      s.moveTray.tmc.phase = s.tmc.phase ∧ s.moveTray.tmc.timer = s.tmc.timer ∧
      s.moveTray.tmc.lifter = s.tmc.lifter ∧ s.moveTray.tmc.trayDrive = s.tmc.trayDrive ∧
      s.moveTray.tmc.qualDue = s.tmc.qualDue ∧ s.moveTray.tmc.trayPresent = s.tmc.trayPresent ∧
      s.moveTray.tmc.slots = s.tmc.slots ∧ s.moveTray.tmc.size = s.tmc.size ∧ s.moveTray.tmc.gate = s.tmc.gate ∧
      s.moveTray.tmc.jam = s.tmc.jam ∧ s.moveTray.tmc.comparePos = s.tmc.comparePos ∧
      s.moveTray.tmc.par = s.tmc.par := by
  unfold State.moveTray; (try unfold State.whenDue); (try dsimp only)
  (repeat' split) <;> first | (simp; done) | ((repeat' apply And.intro) <;> first | rfl | simp)

@[simp] theorem pulseStep_frame (s : State) (m : MechSense) :
    (s.pulseStep m).powered = s.powered ∧ (s.pulseStep m).now = s.now ∧ (s.pulseStep m).free = s.free ∧
      (s.pulseStep m).aq = s.aq ∧ (s.pulseStep m).lmc = s.lmc ∧ (s.pulseStep m).thc = s.thc ∧
      (s.pulseStep m).ttc = s.ttc ∧ (s.pulseStep m).cud = s.cud ∧ (s.pulseStep m).ssq = s.ssq ∧
      (s.pulseStep m).rpd = s.rpd ∧ (s.pulseStep m).cnt = s.cnt ∧ (s.pulseStep m).sts = s.sts ∧
      (s.pulseStep m).pending = s.pending ∧ (s.pulseStep m).tmc.st = s.tmc.st ∧
      (s.pulseStep m).tmc.qualDue = s.tmc.qualDue ∧ (s.pulseStep m).tmc.trayPresent = s.tmc.trayPresent ∧
      (s.pulseStep m).tmc.size = s.tmc.size ∧ (s.pulseStep m).tmc.jam = s.tmc.jam ∧
      (s.pulseStep m).tmc.comparePos = s.tmc.comparePos ∧ (s.pulseStep m).tmc.par = s.tmc.par ∧
      (s.pulseStep m).lki.rx = s.lki.rx ∧ (s.pulseStep m).lki.resp = s.lki.resp ∧
      (s.pulseStep m).lki.addr = s.lki.addr ∧ (s.pulseStep m).lki.assignTaken = s.lki.assignTaken ∧
      (s.pulseStep m).lki.resetting = s.lki.resetting ∧ (s.pulseStep m).lki.copies = s.lki.copies ∧
      (s.pulseStep m).lki.enables = s.lki.enables := by
  unfold State.pulseStep; (try unfold State.whenDue); (try dsimp only)
  (repeat' split) <;> first | (simp; done) | ((repeat' apply And.intro) <;> first | rfl | simp)

@[simp] theorem pulseRotate_frame (s : State) (m : MechSense) :
    (s.pulseRotate m).powered = s.powered ∧ (s.pulseRotate m).now = s.now ∧ (s.pulseRotate m).free = s.free ∧
      (s.pulseRotate m).aq = s.aq ∧ (s.pulseRotate m).lmc = s.lmc ∧ (s.pulseRotate m).thc = s.thc ∧
      (s.pulseRotate m).ttc = s.ttc ∧ (s.pulseRotate m).cud = s.cud ∧ (s.pulseRotate m).ssq = s.ssq ∧
      (s.pulseRotate m).rpd = s.rpd ∧ (s.pulseRotate m).cnt = s.cnt ∧ (s.pulseRotate m).sts = s.sts ∧
      (s.pulseRotate m).pending = s.pending ∧ (s.pulseRotate m).tmc.st = s.tmc.st ∧
      (s.pulseRotate m).tmc.qualDue = s.tmc.qualDue ∧ (s.pulseRotate m).tmc.trayPresent = s.tmc.trayPresent ∧
      (s.pulseRotate m).tmc.size = s.tmc.size ∧ (s.pulseRotate m).tmc.jam = s.tmc.jam ∧
      (s.pulseRotate m).tmc.comparePos = s.tmc.comparePos ∧ (s.pulseRotate m).tmc.par = s.tmc.par ∧
      (s.pulseRotate m).lki.rx = s.lki.rx ∧ (s.pulseRotate m).lki.resp = s.lki.resp ∧
      (s.pulseRotate m).lki.addr = s.lki.addr ∧ (s.pulseRotate m).lki.assignTaken = s.lki.assignTaken ∧
      (s.pulseRotate m).lki.resetting = s.lki.resetting ∧ (s.pulseRotate m).lki.copies = s.lki.copies ∧
      (s.pulseRotate m).lki.enables = s.lki.enables := by
  unfold State.pulseRotate; (try unfold State.whenDue); (try dsimp only)
  (repeat' split) <;> first | (simp; done) | ((repeat' apply And.intro) <;> first | rfl | simp)

@[simp] theorem pulseSearch_frame (s : State) (m : MechSense) :
    (s.pulseSearch m).powered = s.powered ∧ (s.pulseSearch m).now = s.now ∧ (s.pulseSearch m).free = s.free ∧
      (s.pulseSearch m).thc = s.thc ∧ (s.pulseSearch m).cud = s.cud ∧ (s.pulseSearch m).rpd = s.rpd ∧
      (s.pulseSearch m).sts = s.sts ∧ (s.pulseSearch m).pending = s.pending ∧
      (s.pulseSearch m).aq.mode = s.aq.mode ∧ (s.pulseSearch m).aq.startMode = s.aq.startMode ∧
      (s.pulseSearch m).tmc.qualDue = s.tmc.qualDue ∧ (s.pulseSearch m).tmc.trayPresent = s.tmc.trayPresent ∧
      (s.pulseSearch m).tmc.size = s.tmc.size ∧ (s.pulseSearch m).tmc.comparePos = s.tmc.comparePos ∧
      (s.pulseSearch m).tmc.par = s.tmc.par ∧ (s.pulseSearch m).lmc.power = s.lmc.power ∧
      (s.pulseSearch m).lmc.active = s.lmc.active ∧ (s.pulseSearch m).lmc.outLevel = s.lmc.outLevel ∧
      (s.pulseSearch m).lmc.level = s.lmc.level ∧ (s.pulseSearch m).lmc.par = s.lmc.par ∧
      (s.pulseSearch m).lmc.outDrive = s.lmc.outDrive ∧ (s.pulseSearch m).ttc.curVol = s.ttc.curVol ∧
      (s.pulseSearch m).ttc.servo = s.ttc.servo ∧ (s.pulseSearch m).ssq.steps = s.ssq.steps ∧
      (s.pulseSearch m).ssq.head = s.ssq.head ∧ (s.pulseSearch m).ssq.remembered = s.ssq.remembered ∧
      (s.pulseSearch m).lki.rx = s.lki.rx ∧ (s.pulseSearch m).lki.resp = s.lki.resp ∧
      (s.pulseSearch m).lki.addr = s.lki.addr ∧ (s.pulseSearch m).lki.assignTaken = s.lki.assignTaken ∧
      (s.pulseSearch m).lki.copies = s.lki.copies ∧ (s.pulseSearch m).lki.enables = s.lki.enables ∧
      (s.pulseSearch m).cnt.snap = s.cnt.snap ∧ (s.pulseSearch m).cnt.number = s.cnt.number := by
  unfold State.pulseSearch; (try unfold State.whenDue); (try dsimp only)
  (repeat' split) <;> first | (simp; done) | ((repeat' apply And.intro) <;> first | rfl | simp)

@[simp] theorem indexPulse_frame (m : MechSense) (s : State) :
    (indexPulse m s).powered = s.powered ∧ (indexPulse m s).now = s.now ∧ (indexPulse m s).free = s.free ∧
      (indexPulse m s).thc = s.thc ∧ (indexPulse m s).cud = s.cud ∧ (indexPulse m s).rpd = s.rpd ∧
      (indexPulse m s).sts = s.sts ∧ (indexPulse m s).pending = s.pending ∧ (indexPulse m s).aq.mode = s.aq.mode ∧
      (indexPulse m s).aq.startMode = s.aq.startMode ∧ (indexPulse m s).tmc.qualDue = s.tmc.qualDue ∧
      (indexPulse m s).tmc.trayPresent = s.tmc.trayPresent ∧ (indexPulse m s).tmc.size = s.tmc.size ∧
      (indexPulse m s).tmc.comparePos = s.tmc.comparePos ∧ (indexPulse m s).tmc.par = s.tmc.par ∧
      (indexPulse m s).lmc.power = s.lmc.power ∧ (indexPulse m s).lmc.active = s.lmc.active ∧
      (indexPulse m s).lmc.outLevel = s.lmc.outLevel ∧ (indexPulse m s).lmc.level = s.lmc.level ∧
      (indexPulse m s).lmc.par = s.lmc.par ∧ (indexPulse m s).lmc.outDrive = s.lmc.outDrive ∧
      (indexPulse m s).ttc.curVol = s.ttc.curVol ∧ (indexPulse m s).ttc.servo = s.ttc.servo ∧
      (indexPulse m s).ssq.steps = s.ssq.steps ∧ (indexPulse m s).ssq.head = s.ssq.head ∧
      (indexPulse m s).ssq.remembered = s.ssq.remembered ∧ (indexPulse m s).lki.rx = s.lki.rx ∧
      (indexPulse m s).lki.resp = s.lki.resp ∧ (indexPulse m s).lki.addr = s.lki.addr ∧
      (indexPulse m s).lki.assignTaken = s.lki.assignTaken ∧ (indexPulse m s).lki.copies = s.lki.copies ∧
      (indexPulse m s).lki.enables = s.lki.enables ∧ (indexPulse m s).cnt.snap = s.cnt.snap ∧
      (indexPulse m s).cnt.number = s.cnt.number := by
  unfold indexPulse; (try unfold State.whenDue); (try dsimp only)
  (repeat' split) <;> first | (simp; done) | ((repeat' apply And.intro) <;> first | rfl | simp)

@[simp] theorem indexWaitExpiry_frame (s : State) :
    (indexWaitExpiry s).powered = s.powered ∧ (indexWaitExpiry s).free = s.free ∧ (indexWaitExpiry s).thc = s.thc ∧
      (indexWaitExpiry s).cud = s.cud ∧ (indexWaitExpiry s).rpd = s.rpd ∧ (indexWaitExpiry s).sts = s.sts ∧
      (indexWaitExpiry s).pending = s.pending ∧ (indexWaitExpiry s).aq.mode = s.aq.mode ∧
      (indexWaitExpiry s).aq.startMode = s.aq.startMode ∧ (indexWaitExpiry s).tmc.qualDue = s.tmc.qualDue ∧
      (indexWaitExpiry s).tmc.trayPresent = s.tmc.trayPresent ∧ (indexWaitExpiry s).tmc.size = s.tmc.size ∧
      (indexWaitExpiry s).tmc.comparePos = s.tmc.comparePos ∧ (indexWaitExpiry s).tmc.par = s.tmc.par ∧
      (indexWaitExpiry s).lmc.power = s.lmc.power ∧ (indexWaitExpiry s).lmc.active = s.lmc.active ∧
      (indexWaitExpiry s).lmc.outLevel = s.lmc.outLevel ∧ (indexWaitExpiry s).lmc.level = s.lmc.level ∧
      (indexWaitExpiry s).lmc.par = s.lmc.par ∧ (indexWaitExpiry s).lmc.outDrive = s.lmc.outDrive ∧
      (indexWaitExpiry s).ttc.curVol = s.ttc.curVol ∧ (indexWaitExpiry s).ttc.servo = s.ttc.servo ∧
      (indexWaitExpiry s).ssq.steps = s.ssq.steps ∧ (indexWaitExpiry s).ssq.head = s.ssq.head ∧
      (indexWaitExpiry s).ssq.remembered = s.ssq.remembered ∧ (indexWaitExpiry s).lki.rx = s.lki.rx ∧
      (indexWaitExpiry s).lki.resp = s.lki.resp ∧ (indexWaitExpiry s).lki.addr = s.lki.addr ∧
      (indexWaitExpiry s).lki.assignTaken = s.lki.assignTaken ∧ (indexWaitExpiry s).lki.copies = s.lki.copies ∧
      (indexWaitExpiry s).lki.enables = s.lki.enables ∧ (indexWaitExpiry s).cnt.snap = s.cnt.snap ∧
      (indexWaitExpiry s).cnt.number = s.cnt.number := by
  unfold indexWaitExpiry; (try unfold State.whenDue); (try dsimp only)
  (repeat' split) <;> first | (simp; done) | ((repeat' apply And.intro) <;> first | rfl | simp)

@[simp] theorem lifterDownConfirm_frame (m : MechSense) (s : State) :
    (lifterDownConfirm m s).powered = s.powered ∧ (lifterDownConfirm m s).now = s.now ∧
      (lifterDownConfirm m s).free = s.free ∧ (lifterDownConfirm m s).aq = s.aq ∧
      (lifterDownConfirm m s).lmc = s.lmc ∧ (lifterDownConfirm m s).thc = s.thc ∧
      (lifterDownConfirm m s).ttc = s.ttc ∧ (lifterDownConfirm m s).cud = s.cud ∧
      (lifterDownConfirm m s).ssq = s.ssq ∧ (lifterDownConfirm m s).rpd = s.rpd ∧
      (lifterDownConfirm m s).cnt = s.cnt ∧ (lifterDownConfirm m s).sts = s.sts ∧
      (lifterDownConfirm m s).pending = s.pending ∧ (lifterDownConfirm m s).tmc.st = s.tmc.st ∧
      (lifterDownConfirm m s).tmc.trayDrive = s.tmc.trayDrive ∧
      (lifterDownConfirm m s).tmc.qualDue = s.tmc.qualDue ∧
      (lifterDownConfirm m s).tmc.trayPresent = s.tmc.trayPresent ∧
      (lifterDownConfirm m s).tmc.size = s.tmc.size ∧ (lifterDownConfirm m s).tmc.pos = s.tmc.pos ∧
      (lifterDownConfirm m s).tmc.jam = s.tmc.jam ∧ (lifterDownConfirm m s).tmc.comparePos = s.tmc.comparePos ∧
      (lifterDownConfirm m s).tmc.par = s.tmc.par ∧ (lifterDownConfirm m s).lki.rx = s.lki.rx ∧
      (lifterDownConfirm m s).lki.resp = s.lki.resp ∧ (lifterDownConfirm m s).lki.addr = s.lki.addr ∧
      (lifterDownConfirm m s).lki.assignTaken = s.lki.assignTaken ∧
      (lifterDownConfirm m s).lki.resetting = s.lki.resetting ∧
      (lifterDownConfirm m s).lki.copies = s.lki.copies ∧ (lifterDownConfirm m s).lki.enables = s.lki.enables := by
  unfold lifterDownConfirm; (try unfold State.whenDue); (try dsimp only)
  (repeat' split) <;> first | (simp; done) | ((repeat' apply And.intro) <;> first | rfl | simp)

@[simp] theorem settleExpiry_frame (s : State) :
    (settleExpiry s).powered = s.powered ∧ (settleExpiry s).free = s.free ∧ (settleExpiry s).cud = s.cud ∧
      (settleExpiry s).rpd = s.rpd ∧ (settleExpiry s).pending = s.pending ∧ (settleExpiry s).aq.mode = s.aq.mode ∧
      (settleExpiry s).aq.startMode = s.aq.startMode ∧ (settleExpiry s).tmc.lifter = s.tmc.lifter ∧
      (settleExpiry s).tmc.trayDrive = s.tmc.trayDrive ∧ (settleExpiry s).tmc.qualDue = s.tmc.qualDue ∧
      (settleExpiry s).tmc.trayPresent = s.tmc.trayPresent ∧ (settleExpiry s).tmc.slots = s.tmc.slots ∧
      (settleExpiry s).tmc.size = s.tmc.size ∧ (settleExpiry s).tmc.pos = s.tmc.pos ∧
      (settleExpiry s).tmc.gate = s.tmc.gate ∧ (settleExpiry s).tmc.jam = s.tmc.jam ∧
      (settleExpiry s).tmc.comparePos = s.tmc.comparePos ∧ (settleExpiry s).tmc.par = s.tmc.par ∧
      (settleExpiry s).lmc.active = s.lmc.active ∧ (settleExpiry s).lmc.outLevel = s.lmc.outLevel ∧
      (settleExpiry s).lmc.level = s.lmc.level ∧ (settleExpiry s).lmc.par = s.lmc.par ∧
      (settleExpiry s).thc.trip = s.thc.trip ∧ (settleExpiry s).thc.fanFault = s.thc.fanFault ∧
      (settleExpiry s).thc.power = s.thc.power ∧ (settleExpiry s).thc.lost = s.thc.lost ∧
      (settleExpiry s).thc.loss30 = s.thc.loss30 ∧ (settleExpiry s).thc.par = s.thc.par ∧
      (settleExpiry s).thc.tm = s.thc.tm ∧ (settleExpiry s).thc.hq = s.thc.hq ∧
      (settleExpiry s).thc.cEff = s.thc.cEff ∧ (settleExpiry s).ttc.st = s.ttc.st ∧
      (settleExpiry s).ttc.curVol = s.ttc.curVol ∧ (settleExpiry s).ttc.servo = s.ttc.servo ∧
      (settleExpiry s).ssq.steps = s.ssq.steps ∧ (settleExpiry s).ssq.head = s.ssq.head ∧
      (settleExpiry s).ssq.remembered = s.ssq.remembered ∧ (settleExpiry s).lki.rx = s.lki.rx ∧
      (settleExpiry s).lki.resp = s.lki.resp ∧ (settleExpiry s).lki.addr = s.lki.addr ∧
      (settleExpiry s).lki.assignTaken = s.lki.assignTaken ∧ (settleExpiry s).lki.copies = s.lki.copies ∧
      (settleExpiry s).lki.enables = s.lki.enables ∧ (settleExpiry s).cnt.snap = s.cnt.snap ∧
      (settleExpiry s).cnt.number = s.cnt.number ∧ (settleExpiry s).sts.record = s.sts.record ∧
      (settleExpiry s).sts.serial = s.sts.serial ∧ (settleExpiry s).sts.storeLost = s.sts.storeLost := by
  unfold settleExpiry; (try unfold State.whenDue); (try dsimp only)
  (repeat' split) <;> first | (simp; done) | ((repeat' apply And.intro) <;> first | rfl | simp)

@[simp] theorem holdExpiry_frame (s : State) :
    (holdExpiry s).powered = s.powered ∧ (holdExpiry s).free = s.free ∧ (holdExpiry s).tmc = s.tmc ∧
      (holdExpiry s).lmc = s.lmc ∧ (holdExpiry s).thc = s.thc ∧ (holdExpiry s).ttc = s.ttc ∧
      (holdExpiry s).cud = s.cud ∧ (holdExpiry s).ssq = s.ssq ∧ (holdExpiry s).rpd = s.rpd ∧
      (holdExpiry s).lki = s.lki ∧ (holdExpiry s).cnt = s.cnt ∧ (holdExpiry s).sts = s.sts ∧
      (holdExpiry s).pending = s.pending ∧ (holdExpiry s).aq.mode = s.aq.mode ∧
      (holdExpiry s).aq.startMode = s.aq.startMode ∧ (holdExpiry s).aq.queue = s.aq.queue ∧
      (holdExpiry s).aq.stopPending = s.aq.stopPending := by
  unfold holdExpiry; (try unfold State.whenDue); (try dsimp only)
  (repeat' split) <;> first | (simp; done) | ((repeat' apply And.intro) <;> first | rfl | simp)

@[simp] theorem pacingRunOut_frame (s : State) :
    (pacingRunOut s).powered = s.powered ∧ (pacingRunOut s).free = s.free ∧ (pacingRunOut s).aq = s.aq ∧
      (pacingRunOut s).lmc = s.lmc ∧ (pacingRunOut s).thc = s.thc ∧ (pacingRunOut s).ttc = s.ttc ∧
      (pacingRunOut s).cud = s.cud ∧ (pacingRunOut s).ssq = s.ssq ∧ (pacingRunOut s).rpd = s.rpd ∧
      (pacingRunOut s).lki = s.lki ∧ (pacingRunOut s).cnt = s.cnt ∧ (pacingRunOut s).sts = s.sts ∧
      (pacingRunOut s).pending = s.pending ∧ (pacingRunOut s).tmc.st = s.tmc.st ∧
      (pacingRunOut s).tmc.phase = s.tmc.phase ∧ (pacingRunOut s).tmc.timer = s.tmc.timer ∧
      (pacingRunOut s).tmc.lifter = s.tmc.lifter ∧ (pacingRunOut s).tmc.trayDrive = s.tmc.trayDrive ∧
      (pacingRunOut s).tmc.qualDue = s.tmc.qualDue ∧ (pacingRunOut s).tmc.trayPresent = s.tmc.trayPresent ∧
      (pacingRunOut s).tmc.slots = s.tmc.slots ∧ (pacingRunOut s).tmc.size = s.tmc.size ∧
      (pacingRunOut s).tmc.pos = s.tmc.pos ∧ (pacingRunOut s).tmc.gate = s.tmc.gate ∧
      (pacingRunOut s).tmc.jam = s.tmc.jam ∧ (pacingRunOut s).tmc.comparePos = s.tmc.comparePos ∧
      (pacingRunOut s).tmc.par = s.tmc.par := by
  unfold pacingRunOut; (try unfold State.whenDue); (try dsimp only)
  (repeat' split) <;> first | (simp; done) | ((repeat' apply And.intro) <;> first | rfl | simp)

@[simp] theorem lampSense_frame (s : State) (low : Bool) :
    (s.lampSense low).powered = s.powered ∧ (s.lampSense low).now = s.now ∧ (s.lampSense low).free = s.free ∧
      (s.lampSense low).aq = s.aq ∧ (s.lampSense low).tmc = s.tmc ∧ (s.lampSense low).ttc = s.ttc ∧
      (s.lampSense low).cud = s.cud ∧ (s.lampSense low).ssq = s.ssq ∧ (s.lampSense low).rpd = s.rpd ∧
      (s.lampSense low).pending = s.pending ∧ (s.lampSense low).lmc.active = s.lmc.active ∧
      (s.lampSense low).lmc.blanks.mech = s.lmc.blanks.mech ∧ (s.lampSense low).lmc.outLevel = s.lmc.outLevel ∧
      (s.lampSense low).lmc.level = s.lmc.level ∧ (s.lampSense low).lmc.par = s.lmc.par ∧
      (s.lampSense low).thc.trip = s.thc.trip ∧ (s.lampSense low).thc.fanFault = s.thc.fanFault ∧
      (s.lampSense low).thc.power = s.thc.power ∧ (s.lampSense low).thc.lost = s.thc.lost ∧
      (s.lampSense low).thc.loss30 = s.thc.loss30 ∧ (s.lampSense low).thc.par = s.thc.par ∧
      (s.lampSense low).thc.tm = s.thc.tm ∧ (s.lampSense low).thc.hq = s.thc.hq ∧
      (s.lampSense low).thc.cEff = s.thc.cEff ∧ (s.lampSense low).lki.rx = s.lki.rx ∧
      (s.lampSense low).lki.resp = s.lki.resp ∧ (s.lampSense low).lki.addr = s.lki.addr ∧
      (s.lampSense low).lki.assignTaken = s.lki.assignTaken ∧ (s.lampSense low).lki.resetting = s.lki.resetting ∧
      (s.lampSense low).lki.copies = s.lki.copies ∧ (s.lampSense low).lki.enables = s.lki.enables ∧
      (s.lampSense low).cnt.snap = s.cnt.snap ∧ (s.lampSense low).cnt.number = s.cnt.number ∧
      (s.lampSense low).sts.record = s.sts.record ∧ (s.lampSense low).sts.serial = s.sts.serial ∧
      (s.lampSense low).sts.storeLost = s.sts.storeLost := by
  unfold State.lampSense; (try unfold State.whenDue); (try dsimp only)
  (repeat' split) <;> first | (simp; done) | ((repeat' apply And.intro) <;> first | rfl | simp)

@[simp] theorem motionEnds_frame (s : State) (target : LampPos) :
    (s.motionEnds target).powered = s.powered ∧ (s.motionEnds target).now = s.now ∧
      (s.motionEnds target).free = s.free ∧ (s.motionEnds target).aq = s.aq ∧ (s.motionEnds target).tmc = s.tmc ∧
      (s.motionEnds target).ttc = s.ttc ∧ (s.motionEnds target).cud = s.cud ∧ (s.motionEnds target).ssq = s.ssq ∧
      (s.motionEnds target).rpd = s.rpd ∧ (s.motionEnds target).pending = s.pending ∧
      (s.motionEnds target).lmc.blanks.mech = s.lmc.blanks.mech ∧
      (s.motionEnds target).lmc.outLevel = s.lmc.outLevel ∧ (s.motionEnds target).lmc.level = s.lmc.level ∧
      (s.motionEnds target).lmc.par = s.lmc.par ∧ (s.motionEnds target).thc.trip = s.thc.trip ∧
      (s.motionEnds target).thc.fanFault = s.thc.fanFault ∧ (s.motionEnds target).thc.power = s.thc.power ∧
      (s.motionEnds target).thc.lost = s.thc.lost ∧ (s.motionEnds target).thc.loss30 = s.thc.loss30 ∧
      (s.motionEnds target).thc.par = s.thc.par ∧ (s.motionEnds target).thc.tm = s.thc.tm ∧
      (s.motionEnds target).thc.hq = s.thc.hq ∧ (s.motionEnds target).thc.cEff = s.thc.cEff ∧
      (s.motionEnds target).lki.rx = s.lki.rx ∧ (s.motionEnds target).lki.resp = s.lki.resp ∧
      (s.motionEnds target).lki.addr = s.lki.addr ∧ (s.motionEnds target).lki.assignTaken = s.lki.assignTaken ∧
      (s.motionEnds target).lki.resetting = s.lki.resetting ∧ (s.motionEnds target).lki.copies = s.lki.copies ∧
      (s.motionEnds target).lki.enables = s.lki.enables ∧ (s.motionEnds target).cnt.snap = s.cnt.snap ∧
      (s.motionEnds target).cnt.number = s.cnt.number ∧ (s.motionEnds target).sts.record = s.sts.record ∧
      (s.motionEnds target).sts.serial = s.sts.serial ∧ (s.motionEnds target).sts.storeLost = s.sts.storeLost := by
  unfold State.motionEnds; (try unfold State.whenDue); (try dsimp only)
  (repeat' split) <;> first | (simp; done) | ((repeat' apply And.intro) <;> first | rfl | simp)

@[simp] theorem lampMotion_frame (s : State) (m : Option Motion) :
    (s.lampMotion m).powered = s.powered ∧ (s.lampMotion m).now = s.now ∧ (s.lampMotion m).free = s.free ∧
      (s.lampMotion m).aq = s.aq ∧ (s.lampMotion m).tmc = s.tmc ∧ (s.lampMotion m).ttc = s.ttc ∧
      (s.lampMotion m).cud = s.cud ∧ (s.lampMotion m).ssq = s.ssq ∧ (s.lampMotion m).rpd = s.rpd ∧
      (s.lampMotion m).pending = s.pending ∧ (s.lampMotion m).lmc.blanks.mech = s.lmc.blanks.mech ∧
      (s.lampMotion m).lmc.outLevel = s.lmc.outLevel ∧ (s.lampMotion m).lmc.level = s.lmc.level ∧
      (s.lampMotion m).lmc.par = s.lmc.par ∧ (s.lampMotion m).thc.trip = s.thc.trip ∧
      (s.lampMotion m).thc.fanFault = s.thc.fanFault ∧ (s.lampMotion m).thc.power = s.thc.power ∧
      (s.lampMotion m).thc.lost = s.thc.lost ∧ (s.lampMotion m).thc.loss30 = s.thc.loss30 ∧
      (s.lampMotion m).thc.par = s.thc.par ∧ (s.lampMotion m).thc.tm = s.thc.tm ∧
      (s.lampMotion m).thc.hq = s.thc.hq ∧ (s.lampMotion m).thc.cEff = s.thc.cEff ∧
      (s.lampMotion m).lki.rx = s.lki.rx ∧ (s.lampMotion m).lki.resp = s.lki.resp ∧
      (s.lampMotion m).lki.addr = s.lki.addr ∧ (s.lampMotion m).lki.assignTaken = s.lki.assignTaken ∧
      (s.lampMotion m).lki.resetting = s.lki.resetting ∧ (s.lampMotion m).lki.copies = s.lki.copies ∧
      (s.lampMotion m).lki.enables = s.lki.enables ∧ (s.lampMotion m).cnt.snap = s.cnt.snap ∧
      (s.lampMotion m).cnt.number = s.cnt.number ∧ (s.lampMotion m).sts.record = s.sts.record ∧
      (s.lampMotion m).sts.serial = s.sts.serial ∧ (s.lampMotion m).sts.storeLost = s.sts.storeLost := by
  unfold State.lampMotion; (try unfold State.whenDue); (try dsimp only)
  (repeat' split) <;> first | (simp; done) | ((repeat' apply And.intro) <;> first | rfl | simp)

@[simp] theorem rampStep_frame (s : State) :
    s.rampStep.powered = s.powered ∧ s.rampStep.now = s.now ∧ s.rampStep.free = s.free ∧ s.rampStep.aq = s.aq ∧
      s.rampStep.tmc = s.tmc ∧ s.rampStep.thc = s.thc ∧ s.rampStep.ttc = s.ttc ∧ s.rampStep.cud = s.cud ∧
      s.rampStep.ssq = s.ssq ∧ s.rampStep.rpd = s.rpd ∧ s.rampStep.lki = s.lki ∧ s.rampStep.cnt = s.cnt ∧
      s.rampStep.sts = s.sts ∧ s.rampStep.pending = s.pending ∧ s.rampStep.lmc.power = s.lmc.power ∧
      s.rampStep.lmc.active = s.lmc.active ∧ s.rampStep.lmc.blanks = s.lmc.blanks ∧
      s.rampStep.lmc.outLevel = s.lmc.outLevel ∧ s.rampStep.lmc.par = s.lmc.par ∧
      s.rampStep.lmc.outDrive = s.lmc.outDrive := by
  unfold State.rampStep; (try unfold State.whenDue); (try dsimp only)
  (repeat' split) <;> first | (simp; done) | ((repeat' apply And.intro) <;> first | rfl | simp)

@[simp] theorem deriveBlanks_frame (s : State) :
    s.deriveBlanks.powered = s.powered ∧ s.deriveBlanks.now = s.now ∧ s.deriveBlanks.free = s.free ∧
      s.deriveBlanks.aq = s.aq ∧ s.deriveBlanks.tmc = s.tmc ∧ s.deriveBlanks.thc = s.thc ∧
      s.deriveBlanks.ttc = s.ttc ∧ s.deriveBlanks.cud = s.cud ∧ s.deriveBlanks.ssq = s.ssq ∧
      s.deriveBlanks.rpd = s.rpd ∧ s.deriveBlanks.lki = s.lki ∧ s.deriveBlanks.cnt = s.cnt ∧
      s.deriveBlanks.sts = s.sts ∧ s.deriveBlanks.pending = s.pending ∧ s.deriveBlanks.lmc.power = s.lmc.power ∧
      s.deriveBlanks.lmc.active = s.lmc.active ∧ s.deriveBlanks.lmc.blanks.mech = s.lmc.blanks.mech ∧
      s.deriveBlanks.lmc.outLevel = s.lmc.outLevel ∧ s.deriveBlanks.lmc.level = s.lmc.level ∧
      s.deriveBlanks.lmc.par = s.lmc.par ∧ s.deriveBlanks.lmc.outDrive = s.lmc.outDrive := by
  unfold State.deriveBlanks; (try unfold State.whenDue); (try dsimp only)
  (repeat' split) <;> first | (simp; done) | ((repeat' apply And.intro) <;> first | rfl | simp)

@[simp] theorem formLevel_frame (s : State) :
    s.formLevel.powered = s.powered ∧ s.formLevel.now = s.now ∧ s.formLevel.free = s.free ∧ s.formLevel.aq = s.aq ∧
      s.formLevel.tmc = s.tmc ∧ s.formLevel.thc = s.thc ∧ s.formLevel.ttc = s.ttc ∧ s.formLevel.cud = s.cud ∧
      s.formLevel.ssq = s.ssq ∧ s.formLevel.rpd = s.rpd ∧ s.formLevel.lki = s.lki ∧ s.formLevel.cnt = s.cnt ∧
      s.formLevel.sts = s.sts ∧ s.formLevel.pending = s.pending ∧ s.formLevel.lmc.power = s.lmc.power ∧
      s.formLevel.lmc.active = s.lmc.active ∧ s.formLevel.lmc.blanks = s.lmc.blanks ∧
      s.formLevel.lmc.level = s.lmc.level ∧ s.formLevel.lmc.par = s.lmc.par ∧
      s.formLevel.lmc.outDrive = s.lmc.outDrive := by
  unfold State.formLevel; (try unfold State.whenDue); (try dsimp only)
  (repeat' split) <;> first | (simp; done) | ((repeat' apply And.intro) <;> first | rfl | simp)

@[simp] theorem formDrive_frame (s : State) (fresh : Bool) :
    (s.formDrive fresh).powered = s.powered ∧ (s.formDrive fresh).now = s.now ∧ (s.formDrive fresh).free = s.free ∧
      (s.formDrive fresh).aq = s.aq ∧ (s.formDrive fresh).tmc = s.tmc ∧ (s.formDrive fresh).thc = s.thc ∧
      (s.formDrive fresh).ttc = s.ttc ∧ (s.formDrive fresh).cud = s.cud ∧ (s.formDrive fresh).ssq = s.ssq ∧
      (s.formDrive fresh).rpd = s.rpd ∧ (s.formDrive fresh).lki = s.lki ∧ (s.formDrive fresh).cnt = s.cnt ∧
      (s.formDrive fresh).sts = s.sts ∧ (s.formDrive fresh).pending = s.pending ∧
      (s.formDrive fresh).lmc.power = s.lmc.power ∧ (s.formDrive fresh).lmc.active = s.lmc.active ∧
      (s.formDrive fresh).lmc.blanks = s.lmc.blanks ∧ (s.formDrive fresh).lmc.outLevel = s.lmc.outLevel ∧
      (s.formDrive fresh).lmc.level = s.lmc.level ∧ (s.formDrive fresh).lmc.par = s.lmc.par := by
  unfold State.formDrive; (try unfold State.whenDue); (try dsimp only)
  (repeat' split) <;> first | (simp; done) | ((repeat' apply And.intro) <;> first | rfl | simp)

@[simp] theorem accrue_frame (s : State) :
    s.accrue.powered = s.powered ∧ s.accrue.now = s.now ∧ s.accrue.free = s.free ∧ s.accrue.aq = s.aq ∧
      s.accrue.tmc = s.tmc ∧ s.accrue.thc = s.thc ∧ s.accrue.ttc = s.ttc ∧ s.accrue.cud = s.cud ∧
      s.accrue.ssq = s.ssq ∧ s.accrue.rpd = s.rpd ∧ s.accrue.cnt = s.cnt ∧ s.accrue.sts = s.sts ∧
      s.accrue.pending = s.pending ∧ s.accrue.lmc.power = s.lmc.power ∧ s.accrue.lmc.active = s.lmc.active ∧
      s.accrue.lmc.blanks = s.lmc.blanks ∧ s.accrue.lmc.outLevel = s.lmc.outLevel ∧
      s.accrue.lmc.level = s.lmc.level ∧ s.accrue.lmc.par = s.lmc.par ∧ s.accrue.lmc.outDrive = s.lmc.outDrive ∧
      s.accrue.lki.rx = s.lki.rx ∧ s.accrue.lki.resp = s.lki.resp ∧ s.accrue.lki.addr = s.lki.addr ∧
      s.accrue.lki.assignTaken = s.lki.assignTaken ∧ s.accrue.lki.resetting = s.lki.resetting ∧
      s.accrue.lki.copies = s.lki.copies ∧ s.accrue.lki.enables = s.lki.enables := by
  unfold State.accrue; (try unfold State.whenDue); (try dsimp only)
  (repeat' split) <;> first | (simp; done) | ((repeat' apply And.intro) <;> first | rfl | simp)

@[simp] theorem darkReport_frame (s : State) :
    s.darkReport.powered = s.powered ∧ s.darkReport.now = s.now ∧ s.darkReport.free = s.free ∧
      s.darkReport.aq = s.aq ∧ s.darkReport.lmc = s.lmc ∧ s.darkReport.thc = s.thc ∧ s.darkReport.ttc = s.ttc ∧
      s.darkReport.cud = s.cud ∧ s.darkReport.ssq = s.ssq ∧ s.darkReport.rpd = s.rpd ∧ s.darkReport.lki = s.lki ∧
      s.darkReport.cnt = s.cnt ∧ s.darkReport.sts = s.sts ∧ s.darkReport.pending = s.pending ∧
      s.darkReport.tmc.st = s.tmc.st ∧ s.darkReport.tmc.phase = s.tmc.phase ∧
      s.darkReport.tmc.lifter = s.tmc.lifter ∧ s.darkReport.tmc.trayDrive = s.tmc.trayDrive ∧
      s.darkReport.tmc.qualDue = s.tmc.qualDue ∧ s.darkReport.tmc.trayPresent = s.tmc.trayPresent ∧
      s.darkReport.tmc.slots = s.tmc.slots ∧ s.darkReport.tmc.size = s.tmc.size ∧
      s.darkReport.tmc.pos = s.tmc.pos ∧ s.darkReport.tmc.gate = s.tmc.gate ∧ s.darkReport.tmc.jam = s.tmc.jam ∧
      s.darkReport.tmc.comparePos = s.tmc.comparePos ∧ s.darkReport.tmc.par = s.tmc.par := by
  unfold State.darkReport; (try unfold State.whenDue); (try dsimp only)
  (repeat' split) <;> first | (simp; done) | ((repeat' apply And.intro) <;> first | rfl | simp)

@[simp] theorem heatReport_frame (s : State) :
    s.heatReport.powered = s.powered ∧ s.heatReport.now = s.now ∧ s.heatReport.free = s.free ∧
      s.heatReport.aq = s.aq ∧ s.heatReport.tmc = s.tmc ∧ s.heatReport.lmc = s.lmc ∧ s.heatReport.ttc = s.ttc ∧
      s.heatReport.cud = s.cud ∧ s.heatReport.ssq = s.ssq ∧ s.heatReport.rpd = s.rpd ∧ s.heatReport.lki = s.lki ∧
      s.heatReport.cnt = s.cnt ∧ s.heatReport.sts = s.sts ∧ s.heatReport.pending = s.pending ∧
      s.heatReport.thc.trip = s.thc.trip ∧ s.heatReport.thc.fanFault = s.thc.fanFault ∧
      s.heatReport.thc.power = s.thc.power ∧ s.heatReport.thc.lost = s.thc.lost ∧
      s.heatReport.thc.loss30 = s.thc.loss30 ∧ s.heatReport.thc.par = s.thc.par ∧ s.heatReport.thc.tm = s.thc.tm ∧
      s.heatReport.thc.cEff = s.thc.cEff := by
  unfold State.heatReport; (try unfold State.whenDue); (try dsimp only)
  (repeat' split) <;> first | (simp; done) | ((repeat' apply And.intro) <;> first | rfl | simp)

@[simp] theorem litReport_frame (s : State) :
    s.litReport.powered = s.powered ∧ s.litReport.now = s.now ∧ s.litReport.free = s.free ∧ s.litReport.aq = s.aq ∧
      s.litReport.tmc = s.tmc ∧ s.litReport.ttc = s.ttc ∧ s.litReport.cud = s.cud ∧ s.litReport.ssq = s.ssq ∧
      s.litReport.rpd = s.rpd ∧ s.litReport.cnt = s.cnt ∧ s.litReport.pending = s.pending ∧
      s.litReport.lmc.active = s.lmc.active ∧ s.litReport.lmc.blanks = s.lmc.blanks ∧
      s.litReport.lmc.outLevel = s.lmc.outLevel ∧ s.litReport.lmc.level = s.lmc.level ∧
      s.litReport.lmc.par = s.lmc.par ∧ s.litReport.thc.trip = s.thc.trip ∧
      s.litReport.thc.fanFault = s.thc.fanFault ∧ s.litReport.thc.power = s.thc.power ∧
      s.litReport.thc.lost = s.thc.lost ∧ s.litReport.thc.loss30 = s.thc.loss30 ∧
      s.litReport.thc.par = s.thc.par ∧ s.litReport.thc.tm = s.thc.tm ∧ s.litReport.thc.hq = s.thc.hq ∧
      s.litReport.thc.cEff = s.thc.cEff ∧ s.litReport.lki.rx = s.lki.rx ∧ s.litReport.lki.resp = s.lki.resp ∧
      s.litReport.lki.addr = s.lki.addr ∧ s.litReport.lki.assignTaken = s.lki.assignTaken ∧
      s.litReport.lki.resetting = s.lki.resetting ∧ s.litReport.lki.copies = s.lki.copies ∧
      s.litReport.lki.enables = s.lki.enables ∧ s.litReport.sts.record = s.sts.record ∧
      s.litReport.sts.serial = s.sts.serial ∧ s.litReport.sts.storeLost = s.sts.storeLost := by
  unfold State.litReport; (try unfold State.whenDue); (try dsimp only)
  (repeat' split) <;> first | (simp; done) | ((repeat' apply And.intro) <;> first | rfl | simp)

@[simp] theorem lampChanges_frame (s : State) (low : Bool) :
    (s.lampChanges low).powered = s.powered ∧ (s.lampChanges low).now = s.now ∧ (s.lampChanges low).free = s.free ∧
      (s.lampChanges low).aq = s.aq ∧ (s.lampChanges low).tmc = s.tmc ∧ (s.lampChanges low).ttc = s.ttc ∧
      (s.lampChanges low).cud = s.cud ∧ (s.lampChanges low).ssq = s.ssq ∧ (s.lampChanges low).rpd = s.rpd ∧
      (s.lampChanges low).pending = s.pending ∧ (s.lampChanges low).lmc.blanks.mech = s.lmc.blanks.mech ∧
      (s.lampChanges low).lmc.outLevel = s.lmc.outLevel ∧ (s.lampChanges low).lmc.level = s.lmc.level ∧
      (s.lampChanges low).lmc.par = s.lmc.par ∧ (s.lampChanges low).thc.trip = s.thc.trip ∧
      (s.lampChanges low).thc.fanFault = s.thc.fanFault ∧ (s.lampChanges low).thc.power = s.thc.power ∧
      (s.lampChanges low).thc.lost = s.thc.lost ∧ (s.lampChanges low).thc.loss30 = s.thc.loss30 ∧
      (s.lampChanges low).thc.par = s.thc.par ∧ (s.lampChanges low).thc.tm = s.thc.tm ∧
      (s.lampChanges low).thc.hq = s.thc.hq ∧ (s.lampChanges low).thc.cEff = s.thc.cEff ∧
      (s.lampChanges low).lki.rx = s.lki.rx ∧ (s.lampChanges low).lki.resp = s.lki.resp ∧
      (s.lampChanges low).lki.addr = s.lki.addr ∧ (s.lampChanges low).lki.assignTaken = s.lki.assignTaken ∧
      (s.lampChanges low).lki.resetting = s.lki.resetting ∧ (s.lampChanges low).lki.copies = s.lki.copies ∧
      (s.lampChanges low).lki.enables = s.lki.enables ∧ (s.lampChanges low).cnt.snap = s.cnt.snap ∧
      (s.lampChanges low).cnt.number = s.cnt.number ∧ (s.lampChanges low).sts.record = s.sts.record ∧
      (s.lampChanges low).sts.serial = s.sts.serial ∧ (s.lampChanges low).sts.storeLost = s.sts.storeLost := by
  unfold State.lampChanges; (try unfold State.whenDue); (try dsimp only)
  (repeat' split) <;> first | (simp; done) | ((repeat' apply And.intro) <;> first | rfl | simp)

@[simp] theorem lampOutputs_frame (s : State) (fresh : Bool) :
    (s.lampOutputs fresh).powered = s.powered ∧ (s.lampOutputs fresh).now = s.now ∧
      (s.lampOutputs fresh).free = s.free ∧ (s.lampOutputs fresh).aq = s.aq ∧ (s.lampOutputs fresh).tmc = s.tmc ∧
      (s.lampOutputs fresh).thc = s.thc ∧ (s.lampOutputs fresh).ttc = s.ttc ∧ (s.lampOutputs fresh).cud = s.cud ∧
      (s.lampOutputs fresh).ssq = s.ssq ∧ (s.lampOutputs fresh).rpd = s.rpd ∧ (s.lampOutputs fresh).lki = s.lki ∧
      (s.lampOutputs fresh).cnt = s.cnt ∧ (s.lampOutputs fresh).sts = s.sts ∧
      (s.lampOutputs fresh).pending = s.pending ∧ (s.lampOutputs fresh).lmc.power = s.lmc.power ∧
      (s.lampOutputs fresh).lmc.active = s.lmc.active ∧
      (s.lampOutputs fresh).lmc.blanks.mech = s.lmc.blanks.mech ∧ (s.lampOutputs fresh).lmc.par = s.lmc.par := by
  unfold State.lampOutputs; (try unfold State.whenDue); (try dsimp only)
  (repeat' split) <;> first | (simp; done) | ((repeat' apply And.intro) <;> first | rfl | simp)

@[simp] theorem lampUpdate_frame (low : Bool) (s : State) :
    (lampUpdate low s).powered = s.powered ∧ (lampUpdate low s).now = s.now ∧ (lampUpdate low s).free = s.free ∧
      (lampUpdate low s).aq = s.aq ∧ (lampUpdate low s).ttc = s.ttc ∧ (lampUpdate low s).cud = s.cud ∧
      (lampUpdate low s).ssq = s.ssq ∧ (lampUpdate low s).rpd = s.rpd ∧ (lampUpdate low s).pending = s.pending ∧
      (lampUpdate low s).tmc.st = s.tmc.st ∧ (lampUpdate low s).tmc.phase = s.tmc.phase ∧
      (lampUpdate low s).tmc.lifter = s.tmc.lifter ∧ (lampUpdate low s).tmc.trayDrive = s.tmc.trayDrive ∧
      (lampUpdate low s).tmc.qualDue = s.tmc.qualDue ∧ (lampUpdate low s).tmc.trayPresent = s.tmc.trayPresent ∧
      (lampUpdate low s).tmc.slots = s.tmc.slots ∧ (lampUpdate low s).tmc.size = s.tmc.size ∧
      (lampUpdate low s).tmc.pos = s.tmc.pos ∧ (lampUpdate low s).tmc.gate = s.tmc.gate ∧
      (lampUpdate low s).tmc.jam = s.tmc.jam ∧ (lampUpdate low s).tmc.comparePos = s.tmc.comparePos ∧
      (lampUpdate low s).tmc.par = s.tmc.par ∧ (lampUpdate low s).lmc.blanks.mech = s.lmc.blanks.mech ∧
      (lampUpdate low s).lmc.par = s.lmc.par ∧ (lampUpdate low s).thc.trip = s.thc.trip ∧
      (lampUpdate low s).thc.fanFault = s.thc.fanFault ∧ (lampUpdate low s).thc.power = s.thc.power ∧
      (lampUpdate low s).thc.lost = s.thc.lost ∧ (lampUpdate low s).thc.loss30 = s.thc.loss30 ∧
      (lampUpdate low s).thc.par = s.thc.par ∧ (lampUpdate low s).thc.tm = s.thc.tm ∧
      (lampUpdate low s).thc.cEff = s.thc.cEff ∧ (lampUpdate low s).lki.rx = s.lki.rx ∧
      (lampUpdate low s).lki.resp = s.lki.resp ∧ (lampUpdate low s).lki.addr = s.lki.addr ∧
      (lampUpdate low s).lki.assignTaken = s.lki.assignTaken ∧
      (lampUpdate low s).lki.resetting = s.lki.resetting ∧ (lampUpdate low s).lki.copies = s.lki.copies ∧
      (lampUpdate low s).lki.enables = s.lki.enables ∧ (lampUpdate low s).cnt.snap = s.cnt.snap ∧
      (lampUpdate low s).cnt.number = s.cnt.number ∧ (lampUpdate low s).sts.record = s.sts.record ∧
      (lampUpdate low s).sts.serial = s.sts.serial ∧ (lampUpdate low s).sts.storeLost = s.sts.storeLost := by
  unfold lampUpdate; (try unfold State.whenDue); (try dsimp only)
  (repeat' split) <;> first | (simp; done) | ((repeat' apply And.intro) <;> first | rfl | simp)

@[simp] theorem lampFailure_frame (s : State) :
    (lampFailure s).powered = s.powered ∧ (lampFailure s).now = s.now ∧ (lampFailure s).free = s.free ∧
      (lampFailure s).aq = s.aq ∧ (lampFailure s).ttc = s.ttc ∧ (lampFailure s).cud = s.cud ∧
      (lampFailure s).ssq = s.ssq ∧ (lampFailure s).rpd = s.rpd ∧ (lampFailure s).pending = s.pending ∧
      (lampFailure s).tmc.st = s.tmc.st ∧ (lampFailure s).tmc.phase = s.tmc.phase ∧
      (lampFailure s).tmc.lifter = s.tmc.lifter ∧ (lampFailure s).tmc.trayDrive = s.tmc.trayDrive ∧
      (lampFailure s).tmc.qualDue = s.tmc.qualDue ∧ (lampFailure s).tmc.trayPresent = s.tmc.trayPresent ∧
      (lampFailure s).tmc.slots = s.tmc.slots ∧ (lampFailure s).tmc.size = s.tmc.size ∧
      (lampFailure s).tmc.pos = s.tmc.pos ∧ (lampFailure s).tmc.gate = s.tmc.gate ∧
      (lampFailure s).tmc.jam = s.tmc.jam ∧ (lampFailure s).tmc.comparePos = s.tmc.comparePos ∧
      (lampFailure s).tmc.par = s.tmc.par ∧ (lampFailure s).lmc.blanks.mech = s.lmc.blanks.mech ∧
      (lampFailure s).lmc.par = s.lmc.par ∧ (lampFailure s).thc.trip = s.thc.trip ∧
      (lampFailure s).thc.fanFault = s.thc.fanFault ∧ (lampFailure s).thc.power = s.thc.power ∧
      (lampFailure s).thc.lost = s.thc.lost ∧ (lampFailure s).thc.loss30 = s.thc.loss30 ∧
      (lampFailure s).thc.par = s.thc.par ∧ (lampFailure s).thc.tm = s.thc.tm ∧
      (lampFailure s).thc.cEff = s.thc.cEff ∧ (lampFailure s).lki.rx = s.lki.rx ∧
      (lampFailure s).lki.resp = s.lki.resp ∧ (lampFailure s).lki.addr = s.lki.addr ∧
      (lampFailure s).lki.assignTaken = s.lki.assignTaken ∧ (lampFailure s).lki.resetting = s.lki.resetting ∧
      (lampFailure s).lki.copies = s.lki.copies ∧ (lampFailure s).lki.enables = s.lki.enables ∧
      (lampFailure s).cnt.snap = s.cnt.snap ∧ (lampFailure s).cnt.number = s.cnt.number ∧
      (lampFailure s).sts.record = s.sts.record ∧ (lampFailure s).sts.serial = s.sts.serial ∧
      (lampFailure s).sts.storeLost = s.sts.storeLost := by
  unfold lampFailure; (try unfold State.whenDue); (try dsimp only)
  (repeat' split) <;> first | (simp; done) | ((repeat' apply And.intro) <;> first | rfl | simp)

@[simp] theorem changerMotionEnd_frame (low : Bool) (s : State) :
    (changerMotionEnd low s).powered = s.powered ∧ (changerMotionEnd low s).now = s.now ∧
      (changerMotionEnd low s).free = s.free ∧ (changerMotionEnd low s).aq = s.aq ∧
      (changerMotionEnd low s).ttc = s.ttc ∧ (changerMotionEnd low s).cud = s.cud ∧
      (changerMotionEnd low s).ssq = s.ssq ∧ (changerMotionEnd low s).rpd = s.rpd ∧
      (changerMotionEnd low s).pending = s.pending ∧ (changerMotionEnd low s).tmc.st = s.tmc.st ∧
      (changerMotionEnd low s).tmc.phase = s.tmc.phase ∧ (changerMotionEnd low s).tmc.lifter = s.tmc.lifter ∧
      (changerMotionEnd low s).tmc.trayDrive = s.tmc.trayDrive ∧
      (changerMotionEnd low s).tmc.qualDue = s.tmc.qualDue ∧
      (changerMotionEnd low s).tmc.trayPresent = s.tmc.trayPresent ∧
      (changerMotionEnd low s).tmc.slots = s.tmc.slots ∧ (changerMotionEnd low s).tmc.size = s.tmc.size ∧
      (changerMotionEnd low s).tmc.pos = s.tmc.pos ∧ (changerMotionEnd low s).tmc.gate = s.tmc.gate ∧
      (changerMotionEnd low s).tmc.jam = s.tmc.jam ∧ (changerMotionEnd low s).tmc.comparePos = s.tmc.comparePos ∧
      (changerMotionEnd low s).tmc.par = s.tmc.par ∧
      (changerMotionEnd low s).lmc.blanks.mech = s.lmc.blanks.mech ∧
      (changerMotionEnd low s).lmc.par = s.lmc.par ∧ (changerMotionEnd low s).thc.trip = s.thc.trip ∧
      (changerMotionEnd low s).thc.fanFault = s.thc.fanFault ∧ (changerMotionEnd low s).thc.power = s.thc.power ∧
      (changerMotionEnd low s).thc.lost = s.thc.lost ∧ (changerMotionEnd low s).thc.loss30 = s.thc.loss30 ∧
      (changerMotionEnd low s).thc.par = s.thc.par ∧ (changerMotionEnd low s).thc.tm = s.thc.tm ∧
      (changerMotionEnd low s).thc.cEff = s.thc.cEff ∧ (changerMotionEnd low s).lki.rx = s.lki.rx ∧
      (changerMotionEnd low s).lki.resp = s.lki.resp ∧ (changerMotionEnd low s).lki.addr = s.lki.addr ∧
      (changerMotionEnd low s).lki.assignTaken = s.lki.assignTaken ∧
      (changerMotionEnd low s).lki.resetting = s.lki.resetting ∧
      (changerMotionEnd low s).lki.copies = s.lki.copies ∧ (changerMotionEnd low s).lki.enables = s.lki.enables ∧
      (changerMotionEnd low s).cnt.snap = s.cnt.snap ∧ (changerMotionEnd low s).cnt.number = s.cnt.number ∧
      (changerMotionEnd low s).sts.record = s.sts.record ∧ (changerMotionEnd low s).sts.serial = s.sts.serial ∧
      (changerMotionEnd low s).sts.storeLost = s.sts.storeLost := by
  unfold changerMotionEnd; (try unfold State.whenDue); (try dsimp only)
  (repeat' split) <;> first | (simp; done) | ((repeat' apply And.intro) <;> first | rfl | simp)

@[simp] theorem ignitionComplete_frame (low : Bool) (s : State) :
    (ignitionComplete low s).powered = s.powered ∧ (ignitionComplete low s).now = s.now ∧
      (ignitionComplete low s).free = s.free ∧ (ignitionComplete low s).aq = s.aq ∧
      (ignitionComplete low s).ttc = s.ttc ∧ (ignitionComplete low s).cud = s.cud ∧
      (ignitionComplete low s).ssq = s.ssq ∧ (ignitionComplete low s).rpd = s.rpd ∧
      (ignitionComplete low s).pending = s.pending ∧ (ignitionComplete low s).tmc.st = s.tmc.st ∧
      (ignitionComplete low s).tmc.phase = s.tmc.phase ∧ (ignitionComplete low s).tmc.lifter = s.tmc.lifter ∧
      (ignitionComplete low s).tmc.trayDrive = s.tmc.trayDrive ∧
      (ignitionComplete low s).tmc.qualDue = s.tmc.qualDue ∧
      (ignitionComplete low s).tmc.trayPresent = s.tmc.trayPresent ∧
      (ignitionComplete low s).tmc.slots = s.tmc.slots ∧ (ignitionComplete low s).tmc.size = s.tmc.size ∧
      (ignitionComplete low s).tmc.pos = s.tmc.pos ∧ (ignitionComplete low s).tmc.gate = s.tmc.gate ∧
      (ignitionComplete low s).tmc.jam = s.tmc.jam ∧ (ignitionComplete low s).tmc.comparePos = s.tmc.comparePos ∧
      (ignitionComplete low s).tmc.par = s.tmc.par ∧
      (ignitionComplete low s).lmc.blanks.mech = s.lmc.blanks.mech ∧
      (ignitionComplete low s).lmc.par = s.lmc.par ∧ (ignitionComplete low s).thc.trip = s.thc.trip ∧
      (ignitionComplete low s).thc.fanFault = s.thc.fanFault ∧ (ignitionComplete low s).thc.power = s.thc.power ∧
      (ignitionComplete low s).thc.lost = s.thc.lost ∧ (ignitionComplete low s).thc.loss30 = s.thc.loss30 ∧
      (ignitionComplete low s).thc.par = s.thc.par ∧ (ignitionComplete low s).thc.tm = s.thc.tm ∧
      (ignitionComplete low s).thc.cEff = s.thc.cEff ∧ (ignitionComplete low s).lki.rx = s.lki.rx ∧
      (ignitionComplete low s).lki.resp = s.lki.resp ∧ (ignitionComplete low s).lki.addr = s.lki.addr ∧
      (ignitionComplete low s).lki.assignTaken = s.lki.assignTaken ∧
      (ignitionComplete low s).lki.resetting = s.lki.resetting ∧
      (ignitionComplete low s).lki.copies = s.lki.copies ∧ (ignitionComplete low s).lki.enables = s.lki.enables ∧
      (ignitionComplete low s).cnt.snap = s.cnt.snap ∧ (ignitionComplete low s).cnt.number = s.cnt.number ∧
      (ignitionComplete low s).sts.record = s.sts.record ∧ (ignitionComplete low s).sts.serial = s.sts.serial ∧
      (ignitionComplete low s).sts.storeLost = s.sts.storeLost := by
  unfold ignitionComplete; (try unfold State.whenDue); (try dsimp only)
  (repeat' split) <;> first | (simp; done) | ((repeat' apply And.intro) <;> first | rfl | simp)

@[simp] theorem rampEnd_frame (low : Bool) (s : State) :
    (rampEnd low s).powered = s.powered ∧ (rampEnd low s).now = s.now ∧ (rampEnd low s).free = s.free ∧
      (rampEnd low s).aq = s.aq ∧ (rampEnd low s).ttc = s.ttc ∧ (rampEnd low s).cud = s.cud ∧
      (rampEnd low s).ssq = s.ssq ∧ (rampEnd low s).rpd = s.rpd ∧ (rampEnd low s).pending = s.pending ∧
      (rampEnd low s).tmc.st = s.tmc.st ∧ (rampEnd low s).tmc.phase = s.tmc.phase ∧
      (rampEnd low s).tmc.lifter = s.tmc.lifter ∧ (rampEnd low s).tmc.trayDrive = s.tmc.trayDrive ∧
      (rampEnd low s).tmc.qualDue = s.tmc.qualDue ∧ (rampEnd low s).tmc.trayPresent = s.tmc.trayPresent ∧
      (rampEnd low s).tmc.slots = s.tmc.slots ∧ (rampEnd low s).tmc.size = s.tmc.size ∧
      (rampEnd low s).tmc.pos = s.tmc.pos ∧ (rampEnd low s).tmc.gate = s.tmc.gate ∧
      (rampEnd low s).tmc.jam = s.tmc.jam ∧ (rampEnd low s).tmc.comparePos = s.tmc.comparePos ∧
      (rampEnd low s).tmc.par = s.tmc.par ∧ (rampEnd low s).lmc.blanks.mech = s.lmc.blanks.mech ∧
      (rampEnd low s).lmc.par = s.lmc.par ∧ (rampEnd low s).thc.trip = s.thc.trip ∧
      (rampEnd low s).thc.fanFault = s.thc.fanFault ∧ (rampEnd low s).thc.power = s.thc.power ∧
      (rampEnd low s).thc.lost = s.thc.lost ∧ (rampEnd low s).thc.loss30 = s.thc.loss30 ∧
      (rampEnd low s).thc.par = s.thc.par ∧ (rampEnd low s).thc.tm = s.thc.tm ∧
      (rampEnd low s).thc.cEff = s.thc.cEff ∧ (rampEnd low s).lki.rx = s.lki.rx ∧
      (rampEnd low s).lki.resp = s.lki.resp ∧ (rampEnd low s).lki.addr = s.lki.addr ∧
      (rampEnd low s).lki.assignTaken = s.lki.assignTaken ∧ (rampEnd low s).lki.resetting = s.lki.resetting ∧
      (rampEnd low s).lki.copies = s.lki.copies ∧ (rampEnd low s).lki.enables = s.lki.enables ∧
      (rampEnd low s).cnt.snap = s.cnt.snap ∧ (rampEnd low s).cnt.number = s.cnt.number ∧
      (rampEnd low s).sts.record = s.sts.record ∧ (rampEnd low s).sts.serial = s.sts.serial ∧
      (rampEnd low s).sts.storeLost = s.sts.storeLost := by
  unfold rampEnd; (try unfold State.whenDue); (try dsimp only)
  (repeat' split) <;> first | (simp; done) | ((repeat' apply And.intro) <;> first | rfl | simp)

@[simp] theorem litSecond_frame (low : Bool) (s : State) :
    (litSecond low s).powered = s.powered ∧ (litSecond low s).now = s.now ∧ (litSecond low s).free = s.free ∧
      (litSecond low s).aq = s.aq ∧ (litSecond low s).ttc = s.ttc ∧ (litSecond low s).cud = s.cud ∧
      (litSecond low s).ssq = s.ssq ∧ (litSecond low s).rpd = s.rpd ∧ (litSecond low s).pending = s.pending ∧
      (litSecond low s).tmc.st = s.tmc.st ∧ (litSecond low s).tmc.phase = s.tmc.phase ∧
      (litSecond low s).tmc.lifter = s.tmc.lifter ∧ (litSecond low s).tmc.trayDrive = s.tmc.trayDrive ∧
      (litSecond low s).tmc.qualDue = s.tmc.qualDue ∧ (litSecond low s).tmc.trayPresent = s.tmc.trayPresent ∧
      (litSecond low s).tmc.slots = s.tmc.slots ∧ (litSecond low s).tmc.size = s.tmc.size ∧
      (litSecond low s).tmc.pos = s.tmc.pos ∧ (litSecond low s).tmc.gate = s.tmc.gate ∧
      (litSecond low s).tmc.jam = s.tmc.jam ∧ (litSecond low s).tmc.comparePos = s.tmc.comparePos ∧
      (litSecond low s).tmc.par = s.tmc.par ∧ (litSecond low s).lmc.blanks.mech = s.lmc.blanks.mech ∧
      (litSecond low s).lmc.par = s.lmc.par ∧ (litSecond low s).thc.trip = s.thc.trip ∧
      (litSecond low s).thc.fanFault = s.thc.fanFault ∧ (litSecond low s).thc.power = s.thc.power ∧
      (litSecond low s).thc.lost = s.thc.lost ∧ (litSecond low s).thc.loss30 = s.thc.loss30 ∧
      (litSecond low s).thc.par = s.thc.par ∧ (litSecond low s).thc.tm = s.thc.tm ∧
      (litSecond low s).thc.cEff = s.thc.cEff ∧ (litSecond low s).lki.rx = s.lki.rx ∧
      (litSecond low s).lki.resp = s.lki.resp ∧ (litSecond low s).lki.addr = s.lki.addr ∧
      (litSecond low s).lki.assignTaken = s.lki.assignTaken ∧ (litSecond low s).lki.resetting = s.lki.resetting ∧
      (litSecond low s).lki.copies = s.lki.copies ∧ (litSecond low s).lki.enables = s.lki.enables ∧
      (litSecond low s).cnt.snap = s.cnt.snap ∧ (litSecond low s).cnt.number = s.cnt.number ∧
      (litSecond low s).sts.record = s.sts.record ∧ (litSecond low s).sts.serial = s.sts.serial ∧
      (litSecond low s).sts.storeLost = s.sts.storeLost := by
  unfold litSecond; (try unfold State.whenDue); (try dsimp only)
  (repeat' split) <;> first | (simp; done) | ((repeat' apply And.intro) <;> first | rfl | simp)

@[simp] theorem lampPresentChange_frame (pos : LampPos) (present : Bool) (s : State) :
    (lampPresentChange pos present s).powered = s.powered ∧ (lampPresentChange pos present s).now = s.now ∧
      (lampPresentChange pos present s).free = s.free ∧ (lampPresentChange pos present s).aq = s.aq ∧
      (lampPresentChange pos present s).tmc = s.tmc ∧ (lampPresentChange pos present s).ttc = s.ttc ∧
      (lampPresentChange pos present s).cud = s.cud ∧ (lampPresentChange pos present s).ssq = s.ssq ∧
      (lampPresentChange pos present s).rpd = s.rpd ∧ (lampPresentChange pos present s).pending = s.pending ∧
      (lampPresentChange pos present s).lmc.active = s.lmc.active ∧
      (lampPresentChange pos present s).lmc.blanks.mech = s.lmc.blanks.mech ∧
      (lampPresentChange pos present s).lmc.outLevel = s.lmc.outLevel ∧
      (lampPresentChange pos present s).lmc.level = s.lmc.level ∧
      (lampPresentChange pos present s).lmc.par = s.lmc.par ∧
      (lampPresentChange pos present s).thc.trip = s.thc.trip ∧
      (lampPresentChange pos present s).thc.fanFault = s.thc.fanFault ∧
      (lampPresentChange pos present s).thc.power = s.thc.power ∧
      (lampPresentChange pos present s).thc.lost = s.thc.lost ∧
      (lampPresentChange pos present s).thc.loss30 = s.thc.loss30 ∧
      (lampPresentChange pos present s).thc.par = s.thc.par ∧
      (lampPresentChange pos present s).thc.tm = s.thc.tm ∧ (lampPresentChange pos present s).thc.hq = s.thc.hq ∧
      (lampPresentChange pos present s).thc.cEff = s.thc.cEff ∧
      (lampPresentChange pos present s).lki.rx = s.lki.rx ∧
      (lampPresentChange pos present s).lki.resp = s.lki.resp ∧
      (lampPresentChange pos present s).lki.addr = s.lki.addr ∧
      (lampPresentChange pos present s).lki.assignTaken = s.lki.assignTaken ∧
      (lampPresentChange pos present s).lki.resetting = s.lki.resetting ∧
      (lampPresentChange pos present s).lki.copies = s.lki.copies ∧
      (lampPresentChange pos present s).lki.enables = s.lki.enables ∧
      (lampPresentChange pos present s).cnt.snap = s.cnt.snap ∧
      (lampPresentChange pos present s).cnt.number = s.cnt.number ∧
      (lampPresentChange pos present s).sts.record = s.sts.record ∧
      (lampPresentChange pos present s).sts.serial = s.sts.serial ∧
      (lampPresentChange pos present s).sts.storeLost = s.sts.storeLost := by
  unfold lampPresentChange; (try unfold State.whenDue); (try dsimp only)
  (repeat' split) <;> first | (simp; done) | ((repeat' apply And.intro) <;> first | rfl | simp)

@[simp] theorem sampleTemp_frame (s : State) (v : Nat) :
    (s.sampleTemp v).powered = s.powered ∧ (s.sampleTemp v).now = s.now ∧ (s.sampleTemp v).free = s.free ∧
      (s.sampleTemp v).aq = s.aq ∧ (s.sampleTemp v).tmc = s.tmc ∧ (s.sampleTemp v).lmc = s.lmc ∧
      (s.sampleTemp v).ttc = s.ttc ∧ (s.sampleTemp v).cud = s.cud ∧ (s.sampleTemp v).ssq = s.ssq ∧
      (s.sampleTemp v).rpd = s.rpd ∧ (s.sampleTemp v).cnt = s.cnt ∧ (s.sampleTemp v).sts = s.sts ∧
      (s.sampleTemp v).pending = s.pending ∧ (s.sampleTemp v).thc.trip = s.thc.trip ∧
      (s.sampleTemp v).thc.fanFault = s.thc.fanFault ∧ (s.sampleTemp v).thc.power = s.thc.power ∧
      (s.sampleTemp v).thc.par = s.thc.par ∧ (s.sampleTemp v).thc.hq = s.thc.hq ∧
      (s.sampleTemp v).thc.cEff = s.thc.cEff ∧ (s.sampleTemp v).lki.rx = s.lki.rx ∧
      (s.sampleTemp v).lki.resp = s.lki.resp ∧ (s.sampleTemp v).lki.addr = s.lki.addr ∧
      (s.sampleTemp v).lki.assignTaken = s.lki.assignTaken ∧ (s.sampleTemp v).lki.resetting = s.lki.resetting ∧
      (s.sampleTemp v).lki.copies = s.lki.copies ∧ (s.sampleTemp v).lki.enables = s.lki.enables := by
  unfold State.sampleTemp; (try unfold State.whenDue); (try dsimp only)
  (repeat' split) <;> first | (simp; done) | ((repeat' apply And.intro) <;> first | rfl | simp)

@[simp] theorem sampleState_frame (s : State) (v : Nat) :
    (s.sampleState v).powered = s.powered ∧ (s.sampleState v).now = s.now ∧ (s.sampleState v).free = s.free ∧
      (s.sampleState v).aq = s.aq ∧ (s.sampleState v).tmc = s.tmc ∧ (s.sampleState v).lmc = s.lmc ∧
      (s.sampleState v).ttc = s.ttc ∧ (s.sampleState v).cud = s.cud ∧ (s.sampleState v).ssq = s.ssq ∧
      (s.sampleState v).rpd = s.rpd ∧ (s.sampleState v).cnt = s.cnt ∧ (s.sampleState v).sts = s.sts ∧
      (s.sampleState v).pending = s.pending ∧ (s.sampleState v).thc.trip = s.thc.trip ∧
      (s.sampleState v).thc.fanFault = s.thc.fanFault ∧ (s.sampleState v).thc.power = s.thc.power ∧
      (s.sampleState v).thc.lost = s.thc.lost ∧ (s.sampleState v).thc.loss30 = s.thc.loss30 ∧
      (s.sampleState v).thc.par = s.thc.par ∧ (s.sampleState v).thc.tm = s.thc.tm ∧
      (s.sampleState v).thc.hq = s.thc.hq ∧ (s.sampleState v).thc.cEff = s.thc.cEff ∧
      (s.sampleState v).lki.rx = s.lki.rx ∧ (s.sampleState v).lki.resp = s.lki.resp ∧
      (s.sampleState v).lki.addr = s.lki.addr ∧ (s.sampleState v).lki.assignTaken = s.lki.assignTaken ∧
      (s.sampleState v).lki.resetting = s.lki.resetting ∧ (s.sampleState v).lki.copies = s.lki.copies ∧
      (s.sampleState v).lki.enables = s.lki.enables := by
  unfold State.sampleState; (try unfold State.whenDue); (try dsimp only)
  (repeat' split) <;> first | (simp; done) | ((repeat' apply And.intro) <;> first | rfl | simp)

@[simp] theorem tripLatch_frame (s : State) :
    s.tripLatch.powered = s.powered ∧ s.tripLatch.now = s.now ∧ s.tripLatch.free = s.free ∧ s.tripLatch.aq = s.aq ∧
      s.tripLatch.tmc = s.tmc ∧ s.tripLatch.ttc = s.ttc ∧ s.tripLatch.cud = s.cud ∧ s.tripLatch.ssq = s.ssq ∧
      s.tripLatch.rpd = s.rpd ∧ s.tripLatch.cnt = s.cnt ∧ s.tripLatch.pending = s.pending ∧
      s.tripLatch.lmc.active = s.lmc.active ∧ s.tripLatch.lmc.blanks = s.lmc.blanks ∧
      s.tripLatch.lmc.outLevel = s.lmc.outLevel ∧ s.tripLatch.lmc.level = s.lmc.level ∧
      s.tripLatch.lmc.par = s.lmc.par ∧ s.tripLatch.thc.fanFault = s.thc.fanFault ∧
      s.tripLatch.thc.power = s.thc.power ∧ s.tripLatch.thc.lost = s.thc.lost ∧
      s.tripLatch.thc.loss30 = s.thc.loss30 ∧ s.tripLatch.thc.par = s.thc.par ∧ s.tripLatch.thc.tm = s.thc.tm ∧
      s.tripLatch.thc.hq = s.thc.hq ∧ s.tripLatch.thc.cEff = s.thc.cEff ∧ s.tripLatch.lki.rx = s.lki.rx ∧
      s.tripLatch.lki.resp = s.lki.resp ∧ s.tripLatch.lki.addr = s.lki.addr ∧
      s.tripLatch.lki.assignTaken = s.lki.assignTaken ∧ s.tripLatch.lki.resetting = s.lki.resetting ∧
      s.tripLatch.lki.copies = s.lki.copies ∧ s.tripLatch.lki.enables = s.lki.enables ∧
      s.tripLatch.sts.record = s.sts.record ∧ s.tripLatch.sts.serial = s.sts.serial ∧
      s.tripLatch.sts.storeLost = s.sts.storeLost := by
  unfold State.tripLatch; (try unfold State.whenDue); (try dsimp only)
  (repeat' split) <;> first | (simp; done) | ((repeat' apply And.intro) <;> first | rfl | simp)

@[simp] theorem sampleTrip_frame (s : State) (v : Nat) :
    (s.sampleTrip v).powered = s.powered ∧ (s.sampleTrip v).now = s.now ∧ (s.sampleTrip v).free = s.free ∧
      (s.sampleTrip v).aq = s.aq ∧ (s.sampleTrip v).tmc = s.tmc ∧ (s.sampleTrip v).ttc = s.ttc ∧
      (s.sampleTrip v).cud = s.cud ∧ (s.sampleTrip v).ssq = s.ssq ∧ (s.sampleTrip v).rpd = s.rpd ∧
      (s.sampleTrip v).cnt = s.cnt ∧ (s.sampleTrip v).pending = s.pending ∧
      (s.sampleTrip v).lmc.active = s.lmc.active ∧ (s.sampleTrip v).lmc.blanks = s.lmc.blanks ∧
      (s.sampleTrip v).lmc.outLevel = s.lmc.outLevel ∧ (s.sampleTrip v).lmc.level = s.lmc.level ∧
      (s.sampleTrip v).lmc.par = s.lmc.par ∧ (s.sampleTrip v).thc.fanFault = s.thc.fanFault ∧
      (s.sampleTrip v).thc.power = s.thc.power ∧ (s.sampleTrip v).thc.lost = s.thc.lost ∧
      (s.sampleTrip v).thc.loss30 = s.thc.loss30 ∧ (s.sampleTrip v).thc.par = s.thc.par ∧
      (s.sampleTrip v).thc.tm = s.thc.tm ∧ (s.sampleTrip v).thc.hq = s.thc.hq ∧
      (s.sampleTrip v).thc.cEff = s.thc.cEff ∧ (s.sampleTrip v).lki.rx = s.lki.rx ∧
      (s.sampleTrip v).lki.resp = s.lki.resp ∧ (s.sampleTrip v).lki.addr = s.lki.addr ∧
      (s.sampleTrip v).lki.assignTaken = s.lki.assignTaken ∧ (s.sampleTrip v).lki.resetting = s.lki.resetting ∧
      (s.sampleTrip v).lki.copies = s.lki.copies ∧ (s.sampleTrip v).lki.enables = s.lki.enables ∧
      (s.sampleTrip v).sts.record = s.sts.record ∧ (s.sampleTrip v).sts.serial = s.sts.serial ∧
      (s.sampleTrip v).sts.storeLost = s.sts.storeLost := by
  unfold State.sampleTrip; (try unfold State.whenDue); (try dsimp only)
  (repeat' split) <;> first | (simp; done) | ((repeat' apply And.intro) <;> first | rfl | simp)

@[simp] theorem sampleCeiling_frame (s : State) (v : Nat) :
    (s.sampleCeiling v).powered = s.powered ∧ (s.sampleCeiling v).now = s.now ∧ (s.sampleCeiling v).free = s.free ∧
      (s.sampleCeiling v).aq = s.aq ∧ (s.sampleCeiling v).tmc = s.tmc ∧ (s.sampleCeiling v).lmc = s.lmc ∧
      (s.sampleCeiling v).ttc = s.ttc ∧ (s.sampleCeiling v).cud = s.cud ∧ (s.sampleCeiling v).ssq = s.ssq ∧
      (s.sampleCeiling v).rpd = s.rpd ∧ (s.sampleCeiling v).lki = s.lki ∧ (s.sampleCeiling v).cnt = s.cnt ∧
      (s.sampleCeiling v).sts = s.sts ∧ (s.sampleCeiling v).pending = s.pending ∧
      (s.sampleCeiling v).thc.trip = s.thc.trip ∧ (s.sampleCeiling v).thc.fanFault = s.thc.fanFault ∧
      (s.sampleCeiling v).thc.power = s.thc.power ∧ (s.sampleCeiling v).thc.lost = s.thc.lost ∧
      (s.sampleCeiling v).thc.loss30 = s.thc.loss30 ∧ (s.sampleCeiling v).thc.par = s.thc.par ∧
      (s.sampleCeiling v).thc.tm = s.thc.tm ∧ (s.sampleCeiling v).thc.hq = s.thc.hq := by
  unfold State.sampleCeiling; (try unfold State.whenDue); (try dsimp only)
  (repeat' split) <;> first | (simp; done) | ((repeat' apply And.intro) <;> first | rfl | simp)

@[simp] theorem sampleFirst_frame (s : State) (first : Bool) (v : Nat) :
    (s.sampleFirst first v).powered = s.powered ∧ (s.sampleFirst first v).now = s.now ∧
      (s.sampleFirst first v).free = s.free ∧ (s.sampleFirst first v).aq = s.aq ∧
      (s.sampleFirst first v).tmc = s.tmc ∧ (s.sampleFirst first v).lmc = s.lmc ∧
      (s.sampleFirst first v).ttc = s.ttc ∧ (s.sampleFirst first v).cud = s.cud ∧
      (s.sampleFirst first v).ssq = s.ssq ∧ (s.sampleFirst first v).rpd = s.rpd ∧
      (s.sampleFirst first v).cnt = s.cnt ∧ (s.sampleFirst first v).sts = s.sts ∧
      (s.sampleFirst first v).pending = s.pending ∧ (s.sampleFirst first v).thc.trip = s.thc.trip ∧
      (s.sampleFirst first v).thc.fanFault = s.thc.fanFault ∧ (s.sampleFirst first v).thc.power = s.thc.power ∧
      (s.sampleFirst first v).thc.lost = s.thc.lost ∧ (s.sampleFirst first v).thc.loss30 = s.thc.loss30 ∧
      (s.sampleFirst first v).thc.par = s.thc.par ∧ (s.sampleFirst first v).thc.tm = s.thc.tm ∧
      (s.sampleFirst first v).thc.hq = s.thc.hq ∧ (s.sampleFirst first v).thc.cEff = s.thc.cEff ∧
      (s.sampleFirst first v).lki.rx = s.lki.rx ∧ (s.sampleFirst first v).lki.resp = s.lki.resp ∧
      (s.sampleFirst first v).lki.addr = s.lki.addr ∧
      (s.sampleFirst first v).lki.assignTaken = s.lki.assignTaken ∧
      (s.sampleFirst first v).lki.resetting = s.lki.resetting ∧
      (s.sampleFirst first v).lki.copies = s.lki.copies ∧ (s.sampleFirst first v).lki.enables = s.lki.enables := by
  unfold State.sampleFirst; (try unfold State.whenDue); (try dsimp only)
  (repeat' split) <;> first | (simp; done) | ((repeat' apply And.intro) <;> first | rfl | simp)

@[simp] theorem sample_frame (s : State) (v : Nat) :
    (s.sample v).powered = s.powered ∧ (s.sample v).now = s.now ∧ (s.sample v).free = s.free ∧
      (s.sample v).aq = s.aq ∧ (s.sample v).tmc = s.tmc ∧ (s.sample v).ttc = s.ttc ∧ (s.sample v).cud = s.cud ∧
      (s.sample v).ssq = s.ssq ∧ (s.sample v).rpd = s.rpd ∧ (s.sample v).cnt = s.cnt ∧
      (s.sample v).pending = s.pending ∧ (s.sample v).lmc.active = s.lmc.active ∧
      (s.sample v).lmc.blanks = s.lmc.blanks ∧ (s.sample v).lmc.outLevel = s.lmc.outLevel ∧
      (s.sample v).lmc.level = s.lmc.level ∧ (s.sample v).lmc.par = s.lmc.par ∧
      (s.sample v).thc.fanFault = s.thc.fanFault ∧ (s.sample v).thc.power = s.thc.power ∧
      (s.sample v).thc.par = s.thc.par ∧ (s.sample v).thc.hq = s.thc.hq ∧ (s.sample v).lki.rx = s.lki.rx ∧
      (s.sample v).lki.resp = s.lki.resp ∧ (s.sample v).lki.addr = s.lki.addr ∧
      (s.sample v).lki.assignTaken = s.lki.assignTaken ∧ (s.sample v).lki.resetting = s.lki.resetting ∧
      (s.sample v).lki.copies = s.lki.copies ∧ (s.sample v).lki.enables = s.lki.enables ∧
      (s.sample v).sts.record = s.sts.record ∧ (s.sample v).sts.serial = s.sts.serial ∧
      (s.sample v).sts.storeLost = s.sts.storeLost := by
  unfold State.sample; (try unfold State.whenDue); (try dsimp only)
  (repeat' split) <;> first | (simp; done) | ((repeat' apply And.intro) <;> first | rfl | simp)

@[simp] theorem temperatureSample_frame (good : Bool) (reading : Int) (s : State) :
    (temperatureSample good reading s).powered = s.powered ∧ (temperatureSample good reading s).now = s.now ∧
      (temperatureSample good reading s).free = s.free ∧ (temperatureSample good reading s).aq = s.aq ∧
      (temperatureSample good reading s).tmc = s.tmc ∧ (temperatureSample good reading s).ttc = s.ttc ∧
      (temperatureSample good reading s).cud = s.cud ∧ (temperatureSample good reading s).ssq = s.ssq ∧
      (temperatureSample good reading s).rpd = s.rpd ∧ (temperatureSample good reading s).cnt = s.cnt ∧
      (temperatureSample good reading s).pending = s.pending ∧
      (temperatureSample good reading s).lmc.active = s.lmc.active ∧
      (temperatureSample good reading s).lmc.blanks = s.lmc.blanks ∧
      (temperatureSample good reading s).lmc.outLevel = s.lmc.outLevel ∧
      (temperatureSample good reading s).lmc.level = s.lmc.level ∧
      (temperatureSample good reading s).lmc.par = s.lmc.par ∧
      (temperatureSample good reading s).thc.fanFault = s.thc.fanFault ∧
      (temperatureSample good reading s).thc.power = s.thc.power ∧
      (temperatureSample good reading s).thc.par = s.thc.par ∧
      (temperatureSample good reading s).thc.hq = s.thc.hq ∧
      (temperatureSample good reading s).lki.rx = s.lki.rx ∧
      (temperatureSample good reading s).lki.resp = s.lki.resp ∧
      (temperatureSample good reading s).lki.addr = s.lki.addr ∧
      (temperatureSample good reading s).lki.assignTaken = s.lki.assignTaken ∧
      (temperatureSample good reading s).lki.resetting = s.lki.resetting ∧
      (temperatureSample good reading s).lki.copies = s.lki.copies ∧
      (temperatureSample good reading s).lki.enables = s.lki.enables ∧
      (temperatureSample good reading s).sts.record = s.sts.record ∧
      (temperatureSample good reading s).sts.serial = s.sts.serial ∧
      (temperatureSample good reading s).sts.storeLost = s.sts.storeLost := by
  unfold temperatureSample; (try unfold State.whenDue); (try dsimp only)
  (repeat' split) <;> first | (simp; done) | ((repeat' apply And.intro) <;> first | rfl | simp)

@[simp] theorem sensorLost_frame (s : State) :
    s.sensorLost.powered = s.powered ∧ s.sensorLost.now = s.now ∧ s.sensorLost.free = s.free ∧
      s.sensorLost.aq = s.aq ∧ s.sensorLost.tmc = s.tmc ∧ s.sensorLost.lmc = s.lmc ∧ s.sensorLost.ttc = s.ttc ∧
      s.sensorLost.cud = s.cud ∧ s.sensorLost.ssq = s.ssq ∧ s.sensorLost.rpd = s.rpd ∧ s.sensorLost.cnt = s.cnt ∧
      s.sensorLost.sts = s.sts ∧ s.sensorLost.pending = s.pending ∧ s.sensorLost.thc.trip = s.thc.trip ∧
      s.sensorLost.thc.fanFault = s.thc.fanFault ∧ s.sensorLost.thc.power = s.thc.power ∧
      s.sensorLost.thc.par = s.thc.par ∧ s.sensorLost.thc.tm = s.thc.tm ∧ s.sensorLost.thc.hq = s.thc.hq ∧
      s.sensorLost.lki.rx = s.lki.rx ∧ s.sensorLost.lki.resp = s.lki.resp ∧ s.sensorLost.lki.addr = s.lki.addr ∧
      s.sensorLost.lki.assignTaken = s.lki.assignTaken ∧ s.sensorLost.lki.resetting = s.lki.resetting ∧
      s.sensorLost.lki.copies = s.lki.copies ∧ s.sensorLost.lki.enables = s.lki.enables := by
  unfold State.sensorLost; (try unfold State.whenDue); (try dsimp only)
  (repeat' split) <;> first | (simp; done) | ((repeat' apply And.intro) <;> first | rfl | simp)

@[simp] theorem sensorLossTimerExpiry_frame (s : State) :
    (sensorLossTimerExpiry s).powered = s.powered ∧ (sensorLossTimerExpiry s).free = s.free ∧
      (sensorLossTimerExpiry s).aq = s.aq ∧ (sensorLossTimerExpiry s).tmc = s.tmc ∧
      (sensorLossTimerExpiry s).lmc = s.lmc ∧ (sensorLossTimerExpiry s).ttc = s.ttc ∧
      (sensorLossTimerExpiry s).cud = s.cud ∧ (sensorLossTimerExpiry s).ssq = s.ssq ∧
      (sensorLossTimerExpiry s).rpd = s.rpd ∧ (sensorLossTimerExpiry s).cnt = s.cnt ∧
      (sensorLossTimerExpiry s).sts = s.sts ∧ (sensorLossTimerExpiry s).pending = s.pending ∧
      (sensorLossTimerExpiry s).thc.trip = s.thc.trip ∧ (sensorLossTimerExpiry s).thc.fanFault = s.thc.fanFault ∧
      (sensorLossTimerExpiry s).thc.power = s.thc.power ∧ (sensorLossTimerExpiry s).thc.par = s.thc.par ∧
      (sensorLossTimerExpiry s).thc.tm = s.thc.tm ∧ (sensorLossTimerExpiry s).thc.hq = s.thc.hq ∧
      (sensorLossTimerExpiry s).lki.rx = s.lki.rx ∧ (sensorLossTimerExpiry s).lki.resp = s.lki.resp ∧
      (sensorLossTimerExpiry s).lki.addr = s.lki.addr ∧
      (sensorLossTimerExpiry s).lki.assignTaken = s.lki.assignTaken ∧
      (sensorLossTimerExpiry s).lki.resetting = s.lki.resetting ∧
      (sensorLossTimerExpiry s).lki.copies = s.lki.copies ∧
      (sensorLossTimerExpiry s).lki.enables = s.lki.enables := by
  unfold sensorLossTimerExpiry; (try unfold State.whenDue); (try dsimp only)
  (repeat' split) <;> first | (simp; done) | ((repeat' apply And.intro) <;> first | rfl | simp)

@[simp] theorem longLost_frame (s : State) :
    s.longLost.powered = s.powered ∧ s.longLost.now = s.now ∧ s.longLost.free = s.free ∧ s.longLost.aq = s.aq ∧
      s.longLost.tmc = s.tmc ∧ s.longLost.ttc = s.ttc ∧ s.longLost.cud = s.cud ∧ s.longLost.ssq = s.ssq ∧
      s.longLost.rpd = s.rpd ∧ s.longLost.cnt = s.cnt ∧ s.longLost.pending = s.pending ∧
      s.longLost.lmc.active = s.lmc.active ∧ s.longLost.lmc.blanks = s.lmc.blanks ∧
      s.longLost.lmc.outLevel = s.lmc.outLevel ∧ s.longLost.lmc.level = s.lmc.level ∧
      s.longLost.lmc.par = s.lmc.par ∧ s.longLost.thc.trip = s.thc.trip ∧
      s.longLost.thc.fanFault = s.thc.fanFault ∧ s.longLost.thc.power = s.thc.power ∧
      s.longLost.thc.lost = s.thc.lost ∧ s.longLost.thc.par = s.thc.par ∧ s.longLost.thc.tm = s.thc.tm ∧
      s.longLost.thc.hq = s.thc.hq ∧ s.longLost.thc.cEff = s.thc.cEff ∧ s.longLost.lki.rx = s.lki.rx ∧
      s.longLost.lki.resp = s.lki.resp ∧ s.longLost.lki.addr = s.lki.addr ∧
      s.longLost.lki.assignTaken = s.lki.assignTaken ∧ s.longLost.lki.resetting = s.lki.resetting ∧
      s.longLost.lki.copies = s.lki.copies ∧ s.longLost.lki.enables = s.lki.enables ∧
      s.longLost.sts.record = s.sts.record ∧ s.longLost.sts.serial = s.sts.serial ∧
      s.longLost.sts.storeLost = s.sts.storeLost := by
  unfold State.longLost; (try unfold State.whenDue); (try dsimp only)
  (repeat' split) <;> first | (simp; done) | ((repeat' apply And.intro) <;> first | rfl | simp)

@[simp] theorem lossTime30s_frame (s : State) :
    (lossTime30s s).powered = s.powered ∧ (lossTime30s s).free = s.free ∧ (lossTime30s s).aq = s.aq ∧
      (lossTime30s s).tmc = s.tmc ∧ (lossTime30s s).ttc = s.ttc ∧ (lossTime30s s).cud = s.cud ∧
      (lossTime30s s).ssq = s.ssq ∧ (lossTime30s s).rpd = s.rpd ∧ (lossTime30s s).cnt = s.cnt ∧
      (lossTime30s s).pending = s.pending ∧ (lossTime30s s).lmc.active = s.lmc.active ∧
      (lossTime30s s).lmc.blanks = s.lmc.blanks ∧ (lossTime30s s).lmc.outLevel = s.lmc.outLevel ∧
      (lossTime30s s).lmc.level = s.lmc.level ∧ (lossTime30s s).lmc.par = s.lmc.par ∧
      (lossTime30s s).thc.trip = s.thc.trip ∧ (lossTime30s s).thc.fanFault = s.thc.fanFault ∧
      (lossTime30s s).thc.power = s.thc.power ∧ (lossTime30s s).thc.lost = s.thc.lost ∧
      (lossTime30s s).thc.par = s.thc.par ∧ (lossTime30s s).thc.tm = s.thc.tm ∧
      (lossTime30s s).thc.hq = s.thc.hq ∧ (lossTime30s s).thc.cEff = s.thc.cEff ∧
      (lossTime30s s).lki.rx = s.lki.rx ∧ (lossTime30s s).lki.resp = s.lki.resp ∧
      (lossTime30s s).lki.addr = s.lki.addr ∧ (lossTime30s s).lki.assignTaken = s.lki.assignTaken ∧
      (lossTime30s s).lki.resetting = s.lki.resetting ∧ (lossTime30s s).lki.copies = s.lki.copies ∧
      (lossTime30s s).lki.enables = s.lki.enables ∧ (lossTime30s s).sts.record = s.sts.record ∧
      (lossTime30s s).sts.serial = s.sts.serial ∧ (lossTime30s s).sts.storeLost = s.sts.storeLost := by
  unfold lossTime30s; (try unfold State.whenDue); (try dsimp only)
  (repeat' split) <;> first | (simp; done) | ((repeat' apply And.intro) <;> first | rfl | simp)

@[simp] theorem tCoolExpiry_frame (s : State) :
    (tCoolExpiry s).powered = s.powered ∧ (tCoolExpiry s).free = s.free ∧ (tCoolExpiry s).aq = s.aq ∧
      (tCoolExpiry s).tmc = s.tmc ∧ (tCoolExpiry s).lmc = s.lmc ∧ (tCoolExpiry s).ttc = s.ttc ∧
      (tCoolExpiry s).cud = s.cud ∧ (tCoolExpiry s).ssq = s.ssq ∧ (tCoolExpiry s).rpd = s.rpd ∧
      (tCoolExpiry s).cnt = s.cnt ∧ (tCoolExpiry s).sts = s.sts ∧ (tCoolExpiry s).pending = s.pending ∧
      (tCoolExpiry s).thc.trip = s.thc.trip ∧ (tCoolExpiry s).thc.fanFault = s.thc.fanFault ∧
      (tCoolExpiry s).thc.power = s.thc.power ∧ (tCoolExpiry s).thc.lost = s.thc.lost ∧
      (tCoolExpiry s).thc.loss30 = s.thc.loss30 ∧ (tCoolExpiry s).thc.par = s.thc.par ∧
      (tCoolExpiry s).thc.tm = s.thc.tm ∧ (tCoolExpiry s).thc.hq = s.thc.hq ∧
      (tCoolExpiry s).thc.cEff = s.thc.cEff ∧ (tCoolExpiry s).lki.rx = s.lki.rx ∧
      (tCoolExpiry s).lki.resp = s.lki.resp ∧ (tCoolExpiry s).lki.addr = s.lki.addr ∧
      (tCoolExpiry s).lki.assignTaken = s.lki.assignTaken ∧ (tCoolExpiry s).lki.resetting = s.lki.resetting ∧
      (tCoolExpiry s).lki.copies = s.lki.copies ∧ (tCoolExpiry s).lki.enables = s.lki.enables := by
  unfold tCoolExpiry; (try unfold State.whenDue); (try dsimp only)
  (repeat' split) <;> first | (simp; done) | ((repeat' apply And.intro) <;> first | rfl | simp)

@[simp] theorem kickEnds_frame (s : State) :
    s.kickEnds.powered = s.powered ∧ s.kickEnds.now = s.now ∧ s.kickEnds.free = s.free ∧ s.kickEnds.aq = s.aq ∧
      s.kickEnds.tmc = s.tmc ∧ s.kickEnds.lmc = s.lmc ∧ s.kickEnds.ttc = s.ttc ∧ s.kickEnds.cud = s.cud ∧
      s.kickEnds.ssq = s.ssq ∧ s.kickEnds.rpd = s.rpd ∧ s.kickEnds.lki = s.lki ∧ s.kickEnds.cnt = s.cnt ∧
      s.kickEnds.sts = s.sts ∧ s.kickEnds.pending = s.pending ∧ s.kickEnds.thc.trip = s.thc.trip ∧
      s.kickEnds.thc.fanFault = s.thc.fanFault ∧ s.kickEnds.thc.power = s.thc.power ∧
      s.kickEnds.thc.lost = s.thc.lost ∧ s.kickEnds.thc.loss30 = s.thc.loss30 ∧ s.kickEnds.thc.par = s.thc.par ∧
      s.kickEnds.thc.tm = s.thc.tm ∧ s.kickEnds.thc.hq = s.thc.hq ∧ s.kickEnds.thc.cEff = s.thc.cEff := by
  unfold State.kickEnds; (try unfold State.whenDue); (try dsimp only)
  (repeat' split) <;> first | (simp; done) | ((repeat' apply And.intro) <;> first | rfl | simp)

@[simp] theorem fanKickExpiry_frame (s : State) :
    (fanKickExpiry s).powered = s.powered ∧ (fanKickExpiry s).free = s.free ∧ (fanKickExpiry s).aq = s.aq ∧
      (fanKickExpiry s).tmc = s.tmc ∧ (fanKickExpiry s).lmc = s.lmc ∧ (fanKickExpiry s).ttc = s.ttc ∧
      (fanKickExpiry s).cud = s.cud ∧ (fanKickExpiry s).ssq = s.ssq ∧ (fanKickExpiry s).rpd = s.rpd ∧
      (fanKickExpiry s).lki = s.lki ∧ (fanKickExpiry s).cnt = s.cnt ∧ (fanKickExpiry s).sts = s.sts ∧
      (fanKickExpiry s).pending = s.pending ∧ (fanKickExpiry s).thc.trip = s.thc.trip ∧
      (fanKickExpiry s).thc.fanFault = s.thc.fanFault ∧ (fanKickExpiry s).thc.power = s.thc.power ∧
      (fanKickExpiry s).thc.lost = s.thc.lost ∧ (fanKickExpiry s).thc.loss30 = s.thc.loss30 ∧
      (fanKickExpiry s).thc.par = s.thc.par ∧ (fanKickExpiry s).thc.tm = s.thc.tm ∧
      (fanKickExpiry s).thc.hq = s.thc.hq ∧ (fanKickExpiry s).thc.cEff = s.thc.cEff := by
  unfold fanKickExpiry; (try unfold State.whenDue); (try dsimp only)
  (repeat' split) <;> first | (simp; done) | ((repeat' apply And.intro) <;> first | rfl | simp)

@[simp] theorem fanTachPulse_frame (s : State) :
    (fanTachPulse s).powered = s.powered ∧ (fanTachPulse s).now = s.now ∧ (fanTachPulse s).free = s.free ∧
      (fanTachPulse s).aq = s.aq ∧ (fanTachPulse s).tmc = s.tmc ∧ (fanTachPulse s).lmc = s.lmc ∧
      (fanTachPulse s).ttc = s.ttc ∧ (fanTachPulse s).cud = s.cud ∧ (fanTachPulse s).ssq = s.ssq ∧
      (fanTachPulse s).rpd = s.rpd ∧ (fanTachPulse s).lki = s.lki ∧ (fanTachPulse s).cnt = s.cnt ∧
      (fanTachPulse s).sts = s.sts ∧ (fanTachPulse s).pending = s.pending ∧
      (fanTachPulse s).thc.trip = s.thc.trip ∧ (fanTachPulse s).thc.fanFault = s.thc.fanFault ∧
      (fanTachPulse s).thc.power = s.thc.power ∧ (fanTachPulse s).thc.lost = s.thc.lost ∧
      (fanTachPulse s).thc.loss30 = s.thc.loss30 ∧ (fanTachPulse s).thc.par = s.thc.par ∧
      (fanTachPulse s).thc.tm = s.thc.tm ∧ (fanTachPulse s).thc.hq = s.thc.hq ∧
      (fanTachPulse s).thc.cEff = s.thc.cEff := by
  unfold fanTachPulse; (try unfold State.whenDue); (try dsimp only)
  (repeat' split) <;> first | (simp; done) | ((repeat' apply And.intro) <;> first | rfl | simp)

@[simp] theorem fanFaultOn_frame (s : State) :
    s.fanFaultOn.powered = s.powered ∧ s.fanFaultOn.now = s.now ∧ s.fanFaultOn.free = s.free ∧
      s.fanFaultOn.aq = s.aq ∧ s.fanFaultOn.tmc = s.tmc ∧ s.fanFaultOn.ttc = s.ttc ∧ s.fanFaultOn.cud = s.cud ∧
      s.fanFaultOn.ssq = s.ssq ∧ s.fanFaultOn.rpd = s.rpd ∧ s.fanFaultOn.cnt = s.cnt ∧
      s.fanFaultOn.pending = s.pending ∧ s.fanFaultOn.lmc.active = s.lmc.active ∧
      s.fanFaultOn.lmc.blanks = s.lmc.blanks ∧ s.fanFaultOn.lmc.outLevel = s.lmc.outLevel ∧
      s.fanFaultOn.lmc.level = s.lmc.level ∧ s.fanFaultOn.lmc.par = s.lmc.par ∧
      s.fanFaultOn.thc.trip = s.thc.trip ∧ s.fanFaultOn.thc.power = s.thc.power ∧
      s.fanFaultOn.thc.lost = s.thc.lost ∧ s.fanFaultOn.thc.loss30 = s.thc.loss30 ∧
      s.fanFaultOn.thc.par = s.thc.par ∧ s.fanFaultOn.thc.tm = s.thc.tm ∧ s.fanFaultOn.thc.hq = s.thc.hq ∧
      s.fanFaultOn.thc.cEff = s.thc.cEff ∧ s.fanFaultOn.lki.rx = s.lki.rx ∧ s.fanFaultOn.lki.resp = s.lki.resp ∧
      s.fanFaultOn.lki.addr = s.lki.addr ∧ s.fanFaultOn.lki.assignTaken = s.lki.assignTaken ∧
      s.fanFaultOn.lki.resetting = s.lki.resetting ∧ s.fanFaultOn.lki.copies = s.lki.copies ∧
      s.fanFaultOn.lki.enables = s.lki.enables ∧ s.fanFaultOn.sts.record = s.sts.record ∧
      s.fanFaultOn.sts.serial = s.sts.serial ∧ s.fanFaultOn.sts.storeLost = s.sts.storeLost := by
  unfold State.fanFaultOn; (try unfold State.whenDue); (try dsimp only)
  (repeat' split) <;> first | (simp; done) | ((repeat' apply And.intro) <;> first | rfl | simp)

@[simp] theorem fanFaultOff_frame (s : State) :
    s.fanFaultOff.powered = s.powered ∧ s.fanFaultOff.now = s.now ∧ s.fanFaultOff.free = s.free ∧
      s.fanFaultOff.aq = s.aq ∧ s.fanFaultOff.tmc = s.tmc ∧ s.fanFaultOff.lmc = s.lmc ∧
      s.fanFaultOff.ttc = s.ttc ∧ s.fanFaultOff.cud = s.cud ∧ s.fanFaultOff.ssq = s.ssq ∧
      s.fanFaultOff.rpd = s.rpd ∧ s.fanFaultOff.cnt = s.cnt ∧ s.fanFaultOff.sts = s.sts ∧
      s.fanFaultOff.pending = s.pending ∧ s.fanFaultOff.thc.trip = s.thc.trip ∧
      s.fanFaultOff.thc.power = s.thc.power ∧ s.fanFaultOff.thc.lost = s.thc.lost ∧
      s.fanFaultOff.thc.loss30 = s.thc.loss30 ∧ s.fanFaultOff.thc.par = s.thc.par ∧
      s.fanFaultOff.thc.tm = s.thc.tm ∧ s.fanFaultOff.thc.hq = s.thc.hq ∧ s.fanFaultOff.thc.cEff = s.thc.cEff ∧
      s.fanFaultOff.lki.rx = s.lki.rx ∧ s.fanFaultOff.lki.resp = s.lki.resp ∧
      s.fanFaultOff.lki.addr = s.lki.addr ∧ s.fanFaultOff.lki.assignTaken = s.lki.assignTaken ∧
      s.fanFaultOff.lki.resetting = s.lki.resetting ∧ s.fanFaultOff.lki.copies = s.lki.copies ∧
      s.fanFaultOff.lki.enables = s.lki.enables := by
  unfold State.fanFaultOff; (try unfold State.whenDue); (try dsimp only)
  (repeat' split) <;> first | (simp; done) | ((repeat' apply And.intro) <;> first | rfl | simp)

@[simp] theorem judgeTach_frame (s : State) :
    s.judgeTach.powered = s.powered ∧ s.judgeTach.now = s.now ∧ s.judgeTach.free = s.free ∧ s.judgeTach.aq = s.aq ∧
      s.judgeTach.tmc = s.tmc ∧ s.judgeTach.ttc = s.ttc ∧ s.judgeTach.cud = s.cud ∧ s.judgeTach.ssq = s.ssq ∧
      s.judgeTach.rpd = s.rpd ∧ s.judgeTach.cnt = s.cnt ∧ s.judgeTach.pending = s.pending ∧
      s.judgeTach.lmc.active = s.lmc.active ∧ s.judgeTach.lmc.blanks = s.lmc.blanks ∧
      s.judgeTach.lmc.outLevel = s.lmc.outLevel ∧ s.judgeTach.lmc.level = s.lmc.level ∧
      s.judgeTach.lmc.par = s.lmc.par ∧ s.judgeTach.thc.trip = s.thc.trip ∧ s.judgeTach.thc.power = s.thc.power ∧
      s.judgeTach.thc.lost = s.thc.lost ∧ s.judgeTach.thc.loss30 = s.thc.loss30 ∧
      s.judgeTach.thc.par = s.thc.par ∧ s.judgeTach.thc.tm = s.thc.tm ∧ s.judgeTach.thc.hq = s.thc.hq ∧
      s.judgeTach.thc.cEff = s.thc.cEff ∧ s.judgeTach.lki.rx = s.lki.rx ∧ s.judgeTach.lki.resp = s.lki.resp ∧
      s.judgeTach.lki.addr = s.lki.addr ∧ s.judgeTach.lki.assignTaken = s.lki.assignTaken ∧
      s.judgeTach.lki.resetting = s.lki.resetting ∧ s.judgeTach.lki.copies = s.lki.copies ∧
      s.judgeTach.lki.enables = s.lki.enables ∧ s.judgeTach.sts.record = s.sts.record ∧
      s.judgeTach.sts.serial = s.sts.serial ∧ s.judgeTach.sts.storeLost = s.sts.storeLost := by
  unfold State.judgeTach; (try unfold State.whenDue); (try dsimp only)
  (repeat' split) <;> first | (simp; done) | ((repeat' apply And.intro) <;> first | rfl | simp)

@[simp] theorem tachWindow_frame (s : State) :
    s.tachWindow.powered = s.powered ∧ s.tachWindow.now = s.now ∧ s.tachWindow.free = s.free ∧
      s.tachWindow.aq = s.aq ∧ s.tachWindow.tmc = s.tmc ∧ s.tachWindow.ttc = s.ttc ∧ s.tachWindow.cud = s.cud ∧
      s.tachWindow.ssq = s.ssq ∧ s.tachWindow.rpd = s.rpd ∧ s.tachWindow.cnt = s.cnt ∧
      s.tachWindow.pending = s.pending ∧ s.tachWindow.lmc.active = s.lmc.active ∧
      s.tachWindow.lmc.blanks = s.lmc.blanks ∧ s.tachWindow.lmc.outLevel = s.lmc.outLevel ∧
      s.tachWindow.lmc.level = s.lmc.level ∧ s.tachWindow.lmc.par = s.lmc.par ∧
      s.tachWindow.thc.trip = s.thc.trip ∧ s.tachWindow.thc.power = s.thc.power ∧
      s.tachWindow.thc.lost = s.thc.lost ∧ s.tachWindow.thc.loss30 = s.thc.loss30 ∧
      s.tachWindow.thc.par = s.thc.par ∧ s.tachWindow.thc.tm = s.thc.tm ∧ s.tachWindow.thc.hq = s.thc.hq ∧
      s.tachWindow.thc.cEff = s.thc.cEff ∧ s.tachWindow.lki.rx = s.lki.rx ∧ s.tachWindow.lki.resp = s.lki.resp ∧
      s.tachWindow.lki.addr = s.lki.addr ∧ s.tachWindow.lki.assignTaken = s.lki.assignTaken ∧
      s.tachWindow.lki.resetting = s.lki.resetting ∧ s.tachWindow.lki.copies = s.lki.copies ∧
      s.tachWindow.lki.enables = s.lki.enables ∧ s.tachWindow.sts.record = s.sts.record ∧
      s.tachWindow.sts.serial = s.sts.serial ∧ s.tachWindow.sts.storeLost = s.sts.storeLost := by
  unfold State.tachWindow; (try unfold State.whenDue); (try dsimp only)
  (repeat' split) <;> first | (simp; done) | ((repeat' apply And.intro) <;> first | rfl | simp)

@[simp] theorem tachWindowEnd_frame (s : State) :
    (tachWindowEnd s).powered = s.powered ∧ (tachWindowEnd s).free = s.free ∧ (tachWindowEnd s).aq = s.aq ∧
      (tachWindowEnd s).tmc = s.tmc ∧ (tachWindowEnd s).ttc = s.ttc ∧ (tachWindowEnd s).cud = s.cud ∧
      (tachWindowEnd s).ssq = s.ssq ∧ (tachWindowEnd s).rpd = s.rpd ∧ (tachWindowEnd s).cnt = s.cnt ∧
      (tachWindowEnd s).pending = s.pending ∧ (tachWindowEnd s).lmc.active = s.lmc.active ∧
      (tachWindowEnd s).lmc.blanks = s.lmc.blanks ∧ (tachWindowEnd s).lmc.outLevel = s.lmc.outLevel ∧
      (tachWindowEnd s).lmc.level = s.lmc.level ∧ (tachWindowEnd s).lmc.par = s.lmc.par ∧
      (tachWindowEnd s).thc.trip = s.thc.trip ∧ (tachWindowEnd s).thc.power = s.thc.power ∧
      (tachWindowEnd s).thc.lost = s.thc.lost ∧ (tachWindowEnd s).thc.loss30 = s.thc.loss30 ∧
      (tachWindowEnd s).thc.par = s.thc.par ∧ (tachWindowEnd s).thc.tm = s.thc.tm ∧
      (tachWindowEnd s).thc.hq = s.thc.hq ∧ (tachWindowEnd s).thc.cEff = s.thc.cEff ∧
      (tachWindowEnd s).lki.rx = s.lki.rx ∧ (tachWindowEnd s).lki.resp = s.lki.resp ∧
      (tachWindowEnd s).lki.addr = s.lki.addr ∧ (tachWindowEnd s).lki.assignTaken = s.lki.assignTaken ∧
      (tachWindowEnd s).lki.resetting = s.lki.resetting ∧ (tachWindowEnd s).lki.copies = s.lki.copies ∧
      (tachWindowEnd s).lki.enables = s.lki.enables ∧ (tachWindowEnd s).sts.record = s.sts.record ∧
      (tachWindowEnd s).sts.serial = s.sts.serial ∧ (tachWindowEnd s).sts.storeLost = s.sts.storeLost := by
  unfold tachWindowEnd; (try unfold State.whenDue); (try dsimp only)
  (repeat' split) <;> first | (simp; done) | ((repeat' apply And.intro) <;> first | rfl | simp)

@[simp] theorem takeCassette_frame (s : State) :
    s.takeCassette.powered = s.powered ∧ s.takeCassette.now = s.now ∧
      s.takeCassette.free = s.free ∧ s.takeCassette.aq = s.aq ∧
      s.takeCassette.tmc = s.tmc ∧ s.takeCassette.lmc = s.lmc ∧
      s.takeCassette.thc = s.thc ∧ s.takeCassette.cud = s.cud ∧
      s.takeCassette.ssq = s.ssq ∧ s.takeCassette.rpd = s.rpd ∧
      s.takeCassette.lki = s.lki ∧ s.takeCassette.cnt = s.cnt ∧
      s.takeCassette.sts = s.sts ∧ s.takeCassette.pending = s.pending ∧
      s.takeCassette.ttc.curVol = s.ttc.curVol ∧
      s.takeCassette.ttc.servo = s.ttc.servo := by
  unfold State.takeCassette; (try unfold State.whenDue); (try dsimp only)
  (repeat' split) <;> first | (simp; done) | ((repeat' apply And.intro) <;> first | rfl | simp)

@[simp] theorem cassetteSettles_frame (s : State) :
    s.cassetteSettles.powered = s.powered ∧ s.cassetteSettles.now = s.now ∧
      s.cassetteSettles.free = s.free ∧ s.cassetteSettles.aq = s.aq ∧
      s.cassetteSettles.tmc = s.tmc ∧ s.cassetteSettles.lmc = s.lmc ∧
      s.cassetteSettles.thc = s.thc ∧ s.cassetteSettles.cud = s.cud ∧
      s.cassetteSettles.ssq = s.ssq ∧ s.cassetteSettles.rpd = s.rpd ∧
      s.cassetteSettles.lki = s.lki ∧ s.cassetteSettles.cnt = s.cnt ∧
      s.cassetteSettles.sts = s.sts ∧ s.cassetteSettles.pending = s.pending ∧
      s.cassetteSettles.ttc.curVol = s.ttc.curVol ∧
      s.cassetteSettles.ttc.servo = s.ttc.servo := by
  unfold State.cassetteSettles; (try unfold State.whenDue); (try dsimp only)
  (repeat' split) <;> first | (simp; done) | ((repeat' apply And.intro) <;> first | rfl | simp)

@[simp] theorem cassettePresentChange_frame (present : Bool) (s : State) :
    (cassettePresentChange present s).powered = s.powered ∧
      (cassettePresentChange present s).free = s.free ∧ (cassettePresentChange present s).aq = s.aq ∧
      (cassettePresentChange present s).tmc = s.tmc ∧ (cassettePresentChange present s).lmc = s.lmc ∧
      (cassettePresentChange present s).thc = s.thc ∧ (cassettePresentChange present s).cud = s.cud ∧
      (cassettePresentChange present s).ssq = s.ssq ∧ (cassettePresentChange present s).rpd = s.rpd ∧
      (cassettePresentChange present s).lki = s.lki ∧ (cassettePresentChange present s).cnt = s.cnt ∧
      (cassettePresentChange present s).sts = s.sts ∧ (cassettePresentChange present s).pending = s.pending ∧
      (cassettePresentChange present s).ttc.curVol = s.ttc.curVol ∧
      (cassettePresentChange present s).ttc.servo = s.ttc.servo := by
  unfold cassettePresentChange; (try unfold State.whenDue); (try dsimp only)
  (repeat' split) <;> first | (simp; done) | ((repeat' apply And.intro) <;> first | rfl | simp)

@[simp] theorem fgPulse_frame (s : State) :
    (fgPulse s).powered = s.powered ∧ (fgPulse s).now = s.now ∧ (fgPulse s).free = s.free ∧ (fgPulse s).aq = s.aq ∧
      (fgPulse s).tmc = s.tmc ∧ (fgPulse s).lmc = s.lmc ∧ (fgPulse s).thc = s.thc ∧ (fgPulse s).cud = s.cud ∧
      (fgPulse s).ssq = s.ssq ∧ (fgPulse s).rpd = s.rpd ∧ (fgPulse s).lki = s.lki ∧ (fgPulse s).cnt = s.cnt ∧
      (fgPulse s).sts = s.sts ∧ (fgPulse s).pending = s.pending ∧ (fgPulse s).ttc.st = s.ttc.st ∧
      (fgPulse s).ttc.curVol = s.ttc.curVol := by
  unfold fgPulse; (try unfold State.whenDue); (try dsimp only)
  (repeat' split) <;> first | (simp; done) | ((repeat' apply And.intro) <;> first | rfl | simp)

@[simp] theorem transportFault_frame (s : State) :
    s.transportFault.powered = s.powered ∧ s.transportFault.now = s.now ∧ s.transportFault.free = s.free ∧
      s.transportFault.aq = s.aq ∧ s.transportFault.tmc = s.tmc ∧ s.transportFault.lmc = s.lmc ∧
      s.transportFault.thc = s.thc ∧ s.transportFault.cud = s.cud ∧ s.transportFault.ssq = s.ssq ∧
      s.transportFault.rpd = s.rpd ∧ s.transportFault.cnt = s.cnt ∧ s.transportFault.sts = s.sts ∧
      s.transportFault.pending = s.pending ∧ s.transportFault.ttc.curVol = s.ttc.curVol ∧
      s.transportFault.ttc.servo = s.ttc.servo ∧ s.transportFault.lki.rx = s.lki.rx ∧
      s.transportFault.lki.resp = s.lki.resp ∧ s.transportFault.lki.addr = s.lki.addr ∧
      s.transportFault.lki.assignTaken = s.lki.assignTaken ∧ s.transportFault.lki.resetting = s.lki.resetting ∧
      s.transportFault.lki.copies = s.lki.copies ∧ s.transportFault.lki.enables = s.lki.enables := by
  unfold State.transportFault; (try unfold State.whenDue); (try dsimp only)
  (repeat' split) <;> first | (simp; done) | ((repeat' apply And.intro) <;> first | rfl | simp)

@[simp] theorem fgTimerExpiry_frame (s : State) :
    (fgTimerExpiry s).powered = s.powered ∧ (fgTimerExpiry s).free = s.free ∧ (fgTimerExpiry s).aq = s.aq ∧
      (fgTimerExpiry s).tmc = s.tmc ∧ (fgTimerExpiry s).lmc = s.lmc ∧ (fgTimerExpiry s).thc = s.thc ∧
      (fgTimerExpiry s).cud = s.cud ∧ (fgTimerExpiry s).ssq = s.ssq ∧ (fgTimerExpiry s).rpd = s.rpd ∧
      (fgTimerExpiry s).cnt = s.cnt ∧ (fgTimerExpiry s).sts = s.sts ∧ (fgTimerExpiry s).pending = s.pending ∧
      (fgTimerExpiry s).ttc.curVol = s.ttc.curVol ∧ (fgTimerExpiry s).ttc.servo = s.ttc.servo ∧
      (fgTimerExpiry s).lki.rx = s.lki.rx ∧ (fgTimerExpiry s).lki.resp = s.lki.resp ∧
      (fgTimerExpiry s).lki.addr = s.lki.addr ∧ (fgTimerExpiry s).lki.assignTaken = s.lki.assignTaken ∧
      (fgTimerExpiry s).lki.resetting = s.lki.resetting ∧ (fgTimerExpiry s).lki.copies = s.lki.copies ∧
      (fgTimerExpiry s).lki.enables = s.lki.enables := by
  unfold fgTimerExpiry; (try unfold State.whenDue); (try dsimp only)
  (repeat' split) <;> first | (simp; done) | ((repeat' apply And.intro) <;> first | rfl | simp)

@[simp] theorem tapeEnd_frame (s : State) :
    s.tapeEnd.powered = s.powered ∧ s.tapeEnd.now = s.now ∧ s.tapeEnd.free = s.free ∧ s.tapeEnd.aq = s.aq ∧
      s.tapeEnd.tmc = s.tmc ∧ s.tapeEnd.lmc = s.lmc ∧ s.tapeEnd.thc = s.thc ∧ s.tapeEnd.cud = s.cud ∧
      s.tapeEnd.ssq = s.ssq ∧ s.tapeEnd.rpd = s.rpd ∧ s.tapeEnd.cnt = s.cnt ∧ s.tapeEnd.sts = s.sts ∧
      s.tapeEnd.pending = s.pending ∧ s.tapeEnd.ttc.curVol = s.ttc.curVol ∧ s.tapeEnd.ttc.servo = s.ttc.servo ∧
      s.tapeEnd.lki.rx = s.lki.rx ∧ s.tapeEnd.lki.resp = s.lki.resp ∧ s.tapeEnd.lki.addr = s.lki.addr ∧
      s.tapeEnd.lki.assignTaken = s.lki.assignTaken ∧ s.tapeEnd.lki.resetting = s.lki.resetting ∧
      s.tapeEnd.lki.copies = s.lki.copies ∧ s.tapeEnd.lki.enables = s.lki.enables := by
  unfold State.tapeEnd; (try unfold State.whenDue); (try dsimp only)
  (repeat' split) <;> first | (simp; done) | ((repeat' apply And.intro) <;> first | rfl | simp)

@[simp] theorem takeUpReelTimerExpiry_frame (s : State) :
    (takeUpReelTimerExpiry s).powered = s.powered ∧ (takeUpReelTimerExpiry s).free = s.free ∧
      (takeUpReelTimerExpiry s).aq = s.aq ∧ (takeUpReelTimerExpiry s).tmc = s.tmc ∧
      (takeUpReelTimerExpiry s).lmc = s.lmc ∧ (takeUpReelTimerExpiry s).thc = s.thc ∧
      (takeUpReelTimerExpiry s).cud = s.cud ∧ (takeUpReelTimerExpiry s).ssq = s.ssq ∧
      (takeUpReelTimerExpiry s).rpd = s.rpd ∧ (takeUpReelTimerExpiry s).cnt = s.cnt ∧
      (takeUpReelTimerExpiry s).sts = s.sts ∧ (takeUpReelTimerExpiry s).pending = s.pending ∧
      (takeUpReelTimerExpiry s).ttc.curVol = s.ttc.curVol ∧ (takeUpReelTimerExpiry s).ttc.servo = s.ttc.servo ∧
      (takeUpReelTimerExpiry s).lki.rx = s.lki.rx ∧ (takeUpReelTimerExpiry s).lki.resp = s.lki.resp ∧
      (takeUpReelTimerExpiry s).lki.addr = s.lki.addr ∧
      (takeUpReelTimerExpiry s).lki.assignTaken = s.lki.assignTaken ∧
      (takeUpReelTimerExpiry s).lki.resetting = s.lki.resetting ∧
      (takeUpReelTimerExpiry s).lki.copies = s.lki.copies ∧
      (takeUpReelTimerExpiry s).lki.enables = s.lki.enables := by
  unfold takeUpReelTimerExpiry; (try unfold State.whenDue); (try dsimp only)
  (repeat' split) <;> first | (simp; done) | ((repeat' apply And.intro) <;> first | rfl | simp)

@[simp] theorem tapeRewound_frame (s : State) :
    s.tapeRewound.powered = s.powered ∧ s.tapeRewound.now = s.now ∧ s.tapeRewound.free = s.free ∧
      s.tapeRewound.cud = s.cud ∧ s.tapeRewound.rpd = s.rpd ∧ s.tapeRewound.pending = s.pending ∧
      s.tapeRewound.aq.mode = s.aq.mode ∧ s.tapeRewound.aq.startMode = s.aq.startMode ∧
      s.tapeRewound.tmc.lifter = s.tmc.lifter ∧ s.tapeRewound.tmc.trayDrive = s.tmc.trayDrive ∧
      s.tapeRewound.tmc.qualDue = s.tmc.qualDue ∧ s.tapeRewound.tmc.trayPresent = s.tmc.trayPresent ∧
      s.tapeRewound.tmc.slots = s.tmc.slots ∧ s.tapeRewound.tmc.size = s.tmc.size ∧
      s.tapeRewound.tmc.pos = s.tmc.pos ∧ s.tapeRewound.tmc.gate = s.tmc.gate ∧
      s.tapeRewound.tmc.jam = s.tmc.jam ∧ s.tapeRewound.tmc.comparePos = s.tmc.comparePos ∧
      s.tapeRewound.tmc.par = s.tmc.par ∧ s.tapeRewound.lmc.active = s.lmc.active ∧
      s.tapeRewound.lmc.outLevel = s.lmc.outLevel ∧ s.tapeRewound.lmc.level = s.lmc.level ∧
      s.tapeRewound.lmc.par = s.lmc.par ∧ s.tapeRewound.thc.trip = s.thc.trip ∧
      s.tapeRewound.thc.fanFault = s.thc.fanFault ∧ s.tapeRewound.thc.power = s.thc.power ∧
      s.tapeRewound.thc.lost = s.thc.lost ∧ s.tapeRewound.thc.loss30 = s.thc.loss30 ∧
      s.tapeRewound.thc.par = s.thc.par ∧ s.tapeRewound.thc.tm = s.thc.tm ∧ s.tapeRewound.thc.hq = s.thc.hq ∧
      s.tapeRewound.thc.cEff = s.thc.cEff ∧ s.tapeRewound.ttc.curVol = s.ttc.curVol ∧
      s.tapeRewound.ttc.servo = s.ttc.servo ∧ s.tapeRewound.ssq.steps = s.ssq.steps ∧
      s.tapeRewound.ssq.head = s.ssq.head ∧ s.tapeRewound.lki.rx = s.lki.rx ∧
      s.tapeRewound.lki.resp = s.lki.resp ∧ s.tapeRewound.lki.addr = s.lki.addr ∧
      s.tapeRewound.lki.assignTaken = s.lki.assignTaken ∧ s.tapeRewound.lki.copies = s.lki.copies ∧
      s.tapeRewound.lki.enables = s.lki.enables ∧ s.tapeRewound.cnt.snap = s.cnt.snap ∧
      s.tapeRewound.cnt.number = s.cnt.number ∧ s.tapeRewound.sts.record = s.sts.record ∧
      s.tapeRewound.sts.serial = s.sts.serial ∧ s.tapeRewound.sts.storeLost = s.sts.storeLost := by
  unfold State.tapeRewound; (try unfold State.whenDue); (try dsimp only)
  (repeat' split) <;> first | (simp; done) | ((repeat' apply And.intro) <;> first | rfl | simp)

@[simp] theorem supplyReelTimerExpiry_frame (s : State) :
    (supplyReelTimerExpiry s).powered = s.powered ∧ (supplyReelTimerExpiry s).free = s.free ∧
      (supplyReelTimerExpiry s).cud = s.cud ∧ (supplyReelTimerExpiry s).rpd = s.rpd ∧
      (supplyReelTimerExpiry s).pending = s.pending ∧ (supplyReelTimerExpiry s).aq.mode = s.aq.mode ∧
      (supplyReelTimerExpiry s).aq.startMode = s.aq.startMode ∧
      (supplyReelTimerExpiry s).tmc.lifter = s.tmc.lifter ∧
      (supplyReelTimerExpiry s).tmc.trayDrive = s.tmc.trayDrive ∧
      (supplyReelTimerExpiry s).tmc.qualDue = s.tmc.qualDue ∧
      (supplyReelTimerExpiry s).tmc.trayPresent = s.tmc.trayPresent ∧
      (supplyReelTimerExpiry s).tmc.slots = s.tmc.slots ∧ (supplyReelTimerExpiry s).tmc.size = s.tmc.size ∧
      (supplyReelTimerExpiry s).tmc.pos = s.tmc.pos ∧ (supplyReelTimerExpiry s).tmc.gate = s.tmc.gate ∧
      (supplyReelTimerExpiry s).tmc.jam = s.tmc.jam ∧
      (supplyReelTimerExpiry s).tmc.comparePos = s.tmc.comparePos ∧
      (supplyReelTimerExpiry s).tmc.par = s.tmc.par ∧ (supplyReelTimerExpiry s).lmc.active = s.lmc.active ∧
      (supplyReelTimerExpiry s).lmc.outLevel = s.lmc.outLevel ∧
      (supplyReelTimerExpiry s).lmc.level = s.lmc.level ∧ (supplyReelTimerExpiry s).lmc.par = s.lmc.par ∧
      (supplyReelTimerExpiry s).thc.trip = s.thc.trip ∧ (supplyReelTimerExpiry s).thc.fanFault = s.thc.fanFault ∧
      (supplyReelTimerExpiry s).thc.power = s.thc.power ∧ (supplyReelTimerExpiry s).thc.lost = s.thc.lost ∧
      (supplyReelTimerExpiry s).thc.loss30 = s.thc.loss30 ∧ (supplyReelTimerExpiry s).thc.par = s.thc.par ∧
      (supplyReelTimerExpiry s).thc.tm = s.thc.tm ∧ (supplyReelTimerExpiry s).thc.hq = s.thc.hq ∧
      (supplyReelTimerExpiry s).thc.cEff = s.thc.cEff ∧ (supplyReelTimerExpiry s).ttc.curVol = s.ttc.curVol ∧
      (supplyReelTimerExpiry s).ttc.servo = s.ttc.servo ∧ (supplyReelTimerExpiry s).ssq.steps = s.ssq.steps ∧
      (supplyReelTimerExpiry s).ssq.head = s.ssq.head ∧ (supplyReelTimerExpiry s).lki.rx = s.lki.rx ∧
      (supplyReelTimerExpiry s).lki.resp = s.lki.resp ∧ (supplyReelTimerExpiry s).lki.addr = s.lki.addr ∧
      (supplyReelTimerExpiry s).lki.assignTaken = s.lki.assignTaken ∧
      (supplyReelTimerExpiry s).lki.copies = s.lki.copies ∧
      (supplyReelTimerExpiry s).lki.enables = s.lki.enables ∧ (supplyReelTimerExpiry s).cnt.snap = s.cnt.snap ∧
      (supplyReelTimerExpiry s).cnt.number = s.cnt.number ∧ (supplyReelTimerExpiry s).sts.record = s.sts.record ∧
      (supplyReelTimerExpiry s).sts.serial = s.sts.serial ∧
      (supplyReelTimerExpiry s).sts.storeLost = s.sts.storeLost := by
  unfold supplyReelTimerExpiry; (try unfold State.whenDue); (try dsimp only)
  (repeat' split) <;> first | (simp; done) | ((repeat' apply And.intro) <;> first | rfl | simp)

@[simp] theorem reelPulse_frame (reel : Reel) (s : State) :
    (reelPulse reel s).powered = s.powered ∧ (reelPulse reel s).now = s.now ∧ (reelPulse reel s).free = s.free ∧
      (reelPulse reel s).aq = s.aq ∧ (reelPulse reel s).tmc = s.tmc ∧ (reelPulse reel s).lmc = s.lmc ∧
      (reelPulse reel s).thc = s.thc ∧ (reelPulse reel s).cud = s.cud ∧ (reelPulse reel s).ssq = s.ssq ∧
      (reelPulse reel s).rpd = s.rpd ∧ (reelPulse reel s).lki = s.lki ∧ (reelPulse reel s).cnt = s.cnt ∧
      (reelPulse reel s).sts = s.sts ∧ (reelPulse reel s).pending = s.pending ∧
      (reelPulse reel s).ttc.st = s.ttc.st ∧ (reelPulse reel s).ttc.curVol = s.ttc.curVol ∧
      (reelPulse reel s).ttc.servo = s.ttc.servo := by
  unfold reelPulse; (try unfold State.whenDue); (try dsimp only)
  (repeat' split) <;> first | (simp; done) | ((repeat' apply And.intro) <;> first | rfl | simp)

@[simp] theorem stopFrame_frame (s : State) :
    s.stopFrame.powered = s.powered ∧ s.stopFrame.now = s.now ∧ s.stopFrame.free = s.free ∧ s.stopFrame.aq = s.aq ∧
      s.stopFrame.tmc = s.tmc ∧ s.stopFrame.lmc = s.lmc ∧ s.stopFrame.thc = s.thc ∧ s.stopFrame.cud = s.cud ∧
      s.stopFrame.ssq = s.ssq ∧ s.stopFrame.rpd = s.rpd ∧ s.stopFrame.cnt = s.cnt ∧ s.stopFrame.sts = s.sts ∧
      s.stopFrame.pending = s.pending ∧ s.stopFrame.ttc.curVol = s.ttc.curVol ∧
      s.stopFrame.ttc.servo = s.ttc.servo ∧ s.stopFrame.lki.rx = s.lki.rx ∧ s.stopFrame.lki.resp = s.lki.resp ∧
      s.stopFrame.lki.addr = s.lki.addr ∧ s.stopFrame.lki.assignTaken = s.lki.assignTaken ∧
      s.stopFrame.lki.resetting = s.lki.resetting ∧ s.stopFrame.lki.copies = s.lki.copies ∧
      s.stopFrame.lki.enables = s.lki.enables := by
  unfold State.stopFrame; (try unfold State.whenDue); (try dsimp only)
  (repeat' split) <;> first | (simp; done) | ((repeat' apply And.intro) <;> first | rfl | simp)

@[simp] theorem unlockPasses_frame (s : State) :
    s.unlockPasses.powered = s.powered ∧ s.unlockPasses.now = s.now ∧ s.unlockPasses.free = s.free ∧
      s.unlockPasses.aq = s.aq ∧ s.unlockPasses.tmc = s.tmc ∧ s.unlockPasses.lmc = s.lmc ∧
      s.unlockPasses.thc = s.thc ∧ s.unlockPasses.cud = s.cud ∧ s.unlockPasses.ssq = s.ssq ∧
      s.unlockPasses.rpd = s.rpd ∧ s.unlockPasses.lki = s.lki ∧ s.unlockPasses.cnt = s.cnt ∧
      s.unlockPasses.sts = s.sts ∧ s.unlockPasses.pending = s.pending ∧ s.unlockPasses.ttc.st = s.ttc.st ∧
      s.unlockPasses.ttc.curVol = s.ttc.curVol ∧ s.unlockPasses.ttc.servo = s.ttc.servo := by
  unfold State.unlockPasses; (try unfold State.whenDue); (try dsimp only)
  (repeat' split) <;> first | (simp; done) | ((repeat' apply And.intro) <;> first | rfl | simp)

@[simp] theorem unlockTimer300ms_frame (s : State) :
    (unlockTimer300ms s).powered = s.powered ∧ (unlockTimer300ms s).free = s.free ∧ (unlockTimer300ms s).aq = s.aq ∧
      (unlockTimer300ms s).tmc = s.tmc ∧ (unlockTimer300ms s).lmc = s.lmc ∧ (unlockTimer300ms s).thc = s.thc ∧
      (unlockTimer300ms s).cud = s.cud ∧ (unlockTimer300ms s).ssq = s.ssq ∧ (unlockTimer300ms s).rpd = s.rpd ∧
      (unlockTimer300ms s).lki = s.lki ∧ (unlockTimer300ms s).cnt = s.cnt ∧ (unlockTimer300ms s).sts = s.sts ∧
      (unlockTimer300ms s).pending = s.pending ∧ (unlockTimer300ms s).ttc.st = s.ttc.st ∧
      (unlockTimer300ms s).ttc.curVol = s.ttc.curVol ∧ (unlockTimer300ms s).ttc.servo = s.ttc.servo := by
  unfold unlockTimer300ms; (try unfold State.whenDue); (try dsimp only)
  (repeat' split) <;> first | (simp; done) | ((repeat' apply And.intro) <;> first | rfl | simp)

@[simp] theorem volumeStep_frame (s : State) :
    (volumeStep s).powered = s.powered ∧ (volumeStep s).now = s.now ∧ (volumeStep s).free = s.free ∧
      (volumeStep s).aq = s.aq ∧ (volumeStep s).tmc = s.tmc ∧ (volumeStep s).lmc = s.lmc ∧
      (volumeStep s).thc = s.thc ∧ (volumeStep s).cud = s.cud ∧ (volumeStep s).ssq = s.ssq ∧
      (volumeStep s).rpd = s.rpd ∧ (volumeStep s).lki = s.lki ∧ (volumeStep s).cnt = s.cnt ∧
      (volumeStep s).sts = s.sts ∧ (volumeStep s).pending = s.pending ∧ (volumeStep s).ttc.st = s.ttc.st ∧
      (volumeStep s).ttc.servo = s.ttc.servo := by
  unfold volumeStep; (try unfold State.whenDue); (try dsimp only)
  (repeat' split) <;> first | (simp; done) | ((repeat' apply And.intro) <;> first | rfl | simp)

@[simp] theorem i2sFrame_frame (left right : Sample) (s : State) :
    (i2sFrame left right s).powered = s.powered ∧ (i2sFrame left right s).now = s.now ∧
      (i2sFrame left right s).free = s.free ∧ (i2sFrame left right s).aq = s.aq ∧
      (i2sFrame left right s).tmc = s.tmc ∧ (i2sFrame left right s).lmc = s.lmc ∧
      (i2sFrame left right s).thc = s.thc ∧ (i2sFrame left right s).cud = s.cud ∧
      (i2sFrame left right s).ssq = s.ssq ∧ (i2sFrame left right s).rpd = s.rpd ∧
      (i2sFrame left right s).lki = s.lki ∧ (i2sFrame left right s).cnt = s.cnt ∧
      (i2sFrame left right s).sts = s.sts ∧ (i2sFrame left right s).pending = s.pending ∧
      (i2sFrame left right s).ttc.st = s.ttc.st ∧ (i2sFrame left right s).ttc.curVol = s.ttc.curVol ∧
      (i2sFrame left right s).ttc.servo = s.ttc.servo := by
  unfold i2sFrame; (try unfold State.whenDue); (try dsimp only)
  (repeat' split) <;> first | (simp; done) | ((repeat' apply And.intro) <;> first | rfl | simp)

@[simp] theorem clearSpeedOff_frame (s : State) :
    s.clearSpeedOff.powered = s.powered ∧ s.clearSpeedOff.now = s.now ∧ s.clearSpeedOff.free = s.free ∧
      s.clearSpeedOff.aq = s.aq ∧ s.clearSpeedOff.tmc = s.tmc ∧ s.clearSpeedOff.lmc = s.lmc ∧
      s.clearSpeedOff.thc = s.thc ∧ s.clearSpeedOff.ttc = s.ttc ∧ s.clearSpeedOff.ssq = s.ssq ∧
      s.clearSpeedOff.rpd = s.rpd ∧ s.clearSpeedOff.cnt = s.cnt ∧ s.clearSpeedOff.sts = s.sts ∧
      s.clearSpeedOff.pending = s.pending ∧ s.clearSpeedOff.cud.par = s.cud.par ∧
      s.clearSpeedOff.cud.carrier = s.cud.carrier ∧ s.clearSpeedOff.lki.rx = s.lki.rx ∧
      s.clearSpeedOff.lki.resp = s.lki.resp ∧ s.clearSpeedOff.lki.addr = s.lki.addr ∧
      s.clearSpeedOff.lki.assignTaken = s.lki.assignTaken ∧ s.clearSpeedOff.lki.resetting = s.lki.resetting ∧
      s.clearSpeedOff.lki.copies = s.lki.copies ∧ s.clearSpeedOff.lki.enables = s.lki.enables := by
  unfold State.clearSpeedOff; (try unfold State.whenDue); (try dsimp only)
  (repeat' split) <;> first | (simp; done) | ((repeat' apply And.intro) <;> first | rfl | simp)

@[simp] theorem evalSpeedTimer_frame (s : State) :
    s.evalSpeedTimer.powered = s.powered ∧ s.evalSpeedTimer.now = s.now ∧ s.evalSpeedTimer.free = s.free ∧
      s.evalSpeedTimer.aq = s.aq ∧ s.evalSpeedTimer.tmc = s.tmc ∧ s.evalSpeedTimer.lmc = s.lmc ∧
      s.evalSpeedTimer.thc = s.thc ∧ s.evalSpeedTimer.ttc = s.ttc ∧ s.evalSpeedTimer.ssq = s.ssq ∧
      s.evalSpeedTimer.rpd = s.rpd ∧ s.evalSpeedTimer.lki = s.lki ∧ s.evalSpeedTimer.cnt = s.cnt ∧
      s.evalSpeedTimer.sts = s.sts ∧ s.evalSpeedTimer.pending = s.pending ∧ s.evalSpeedTimer.cud.par = s.cud.par ∧
      s.evalSpeedTimer.cud.carrier = s.cud.carrier := by
  unfold State.evalSpeedTimer; (try unfold State.whenDue); (try dsimp only)
  (repeat' split) <;> first | (simp; done) | ((repeat' apply And.intro) <;> first | rfl | simp)

@[simp] theorem evalSpeed_frame (s : State) :
    s.evalSpeed.powered = s.powered ∧ s.evalSpeed.now = s.now ∧ s.evalSpeed.free = s.free ∧ s.evalSpeed.aq = s.aq ∧
      s.evalSpeed.tmc = s.tmc ∧ s.evalSpeed.lmc = s.lmc ∧ s.evalSpeed.thc = s.thc ∧ s.evalSpeed.ttc = s.ttc ∧
      s.evalSpeed.ssq = s.ssq ∧ s.evalSpeed.rpd = s.rpd ∧ s.evalSpeed.cnt = s.cnt ∧ s.evalSpeed.sts = s.sts ∧
      s.evalSpeed.pending = s.pending ∧ s.evalSpeed.cud.par = s.cud.par ∧
      s.evalSpeed.cud.carrier = s.cud.carrier ∧ s.evalSpeed.lki.rx = s.lki.rx ∧
      s.evalSpeed.lki.resp = s.lki.resp ∧ s.evalSpeed.lki.addr = s.lki.addr ∧
      s.evalSpeed.lki.assignTaken = s.lki.assignTaken ∧ s.evalSpeed.lki.resetting = s.lki.resetting ∧
      s.evalSpeed.lki.copies = s.lki.copies ∧ s.evalSpeed.lki.enables = s.lki.enables := by
  unfold State.evalSpeed; (try unfold State.whenDue); (try dsimp only)
  (repeat' split) <;> first | (simp; done) | ((repeat' apply And.intro) <;> first | rfl | simp)

@[simp] theorem moveCell_frame (s : State) (len : Nat) :
    (s.moveCell len).powered = s.powered ∧ (s.moveCell len).now = s.now ∧ (s.moveCell len).free = s.free ∧
      (s.moveCell len).aq = s.aq ∧ (s.moveCell len).tmc = s.tmc ∧ (s.moveCell len).lmc = s.lmc ∧
      (s.moveCell len).thc = s.thc ∧ (s.moveCell len).ttc = s.ttc ∧ (s.moveCell len).ssq = s.ssq ∧
      (s.moveCell len).rpd = s.rpd ∧ (s.moveCell len).cnt = s.cnt ∧ (s.moveCell len).sts = s.sts ∧
      (s.moveCell len).pending = s.pending ∧ (s.moveCell len).cud.par = s.cud.par ∧
      (s.moveCell len).cud.carrier = s.cud.carrier ∧ (s.moveCell len).lki.rx = s.lki.rx ∧
      (s.moveCell len).lki.resp = s.lki.resp ∧ (s.moveCell len).lki.addr = s.lki.addr ∧
      (s.moveCell len).lki.assignTaken = s.lki.assignTaken ∧ (s.moveCell len).lki.resetting = s.lki.resetting ∧
      (s.moveCell len).lki.copies = s.lki.copies ∧ (s.moveCell len).lki.enables = s.lki.enables := by
  unfold State.moveCell; (try unfold State.whenDue); (try dsimp only)
  (repeat' split) <;> first | (simp; done) | ((repeat' apply And.intro) <;> first | rfl | simp)

@[simp] theorem startCueOut_frame (s : State) :
    s.startCueOut.powered = s.powered ∧ s.startCueOut.now = s.now ∧ s.startCueOut.free = s.free ∧
      s.startCueOut.aq = s.aq ∧ s.startCueOut.tmc = s.tmc ∧ s.startCueOut.lmc = s.lmc ∧
      s.startCueOut.thc = s.thc ∧ s.startCueOut.ttc = s.ttc ∧ s.startCueOut.ssq = s.ssq ∧
      s.startCueOut.rpd = s.rpd ∧ s.startCueOut.lki = s.lki ∧ s.startCueOut.cnt = s.cnt ∧
      s.startCueOut.sts = s.sts ∧ s.startCueOut.pending = s.pending ∧ s.startCueOut.cud.par = s.cud.par ∧
      s.startCueOut.cud.carrier = s.cud.carrier := by
  unfold State.startCueOut; (try unfold State.whenDue); (try dsimp only)
  (repeat' split) <;> first | (simp; done) | ((repeat' apply And.intro) <;> first | rfl | simp)

@[simp] theorem offerFrame_frame (s : State) (kind : FrameKind) (payload : Nat) :
    (s.offerFrame kind payload).powered = s.powered ∧ (s.offerFrame kind payload).now = s.now ∧
      (s.offerFrame kind payload).free = s.free ∧ (s.offerFrame kind payload).aq = s.aq ∧
      (s.offerFrame kind payload).tmc = s.tmc ∧ (s.offerFrame kind payload).lmc = s.lmc ∧
      (s.offerFrame kind payload).thc = s.thc ∧ (s.offerFrame kind payload).ttc = s.ttc ∧
      (s.offerFrame kind payload).ssq = s.ssq ∧ (s.offerFrame kind payload).rpd = s.rpd ∧
      (s.offerFrame kind payload).lki = s.lki ∧ (s.offerFrame kind payload).sts = s.sts ∧
      (s.offerFrame kind payload).pending = s.pending ∧ (s.offerFrame kind payload).cud.par = s.cud.par ∧
      (s.offerFrame kind payload).cud.carrier = s.cud.carrier ∧
      (s.offerFrame kind payload).cnt.snap = s.cnt.snap ∧ (s.offerFrame kind payload).cnt.number = s.cnt.number := by
  unfold State.offerFrame; (try unfold State.whenDue); (try dsimp only)
  (repeat' split) <;> first | (simp; done) | ((repeat' apply And.intro) <;> first | rfl | simp)

@[simp] theorem leaveSync_frame (s : State) :
    s.leaveSync.powered = s.powered ∧ s.leaveSync.now = s.now ∧ s.leaveSync.free = s.free ∧ s.leaveSync.aq = s.aq ∧
      s.leaveSync.tmc = s.tmc ∧ s.leaveSync.lmc = s.lmc ∧ s.leaveSync.thc = s.thc ∧ s.leaveSync.ttc = s.ttc ∧
      s.leaveSync.ssq = s.ssq ∧ s.leaveSync.rpd = s.rpd ∧ s.leaveSync.sts = s.sts ∧
      s.leaveSync.pending = s.pending ∧ s.leaveSync.cud.par = s.cud.par ∧
      s.leaveSync.cud.carrier = s.cud.carrier ∧ s.leaveSync.lki.rx = s.lki.rx ∧
      s.leaveSync.lki.resp = s.lki.resp ∧ s.leaveSync.lki.addr = s.lki.addr ∧
      s.leaveSync.lki.assignTaken = s.lki.assignTaken ∧ s.leaveSync.lki.resetting = s.lki.resetting ∧
      s.leaveSync.lki.copies = s.lki.copies ∧ s.leaveSync.lki.enables = s.lki.enables ∧
      s.leaveSync.cnt.snap = s.cnt.snap ∧ s.leaveSync.cnt.number = s.cnt.number := by
  unfold State.leaveSync; (try unfold State.whenDue); (try dsimp only)
  (repeat' split) <;> first | (simp; done) | ((repeat' apply And.intro) <;> first | rfl | simp)

@[simp] theorem checkCount_frame (s : State) (count : Nat) :
    (s.checkCount count).powered = s.powered ∧ (s.checkCount count).now = s.now ∧ (s.checkCount count).free = s.free ∧
      (s.checkCount count).aq = s.aq ∧ (s.checkCount count).tmc = s.tmc ∧ (s.checkCount count).lmc = s.lmc ∧
      (s.checkCount count).thc = s.thc ∧ (s.checkCount count).ttc = s.ttc ∧ (s.checkCount count).ssq = s.ssq ∧
      (s.checkCount count).rpd = s.rpd ∧ (s.checkCount count).sts = s.sts ∧
      (s.checkCount count).pending = s.pending ∧ (s.checkCount count).cud.par = s.cud.par ∧
      (s.checkCount count).cud.carrier = s.cud.carrier ∧ (s.checkCount count).lki.rx = s.lki.rx ∧
      (s.checkCount count).lki.resp = s.lki.resp ∧ (s.checkCount count).lki.addr = s.lki.addr ∧
      (s.checkCount count).lki.assignTaken = s.lki.assignTaken ∧
      (s.checkCount count).lki.resetting = s.lki.resetting ∧ (s.checkCount count).lki.copies = s.lki.copies ∧
      (s.checkCount count).lki.enables = s.lki.enables ∧ (s.checkCount count).cnt.snap = s.cnt.snap ∧
      (s.checkCount count).cnt.number = s.cnt.number := by
  unfold State.checkCount; (try unfold State.whenDue); (try dsimp only)
  (repeat' split) <;> first | (simp; done) | ((repeat' apply And.intro) <;> first | rfl | simp)

@[simp] theorem judgeDegrade_frame (s : State) (errors : Nat) :
    (s.judgeDegrade errors).powered = s.powered ∧ (s.judgeDegrade errors).now = s.now ∧
      (s.judgeDegrade errors).free = s.free ∧ (s.judgeDegrade errors).aq = s.aq ∧
      (s.judgeDegrade errors).tmc = s.tmc ∧ (s.judgeDegrade errors).lmc = s.lmc ∧
      (s.judgeDegrade errors).thc = s.thc ∧ (s.judgeDegrade errors).ttc = s.ttc ∧
      (s.judgeDegrade errors).ssq = s.ssq ∧ (s.judgeDegrade errors).rpd = s.rpd ∧
      (s.judgeDegrade errors).cnt = s.cnt ∧ (s.judgeDegrade errors).sts = s.sts ∧
      (s.judgeDegrade errors).pending = s.pending ∧ (s.judgeDegrade errors).cud.par = s.cud.par ∧
      (s.judgeDegrade errors).cud.carrier = s.cud.carrier ∧ (s.judgeDegrade errors).lki.rx = s.lki.rx ∧
      (s.judgeDegrade errors).lki.resp = s.lki.resp ∧ (s.judgeDegrade errors).lki.addr = s.lki.addr ∧
      (s.judgeDegrade errors).lki.assignTaken = s.lki.assignTaken ∧
      (s.judgeDegrade errors).lki.resetting = s.lki.resetting ∧
      (s.judgeDegrade errors).lki.copies = s.lki.copies ∧ (s.judgeDegrade errors).lki.enables = s.lki.enables := by
  unfold State.judgeDegrade; (try unfold State.whenDue); (try dsimp only)
  (repeat' split) <;> first | (simp; done) | ((repeat' apply And.intro) <;> first | rfl | simp)

@[simp] theorem advanceWindow_frame (s : State) (err : Bool) :
    (s.advanceWindow err).powered = s.powered ∧ (s.advanceWindow err).now = s.now ∧
      (s.advanceWindow err).free = s.free ∧ (s.advanceWindow err).aq = s.aq ∧ (s.advanceWindow err).tmc = s.tmc ∧
      (s.advanceWindow err).lmc = s.lmc ∧ (s.advanceWindow err).thc = s.thc ∧ (s.advanceWindow err).ttc = s.ttc ∧
      (s.advanceWindow err).ssq = s.ssq ∧ (s.advanceWindow err).rpd = s.rpd ∧ (s.advanceWindow err).cnt = s.cnt ∧
      (s.advanceWindow err).sts = s.sts ∧ (s.advanceWindow err).pending = s.pending ∧
      (s.advanceWindow err).cud.par = s.cud.par ∧ (s.advanceWindow err).cud.carrier = s.cud.carrier ∧
      (s.advanceWindow err).lki.rx = s.lki.rx ∧ (s.advanceWindow err).lki.resp = s.lki.resp ∧
      (s.advanceWindow err).lki.addr = s.lki.addr ∧ (s.advanceWindow err).lki.assignTaken = s.lki.assignTaken ∧
      (s.advanceWindow err).lki.resetting = s.lki.resetting ∧ (s.advanceWindow err).lki.copies = s.lki.copies ∧
      (s.advanceWindow err).lki.enables = s.lki.enables := by
  unfold State.advanceWindow; (try unfold State.whenDue); (try dsimp only)
  (repeat' split) <;> first | (simp; done) | ((repeat' apply And.intro) <;> first | rfl | simp)

@[simp] theorem windowValid_frame (s : State) (count : Nat) :
    (s.windowValid count).powered = s.powered ∧ (s.windowValid count).now = s.now ∧
      (s.windowValid count).free = s.free ∧ (s.windowValid count).aq = s.aq ∧ (s.windowValid count).tmc = s.tmc ∧
      (s.windowValid count).lmc = s.lmc ∧ (s.windowValid count).thc = s.thc ∧ (s.windowValid count).ttc = s.ttc ∧
      (s.windowValid count).ssq = s.ssq ∧ (s.windowValid count).rpd = s.rpd ∧ (s.windowValid count).cnt = s.cnt ∧
      (s.windowValid count).sts = s.sts ∧ (s.windowValid count).pending = s.pending ∧
      (s.windowValid count).cud.par = s.cud.par ∧ (s.windowValid count).cud.carrier = s.cud.carrier ∧
      (s.windowValid count).lki.rx = s.lki.rx ∧ (s.windowValid count).lki.resp = s.lki.resp ∧
      (s.windowValid count).lki.addr = s.lki.addr ∧ (s.windowValid count).lki.assignTaken = s.lki.assignTaken ∧
      (s.windowValid count).lki.resetting = s.lki.resetting ∧ (s.windowValid count).lki.copies = s.lki.copies ∧
      (s.windowValid count).lki.enables = s.lki.enables := by
  unfold State.windowValid; (try unfold State.whenDue); (try dsimp only)
  (repeat' split) <;> first | (simp; done) | ((repeat' apply And.intro) <;> first | rfl | simp)

@[simp] theorem cueFrameOf_frame (s : State) (n : Nat) :
    (s.cueFrameOf n).powered = s.powered ∧ (s.cueFrameOf n).now = s.now ∧ (s.cueFrameOf n).free = s.free ∧
      (s.cueFrameOf n).rpd = s.rpd ∧ (s.cueFrameOf n).pending = s.pending ∧ (s.cueFrameOf n).aq.mode = s.aq.mode ∧
      (s.cueFrameOf n).aq.startMode = s.aq.startMode ∧ (s.cueFrameOf n).tmc.lifter = s.tmc.lifter ∧
      (s.cueFrameOf n).tmc.trayDrive = s.tmc.trayDrive ∧ (s.cueFrameOf n).tmc.qualDue = s.tmc.qualDue ∧
      (s.cueFrameOf n).tmc.trayPresent = s.tmc.trayPresent ∧ (s.cueFrameOf n).tmc.slots = s.tmc.slots ∧
      (s.cueFrameOf n).tmc.size = s.tmc.size ∧ (s.cueFrameOf n).tmc.pos = s.tmc.pos ∧
      (s.cueFrameOf n).tmc.gate = s.tmc.gate ∧ (s.cueFrameOf n).tmc.jam = s.tmc.jam ∧
      (s.cueFrameOf n).tmc.comparePos = s.tmc.comparePos ∧ (s.cueFrameOf n).tmc.par = s.tmc.par ∧
      (s.cueFrameOf n).lmc.active = s.lmc.active ∧ (s.cueFrameOf n).lmc.outLevel = s.lmc.outLevel ∧
      (s.cueFrameOf n).lmc.level = s.lmc.level ∧ (s.cueFrameOf n).lmc.par = s.lmc.par ∧
      (s.cueFrameOf n).thc.trip = s.thc.trip ∧ (s.cueFrameOf n).thc.fanFault = s.thc.fanFault ∧
      (s.cueFrameOf n).thc.power = s.thc.power ∧ (s.cueFrameOf n).thc.lost = s.thc.lost ∧
      (s.cueFrameOf n).thc.loss30 = s.thc.loss30 ∧ (s.cueFrameOf n).thc.par = s.thc.par ∧
      (s.cueFrameOf n).thc.tm = s.thc.tm ∧ (s.cueFrameOf n).thc.hq = s.thc.hq ∧
      (s.cueFrameOf n).thc.cEff = s.thc.cEff ∧ (s.cueFrameOf n).ttc.st = s.ttc.st ∧
      (s.cueFrameOf n).ttc.curVol = s.ttc.curVol ∧ (s.cueFrameOf n).ttc.servo = s.ttc.servo ∧
      (s.cueFrameOf n).cud.par = s.cud.par ∧ (s.cueFrameOf n).cud.carrier = s.cud.carrier ∧
      (s.cueFrameOf n).ssq.steps = s.ssq.steps ∧ (s.cueFrameOf n).ssq.head = s.ssq.head ∧
      (s.cueFrameOf n).lki.rx = s.lki.rx ∧ (s.cueFrameOf n).lki.resp = s.lki.resp ∧
      (s.cueFrameOf n).lki.addr = s.lki.addr ∧ (s.cueFrameOf n).lki.assignTaken = s.lki.assignTaken ∧
      (s.cueFrameOf n).lki.copies = s.lki.copies ∧ (s.cueFrameOf n).lki.enables = s.lki.enables ∧
      (s.cueFrameOf n).cnt.snap = s.cnt.snap ∧ (s.cueFrameOf n).cnt.number = s.cnt.number ∧
      (s.cueFrameOf n).sts.record = s.sts.record ∧ (s.cueFrameOf n).sts.serial = s.sts.serial ∧
      (s.cueFrameOf n).sts.storeLost = s.sts.storeLost := by
  unfold State.cueFrameOf; (try unfold State.whenDue); (try dsimp only)
  (repeat' split) <;> first | (simp; done) | ((repeat' apply And.intro) <;> first | rfl | simp)

@[simp] theorem dropCandidate_frame (s : State) :
    s.dropCandidate.powered = s.powered ∧ s.dropCandidate.now = s.now ∧ s.dropCandidate.free = s.free ∧
      s.dropCandidate.aq = s.aq ∧ s.dropCandidate.tmc = s.tmc ∧ s.dropCandidate.lmc = s.lmc ∧
      s.dropCandidate.thc = s.thc ∧ s.dropCandidate.ttc = s.ttc ∧ s.dropCandidate.ssq = s.ssq ∧
      s.dropCandidate.rpd = s.rpd ∧ s.dropCandidate.lki = s.lki ∧ s.dropCandidate.cnt = s.cnt ∧
      s.dropCandidate.sts = s.sts ∧ s.dropCandidate.pending = s.pending ∧ s.dropCandidate.cud.par = s.cud.par ∧
      s.dropCandidate.cud.carrier = s.cud.carrier := by
  unfold State.dropCandidate; (try unfold State.whenDue); (try dsimp only)
  (repeat' split) <;> first | (simp; done) | ((repeat' apply And.intro) <;> first | rfl | simp)

@[simp] theorem frameKind_frame (s : State) (kind : FrameKind) (payload : Nat) :
    (s.frameKind kind payload).powered = s.powered ∧ (s.frameKind kind payload).now = s.now ∧
      (s.frameKind kind payload).free = s.free ∧ (s.frameKind kind payload).rpd = s.rpd ∧
      (s.frameKind kind payload).pending = s.pending ∧ (s.frameKind kind payload).aq.mode = s.aq.mode ∧
      (s.frameKind kind payload).aq.startMode = s.aq.startMode ∧
      (s.frameKind kind payload).tmc.lifter = s.tmc.lifter ∧
      (s.frameKind kind payload).tmc.trayDrive = s.tmc.trayDrive ∧
      (s.frameKind kind payload).tmc.qualDue = s.tmc.qualDue ∧
      (s.frameKind kind payload).tmc.trayPresent = s.tmc.trayPresent ∧
      (s.frameKind kind payload).tmc.slots = s.tmc.slots ∧ (s.frameKind kind payload).tmc.size = s.tmc.size ∧
      (s.frameKind kind payload).tmc.pos = s.tmc.pos ∧ (s.frameKind kind payload).tmc.gate = s.tmc.gate ∧
      (s.frameKind kind payload).tmc.jam = s.tmc.jam ∧
      (s.frameKind kind payload).tmc.comparePos = s.tmc.comparePos ∧
      (s.frameKind kind payload).tmc.par = s.tmc.par ∧ (s.frameKind kind payload).lmc.active = s.lmc.active ∧
      (s.frameKind kind payload).lmc.outLevel = s.lmc.outLevel ∧
      (s.frameKind kind payload).lmc.level = s.lmc.level ∧ (s.frameKind kind payload).lmc.par = s.lmc.par ∧
      (s.frameKind kind payload).thc.trip = s.thc.trip ∧
      (s.frameKind kind payload).thc.fanFault = s.thc.fanFault ∧
      (s.frameKind kind payload).thc.power = s.thc.power ∧ (s.frameKind kind payload).thc.lost = s.thc.lost ∧
      (s.frameKind kind payload).thc.loss30 = s.thc.loss30 ∧ (s.frameKind kind payload).thc.par = s.thc.par ∧
      (s.frameKind kind payload).thc.tm = s.thc.tm ∧ (s.frameKind kind payload).thc.hq = s.thc.hq ∧
      (s.frameKind kind payload).thc.cEff = s.thc.cEff ∧ (s.frameKind kind payload).ttc.curVol = s.ttc.curVol ∧
      (s.frameKind kind payload).ttc.servo = s.ttc.servo ∧ (s.frameKind kind payload).cud.par = s.cud.par ∧
      (s.frameKind kind payload).cud.carrier = s.cud.carrier ∧
      (s.frameKind kind payload).ssq.steps = s.ssq.steps ∧ (s.frameKind kind payload).ssq.head = s.ssq.head ∧
      (s.frameKind kind payload).lki.rx = s.lki.rx ∧ (s.frameKind kind payload).lki.resp = s.lki.resp ∧
      (s.frameKind kind payload).lki.addr = s.lki.addr ∧
      (s.frameKind kind payload).lki.assignTaken = s.lki.assignTaken ∧
      (s.frameKind kind payload).lki.copies = s.lki.copies ∧
      (s.frameKind kind payload).lki.enables = s.lki.enables ∧ (s.frameKind kind payload).cnt.snap = s.cnt.snap ∧
      (s.frameKind kind payload).cnt.number = s.cnt.number ∧
      (s.frameKind kind payload).sts.record = s.sts.record ∧
      (s.frameKind kind payload).sts.serial = s.sts.serial ∧
      (s.frameKind kind payload).sts.storeLost = s.sts.storeLost := by
  unfold State.frameKind; (try unfold State.whenDue); (try dsimp only)
  (repeat' split) <;> first | (simp; done) | ((repeat' apply And.intro) <;> first | rfl | simp)

@[simp] theorem validFrame_frame (s : State) (count : Nat) (kind : FrameKind) (payload : Nat) :
    (s.validFrame count kind payload).powered = s.powered ∧ (s.validFrame count kind payload).now = s.now ∧
      (s.validFrame count kind payload).free = s.free ∧ (s.validFrame count kind payload).rpd = s.rpd ∧
      (s.validFrame count kind payload).pending = s.pending ∧
      (s.validFrame count kind payload).aq.mode = s.aq.mode ∧
      (s.validFrame count kind payload).aq.startMode = s.aq.startMode ∧
      (s.validFrame count kind payload).tmc.lifter = s.tmc.lifter ∧
      (s.validFrame count kind payload).tmc.trayDrive = s.tmc.trayDrive ∧
      (s.validFrame count kind payload).tmc.qualDue = s.tmc.qualDue ∧
      (s.validFrame count kind payload).tmc.trayPresent = s.tmc.trayPresent ∧
      (s.validFrame count kind payload).tmc.slots = s.tmc.slots ∧
      (s.validFrame count kind payload).tmc.size = s.tmc.size ∧
      (s.validFrame count kind payload).tmc.pos = s.tmc.pos ∧
      (s.validFrame count kind payload).tmc.gate = s.tmc.gate ∧
      (s.validFrame count kind payload).tmc.jam = s.tmc.jam ∧
      (s.validFrame count kind payload).tmc.comparePos = s.tmc.comparePos ∧
      (s.validFrame count kind payload).tmc.par = s.tmc.par ∧
      (s.validFrame count kind payload).lmc.active = s.lmc.active ∧
      (s.validFrame count kind payload).lmc.outLevel = s.lmc.outLevel ∧
      (s.validFrame count kind payload).lmc.level = s.lmc.level ∧
      (s.validFrame count kind payload).lmc.par = s.lmc.par ∧
      (s.validFrame count kind payload).thc.trip = s.thc.trip ∧
      (s.validFrame count kind payload).thc.fanFault = s.thc.fanFault ∧
      (s.validFrame count kind payload).thc.power = s.thc.power ∧
      (s.validFrame count kind payload).thc.lost = s.thc.lost ∧
      (s.validFrame count kind payload).thc.loss30 = s.thc.loss30 ∧
      (s.validFrame count kind payload).thc.par = s.thc.par ∧
      (s.validFrame count kind payload).thc.tm = s.thc.tm ∧ (s.validFrame count kind payload).thc.hq = s.thc.hq ∧
      (s.validFrame count kind payload).thc.cEff = s.thc.cEff ∧
      (s.validFrame count kind payload).ttc.curVol = s.ttc.curVol ∧
      (s.validFrame count kind payload).ttc.servo = s.ttc.servo ∧
      (s.validFrame count kind payload).cud.par = s.cud.par ∧
      (s.validFrame count kind payload).cud.carrier = s.cud.carrier ∧
      (s.validFrame count kind payload).ssq.steps = s.ssq.steps ∧
      (s.validFrame count kind payload).ssq.head = s.ssq.head ∧
      (s.validFrame count kind payload).lki.rx = s.lki.rx ∧
      (s.validFrame count kind payload).lki.resp = s.lki.resp ∧
      (s.validFrame count kind payload).lki.addr = s.lki.addr ∧
      (s.validFrame count kind payload).lki.assignTaken = s.lki.assignTaken ∧
      (s.validFrame count kind payload).lki.copies = s.lki.copies ∧
      (s.validFrame count kind payload).lki.enables = s.lki.enables ∧
      (s.validFrame count kind payload).cnt.snap = s.cnt.snap ∧
      (s.validFrame count kind payload).cnt.number = s.cnt.number ∧
      (s.validFrame count kind payload).sts.record = s.sts.record ∧
      (s.validFrame count kind payload).sts.serial = s.sts.serial ∧
      (s.validFrame count kind payload).sts.storeLost = s.sts.storeLost := by
  unfold State.validFrame; (try unfold State.whenDue); (try dsimp only)
  (repeat' split) <;> first | (simp; done) | ((repeat' apply And.intro) <;> first | rfl | simp)

@[simp] theorem badFrame_frame (s : State) (check : Bool) :
    (s.badFrame check).powered = s.powered ∧ (s.badFrame check).now = s.now ∧ (s.badFrame check).free = s.free ∧
      (s.badFrame check).aq = s.aq ∧ (s.badFrame check).tmc = s.tmc ∧ (s.badFrame check).lmc = s.lmc ∧
      (s.badFrame check).thc = s.thc ∧ (s.badFrame check).ttc = s.ttc ∧ (s.badFrame check).ssq = s.ssq ∧
      (s.badFrame check).rpd = s.rpd ∧ (s.badFrame check).sts = s.sts ∧ (s.badFrame check).pending = s.pending ∧
      (s.badFrame check).cud.par = s.cud.par ∧ (s.badFrame check).cud.carrier = s.cud.carrier ∧
      (s.badFrame check).lki.rx = s.lki.rx ∧ (s.badFrame check).lki.resp = s.lki.resp ∧
      (s.badFrame check).lki.addr = s.lki.addr ∧ (s.badFrame check).lki.assignTaken = s.lki.assignTaken ∧
      (s.badFrame check).lki.resetting = s.lki.resetting ∧ (s.badFrame check).lki.copies = s.lki.copies ∧
      (s.badFrame check).lki.enables = s.lki.enables ∧ (s.badFrame check).cnt.snap = s.cnt.snap ∧
      (s.badFrame check).cnt.number = s.cnt.number := by
  unfold State.badFrame; (try unfold State.whenDue); (try dsimp only)
  (repeat' split) <;> first | (simp; done) | ((repeat' apply And.intro) <;> first | rfl | simp)

@[simp] theorem enterSync_frame (s : State) (count : Nat) (kind : FrameKind) (payload : Nat) :
    (s.enterSync count kind payload).powered = s.powered ∧ (s.enterSync count kind payload).now = s.now ∧
      (s.enterSync count kind payload).free = s.free ∧ (s.enterSync count kind payload).rpd = s.rpd ∧
      (s.enterSync count kind payload).pending = s.pending ∧
      (s.enterSync count kind payload).aq.mode = s.aq.mode ∧
      (s.enterSync count kind payload).aq.startMode = s.aq.startMode ∧
      (s.enterSync count kind payload).tmc.lifter = s.tmc.lifter ∧
      (s.enterSync count kind payload).tmc.trayDrive = s.tmc.trayDrive ∧
      (s.enterSync count kind payload).tmc.qualDue = s.tmc.qualDue ∧
      (s.enterSync count kind payload).tmc.trayPresent = s.tmc.trayPresent ∧
      (s.enterSync count kind payload).tmc.slots = s.tmc.slots ∧
      (s.enterSync count kind payload).tmc.size = s.tmc.size ∧
      (s.enterSync count kind payload).tmc.pos = s.tmc.pos ∧
      (s.enterSync count kind payload).tmc.gate = s.tmc.gate ∧
      (s.enterSync count kind payload).tmc.jam = s.tmc.jam ∧
      (s.enterSync count kind payload).tmc.comparePos = s.tmc.comparePos ∧
      (s.enterSync count kind payload).tmc.par = s.tmc.par ∧
      (s.enterSync count kind payload).lmc.active = s.lmc.active ∧
      (s.enterSync count kind payload).lmc.outLevel = s.lmc.outLevel ∧
      (s.enterSync count kind payload).lmc.level = s.lmc.level ∧
      (s.enterSync count kind payload).lmc.par = s.lmc.par ∧
      (s.enterSync count kind payload).thc.trip = s.thc.trip ∧
      (s.enterSync count kind payload).thc.fanFault = s.thc.fanFault ∧
      (s.enterSync count kind payload).thc.power = s.thc.power ∧
      (s.enterSync count kind payload).thc.lost = s.thc.lost ∧
      (s.enterSync count kind payload).thc.loss30 = s.thc.loss30 ∧
      (s.enterSync count kind payload).thc.par = s.thc.par ∧ (s.enterSync count kind payload).thc.tm = s.thc.tm ∧
      (s.enterSync count kind payload).thc.hq = s.thc.hq ∧
      (s.enterSync count kind payload).thc.cEff = s.thc.cEff ∧
      (s.enterSync count kind payload).ttc.curVol = s.ttc.curVol ∧
      (s.enterSync count kind payload).ttc.servo = s.ttc.servo ∧
      (s.enterSync count kind payload).cud.par = s.cud.par ∧
      (s.enterSync count kind payload).cud.carrier = s.cud.carrier ∧
      (s.enterSync count kind payload).ssq.steps = s.ssq.steps ∧
      (s.enterSync count kind payload).ssq.head = s.ssq.head ∧
      (s.enterSync count kind payload).lki.rx = s.lki.rx ∧
      (s.enterSync count kind payload).lki.resp = s.lki.resp ∧
      (s.enterSync count kind payload).lki.addr = s.lki.addr ∧
      (s.enterSync count kind payload).lki.assignTaken = s.lki.assignTaken ∧
      (s.enterSync count kind payload).lki.copies = s.lki.copies ∧
      (s.enterSync count kind payload).lki.enables = s.lki.enables ∧
      (s.enterSync count kind payload).cnt.snap = s.cnt.snap ∧
      (s.enterSync count kind payload).cnt.number = s.cnt.number ∧
      (s.enterSync count kind payload).sts.record = s.sts.record ∧
      (s.enterSync count kind payload).sts.serial = s.sts.serial ∧
      (s.enterSync count kind payload).sts.storeLost = s.sts.storeLost := by
  unfold State.enterSync; (try unfold State.whenDue); (try dsimp only)
  (repeat' split) <;> first | (simp; done) | ((repeat' apply And.intro) <;> first | rfl | simp)

@[simp] theorem frameBit_frame (s : State) :
    s.frameBit.powered = s.powered ∧ s.frameBit.now = s.now ∧ s.frameBit.free = s.free ∧ s.frameBit.rpd = s.rpd ∧
      s.frameBit.pending = s.pending ∧ s.frameBit.aq.mode = s.aq.mode ∧ s.frameBit.aq.startMode = s.aq.startMode ∧
      s.frameBit.tmc.lifter = s.tmc.lifter ∧ s.frameBit.tmc.trayDrive = s.tmc.trayDrive ∧
      s.frameBit.tmc.qualDue = s.tmc.qualDue ∧ s.frameBit.tmc.trayPresent = s.tmc.trayPresent ∧
      s.frameBit.tmc.slots = s.tmc.slots ∧ s.frameBit.tmc.size = s.tmc.size ∧ s.frameBit.tmc.pos = s.tmc.pos ∧
      s.frameBit.tmc.gate = s.tmc.gate ∧ s.frameBit.tmc.jam = s.tmc.jam ∧
      s.frameBit.tmc.comparePos = s.tmc.comparePos ∧ s.frameBit.tmc.par = s.tmc.par ∧
      s.frameBit.lmc.active = s.lmc.active ∧ s.frameBit.lmc.outLevel = s.lmc.outLevel ∧
      s.frameBit.lmc.level = s.lmc.level ∧ s.frameBit.lmc.par = s.lmc.par ∧ s.frameBit.thc.trip = s.thc.trip ∧
      s.frameBit.thc.fanFault = s.thc.fanFault ∧ s.frameBit.thc.power = s.thc.power ∧
      s.frameBit.thc.lost = s.thc.lost ∧ s.frameBit.thc.loss30 = s.thc.loss30 ∧ s.frameBit.thc.par = s.thc.par ∧
      s.frameBit.thc.tm = s.thc.tm ∧ s.frameBit.thc.hq = s.thc.hq ∧ s.frameBit.thc.cEff = s.thc.cEff ∧
      s.frameBit.ttc.curVol = s.ttc.curVol ∧ s.frameBit.ttc.servo = s.ttc.servo ∧ s.frameBit.cud.par = s.cud.par ∧
      s.frameBit.cud.carrier = s.cud.carrier ∧ s.frameBit.ssq.steps = s.ssq.steps ∧
      s.frameBit.ssq.head = s.ssq.head ∧ s.frameBit.lki.rx = s.lki.rx ∧ s.frameBit.lki.resp = s.lki.resp ∧
      s.frameBit.lki.addr = s.lki.addr ∧ s.frameBit.lki.assignTaken = s.lki.assignTaken ∧
      s.frameBit.lki.copies = s.lki.copies ∧ s.frameBit.lki.enables = s.lki.enables ∧
      s.frameBit.cnt.snap = s.cnt.snap ∧ s.frameBit.cnt.number = s.cnt.number ∧
      s.frameBit.sts.record = s.sts.record ∧ s.frameBit.sts.serial = s.sts.serial ∧
      s.frameBit.sts.storeLost = s.sts.storeLost := by
  unfold State.frameBit; (try unfold State.whenDue); (try dsimp only)
  (repeat' split) <;> first | (simp; done) | ((repeat' apply And.intro) <;> first | rfl | simp)

@[simp] theorem formBit_frame (s : State) (b : Bool) (len : Nat) :
    (s.formBit b len).powered = s.powered ∧ (s.formBit b len).now = s.now ∧ (s.formBit b len).free = s.free ∧
      (s.formBit b len).rpd = s.rpd ∧ (s.formBit b len).pending = s.pending ∧
      (s.formBit b len).aq.mode = s.aq.mode ∧ (s.formBit b len).aq.startMode = s.aq.startMode ∧
      (s.formBit b len).tmc.lifter = s.tmc.lifter ∧ (s.formBit b len).tmc.trayDrive = s.tmc.trayDrive ∧
      (s.formBit b len).tmc.qualDue = s.tmc.qualDue ∧ (s.formBit b len).tmc.trayPresent = s.tmc.trayPresent ∧
      (s.formBit b len).tmc.slots = s.tmc.slots ∧ (s.formBit b len).tmc.size = s.tmc.size ∧
      (s.formBit b len).tmc.pos = s.tmc.pos ∧ (s.formBit b len).tmc.gate = s.tmc.gate ∧
      (s.formBit b len).tmc.jam = s.tmc.jam ∧ (s.formBit b len).tmc.comparePos = s.tmc.comparePos ∧
      (s.formBit b len).tmc.par = s.tmc.par ∧ (s.formBit b len).lmc.active = s.lmc.active ∧
      (s.formBit b len).lmc.outLevel = s.lmc.outLevel ∧ (s.formBit b len).lmc.level = s.lmc.level ∧
      (s.formBit b len).lmc.par = s.lmc.par ∧ (s.formBit b len).thc.trip = s.thc.trip ∧
      (s.formBit b len).thc.fanFault = s.thc.fanFault ∧ (s.formBit b len).thc.power = s.thc.power ∧
      (s.formBit b len).thc.lost = s.thc.lost ∧ (s.formBit b len).thc.loss30 = s.thc.loss30 ∧
      (s.formBit b len).thc.par = s.thc.par ∧ (s.formBit b len).thc.tm = s.thc.tm ∧
      (s.formBit b len).thc.hq = s.thc.hq ∧ (s.formBit b len).thc.cEff = s.thc.cEff ∧
      (s.formBit b len).ttc.curVol = s.ttc.curVol ∧ (s.formBit b len).ttc.servo = s.ttc.servo ∧
      (s.formBit b len).cud.par = s.cud.par ∧ (s.formBit b len).cud.carrier = s.cud.carrier ∧
      (s.formBit b len).ssq.steps = s.ssq.steps ∧ (s.formBit b len).ssq.head = s.ssq.head ∧
      (s.formBit b len).lki.rx = s.lki.rx ∧ (s.formBit b len).lki.resp = s.lki.resp ∧
      (s.formBit b len).lki.addr = s.lki.addr ∧ (s.formBit b len).lki.assignTaken = s.lki.assignTaken ∧
      (s.formBit b len).lki.copies = s.lki.copies ∧ (s.formBit b len).lki.enables = s.lki.enables ∧
      (s.formBit b len).cnt.snap = s.cnt.snap ∧ (s.formBit b len).cnt.number = s.cnt.number ∧
      (s.formBit b len).sts.record = s.sts.record ∧ (s.formBit b len).sts.serial = s.sts.serial ∧
      (s.formBit b len).sts.storeLost = s.sts.storeLost := by
  unfold State.formBit; (try unfold State.whenDue); (try dsimp only)
  (repeat' split) <;> first | (simp; done) | ((repeat' apply And.intro) <;> first | rfl | simp)

@[simp] theorem formVoid_frame (s : State) :
    s.formVoid.powered = s.powered ∧ s.formVoid.now = s.now ∧ s.formVoid.free = s.free ∧ s.formVoid.rpd = s.rpd ∧
      s.formVoid.pending = s.pending ∧ s.formVoid.aq.mode = s.aq.mode ∧ s.formVoid.aq.startMode = s.aq.startMode ∧
      s.formVoid.tmc.lifter = s.tmc.lifter ∧ s.formVoid.tmc.trayDrive = s.tmc.trayDrive ∧
      s.formVoid.tmc.qualDue = s.tmc.qualDue ∧ s.formVoid.tmc.trayPresent = s.tmc.trayPresent ∧
      s.formVoid.tmc.slots = s.tmc.slots ∧ s.formVoid.tmc.size = s.tmc.size ∧ s.formVoid.tmc.pos = s.tmc.pos ∧
      s.formVoid.tmc.gate = s.tmc.gate ∧ s.formVoid.tmc.jam = s.tmc.jam ∧
      s.formVoid.tmc.comparePos = s.tmc.comparePos ∧ s.formVoid.tmc.par = s.tmc.par ∧
      s.formVoid.lmc.active = s.lmc.active ∧ s.formVoid.lmc.outLevel = s.lmc.outLevel ∧
      s.formVoid.lmc.level = s.lmc.level ∧ s.formVoid.lmc.par = s.lmc.par ∧ s.formVoid.thc.trip = s.thc.trip ∧
      s.formVoid.thc.fanFault = s.thc.fanFault ∧ s.formVoid.thc.power = s.thc.power ∧
      s.formVoid.thc.lost = s.thc.lost ∧ s.formVoid.thc.loss30 = s.thc.loss30 ∧ s.formVoid.thc.par = s.thc.par ∧
      s.formVoid.thc.tm = s.thc.tm ∧ s.formVoid.thc.hq = s.thc.hq ∧ s.formVoid.thc.cEff = s.thc.cEff ∧
      s.formVoid.ttc.curVol = s.ttc.curVol ∧ s.formVoid.ttc.servo = s.ttc.servo ∧ s.formVoid.cud.par = s.cud.par ∧
      s.formVoid.cud.carrier = s.cud.carrier ∧ s.formVoid.ssq.steps = s.ssq.steps ∧
      s.formVoid.ssq.head = s.ssq.head ∧ s.formVoid.lki.rx = s.lki.rx ∧ s.formVoid.lki.resp = s.lki.resp ∧
      s.formVoid.lki.addr = s.lki.addr ∧ s.formVoid.lki.assignTaken = s.lki.assignTaken ∧
      s.formVoid.lki.copies = s.lki.copies ∧ s.formVoid.lki.enables = s.lki.enables ∧
      s.formVoid.cnt.snap = s.cnt.snap ∧ s.formVoid.cnt.number = s.cnt.number ∧
      s.formVoid.sts.record = s.sts.record ∧ s.formVoid.sts.serial = s.sts.serial ∧
      s.formVoid.sts.storeLost = s.sts.storeLost := by
  unfold State.formVoid; (try unfold State.whenDue); (try dsimp only)
  (repeat' split) <;> first | (simp; done) | ((repeat' apply And.intro) <;> first | rfl | simp)

@[simp] theorem interval_frame (s : State) (i : Nat) :
    (s.interval i).powered = s.powered ∧ (s.interval i).now = s.now ∧ (s.interval i).free = s.free ∧
      (s.interval i).rpd = s.rpd ∧ (s.interval i).pending = s.pending ∧ (s.interval i).aq.mode = s.aq.mode ∧
      (s.interval i).aq.startMode = s.aq.startMode ∧ (s.interval i).tmc.lifter = s.tmc.lifter ∧
      (s.interval i).tmc.trayDrive = s.tmc.trayDrive ∧ (s.interval i).tmc.qualDue = s.tmc.qualDue ∧
      (s.interval i).tmc.trayPresent = s.tmc.trayPresent ∧ (s.interval i).tmc.slots = s.tmc.slots ∧
      (s.interval i).tmc.size = s.tmc.size ∧ (s.interval i).tmc.pos = s.tmc.pos ∧
      (s.interval i).tmc.gate = s.tmc.gate ∧ (s.interval i).tmc.jam = s.tmc.jam ∧
      (s.interval i).tmc.comparePos = s.tmc.comparePos ∧ (s.interval i).tmc.par = s.tmc.par ∧
      (s.interval i).lmc.active = s.lmc.active ∧ (s.interval i).lmc.outLevel = s.lmc.outLevel ∧
      (s.interval i).lmc.level = s.lmc.level ∧ (s.interval i).lmc.par = s.lmc.par ∧
      (s.interval i).thc.trip = s.thc.trip ∧ (s.interval i).thc.fanFault = s.thc.fanFault ∧
      (s.interval i).thc.power = s.thc.power ∧ (s.interval i).thc.lost = s.thc.lost ∧
      (s.interval i).thc.loss30 = s.thc.loss30 ∧ (s.interval i).thc.par = s.thc.par ∧
      (s.interval i).thc.tm = s.thc.tm ∧ (s.interval i).thc.hq = s.thc.hq ∧ (s.interval i).thc.cEff = s.thc.cEff ∧
      (s.interval i).ttc.curVol = s.ttc.curVol ∧ (s.interval i).ttc.servo = s.ttc.servo ∧
      (s.interval i).cud.par = s.cud.par ∧ (s.interval i).cud.carrier = s.cud.carrier ∧
      (s.interval i).ssq.steps = s.ssq.steps ∧ (s.interval i).ssq.head = s.ssq.head ∧
      (s.interval i).lki.rx = s.lki.rx ∧ (s.interval i).lki.resp = s.lki.resp ∧
      (s.interval i).lki.addr = s.lki.addr ∧ (s.interval i).lki.assignTaken = s.lki.assignTaken ∧
      (s.interval i).lki.copies = s.lki.copies ∧ (s.interval i).lki.enables = s.lki.enables ∧
      (s.interval i).cnt.snap = s.cnt.snap ∧ (s.interval i).cnt.number = s.cnt.number ∧
      (s.interval i).sts.record = s.sts.record ∧ (s.interval i).sts.serial = s.sts.serial ∧
      (s.interval i).sts.storeLost = s.sts.storeLost := by
  unfold State.interval; (try unfold State.whenDue); (try dsimp only)
  (repeat' split) <;> first | (simp; done) | ((repeat' apply And.intro) <;> first | rfl | simp)

@[simp] theorem edge_frame (s : State) :
    s.edge.powered = s.powered ∧ s.edge.now = s.now ∧ s.edge.free = s.free ∧ s.edge.rpd = s.rpd ∧
      s.edge.pending = s.pending ∧ s.edge.aq.mode = s.aq.mode ∧ s.edge.aq.startMode = s.aq.startMode ∧
      s.edge.tmc.lifter = s.tmc.lifter ∧ s.edge.tmc.trayDrive = s.tmc.trayDrive ∧
      s.edge.tmc.qualDue = s.tmc.qualDue ∧ s.edge.tmc.trayPresent = s.tmc.trayPresent ∧
      s.edge.tmc.slots = s.tmc.slots ∧ s.edge.tmc.size = s.tmc.size ∧ s.edge.tmc.pos = s.tmc.pos ∧
      s.edge.tmc.gate = s.tmc.gate ∧ s.edge.tmc.jam = s.tmc.jam ∧ s.edge.tmc.comparePos = s.tmc.comparePos ∧
      s.edge.tmc.par = s.tmc.par ∧ s.edge.lmc.active = s.lmc.active ∧ s.edge.lmc.outLevel = s.lmc.outLevel ∧
      s.edge.lmc.level = s.lmc.level ∧ s.edge.lmc.par = s.lmc.par ∧ s.edge.thc.trip = s.thc.trip ∧
      s.edge.thc.fanFault = s.thc.fanFault ∧ s.edge.thc.power = s.thc.power ∧ s.edge.thc.lost = s.thc.lost ∧
      s.edge.thc.loss30 = s.thc.loss30 ∧ s.edge.thc.par = s.thc.par ∧ s.edge.thc.tm = s.thc.tm ∧
      s.edge.thc.hq = s.thc.hq ∧ s.edge.thc.cEff = s.thc.cEff ∧ s.edge.ttc.curVol = s.ttc.curVol ∧
      s.edge.ttc.servo = s.ttc.servo ∧ s.edge.cud.par = s.cud.par ∧ s.edge.ssq.steps = s.ssq.steps ∧
      s.edge.ssq.head = s.ssq.head ∧ s.edge.lki.rx = s.lki.rx ∧ s.edge.lki.resp = s.lki.resp ∧
      s.edge.lki.addr = s.lki.addr ∧ s.edge.lki.assignTaken = s.lki.assignTaken ∧
      s.edge.lki.copies = s.lki.copies ∧ s.edge.lki.enables = s.lki.enables ∧ s.edge.cnt.snap = s.cnt.snap ∧
      s.edge.cnt.number = s.cnt.number ∧ s.edge.sts.record = s.sts.record ∧ s.edge.sts.serial = s.sts.serial ∧
      s.edge.sts.storeLost = s.sts.storeLost := by
  unfold State.edge; (try unfold State.whenDue); (try dsimp only)
  (repeat' split) <;> first | (simp; done) | ((repeat' apply And.intro) <;> first | rfl | simp)

@[simp] theorem cueInputEdge_frame (s : State) :
    (cueInputEdge s).powered = s.powered ∧ (cueInputEdge s).now = s.now ∧ (cueInputEdge s).free = s.free ∧
      (cueInputEdge s).rpd = s.rpd ∧ (cueInputEdge s).pending = s.pending ∧ (cueInputEdge s).aq.mode = s.aq.mode ∧
      (cueInputEdge s).aq.startMode = s.aq.startMode ∧ (cueInputEdge s).tmc.lifter = s.tmc.lifter ∧
      (cueInputEdge s).tmc.trayDrive = s.tmc.trayDrive ∧ (cueInputEdge s).tmc.qualDue = s.tmc.qualDue ∧
      (cueInputEdge s).tmc.trayPresent = s.tmc.trayPresent ∧ (cueInputEdge s).tmc.slots = s.tmc.slots ∧
      (cueInputEdge s).tmc.size = s.tmc.size ∧ (cueInputEdge s).tmc.pos = s.tmc.pos ∧
      (cueInputEdge s).tmc.gate = s.tmc.gate ∧ (cueInputEdge s).tmc.jam = s.tmc.jam ∧
      (cueInputEdge s).tmc.comparePos = s.tmc.comparePos ∧ (cueInputEdge s).tmc.par = s.tmc.par ∧
      (cueInputEdge s).lmc.active = s.lmc.active ∧ (cueInputEdge s).lmc.outLevel = s.lmc.outLevel ∧
      (cueInputEdge s).lmc.level = s.lmc.level ∧ (cueInputEdge s).lmc.par = s.lmc.par ∧
      (cueInputEdge s).thc.trip = s.thc.trip ∧ (cueInputEdge s).thc.fanFault = s.thc.fanFault ∧
      (cueInputEdge s).thc.power = s.thc.power ∧ (cueInputEdge s).thc.lost = s.thc.lost ∧
      (cueInputEdge s).thc.loss30 = s.thc.loss30 ∧ (cueInputEdge s).thc.par = s.thc.par ∧
      (cueInputEdge s).thc.tm = s.thc.tm ∧ (cueInputEdge s).thc.hq = s.thc.hq ∧
      (cueInputEdge s).thc.cEff = s.thc.cEff ∧ (cueInputEdge s).ttc.curVol = s.ttc.curVol ∧
      (cueInputEdge s).ttc.servo = s.ttc.servo ∧ (cueInputEdge s).cud.par = s.cud.par ∧
      (cueInputEdge s).ssq.steps = s.ssq.steps ∧ (cueInputEdge s).ssq.head = s.ssq.head ∧
      (cueInputEdge s).lki.rx = s.lki.rx ∧ (cueInputEdge s).lki.resp = s.lki.resp ∧
      (cueInputEdge s).lki.addr = s.lki.addr ∧ (cueInputEdge s).lki.assignTaken = s.lki.assignTaken ∧
      (cueInputEdge s).lki.copies = s.lki.copies ∧ (cueInputEdge s).lki.enables = s.lki.enables ∧
      (cueInputEdge s).cnt.snap = s.cnt.snap ∧ (cueInputEdge s).cnt.number = s.cnt.number ∧
      (cueInputEdge s).sts.record = s.sts.record ∧ (cueInputEdge s).sts.serial = s.sts.serial ∧
      (cueInputEdge s).sts.storeLost = s.sts.storeLost := by
  unfold cueInputEdge; (try unfold State.whenDue); (try dsimp only)
  (repeat' split) <;> first | (simp; done) | ((repeat' apply And.intro) <;> first | rfl | simp)

@[simp] theorem carrierDetect_frame (gap : Nat) (s : State) :
    (carrierDetect gap s).powered = s.powered ∧ (carrierDetect gap s).free = s.free ∧
      (carrierDetect gap s).rpd = s.rpd ∧ (carrierDetect gap s).pending = s.pending ∧
      (carrierDetect gap s).aq.mode = s.aq.mode ∧ (carrierDetect gap s).aq.startMode = s.aq.startMode ∧
      (carrierDetect gap s).tmc.lifter = s.tmc.lifter ∧ (carrierDetect gap s).tmc.trayDrive = s.tmc.trayDrive ∧
      (carrierDetect gap s).tmc.qualDue = s.tmc.qualDue ∧
      (carrierDetect gap s).tmc.trayPresent = s.tmc.trayPresent ∧ (carrierDetect gap s).tmc.slots = s.tmc.slots ∧
      (carrierDetect gap s).tmc.size = s.tmc.size ∧ (carrierDetect gap s).tmc.pos = s.tmc.pos ∧
      (carrierDetect gap s).tmc.gate = s.tmc.gate ∧ (carrierDetect gap s).tmc.jam = s.tmc.jam ∧
      (carrierDetect gap s).tmc.comparePos = s.tmc.comparePos ∧ (carrierDetect gap s).tmc.par = s.tmc.par ∧
      (carrierDetect gap s).lmc.active = s.lmc.active ∧ (carrierDetect gap s).lmc.outLevel = s.lmc.outLevel ∧
      (carrierDetect gap s).lmc.level = s.lmc.level ∧ (carrierDetect gap s).lmc.par = s.lmc.par ∧
      (carrierDetect gap s).thc.trip = s.thc.trip ∧ (carrierDetect gap s).thc.fanFault = s.thc.fanFault ∧
      (carrierDetect gap s).thc.power = s.thc.power ∧ (carrierDetect gap s).thc.lost = s.thc.lost ∧
      (carrierDetect gap s).thc.loss30 = s.thc.loss30 ∧ (carrierDetect gap s).thc.par = s.thc.par ∧
      (carrierDetect gap s).thc.tm = s.thc.tm ∧ (carrierDetect gap s).thc.hq = s.thc.hq ∧
      (carrierDetect gap s).thc.cEff = s.thc.cEff ∧ (carrierDetect gap s).ttc.curVol = s.ttc.curVol ∧
      (carrierDetect gap s).ttc.servo = s.ttc.servo ∧ (carrierDetect gap s).cud.par = s.cud.par ∧
      (carrierDetect gap s).ssq.steps = s.ssq.steps ∧ (carrierDetect gap s).ssq.head = s.ssq.head ∧
      (carrierDetect gap s).lki.rx = s.lki.rx ∧ (carrierDetect gap s).lki.resp = s.lki.resp ∧
      (carrierDetect gap s).lki.addr = s.lki.addr ∧ (carrierDetect gap s).lki.assignTaken = s.lki.assignTaken ∧
      (carrierDetect gap s).lki.copies = s.lki.copies ∧ (carrierDetect gap s).lki.enables = s.lki.enables ∧
      (carrierDetect gap s).cnt.snap = s.cnt.snap ∧ (carrierDetect gap s).cnt.number = s.cnt.number ∧
      (carrierDetect gap s).sts.record = s.sts.record ∧ (carrierDetect gap s).sts.serial = s.sts.serial ∧
      (carrierDetect gap s).sts.storeLost = s.sts.storeLost := by
  unfold carrierDetect; (try unfold State.whenDue); (try dsimp only)
  (repeat' split) <;> first | (simp; done) | ((repeat' apply And.intro) <;> first | rfl | simp)

@[simp] theorem takeCell_frame (s : State) (c : CueCell) :
    (s.takeCell c).powered = s.powered ∧ (s.takeCell c).now = s.now ∧ (s.takeCell c).free = s.free ∧
      (s.takeCell c).rpd = s.rpd ∧ (s.takeCell c).pending = s.pending ∧ (s.takeCell c).aq.mode = s.aq.mode ∧
      (s.takeCell c).aq.startMode = s.aq.startMode ∧ (s.takeCell c).tmc.lifter = s.tmc.lifter ∧
      (s.takeCell c).tmc.trayDrive = s.tmc.trayDrive ∧ (s.takeCell c).tmc.qualDue = s.tmc.qualDue ∧
      (s.takeCell c).tmc.trayPresent = s.tmc.trayPresent ∧ (s.takeCell c).tmc.slots = s.tmc.slots ∧
      (s.takeCell c).tmc.size = s.tmc.size ∧ (s.takeCell c).tmc.pos = s.tmc.pos ∧
      (s.takeCell c).tmc.gate = s.tmc.gate ∧ (s.takeCell c).tmc.jam = s.tmc.jam ∧
      (s.takeCell c).tmc.comparePos = s.tmc.comparePos ∧ (s.takeCell c).tmc.par = s.tmc.par ∧
      (s.takeCell c).lmc.active = s.lmc.active ∧ (s.takeCell c).lmc.outLevel = s.lmc.outLevel ∧
      (s.takeCell c).lmc.level = s.lmc.level ∧ (s.takeCell c).lmc.par = s.lmc.par ∧
      (s.takeCell c).thc.trip = s.thc.trip ∧ (s.takeCell c).thc.fanFault = s.thc.fanFault ∧
      (s.takeCell c).thc.power = s.thc.power ∧ (s.takeCell c).thc.lost = s.thc.lost ∧
      (s.takeCell c).thc.loss30 = s.thc.loss30 ∧ (s.takeCell c).thc.par = s.thc.par ∧
      (s.takeCell c).thc.tm = s.thc.tm ∧ (s.takeCell c).thc.hq = s.thc.hq ∧ (s.takeCell c).thc.cEff = s.thc.cEff ∧
      (s.takeCell c).ttc.curVol = s.ttc.curVol ∧ (s.takeCell c).ttc.servo = s.ttc.servo ∧
      (s.takeCell c).cud.par = s.cud.par ∧ (s.takeCell c).cud.carrier = s.cud.carrier ∧
      (s.takeCell c).ssq.steps = s.ssq.steps ∧ (s.takeCell c).ssq.head = s.ssq.head ∧
      (s.takeCell c).lki.rx = s.lki.rx ∧ (s.takeCell c).lki.resp = s.lki.resp ∧
      (s.takeCell c).lki.addr = s.lki.addr ∧ (s.takeCell c).lki.assignTaken = s.lki.assignTaken ∧
      (s.takeCell c).lki.copies = s.lki.copies ∧ (s.takeCell c).lki.enables = s.lki.enables ∧
      (s.takeCell c).cnt.snap = s.cnt.snap ∧ (s.takeCell c).cnt.number = s.cnt.number ∧
      (s.takeCell c).sts.record = s.sts.record ∧ (s.takeCell c).sts.serial = s.sts.serial ∧
      (s.takeCell c).sts.storeLost = s.sts.storeLost := by
  unfold State.takeCell; (try unfold State.whenDue); (try dsimp only)
  (repeat' split) <;> first | (simp; done) | ((repeat' apply And.intro) <;> first | rfl | simp)

@[simp] theorem foldCells_frame (l : List CueCell) (s : State) :
    (l.foldl State.takeCell s).powered = s.powered ∧ (l.foldl State.takeCell s).now = s.now ∧
      (l.foldl State.takeCell s).free = s.free ∧ (l.foldl State.takeCell s).rpd = s.rpd ∧
      (l.foldl State.takeCell s).pending = s.pending ∧ (l.foldl State.takeCell s).aq.mode = s.aq.mode ∧
      (l.foldl State.takeCell s).aq.startMode = s.aq.startMode ∧
      (l.foldl State.takeCell s).tmc.lifter = s.tmc.lifter ∧
      (l.foldl State.takeCell s).tmc.trayDrive = s.tmc.trayDrive ∧
      (l.foldl State.takeCell s).tmc.qualDue = s.tmc.qualDue ∧
      (l.foldl State.takeCell s).tmc.trayPresent = s.tmc.trayPresent ∧
      (l.foldl State.takeCell s).tmc.slots = s.tmc.slots ∧ (l.foldl State.takeCell s).tmc.size = s.tmc.size ∧
      (l.foldl State.takeCell s).tmc.pos = s.tmc.pos ∧ (l.foldl State.takeCell s).tmc.gate = s.tmc.gate ∧
      (l.foldl State.takeCell s).tmc.jam = s.tmc.jam ∧
      (l.foldl State.takeCell s).tmc.comparePos = s.tmc.comparePos ∧
      (l.foldl State.takeCell s).tmc.par = s.tmc.par ∧ (l.foldl State.takeCell s).lmc.active = s.lmc.active ∧
      (l.foldl State.takeCell s).lmc.outLevel = s.lmc.outLevel ∧
      (l.foldl State.takeCell s).lmc.level = s.lmc.level ∧ (l.foldl State.takeCell s).lmc.par = s.lmc.par ∧
      (l.foldl State.takeCell s).thc.trip = s.thc.trip ∧
      (l.foldl State.takeCell s).thc.fanFault = s.thc.fanFault ∧
      (l.foldl State.takeCell s).thc.power = s.thc.power ∧ (l.foldl State.takeCell s).thc.lost = s.thc.lost ∧
      (l.foldl State.takeCell s).thc.loss30 = s.thc.loss30 ∧ (l.foldl State.takeCell s).thc.par = s.thc.par ∧
      (l.foldl State.takeCell s).thc.tm = s.thc.tm ∧ (l.foldl State.takeCell s).thc.hq = s.thc.hq ∧
      (l.foldl State.takeCell s).thc.cEff = s.thc.cEff ∧ (l.foldl State.takeCell s).ttc.curVol = s.ttc.curVol ∧
      (l.foldl State.takeCell s).ttc.servo = s.ttc.servo ∧ (l.foldl State.takeCell s).cud.par = s.cud.par ∧
      (l.foldl State.takeCell s).cud.carrier = s.cud.carrier ∧
      (l.foldl State.takeCell s).ssq.steps = s.ssq.steps ∧ (l.foldl State.takeCell s).ssq.head = s.ssq.head ∧
      (l.foldl State.takeCell s).lki.rx = s.lki.rx ∧ (l.foldl State.takeCell s).lki.resp = s.lki.resp ∧
      (l.foldl State.takeCell s).lki.addr = s.lki.addr ∧
      (l.foldl State.takeCell s).lki.assignTaken = s.lki.assignTaken ∧
      (l.foldl State.takeCell s).lki.copies = s.lki.copies ∧
      (l.foldl State.takeCell s).lki.enables = s.lki.enables ∧ (l.foldl State.takeCell s).cnt.snap = s.cnt.snap ∧
      (l.foldl State.takeCell s).cnt.number = s.cnt.number ∧
      (l.foldl State.takeCell s).sts.record = s.sts.record ∧
      (l.foldl State.takeCell s).sts.serial = s.sts.serial ∧
      (l.foldl State.takeCell s).sts.storeLost = s.sts.storeLost := by
  induction l generalizing s with
  | nil => simp
  | cons c l ih => simp [ih]

@[simp] theorem cueFrame_frame (cells : List CueCell) (s : State) :
    (cueFrame cells s).powered = s.powered ∧ (cueFrame cells s).now = s.now ∧ (cueFrame cells s).free = s.free ∧
      (cueFrame cells s).rpd = s.rpd ∧ (cueFrame cells s).pending = s.pending ∧
      (cueFrame cells s).aq.mode = s.aq.mode ∧ (cueFrame cells s).aq.startMode = s.aq.startMode ∧
      (cueFrame cells s).tmc.lifter = s.tmc.lifter ∧ (cueFrame cells s).tmc.trayDrive = s.tmc.trayDrive ∧
      (cueFrame cells s).tmc.qualDue = s.tmc.qualDue ∧ (cueFrame cells s).tmc.trayPresent = s.tmc.trayPresent ∧
      (cueFrame cells s).tmc.slots = s.tmc.slots ∧ (cueFrame cells s).tmc.size = s.tmc.size ∧
      (cueFrame cells s).tmc.pos = s.tmc.pos ∧ (cueFrame cells s).tmc.gate = s.tmc.gate ∧
      (cueFrame cells s).tmc.jam = s.tmc.jam ∧ (cueFrame cells s).tmc.comparePos = s.tmc.comparePos ∧
      (cueFrame cells s).tmc.par = s.tmc.par ∧ (cueFrame cells s).lmc.active = s.lmc.active ∧
      (cueFrame cells s).lmc.outLevel = s.lmc.outLevel ∧ (cueFrame cells s).lmc.level = s.lmc.level ∧
      (cueFrame cells s).lmc.par = s.lmc.par ∧ (cueFrame cells s).thc.trip = s.thc.trip ∧
      (cueFrame cells s).thc.fanFault = s.thc.fanFault ∧ (cueFrame cells s).thc.power = s.thc.power ∧
      (cueFrame cells s).thc.lost = s.thc.lost ∧ (cueFrame cells s).thc.loss30 = s.thc.loss30 ∧
      (cueFrame cells s).thc.par = s.thc.par ∧ (cueFrame cells s).thc.tm = s.thc.tm ∧
      (cueFrame cells s).thc.hq = s.thc.hq ∧ (cueFrame cells s).thc.cEff = s.thc.cEff ∧
      (cueFrame cells s).ttc.curVol = s.ttc.curVol ∧ (cueFrame cells s).ttc.servo = s.ttc.servo ∧
      (cueFrame cells s).cud.par = s.cud.par ∧ (cueFrame cells s).cud.carrier = s.cud.carrier ∧
      (cueFrame cells s).ssq.steps = s.ssq.steps ∧ (cueFrame cells s).ssq.head = s.ssq.head ∧
      (cueFrame cells s).lki.rx = s.lki.rx ∧ (cueFrame cells s).lki.resp = s.lki.resp ∧
      (cueFrame cells s).lki.addr = s.lki.addr ∧ (cueFrame cells s).lki.assignTaken = s.lki.assignTaken ∧
      (cueFrame cells s).lki.copies = s.lki.copies ∧ (cueFrame cells s).lki.enables = s.lki.enables ∧
      (cueFrame cells s).cnt.snap = s.cnt.snap ∧ (cueFrame cells s).cnt.number = s.cnt.number ∧
      (cueFrame cells s).sts.record = s.sts.record ∧ (cueFrame cells s).sts.serial = s.sts.serial ∧
      (cueFrame cells s).sts.storeLost = s.sts.storeLost := by
  unfold cueFrame; (try unfold State.whenDue); (try dsimp only)
  (repeat' split) <;> first | (simp; done) | ((repeat' apply And.intro) <;> first | rfl | simp)

@[simp] theorem degradeWindowClose_frame (cells : List CueCell) (s : State) :
    (degradeWindowClose cells s).powered = s.powered ∧ (degradeWindowClose cells s).now = s.now ∧
      (degradeWindowClose cells s).free = s.free ∧ (degradeWindowClose cells s).rpd = s.rpd ∧
      (degradeWindowClose cells s).pending = s.pending ∧ (degradeWindowClose cells s).aq.mode = s.aq.mode ∧
      (degradeWindowClose cells s).aq.startMode = s.aq.startMode ∧
      (degradeWindowClose cells s).tmc.lifter = s.tmc.lifter ∧
      (degradeWindowClose cells s).tmc.trayDrive = s.tmc.trayDrive ∧
      (degradeWindowClose cells s).tmc.qualDue = s.tmc.qualDue ∧
      (degradeWindowClose cells s).tmc.trayPresent = s.tmc.trayPresent ∧
      (degradeWindowClose cells s).tmc.slots = s.tmc.slots ∧ (degradeWindowClose cells s).tmc.size = s.tmc.size ∧
      (degradeWindowClose cells s).tmc.pos = s.tmc.pos ∧ (degradeWindowClose cells s).tmc.gate = s.tmc.gate ∧
      (degradeWindowClose cells s).tmc.jam = s.tmc.jam ∧
      (degradeWindowClose cells s).tmc.comparePos = s.tmc.comparePos ∧
      (degradeWindowClose cells s).tmc.par = s.tmc.par ∧ (degradeWindowClose cells s).lmc.active = s.lmc.active ∧
      (degradeWindowClose cells s).lmc.outLevel = s.lmc.outLevel ∧
      (degradeWindowClose cells s).lmc.level = s.lmc.level ∧ (degradeWindowClose cells s).lmc.par = s.lmc.par ∧
      (degradeWindowClose cells s).thc.trip = s.thc.trip ∧
      (degradeWindowClose cells s).thc.fanFault = s.thc.fanFault ∧
      (degradeWindowClose cells s).thc.power = s.thc.power ∧ (degradeWindowClose cells s).thc.lost = s.thc.lost ∧
      (degradeWindowClose cells s).thc.loss30 = s.thc.loss30 ∧ (degradeWindowClose cells s).thc.par = s.thc.par ∧
      (degradeWindowClose cells s).thc.tm = s.thc.tm ∧ (degradeWindowClose cells s).thc.hq = s.thc.hq ∧
      (degradeWindowClose cells s).thc.cEff = s.thc.cEff ∧
      (degradeWindowClose cells s).ttc.curVol = s.ttc.curVol ∧
      (degradeWindowClose cells s).ttc.servo = s.ttc.servo ∧ (degradeWindowClose cells s).cud.par = s.cud.par ∧
      (degradeWindowClose cells s).cud.carrier = s.cud.carrier ∧
      (degradeWindowClose cells s).ssq.steps = s.ssq.steps ∧ (degradeWindowClose cells s).ssq.head = s.ssq.head ∧
      (degradeWindowClose cells s).lki.rx = s.lki.rx ∧ (degradeWindowClose cells s).lki.resp = s.lki.resp ∧
      (degradeWindowClose cells s).lki.addr = s.lki.addr ∧
      (degradeWindowClose cells s).lki.assignTaken = s.lki.assignTaken ∧
      (degradeWindowClose cells s).lki.copies = s.lki.copies ∧
      (degradeWindowClose cells s).lki.enables = s.lki.enables ∧
      (degradeWindowClose cells s).cnt.snap = s.cnt.snap ∧
      (degradeWindowClose cells s).cnt.number = s.cnt.number ∧
      (degradeWindowClose cells s).sts.record = s.sts.record ∧
      (degradeWindowClose cells s).sts.serial = s.sts.serial ∧
      (degradeWindowClose cells s).sts.storeLost = s.sts.storeLost := by
  unfold degradeWindowClose; (try unfold State.whenDue); (try dsimp only)
  (repeat' split) <;> first | (simp; done) | ((repeat' apply And.intro) <;> first | rfl | simp)

@[simp] theorem speedOffOn_frame (s : State) :
    s.speedOffOn.powered = s.powered ∧ s.speedOffOn.now = s.now ∧ s.speedOffOn.free = s.free ∧
      s.speedOffOn.aq = s.aq ∧ s.speedOffOn.tmc = s.tmc ∧ s.speedOffOn.lmc = s.lmc ∧ s.speedOffOn.thc = s.thc ∧
      s.speedOffOn.ttc = s.ttc ∧ s.speedOffOn.ssq = s.ssq ∧ s.speedOffOn.rpd = s.rpd ∧ s.speedOffOn.cnt = s.cnt ∧
      s.speedOffOn.sts = s.sts ∧ s.speedOffOn.pending = s.pending ∧ s.speedOffOn.cud.par = s.cud.par ∧
      s.speedOffOn.cud.carrier = s.cud.carrier ∧ s.speedOffOn.lki.rx = s.lki.rx ∧
      s.speedOffOn.lki.resp = s.lki.resp ∧ s.speedOffOn.lki.addr = s.lki.addr ∧
      s.speedOffOn.lki.assignTaken = s.lki.assignTaken ∧ s.speedOffOn.lki.resetting = s.lki.resetting ∧
      s.speedOffOn.lki.copies = s.lki.copies ∧ s.speedOffOn.lki.enables = s.lki.enables := by
  unfold State.speedOffOn; (try unfold State.whenDue); (try dsimp only)
  (repeat' split) <;> first | (simp; done) | ((repeat' apply And.intro) <;> first | rfl | simp)

@[simp] theorem speedOffTimerExpiry_frame (s : State) :
    (speedOffTimerExpiry s).powered = s.powered ∧ (speedOffTimerExpiry s).free = s.free ∧
      (speedOffTimerExpiry s).aq = s.aq ∧ (speedOffTimerExpiry s).tmc = s.tmc ∧
      (speedOffTimerExpiry s).lmc = s.lmc ∧ (speedOffTimerExpiry s).thc = s.thc ∧
      (speedOffTimerExpiry s).ttc = s.ttc ∧ (speedOffTimerExpiry s).ssq = s.ssq ∧
      (speedOffTimerExpiry s).rpd = s.rpd ∧ (speedOffTimerExpiry s).cnt = s.cnt ∧
      (speedOffTimerExpiry s).sts = s.sts ∧ (speedOffTimerExpiry s).pending = s.pending ∧
      (speedOffTimerExpiry s).cud.par = s.cud.par ∧ (speedOffTimerExpiry s).cud.carrier = s.cud.carrier ∧
      (speedOffTimerExpiry s).lki.rx = s.lki.rx ∧ (speedOffTimerExpiry s).lki.resp = s.lki.resp ∧
      (speedOffTimerExpiry s).lki.addr = s.lki.addr ∧
      (speedOffTimerExpiry s).lki.assignTaken = s.lki.assignTaken ∧
      (speedOffTimerExpiry s).lki.resetting = s.lki.resetting ∧
      (speedOffTimerExpiry s).lki.copies = s.lki.copies ∧ (speedOffTimerExpiry s).lki.enables = s.lki.enables := by
  unfold speedOffTimerExpiry; (try unfold State.whenDue); (try dsimp only)
  (repeat' split) <;> first | (simp; done) | ((repeat' apply And.intro) <;> first | rfl | simp)

@[simp] theorem regenSlot_frame (s : State) :
    (regenSlot s).powered = s.powered ∧ (regenSlot s).free = s.free ∧ (regenSlot s).aq = s.aq ∧
      (regenSlot s).tmc = s.tmc ∧ (regenSlot s).lmc = s.lmc ∧ (regenSlot s).thc = s.thc ∧
      (regenSlot s).ttc = s.ttc ∧ (regenSlot s).ssq = s.ssq ∧ (regenSlot s).rpd = s.rpd ∧
      (regenSlot s).lki = s.lki ∧ (regenSlot s).cnt = s.cnt ∧ (regenSlot s).sts = s.sts ∧
      (regenSlot s).pending = s.pending ∧ (regenSlot s).cud.par = s.cud.par ∧
      (regenSlot s).cud.carrier = s.cud.carrier := by
  unfold regenSlot; (try unfold State.whenDue); (try dsimp only)
  (repeat' split) <;> first | (simp; done) | ((repeat' apply And.intro) <;> first | rfl | simp)

@[simp] theorem setRelay_frame (s : State) (v : Bool) :
    (s.setRelay v).powered = s.powered ∧ (s.setRelay v).now = s.now ∧ (s.setRelay v).free = s.free ∧
      (s.setRelay v).aq = s.aq ∧ (s.setRelay v).tmc = s.tmc ∧ (s.setRelay v).lmc = s.lmc ∧
      (s.setRelay v).thc = s.thc ∧ (s.setRelay v).ttc = s.ttc ∧ (s.setRelay v).ssq = s.ssq ∧
      (s.setRelay v).rpd = s.rpd ∧ (s.setRelay v).lki = s.lki ∧ (s.setRelay v).cnt = s.cnt ∧
      (s.setRelay v).sts = s.sts ∧ (s.setRelay v).pending = s.pending ∧
      (s.setRelay v).cud.carrier = s.cud.carrier := by
  unfold State.setRelay; (try unfold State.whenDue); (try dsimp only)
  (repeat' split) <;> first | (simp; done) | ((repeat' apply And.intro) <;> first | rfl | simp)

@[simp] theorem clearDegraded_frame (s : State) :
    s.clearDegraded.powered = s.powered ∧ s.clearDegraded.now = s.now ∧ s.clearDegraded.free = s.free ∧
      s.clearDegraded.aq = s.aq ∧ s.clearDegraded.tmc = s.tmc ∧ s.clearDegraded.lmc = s.lmc ∧
      s.clearDegraded.thc = s.thc ∧ s.clearDegraded.ttc = s.ttc ∧ s.clearDegraded.ssq = s.ssq ∧
      s.clearDegraded.rpd = s.rpd ∧ s.clearDegraded.cnt = s.cnt ∧ s.clearDegraded.sts = s.sts ∧
      s.clearDegraded.pending = s.pending ∧ s.clearDegraded.cud.par = s.cud.par ∧
      s.clearDegraded.cud.carrier = s.cud.carrier ∧ s.clearDegraded.lki.rx = s.lki.rx ∧
      s.clearDegraded.lki.resp = s.lki.resp ∧ s.clearDegraded.lki.addr = s.lki.addr ∧
      s.clearDegraded.lki.assignTaken = s.lki.assignTaken ∧ s.clearDegraded.lki.resetting = s.lki.resetting ∧
      s.clearDegraded.lki.copies = s.lki.copies ∧ s.clearDegraded.lki.enables = s.lki.enables := by
  unfold State.clearDegraded; (try unfold State.whenDue); (try dsimp only)
  (repeat' split) <;> first | (simp; done) | ((repeat' apply And.intro) <;> first | rfl | simp)

@[simp] theorem resetCue_frame (s : State) :
    s.resetCue.powered = s.powered ∧ s.resetCue.now = s.now ∧ s.resetCue.free = s.free ∧ s.resetCue.aq = s.aq ∧
      s.resetCue.tmc = s.tmc ∧ s.resetCue.lmc = s.lmc ∧ s.resetCue.thc = s.thc ∧ s.resetCue.ttc = s.ttc ∧
      s.resetCue.ssq = s.ssq ∧ s.resetCue.rpd = s.rpd ∧ s.resetCue.sts = s.sts ∧ s.resetCue.pending = s.pending ∧
      s.resetCue.lki.rx = s.lki.rx ∧ s.resetCue.lki.resp = s.lki.resp ∧ s.resetCue.lki.addr = s.lki.addr ∧
      s.resetCue.lki.assignTaken = s.lki.assignTaken ∧ s.resetCue.lki.resetting = s.lki.resetting ∧
      s.resetCue.lki.copies = s.lki.copies ∧ s.resetCue.lki.enables = s.lki.enables ∧
      s.resetCue.cnt.snap = s.cnt.snap ∧ s.resetCue.cnt.number = s.cnt.number := by
  unfold State.resetCue; (try unfold State.whenDue); (try dsimp only)
  (repeat' split) <;> first | (simp; done) | ((repeat' apply And.intro) <;> first | rfl | simp)

@[simp] theorem fullSaved_frame (s : State) :
    s.fullSaved.powered = s.powered ∧ s.fullSaved.now = s.now ∧ s.fullSaved.free = s.free ∧ s.fullSaved.aq = s.aq ∧
      s.fullSaved.tmc = s.tmc ∧ s.fullSaved.lmc = s.lmc ∧ s.fullSaved.thc = s.thc ∧ s.fullSaved.ttc = s.ttc ∧
      s.fullSaved.cud = s.cud ∧ s.fullSaved.ssq = s.ssq ∧ s.fullSaved.rpd = s.rpd ∧ s.fullSaved.cnt = s.cnt ∧
      s.fullSaved.pending = s.pending ∧ s.fullSaved.lki.rx = s.lki.rx ∧ s.fullSaved.lki.resp = s.lki.resp ∧
      s.fullSaved.lki.addr = s.lki.addr ∧ s.fullSaved.lki.assignTaken = s.lki.assignTaken ∧
      s.fullSaved.lki.resetting = s.lki.resetting ∧ s.fullSaved.lki.copies = s.lki.copies ∧
      s.fullSaved.lki.enables = s.lki.enables ∧ s.fullSaved.sts.record = s.sts.record ∧
      s.fullSaved.sts.serial = s.sts.serial := by
  unfold State.fullSaved; (try unfold State.whenDue); (try dsimp only)
  (repeat' split) <;> first | (simp; done) | ((repeat' apply And.intro) <;> first | rfl | simp)

@[simp] theorem pendingSave_frame (s : State) :
    s.pendingSave.powered = s.powered ∧ s.pendingSave.now = s.now ∧ s.pendingSave.free = s.free ∧
      s.pendingSave.aq = s.aq ∧ s.pendingSave.tmc = s.tmc ∧ s.pendingSave.lmc = s.lmc ∧
      s.pendingSave.thc = s.thc ∧ s.pendingSave.ttc = s.ttc ∧ s.pendingSave.cud = s.cud ∧
      s.pendingSave.ssq = s.ssq ∧ s.pendingSave.rpd = s.rpd ∧ s.pendingSave.lki = s.lki ∧
      s.pendingSave.cnt = s.cnt ∧ s.pendingSave.pending = s.pending ∧ s.pendingSave.sts.record = s.sts.record ∧
      s.pendingSave.sts.serial = s.sts.serial ∧ s.pendingSave.sts.storeLost = s.sts.storeLost := by
  unfold State.pendingSave; (try unfold State.whenDue); (try dsimp only)
  (repeat' split) <;> first | (simp; done) | ((repeat' apply And.intro) <;> first | rfl | simp)

@[simp] theorem endSave_frame (s : State) (v : Save) :
    (s.endSave v).powered = s.powered ∧ (s.endSave v).now = s.now ∧ (s.endSave v).free = s.free ∧
      (s.endSave v).aq = s.aq ∧ (s.endSave v).tmc = s.tmc ∧ (s.endSave v).lmc = s.lmc ∧
      (s.endSave v).thc = s.thc ∧ (s.endSave v).ttc = s.ttc ∧ (s.endSave v).cud = s.cud ∧
      (s.endSave v).ssq = s.ssq ∧ (s.endSave v).rpd = s.rpd ∧ (s.endSave v).cnt = s.cnt ∧
      (s.endSave v).pending = s.pending ∧ (s.endSave v).lki.rx = s.lki.rx ∧ (s.endSave v).lki.resp = s.lki.resp ∧
      (s.endSave v).lki.addr = s.lki.addr ∧ (s.endSave v).lki.assignTaken = s.lki.assignTaken ∧
      (s.endSave v).lki.resetting = s.lki.resetting ∧ (s.endSave v).lki.copies = s.lki.copies ∧
      (s.endSave v).lki.enables = s.lki.enables ∧ (s.endSave v).sts.serial = s.sts.serial := by
  unfold State.endSave; (try unfold State.whenDue); (try dsimp only)
  (repeat' split) <;> first | (simp; done) | ((repeat' apply And.intro) <;> first | rfl | simp)

@[simp] theorem saveEnd_frame (s : State) :
    (saveEnd s).powered = s.powered ∧ (saveEnd s).now = s.now ∧ (saveEnd s).free = s.free ∧ (saveEnd s).aq = s.aq ∧
      (saveEnd s).tmc = s.tmc ∧ (saveEnd s).lmc = s.lmc ∧ (saveEnd s).thc = s.thc ∧ (saveEnd s).ttc = s.ttc ∧
      (saveEnd s).cud = s.cud ∧ (saveEnd s).ssq = s.ssq ∧ (saveEnd s).rpd = s.rpd ∧ (saveEnd s).cnt = s.cnt ∧
      (saveEnd s).pending = s.pending ∧ (saveEnd s).lki.rx = s.lki.rx ∧ (saveEnd s).lki.resp = s.lki.resp ∧
      (saveEnd s).lki.addr = s.lki.addr ∧ (saveEnd s).lki.assignTaken = s.lki.assignTaken ∧
      (saveEnd s).lki.resetting = s.lki.resetting ∧ (saveEnd s).lki.copies = s.lki.copies ∧
      (saveEnd s).lki.enables = s.lki.enables ∧ (saveEnd s).sts.serial = s.sts.serial := by
  unfold saveEnd; (try unfold State.whenDue); (try dsimp only)
  (repeat' split) <;> first | (simp; done) | ((repeat' apply And.intro) <;> first | rfl | simp)

@[simp] theorem litSave_frame (s : State) :
    s.litSave.powered = s.powered ∧ s.litSave.now = s.now ∧ s.litSave.free = s.free ∧ s.litSave.aq = s.aq ∧
      s.litSave.tmc = s.tmc ∧ s.litSave.lmc = s.lmc ∧ s.litSave.thc = s.thc ∧ s.litSave.ttc = s.ttc ∧
      s.litSave.cud = s.cud ∧ s.litSave.ssq = s.ssq ∧ s.litSave.rpd = s.rpd ∧ s.litSave.lki = s.lki ∧
      s.litSave.cnt = s.cnt ∧ s.litSave.pending = s.pending ∧ s.litSave.sts.record = s.sts.record ∧
      s.litSave.sts.serial = s.sts.serial ∧ s.litSave.sts.storeLost = s.sts.storeLost := by
  unfold State.litSave; (try unfold State.whenDue); (try dsimp only)
  (repeat' split) <;> first | (simp; done) | ((repeat' apply And.intro) <;> first | rfl | simp)

@[simp] theorem litTimerExpiry_frame (s : State) :
    (litTimerExpiry s).powered = s.powered ∧ (litTimerExpiry s).free = s.free ∧ (litTimerExpiry s).aq = s.aq ∧
      (litTimerExpiry s).tmc = s.tmc ∧ (litTimerExpiry s).lmc = s.lmc ∧ (litTimerExpiry s).thc = s.thc ∧
      (litTimerExpiry s).ttc = s.ttc ∧ (litTimerExpiry s).cud = s.cud ∧ (litTimerExpiry s).ssq = s.ssq ∧
      (litTimerExpiry s).rpd = s.rpd ∧ (litTimerExpiry s).lki = s.lki ∧ (litTimerExpiry s).cnt = s.cnt ∧
      (litTimerExpiry s).pending = s.pending ∧ (litTimerExpiry s).sts.record = s.sts.record ∧
      (litTimerExpiry s).sts.serial = s.sts.serial ∧ (litTimerExpiry s).sts.storeLost = s.sts.storeLost := by
  unfold litTimerExpiry; (try unfold State.whenDue); (try dsimp only)
  (repeat' split) <;> first | (simp; done) | ((repeat' apply And.intro) <;> first | rfl | simp)

@[simp] theorem snapshot_frame (s : State) :
    s.snapshot.powered = s.powered ∧ s.snapshot.now = s.now ∧ s.snapshot.free = s.free ∧ s.snapshot.aq = s.aq ∧
      s.snapshot.tmc = s.tmc ∧ s.snapshot.lmc = s.lmc ∧ s.snapshot.thc = s.thc ∧ s.snapshot.ttc = s.ttc ∧
      s.snapshot.cud = s.cud ∧ s.snapshot.ssq = s.ssq ∧ s.snapshot.rpd = s.rpd ∧ s.snapshot.lki = s.lki ∧
      s.snapshot.sts = s.sts ∧ s.snapshot.pending = s.pending := by
  unfold State.snapshot; (try unfold State.whenDue); (try dsimp only)
  (repeat' split) <;> first | (simp; done) | ((repeat' apply And.intro) <;> first | rfl | simp)

@[simp] theorem snapshotTimerExpiry_frame (s : State) :
    (snapshotTimerExpiry s).powered = s.powered ∧ (snapshotTimerExpiry s).free = s.free ∧
      (snapshotTimerExpiry s).aq = s.aq ∧ (snapshotTimerExpiry s).tmc = s.tmc ∧
      (snapshotTimerExpiry s).lmc = s.lmc ∧ (snapshotTimerExpiry s).thc = s.thc ∧
      (snapshotTimerExpiry s).ttc = s.ttc ∧ (snapshotTimerExpiry s).cud = s.cud ∧
      (snapshotTimerExpiry s).ssq = s.ssq ∧ (snapshotTimerExpiry s).rpd = s.rpd ∧
      (snapshotTimerExpiry s).lki = s.lki ∧ (snapshotTimerExpiry s).sts = s.sts ∧
      (snapshotTimerExpiry s).pending = s.pending := by
  unfold snapshotTimerExpiry; (try unfold State.whenDue); (try dsimp only)
  (repeat' split) <;> first | (simp; done) | ((repeat' apply And.intro) <;> first | rfl | simp)

@[simp] theorem followFires_frame (s : State) :
    s.followFires.powered = s.powered ∧ s.followFires.now = s.now ∧ s.followFires.free = s.free ∧
      s.followFires.tmc = s.tmc ∧ s.followFires.lmc = s.lmc ∧ s.followFires.thc = s.thc ∧
      s.followFires.ttc = s.ttc ∧ s.followFires.cud = s.cud ∧ s.followFires.rpd = s.rpd ∧
      s.followFires.cnt = s.cnt ∧ s.followFires.sts = s.sts ∧ s.followFires.pending = s.pending ∧
      s.followFires.aq.mode = s.aq.mode ∧ s.followFires.aq.startMode = s.aq.startMode ∧
      s.followFires.aq.stopPending = s.aq.stopPending ∧ s.followFires.aq.holdDue = s.aq.holdDue ∧
      s.followFires.ssq.steps = s.ssq.steps ∧ s.followFires.ssq.head = s.ssq.head ∧
      s.followFires.ssq.remembered = s.ssq.remembered ∧ s.followFires.lki.rx = s.lki.rx ∧
      s.followFires.lki.resp = s.lki.resp ∧ s.followFires.lki.addr = s.lki.addr ∧
      s.followFires.lki.assignTaken = s.lki.assignTaken ∧ s.followFires.lki.resetting = s.lki.resetting ∧
      s.followFires.lki.copies = s.lki.copies ∧ s.followFires.lki.enables = s.lki.enables := by
  unfold State.followFires; (try unfold State.whenDue); (try dsimp only)
  (repeat' split) <;> first | (simp; done) | ((repeat' apply And.intro) <;> first | rfl | simp)

@[simp] theorem followExpiry_frame (s : State) :
    (followExpiry s).powered = s.powered ∧ (followExpiry s).free = s.free ∧ (followExpiry s).tmc = s.tmc ∧
      (followExpiry s).lmc = s.lmc ∧ (followExpiry s).thc = s.thc ∧ (followExpiry s).ttc = s.ttc ∧
      (followExpiry s).cud = s.cud ∧ (followExpiry s).rpd = s.rpd ∧ (followExpiry s).cnt = s.cnt ∧
      (followExpiry s).sts = s.sts ∧ (followExpiry s).pending = s.pending ∧ (followExpiry s).aq.mode = s.aq.mode ∧
      (followExpiry s).aq.startMode = s.aq.startMode ∧ (followExpiry s).aq.stopPending = s.aq.stopPending ∧
      (followExpiry s).aq.holdDue = s.aq.holdDue ∧ (followExpiry s).ssq.steps = s.ssq.steps ∧
      (followExpiry s).ssq.head = s.ssq.head ∧ (followExpiry s).ssq.remembered = s.ssq.remembered ∧
      (followExpiry s).lki.rx = s.lki.rx ∧ (followExpiry s).lki.resp = s.lki.resp ∧
      (followExpiry s).lki.addr = s.lki.addr ∧ (followExpiry s).lki.assignTaken = s.lki.assignTaken ∧
      (followExpiry s).lki.resetting = s.lki.resetting ∧ (followExpiry s).lki.copies = s.lki.copies ∧
      (followExpiry s).lki.enables = s.lki.enables := by
  unfold followExpiry; (try unfold State.whenDue); (try dsimp only)
  (repeat' split) <;> first | (simp; done) | ((repeat' apply And.intro) <;> first | rfl | simp)

@[simp] theorem followDueCheck_frame (s : State) :
    (followDueCheck s).powered = s.powered ∧ (followDueCheck s).now = s.now ∧ (followDueCheck s).free = s.free ∧
      (followDueCheck s).tmc = s.tmc ∧ (followDueCheck s).lmc = s.lmc ∧ (followDueCheck s).thc = s.thc ∧
      (followDueCheck s).ttc = s.ttc ∧ (followDueCheck s).cud = s.cud ∧ (followDueCheck s).rpd = s.rpd ∧
      (followDueCheck s).cnt = s.cnt ∧ (followDueCheck s).sts = s.sts ∧ (followDueCheck s).pending = s.pending ∧
      (followDueCheck s).aq.mode = s.aq.mode ∧ (followDueCheck s).aq.startMode = s.aq.startMode ∧
      (followDueCheck s).aq.stopPending = s.aq.stopPending ∧ (followDueCheck s).aq.holdDue = s.aq.holdDue ∧
      (followDueCheck s).ssq.steps = s.ssq.steps ∧ (followDueCheck s).ssq.head = s.ssq.head ∧
      (followDueCheck s).ssq.remembered = s.ssq.remembered ∧ (followDueCheck s).lki.rx = s.lki.rx ∧
      (followDueCheck s).lki.resp = s.lki.resp ∧ (followDueCheck s).lki.addr = s.lki.addr ∧
      (followDueCheck s).lki.assignTaken = s.lki.assignTaken ∧
      (followDueCheck s).lki.resetting = s.lki.resetting ∧ (followDueCheck s).lki.copies = s.lki.copies ∧
      (followDueCheck s).lki.enables = s.lki.enables := by
  unfold followDueCheck; (try unfold State.whenDue); (try dsimp only)
  (repeat' split) <;> first | (simp; done) | ((repeat' apply And.intro) <;> first | rfl | simp)

@[simp] theorem powerLoss_frame (s : State) :
    (powerLoss s).now = s.now ∧ (powerLoss s).free = s.free ∧ (powerLoss s).aq = s.aq ∧ (powerLoss s).tmc = s.tmc ∧
      (powerLoss s).lmc = s.lmc ∧ (powerLoss s).thc = s.thc ∧ (powerLoss s).ttc = s.ttc ∧
      (powerLoss s).cud = s.cud ∧ (powerLoss s).ssq = s.ssq ∧ (powerLoss s).rpd = s.rpd ∧
      (powerLoss s).lki = s.lki ∧ (powerLoss s).cnt = s.cnt ∧ (powerLoss s).sts = s.sts ∧
      (powerLoss s).pending = s.pending := by
  unfold powerLoss; (try unfold State.whenDue); (try dsimp only)
  (repeat' split) <;> first | (simp; done) | ((repeat' apply And.intro) <;> first | rfl | simp)

end Sys2Proof.Machine
end

