-- ==== Sys2Proof/Laws/LinkFrames.lean ====
section
/-!
SUPPORT. Frames of the remote and panel commands, of SET and of the link (chapters 8 and 9).
Each lemma says of one operation which parts of the state it leaves as they are.
-/

set_option linter.all false

namespace Sys2Proof.Machine

@[simp] theorem done_state (s : State) : (done s).state = s := rfl
@[simp] theorem doneWith_state (s : State) (b : List Byte) : (doneWith s b).state = s := rfl
@[simp] theorem deny_state (s : State) (x : Status) : (deny s x).state = s := rfl

@[simp] theorem refuseKey_frame (s : State) (k : Key) :
    (s.refuseKey k).powered = s.powered ∧ (s.refuseKey k).now = s.now ∧ (s.refuseKey k).free = s.free ∧
      (s.refuseKey k).aq = s.aq ∧ (s.refuseKey k).tmc = s.tmc ∧ (s.refuseKey k).lmc = s.lmc ∧
      (s.refuseKey k).thc = s.thc ∧ (s.refuseKey k).ttc = s.ttc ∧ (s.refuseKey k).cud = s.cud ∧
      (s.refuseKey k).ssq = s.ssq ∧ (s.refuseKey k).rpd = s.rpd ∧ (s.refuseKey k).sts = s.sts ∧
      (s.refuseKey k).pending = s.pending ∧ (s.refuseKey k).lki.rx = s.lki.rx ∧
      (s.refuseKey k).lki.resp = s.lki.resp ∧ (s.refuseKey k).lki.addr = s.lki.addr ∧
      (s.refuseKey k).lki.assignTaken = s.lki.assignTaken ∧ (s.refuseKey k).lki.resetting = s.lki.resetting ∧
      (s.refuseKey k).lki.copies = s.lki.copies ∧ (s.refuseKey k).lki.enables = s.lki.enables ∧
      (s.refuseKey k).cnt.snap = s.cnt.snap ∧ (s.refuseKey k).cnt.number = s.cnt.number := by
  unfold State.refuseKey; (try unfold State.whenDue); (try dsimp only)
  (repeat' split) <;> first | (simp; done) | ((repeat' apply And.intro) <;> first | rfl | simp)

@[simp] theorem offerKey_frame (s : State) (o : Origin) (a : Action) :
    (s.offerKey o a).powered = s.powered ∧ (s.offerKey o a).now = s.now ∧ (s.offerKey o a).free = s.free ∧
      (s.offerKey o a).tmc = s.tmc ∧ (s.offerKey o a).lmc = s.lmc ∧ (s.offerKey o a).thc = s.thc ∧
      (s.offerKey o a).ttc = s.ttc ∧ (s.offerKey o a).cud = s.cud ∧ (s.offerKey o a).ssq = s.ssq ∧
      (s.offerKey o a).rpd = s.rpd ∧ (s.offerKey o a).lki = s.lki ∧ (s.offerKey o a).sts = s.sts ∧
      (s.offerKey o a).pending = s.pending ∧ (s.offerKey o a).aq.mode = s.aq.mode ∧
      (s.offerKey o a).aq.startMode = s.aq.startMode ∧ (s.offerKey o a).aq.stopPending = s.aq.stopPending ∧
      (s.offerKey o a).aq.holdDue = s.aq.holdDue ∧ (s.offerKey o a).cnt.snap = s.cnt.snap ∧
      (s.offerKey o a).cnt.number = s.cnt.number := by
  unfold State.offerKey; (try unfold State.whenDue); (try dsimp only)
  (repeat' split) <;> first | (simp; done) | ((repeat' apply And.intro) <;> first | rfl | simp)

@[simp] theorem acceptKey_frame (s : State) (o : Origin) (k : Key) :
    (s.acceptKey o k).powered = s.powered ∧ (s.acceptKey o k).now = s.now ∧ (s.acceptKey o k).free = s.free ∧
      (s.acceptKey o k).cud = s.cud ∧ (s.acceptKey o k).rpd = s.rpd ∧ (s.acceptKey o k).pending = s.pending := by
  unfold State.acceptKey; (try unfold State.whenDue); (try dsimp only)
  (repeat' split) <;> first | (simp; done) | ((repeat' apply And.intro) <;> first | rfl | simp)

@[simp] theorem key_frame (s : State) (o : Origin) (k : Key) :
    (s.key o k).powered = s.powered ∧ (s.key o k).now = s.now ∧ (s.key o k).free = s.free ∧ (s.key o k).cud = s.cud ∧
      (s.key o k).rpd = s.rpd ∧ (s.key o k).pending = s.pending := by
  unfold State.key; (try unfold State.whenDue); (try dsimp only)
  (repeat' split) <;> first | (simp; done) | ((repeat' apply And.intro) <;> first | rfl | simp)

@[simp] theorem setDec_frame (s : State) (line : RemoteLine) (d : RemoteDec) :
    (s.setDec line d).powered = s.powered ∧ (s.setDec line d).now = s.now ∧ (s.setDec line d).free = s.free ∧
      (s.setDec line d).aq = s.aq ∧ (s.setDec line d).tmc = s.tmc ∧ (s.setDec line d).lmc = s.lmc ∧
      (s.setDec line d).thc = s.thc ∧ (s.setDec line d).ttc = s.ttc ∧ (s.setDec line d).cud = s.cud ∧
      (s.setDec line d).ssq = s.ssq ∧ (s.setDec line d).lki = s.lki ∧ (s.setDec line d).cnt = s.cnt ∧
      (s.setDec line d).sts = s.sts ∧ (s.setDec line d).pending = s.pending ∧
      (s.setDec line d).rpd.channel = s.rpd.channel := by
  unfold State.setDec; (try unfold State.whenDue); (try dsimp only)
  (repeat' split) <;> first | (simp; done) | ((repeat' apply And.intro) <;> first | rfl | simp)

/-! The decoder of a line, after the operations that touch it or leave it. -/

@[simp] theorem dec_setDec (s : State) (line : RemoteLine) (d : RemoteDec) : (s.setDec line d).rpd.dec line = d := by
  cases line <;> rfl

@[simp] theorem setDec_setDec (s : State) (line : RemoteLine) (d e : RemoteDec) :
    (s.setDec line d).setDec line e = s.setDec line e := by cases line <;> rfl

@[simp] theorem setDec_count (s : State) (line : RemoteLine) (d : RemoteDec) (c : Ctr) :
    (s.count c).setDec line d = (s.setDec line d).count c := by cases line <;> rfl

@[simp] theorem dec_count (s : State) (line : RemoteLine) (c : Ctr) : (s.count c).rpd.dec line = s.rpd.dec line := by
  cases line <;> rfl

@[simp] theorem dec_advance (s : State) (line : RemoteLine) (dt : Nat) :
    (s.advance dt).rpd.dec line = s.rpd.dec line := by cases line <;> rfl

/-- A decoder in a clean IDLE that is set to it stays as it is. -/
theorem setDec_idle (s : State) (line : RemoteLine) (h : (s.rpd.dec line).rx = none) :
    s.setDec line { s.rpd.dec line with rx := none } = s := by rw [← h]; cases line <;> rfl

@[simp] theorem remotePress_frame (s : State) (line : RemoteLine) (k : Key) (seq : Nat) :
    (s.remotePress line k seq).powered = s.powered ∧ (s.remotePress line k seq).now = s.now ∧
      (s.remotePress line k seq).free = s.free ∧ (s.remotePress line k seq).cud = s.cud ∧
      (s.remotePress line k seq).pending = s.pending ∧ (s.remotePress line k seq).rpd.channel = s.rpd.channel := by
  unfold State.remotePress; (try unfold State.whenDue); (try dsimp only)
  (repeat' split) <;> first | (simp; done) | ((repeat' apply And.intro) <;> first | rfl | simp)

@[simp] theorem remoteHeld_frame (s : State) (line : RemoteLine) (h : HeldPress) :
    (s.remoteHeld line h).powered = s.powered ∧ (s.remoteHeld line h).now = s.now ∧
      (s.remoteHeld line h).free = s.free ∧ (s.remoteHeld line h).cud = s.cud ∧
      (s.remoteHeld line h).pending = s.pending ∧ (s.remoteHeld line h).rpd.channel = s.rpd.channel := by
  unfold State.remoteHeld; (try unfold State.whenDue); (try dsimp only)
  (repeat' split) <;> first | (simp; done) | ((repeat' apply And.intro) <;> first | rfl | simp)

@[simp] theorem goodFrame_frame (s : State) (line : RemoteLine) (k : Key) (seq : Nat) :
    (s.goodFrame line k seq).powered = s.powered ∧ (s.goodFrame line k seq).now = s.now ∧
      (s.goodFrame line k seq).free = s.free ∧ (s.goodFrame line k seq).cud = s.cud ∧
      (s.goodFrame line k seq).pending = s.pending ∧ (s.goodFrame line k seq).rpd.channel = s.rpd.channel := by
  unfold State.goodFrame; (try unfold State.whenDue); (try dsimp only)
  (repeat' split) <;> first | (simp; done) | ((repeat' apply And.intro) <;> first | rfl | simp)

@[simp] theorem completeFrame_frame (s : State) (line : RemoteLine) (bits : BitVec 12) :
    (s.completeFrame line bits).powered = s.powered ∧ (s.completeFrame line bits).now = s.now ∧
      (s.completeFrame line bits).free = s.free ∧ (s.completeFrame line bits).cud = s.cud ∧
      (s.completeFrame line bits).pending = s.pending ∧ (s.completeFrame line bits).rpd.channel = s.rpd.channel := by
  unfold State.completeFrame; (try unfold State.whenDue); (try dsimp only)
  (repeat' split) <;> first | (simp; done) | ((repeat' apply And.intro) <;> first | rfl | simp)

@[simp] theorem dropFrame_frame (s : State) (line : RemoteLine) :
    (s.dropFrame line).powered = s.powered ∧ (s.dropFrame line).now = s.now ∧ (s.dropFrame line).free = s.free ∧
      (s.dropFrame line).aq = s.aq ∧ (s.dropFrame line).tmc = s.tmc ∧ (s.dropFrame line).lmc = s.lmc ∧
      (s.dropFrame line).thc = s.thc ∧ (s.dropFrame line).ttc = s.ttc ∧ (s.dropFrame line).cud = s.cud ∧
      (s.dropFrame line).ssq = s.ssq ∧ (s.dropFrame line).lki = s.lki ∧ (s.dropFrame line).sts = s.sts ∧
      (s.dropFrame line).pending = s.pending ∧ (s.dropFrame line).rpd.channel = s.rpd.channel := by
  unfold State.dropFrame
  split <;> ((repeat' apply And.intro) <;> first | rfl | simp)

/-- R168: after the decoder drops what it was receiving it is in a clean IDLE. -/
@[simp] theorem dropFrame_rx (s : State) (line : RemoteLine) : ((s.dropFrame line).rpd.dec line).rx = none := by
  unfold State.dropFrame
  split
  · assumption
  · cases line <;> rfl
  · cases line <;> rfl

@[simp] theorem remoteFrame_frame (line : RemoteLine) (bits : BitVec 12) (s : State) :
    (remoteFrame line bits s).powered = s.powered ∧ (remoteFrame line bits s).now = s.now ∧
      (remoteFrame line bits s).free = s.free ∧ (remoteFrame line bits s).cud = s.cud ∧
      (remoteFrame line bits s).pending = s.pending ∧ (remoteFrame line bits s).rpd.channel = s.rpd.channel := by
  unfold remoteFrame; (try unfold State.whenDue); (try dsimp only)
  (repeat' split) <;> first | (simp; done) | ((repeat' apply And.intro) <;> first | rfl | simp)

@[simp] theorem lineTime_frame (s : State) (line : RemoteLine) (t : LineTime) :
    (s.lineTime line t).powered = s.powered ∧ (s.lineTime line t).now = s.now ∧ (s.lineTime line t).free = s.free ∧
      (s.lineTime line t).cud = s.cud ∧ (s.lineTime line t).pending = s.pending ∧
      (s.lineTime line t).rpd.channel = s.rpd.channel := by
  unfold State.lineTime; (try unfold State.whenDue); (try dsimp only)
  (repeat' split) <;> first | (simp; done) | ((repeat' apply And.intro) <;> first | rfl | simp)

@[simp] theorem foldTimes_frame (x : RemoteLine) (l : List LineTime) (s : State) :
    (l.foldl (fun t y => t.lineTime x y) s).powered = s.powered ∧
      (l.foldl (fun t y => t.lineTime x y) s).now = s.now ∧
      (l.foldl (fun t y => t.lineTime x y) s).free = s.free ∧
      (l.foldl (fun t y => t.lineTime x y) s).cud = s.cud ∧
      (l.foldl (fun t y => t.lineTime x y) s).pending = s.pending ∧
      (l.foldl (fun t y => t.lineTime x y) s).rpd.channel = s.rpd.channel := by
  induction l generalizing s with
  | nil => simp
  | cons c l ih => simp [ih]

@[simp] theorem remoteMalformed_frame (line : RemoteLine) (times : List LineTime) (s : State) :
    (remoteMalformed line times s).powered = s.powered ∧ (remoteMalformed line times s).now = s.now ∧
      (remoteMalformed line times s).free = s.free ∧ (remoteMalformed line times s).cud = s.cud ∧
      (remoteMalformed line times s).pending = s.pending ∧
      (remoteMalformed line times s).rpd.channel = s.rpd.channel := by
  unfold remoteMalformed; (try unfold State.whenDue); (try dsimp only)
  (repeat' split) <;> first | (simp; done) | ((repeat' apply And.intro) <;> first | rfl | simp)

@[simp] theorem releasePress_frame (s : State) (line : RemoteLine) :
    (s.releasePress line).powered = s.powered ∧ (s.releasePress line).now = s.now ∧
      (s.releasePress line).free = s.free ∧ (s.releasePress line).aq = s.aq ∧ (s.releasePress line).tmc = s.tmc ∧
      (s.releasePress line).lmc = s.lmc ∧ (s.releasePress line).thc = s.thc ∧ (s.releasePress line).ttc = s.ttc ∧
      (s.releasePress line).cud = s.cud ∧ (s.releasePress line).ssq = s.ssq ∧ (s.releasePress line).lki = s.lki ∧
      (s.releasePress line).cnt = s.cnt ∧ (s.releasePress line).sts = s.sts ∧
      (s.releasePress line).pending = s.pending ∧ (s.releasePress line).rpd.channel = s.rpd.channel := by
  unfold State.releasePress; (try unfold State.whenDue); (try dsimp only)
  (repeat' split) <;> first | (simp; done) | ((repeat' apply And.intro) <;> first | rfl | simp)

@[simp] theorem remoteReleaseExpiry_frame (line : RemoteLine) (s : State) :
    (remoteReleaseExpiry line s).powered = s.powered ∧ (remoteReleaseExpiry line s).free = s.free ∧
      (remoteReleaseExpiry line s).aq = s.aq ∧ (remoteReleaseExpiry line s).tmc = s.tmc ∧
      (remoteReleaseExpiry line s).lmc = s.lmc ∧ (remoteReleaseExpiry line s).thc = s.thc ∧
      (remoteReleaseExpiry line s).ttc = s.ttc ∧ (remoteReleaseExpiry line s).cud = s.cud ∧
      (remoteReleaseExpiry line s).ssq = s.ssq ∧ (remoteReleaseExpiry line s).lki = s.lki ∧
      (remoteReleaseExpiry line s).cnt = s.cnt ∧ (remoteReleaseExpiry line s).sts = s.sts ∧
      (remoteReleaseExpiry line s).pending = s.pending ∧
      (remoteReleaseExpiry line s).rpd.channel = s.rpd.channel := by
  unfold remoteReleaseExpiry; (try unfold State.whenDue); (try dsimp only)
  (repeat' split) <;> first | (simp; done) | ((repeat' apply And.intro) <;> first | rfl | simp)

@[simp] theorem setPanel_frame (s : State) (k : Key) (r : PanelRec) :
    (s.setPanel k r).powered = s.powered ∧ (s.setPanel k r).now = s.now ∧ (s.setPanel k r).free = s.free ∧
      (s.setPanel k r).aq = s.aq ∧ (s.setPanel k r).tmc = s.tmc ∧ (s.setPanel k r).lmc = s.lmc ∧
      (s.setPanel k r).thc = s.thc ∧ (s.setPanel k r).ttc = s.ttc ∧ (s.setPanel k r).cud = s.cud ∧
      (s.setPanel k r).ssq = s.ssq ∧ (s.setPanel k r).lki = s.lki ∧ (s.setPanel k r).cnt = s.cnt ∧
      (s.setPanel k r).sts = s.sts ∧ (s.setPanel k r).pending = s.pending ∧
      (s.setPanel k r).rpd.channel = s.rpd.channel := by
  unfold State.setPanel; (try unfold State.whenDue); (try dsimp only)
  (repeat' split) <;> first | (simp; done) | ((repeat' apply And.intro) <;> first | rfl | simp)

@[simp] theorem panelLineChange_frame (k : Key) (closed : Bool) (s : State) :
    (panelLineChange k closed s).powered = s.powered ∧ (panelLineChange k closed s).now = s.now ∧
      (panelLineChange k closed s).free = s.free ∧ (panelLineChange k closed s).aq = s.aq ∧
      (panelLineChange k closed s).tmc = s.tmc ∧ (panelLineChange k closed s).lmc = s.lmc ∧
      (panelLineChange k closed s).thc = s.thc ∧ (panelLineChange k closed s).ttc = s.ttc ∧
      (panelLineChange k closed s).cud = s.cud ∧ (panelLineChange k closed s).ssq = s.ssq ∧
      (panelLineChange k closed s).lki = s.lki ∧ (panelLineChange k closed s).cnt = s.cnt ∧
      (panelLineChange k closed s).sts = s.sts ∧ (panelLineChange k closed s).pending = s.pending ∧
      (panelLineChange k closed s).rpd.channel = s.rpd.channel := by
  unfold panelLineChange; (try unfold State.whenDue); (try dsimp only)
  (repeat' split) <;> first | (simp; done) | ((repeat' apply And.intro) <;> first | rfl | simp)

@[simp] theorem panelEvent_frame (s : State) (k : Key) :
    (s.panelEvent k).powered = s.powered ∧ (s.panelEvent k).now = s.now ∧ (s.panelEvent k).free = s.free ∧
      (s.panelEvent k).cud = s.cud ∧ (s.panelEvent k).rpd = s.rpd ∧ (s.panelEvent k).pending = s.pending := by
  unfold State.panelEvent; (try unfold State.whenDue); (try dsimp only)
  (repeat' split) <;> first | (simp; done) | ((repeat' apply And.intro) <;> first | rfl | simp)

@[simp] theorem panelPress_frame (s : State) (k : Key) :
    (s.panelPress k).powered = s.powered ∧ (s.panelPress k).now = s.now ∧ (s.panelPress k).free = s.free ∧
      (s.panelPress k).cud = s.cud ∧ (s.panelPress k).pending = s.pending ∧
      (s.panelPress k).rpd.channel = s.rpd.channel := by
  unfold State.panelPress; (try unfold State.whenDue); (try dsimp only)
  (repeat' split) <;> first | (simp; done) | ((repeat' apply And.intro) <;> first | rfl | simp)

@[simp] theorem debounced_frame (s : State) (k : Key) :
    (s.debounced k).powered = s.powered ∧ (s.debounced k).now = s.now ∧ (s.debounced k).free = s.free ∧
      (s.debounced k).cud = s.cud ∧ (s.debounced k).pending = s.pending ∧
      (s.debounced k).rpd.channel = s.rpd.channel := by
  unfold State.debounced; (try unfold State.whenDue); (try dsimp only)
  (repeat' split) <;> first | (simp; done) | ((repeat' apply And.intro) <;> first | rfl | simp)

@[simp] theorem panelDebounceExpiry_frame (k : Key) (s : State) :
    (panelDebounceExpiry k s).powered = s.powered ∧ (panelDebounceExpiry k s).free = s.free ∧
      (panelDebounceExpiry k s).cud = s.cud ∧ (panelDebounceExpiry k s).pending = s.pending ∧
      (panelDebounceExpiry k s).rpd.channel = s.rpd.channel := by
  unfold panelDebounceExpiry; (try unfold State.whenDue); (try dsimp only)
  (repeat' split) <;> first | (simp; done) | ((repeat' apply And.intro) <;> first | rfl | simp)

@[simp] theorem panelRepeat_frame (s : State) (k : Key) (due : Nat) :
    (s.panelRepeat k due).powered = s.powered ∧ (s.panelRepeat k due).now = s.now ∧
      (s.panelRepeat k due).free = s.free ∧ (s.panelRepeat k due).cud = s.cud ∧
      (s.panelRepeat k due).pending = s.pending ∧ (s.panelRepeat k due).rpd.channel = s.rpd.channel := by
  unfold State.panelRepeat; (try unfold State.whenDue); (try dsimp only)
  (repeat' split) <;> first | (simp; done) | ((repeat' apply And.intro) <;> first | rfl | simp)

@[simp] theorem panelRepeatStep_frame (k : Key) (s : State) :
    (panelRepeatStep k s).powered = s.powered ∧ (panelRepeatStep k s).free = s.free ∧
      (panelRepeatStep k s).cud = s.cud ∧ (panelRepeatStep k s).pending = s.pending ∧
      (panelRepeatStep k s).rpd.channel = s.rpd.channel := by
  unfold panelRepeatStep; (try unfold State.whenDue); (try dsimp only)
  (repeat' split) <;> first | (simp; done) | ((repeat' apply And.intro) <;> first | rfl | simp)

@[simp] theorem holdReported_frame (s : State) (k : Key) :
    (s.holdReported k).powered = s.powered ∧ (s.holdReported k).now = s.now ∧ (s.holdReported k).free = s.free ∧
      (s.holdReported k).aq = s.aq ∧ (s.holdReported k).tmc = s.tmc ∧ (s.holdReported k).lmc = s.lmc ∧
      (s.holdReported k).thc = s.thc ∧ (s.holdReported k).ttc = s.ttc ∧ (s.holdReported k).cud = s.cud ∧
      (s.holdReported k).ssq = s.ssq ∧ (s.holdReported k).lki = s.lki ∧ (s.holdReported k).cnt = s.cnt ∧
      (s.holdReported k).sts = s.sts ∧ (s.holdReported k).pending = s.pending ∧
      (s.holdReported k).rpd.channel = s.rpd.channel := by
  unfold State.holdReported; (try unfold State.whenDue); (try dsimp only)
  (repeat' split) <;> first | (simp; done) | ((repeat' apply And.intro) <;> first | rfl | simp)

@[simp] theorem modeHold_frame (s : State) :
    s.modeHold.powered = s.powered ∧ s.modeHold.now = s.now ∧ s.modeHold.free = s.free ∧ s.modeHold.tmc = s.tmc ∧
      s.modeHold.lmc = s.lmc ∧ s.modeHold.thc = s.thc ∧ s.modeHold.ttc = s.ttc ∧ s.modeHold.cud = s.cud ∧
      s.modeHold.ssq = s.ssq ∧ s.modeHold.rpd = s.rpd ∧ s.modeHold.sts = s.sts ∧ s.modeHold.pending = s.pending ∧
      s.modeHold.aq.startMode = s.aq.startMode ∧ s.modeHold.aq.queue = s.aq.queue ∧
      s.modeHold.aq.stopPending = s.aq.stopPending ∧ s.modeHold.aq.holdDue = s.aq.holdDue ∧
      s.modeHold.lki.rx = s.lki.rx ∧ s.modeHold.lki.resp = s.lki.resp ∧ s.modeHold.lki.addr = s.lki.addr ∧
      s.modeHold.lki.assignTaken = s.lki.assignTaken ∧ s.modeHold.lki.resetting = s.lki.resetting ∧
      s.modeHold.lki.copies = s.lki.copies ∧ s.modeHold.lki.enables = s.lki.enables ∧
      s.modeHold.cnt.snap = s.cnt.snap ∧ s.modeHold.cnt.number = s.cnt.number := by
  unfold State.modeHold; (try unfold State.whenDue); (try dsimp only)
  (repeat' split) <;> first | (simp; done) | ((repeat' apply And.intro) <;> first | rfl | simp)

@[simp] theorem panelModeHold_frame (s : State) :
    (panelModeHold s).powered = s.powered ∧ (panelModeHold s).free = s.free ∧ (panelModeHold s).tmc = s.tmc ∧
      (panelModeHold s).lmc = s.lmc ∧ (panelModeHold s).thc = s.thc ∧ (panelModeHold s).ttc = s.ttc ∧
      (panelModeHold s).cud = s.cud ∧ (panelModeHold s).ssq = s.ssq ∧ (panelModeHold s).sts = s.sts ∧
      (panelModeHold s).pending = s.pending ∧ (panelModeHold s).aq.startMode = s.aq.startMode ∧
      (panelModeHold s).aq.queue = s.aq.queue ∧ (panelModeHold s).aq.stopPending = s.aq.stopPending ∧
      (panelModeHold s).aq.holdDue = s.aq.holdDue ∧ (panelModeHold s).lki.rx = s.lki.rx ∧
      (panelModeHold s).lki.resp = s.lki.resp ∧ (panelModeHold s).lki.addr = s.lki.addr ∧
      (panelModeHold s).lki.assignTaken = s.lki.assignTaken ∧ (panelModeHold s).lki.resetting = s.lki.resetting ∧
      (panelModeHold s).lki.copies = s.lki.copies ∧ (panelModeHold s).lki.enables = s.lki.enables ∧
      (panelModeHold s).cnt.snap = s.cnt.snap ∧ (panelModeHold s).cnt.number = s.cnt.number ∧
      (panelModeHold s).rpd.channel = s.rpd.channel := by
  unfold panelModeHold; (try unfold State.whenDue); (try dsimp only)
  (repeat' split) <;> first | (simp; done) | ((repeat' apply And.intro) <;> first | rfl | simp)

@[simp] theorem stopHold_frame (s : State) :
    s.stopHold.powered = s.powered ∧ s.stopHold.now = s.now ∧ s.stopHold.free = s.free ∧ s.stopHold.aq = s.aq ∧
      s.stopHold.thc = s.thc ∧ s.stopHold.ttc = s.ttc ∧ s.stopHold.cud = s.cud ∧ s.stopHold.ssq = s.ssq ∧
      s.stopHold.rpd = s.rpd ∧ s.stopHold.sts = s.sts ∧ s.stopHold.pending = s.pending ∧
      s.stopHold.tmc.lifter = s.tmc.lifter ∧ s.stopHold.tmc.trayDrive = s.tmc.trayDrive ∧
      s.stopHold.tmc.qualDue = s.tmc.qualDue ∧ s.stopHold.tmc.trayPresent = s.tmc.trayPresent ∧
      s.stopHold.tmc.slots = s.tmc.slots ∧ s.stopHold.tmc.size = s.tmc.size ∧ s.stopHold.tmc.pos = s.tmc.pos ∧
      s.stopHold.tmc.gate = s.tmc.gate ∧ s.stopHold.tmc.jam = s.tmc.jam ∧
      s.stopHold.tmc.comparePos = s.tmc.comparePos ∧ s.stopHold.tmc.par = s.tmc.par ∧
      s.stopHold.lmc.power = s.lmc.power ∧ s.stopHold.lmc.active = s.lmc.active ∧
      s.stopHold.lmc.outLevel = s.lmc.outLevel ∧ s.stopHold.lmc.level = s.lmc.level ∧
      s.stopHold.lmc.par = s.lmc.par ∧ s.stopHold.lmc.outDrive = s.lmc.outDrive ∧ s.stopHold.lki.rx = s.lki.rx ∧
      s.stopHold.lki.resp = s.lki.resp ∧ s.stopHold.lki.addr = s.lki.addr ∧
      s.stopHold.lki.assignTaken = s.lki.assignTaken ∧ s.stopHold.lki.resetting = s.lki.resetting ∧
      s.stopHold.lki.copies = s.lki.copies ∧ s.stopHold.lki.enables = s.lki.enables ∧
      s.stopHold.cnt.snap = s.cnt.snap ∧ s.stopHold.cnt.number = s.cnt.number := by
  unfold State.stopHold; (try unfold State.whenDue); (try dsimp only)
  (repeat' split) <;> first | (simp; done) | ((repeat' apply And.intro) <;> first | rfl | simp)

@[simp] theorem panelStopHold_frame (s : State) :
    (panelStopHold s).powered = s.powered ∧ (panelStopHold s).free = s.free ∧ (panelStopHold s).aq = s.aq ∧
      (panelStopHold s).thc = s.thc ∧ (panelStopHold s).ttc = s.ttc ∧ (panelStopHold s).cud = s.cud ∧
      (panelStopHold s).ssq = s.ssq ∧ (panelStopHold s).sts = s.sts ∧ (panelStopHold s).pending = s.pending ∧
      (panelStopHold s).tmc.lifter = s.tmc.lifter ∧ (panelStopHold s).tmc.trayDrive = s.tmc.trayDrive ∧
      (panelStopHold s).tmc.qualDue = s.tmc.qualDue ∧ (panelStopHold s).tmc.trayPresent = s.tmc.trayPresent ∧
      (panelStopHold s).tmc.slots = s.tmc.slots ∧ (panelStopHold s).tmc.size = s.tmc.size ∧
      (panelStopHold s).tmc.pos = s.tmc.pos ∧ (panelStopHold s).tmc.gate = s.tmc.gate ∧
      (panelStopHold s).tmc.jam = s.tmc.jam ∧ (panelStopHold s).tmc.comparePos = s.tmc.comparePos ∧
      (panelStopHold s).tmc.par = s.tmc.par ∧ (panelStopHold s).lmc.power = s.lmc.power ∧
      (panelStopHold s).lmc.active = s.lmc.active ∧ (panelStopHold s).lmc.outLevel = s.lmc.outLevel ∧
      (panelStopHold s).lmc.level = s.lmc.level ∧ (panelStopHold s).lmc.par = s.lmc.par ∧
      (panelStopHold s).lmc.outDrive = s.lmc.outDrive ∧ (panelStopHold s).lki.rx = s.lki.rx ∧
      (panelStopHold s).lki.resp = s.lki.resp ∧ (panelStopHold s).lki.addr = s.lki.addr ∧
      (panelStopHold s).lki.assignTaken = s.lki.assignTaken ∧ (panelStopHold s).lki.resetting = s.lki.resetting ∧
      (panelStopHold s).lki.copies = s.lki.copies ∧ (panelStopHold s).lki.enables = s.lki.enables ∧
      (panelStopHold s).cnt.snap = s.cnt.snap ∧ (panelStopHold s).cnt.number = s.cnt.number ∧
      (panelStopHold s).rpd.channel = s.rpd.channel := by
  unfold panelStopHold; (try unfold State.whenDue); (try dsimp only)
  (repeat' split) <;> first | (simp; done) | ((repeat' apply And.intro) <;> first | rfl | simp)

@[simp] theorem powerHold_frame (s : State) :
    s.powerHold.powered = s.powered ∧ s.powerHold.now = s.now ∧ s.powerHold.free = s.free ∧ s.powerHold.aq = s.aq ∧
      s.powerHold.tmc = s.tmc ∧ s.powerHold.cud = s.cud ∧ s.powerHold.rpd = s.rpd ∧ s.powerHold.cnt = s.cnt ∧
      s.powerHold.pending = s.pending ∧ s.powerHold.lmc.active = s.lmc.active ∧
      s.powerHold.lmc.blanks = s.lmc.blanks ∧ s.powerHold.lmc.outLevel = s.lmc.outLevel ∧
      s.powerHold.lmc.level = s.lmc.level ∧ s.powerHold.lmc.par = s.lmc.par ∧ s.powerHold.thc.trip = s.thc.trip ∧
      s.powerHold.thc.fanFault = s.thc.fanFault ∧ s.powerHold.thc.lost = s.thc.lost ∧
      s.powerHold.thc.loss30 = s.thc.loss30 ∧ s.powerHold.thc.par = s.thc.par ∧ s.powerHold.thc.tm = s.thc.tm ∧
      s.powerHold.thc.hq = s.thc.hq ∧ s.powerHold.thc.cEff = s.thc.cEff ∧ s.powerHold.ttc.curVol = s.ttc.curVol ∧
      s.powerHold.ttc.servo = s.ttc.servo ∧ s.powerHold.ssq.steps = s.ssq.steps ∧
      s.powerHold.ssq.head = s.ssq.head ∧ s.powerHold.ssq.ptr = s.ssq.ptr ∧ s.powerHold.ssq.pend = s.ssq.pend ∧
      s.powerHold.ssq.remembered = s.ssq.remembered ∧ s.powerHold.lki.rx = s.lki.rx ∧
      s.powerHold.lki.resp = s.lki.resp ∧ s.powerHold.lki.addr = s.lki.addr ∧
      s.powerHold.lki.assignTaken = s.lki.assignTaken ∧ s.powerHold.lki.resetting = s.lki.resetting ∧
      s.powerHold.lki.copies = s.lki.copies ∧ s.powerHold.lki.enables = s.lki.enables ∧
      s.powerHold.sts.record = s.sts.record ∧ s.powerHold.sts.serial = s.sts.serial ∧
      s.powerHold.sts.storeLost = s.sts.storeLost := by
  unfold State.powerHold; (try unfold State.whenDue); (try dsimp only)
  (repeat' split) <;> first | (simp; done) | ((repeat' apply And.intro) <;> first | rfl | simp)

@[simp] theorem panelPowerHold_frame (s : State) :
    (panelPowerHold s).powered = s.powered ∧ (panelPowerHold s).free = s.free ∧ (panelPowerHold s).aq = s.aq ∧
      (panelPowerHold s).tmc = s.tmc ∧ (panelPowerHold s).cud = s.cud ∧ (panelPowerHold s).cnt = s.cnt ∧
      (panelPowerHold s).pending = s.pending ∧ (panelPowerHold s).lmc.active = s.lmc.active ∧
      (panelPowerHold s).lmc.blanks = s.lmc.blanks ∧ (panelPowerHold s).lmc.outLevel = s.lmc.outLevel ∧
      (panelPowerHold s).lmc.level = s.lmc.level ∧ (panelPowerHold s).lmc.par = s.lmc.par ∧
      (panelPowerHold s).thc.trip = s.thc.trip ∧ (panelPowerHold s).thc.fanFault = s.thc.fanFault ∧
      (panelPowerHold s).thc.lost = s.thc.lost ∧ (panelPowerHold s).thc.loss30 = s.thc.loss30 ∧
      (panelPowerHold s).thc.par = s.thc.par ∧ (panelPowerHold s).thc.tm = s.thc.tm ∧
      (panelPowerHold s).thc.hq = s.thc.hq ∧ (panelPowerHold s).thc.cEff = s.thc.cEff ∧
      (panelPowerHold s).ttc.curVol = s.ttc.curVol ∧ (panelPowerHold s).ttc.servo = s.ttc.servo ∧
      (panelPowerHold s).ssq.steps = s.ssq.steps ∧ (panelPowerHold s).ssq.head = s.ssq.head ∧
      (panelPowerHold s).ssq.ptr = s.ssq.ptr ∧ (panelPowerHold s).ssq.pend = s.ssq.pend ∧
      (panelPowerHold s).ssq.remembered = s.ssq.remembered ∧ (panelPowerHold s).lki.rx = s.lki.rx ∧
      (panelPowerHold s).lki.resp = s.lki.resp ∧ (panelPowerHold s).lki.addr = s.lki.addr ∧
      (panelPowerHold s).lki.assignTaken = s.lki.assignTaken ∧
      (panelPowerHold s).lki.resetting = s.lki.resetting ∧ (panelPowerHold s).lki.copies = s.lki.copies ∧
      (panelPowerHold s).lki.enables = s.lki.enables ∧ (panelPowerHold s).rpd.channel = s.rpd.channel ∧
      (panelPowerHold s).sts.record = s.sts.record ∧ (panelPowerHold s).sts.serial = s.sts.serial ∧
      (panelPowerHold s).sts.storeLost = s.sts.storeLost := by
  unfold panelPowerHold; (try unfold State.whenDue); (try dsimp only)
  (repeat' split) <;> first | (simp; done) | ((repeat' apply And.intro) <;> first | rfl | simp)

@[simp] theorem setChannel_frame (s : State) (v : Nat) :
    (s.setChannel v).powered = s.powered ∧ (s.setChannel v).now = s.now ∧ (s.setChannel v).free = s.free ∧
      (s.setChannel v).aq = s.aq ∧ (s.setChannel v).tmc = s.tmc ∧ (s.setChannel v).lmc = s.lmc ∧
      (s.setChannel v).thc = s.thc ∧ (s.setChannel v).ttc = s.ttc ∧ (s.setChannel v).cud = s.cud ∧
      (s.setChannel v).ssq = s.ssq ∧ (s.setChannel v).lki = s.lki ∧ (s.setChannel v).cnt = s.cnt ∧
      (s.setChannel v).sts = s.sts ∧ (s.setChannel v).pending = s.pending := by
  unfold State.setChannel; (try unfold State.whenDue); (try dsimp only)
  (repeat' split) <;> first | (simp; done) | ((repeat' apply And.intro) <;> first | rfl | simp)

@[simp] theorem resetRemote_frame (s : State) :
    s.resetRemote.powered = s.powered ∧ s.resetRemote.now = s.now ∧ s.resetRemote.free = s.free ∧
      s.resetRemote.aq = s.aq ∧ s.resetRemote.tmc = s.tmc ∧ s.resetRemote.lmc = s.lmc ∧
      s.resetRemote.thc = s.thc ∧ s.resetRemote.ttc = s.ttc ∧ s.resetRemote.cud = s.cud ∧
      s.resetRemote.ssq = s.ssq ∧ s.resetRemote.lki = s.lki ∧ s.resetRemote.cnt = s.cnt ∧
      s.resetRemote.sts = s.sts ∧ s.resetRemote.pending = s.pending ∧ s.resetRemote.rpd.channel = s.rpd.channel := by
  unfold State.resetRemote; (try unfold State.whenDue); (try dsimp only)
  (repeat' split) <;> first | (simp; done) | ((repeat' apply And.intro) <;> first | rfl | simp)

@[simp] theorem setTmcPar_frame (s : State) (p : TmcParams) :
    (s.setTmcPar p).powered = s.powered ∧ (s.setTmcPar p).now = s.now ∧ (s.setTmcPar p).free = s.free ∧
      (s.setTmcPar p).aq = s.aq ∧ (s.setTmcPar p).lmc = s.lmc ∧ (s.setTmcPar p).thc = s.thc ∧
      (s.setTmcPar p).ttc = s.ttc ∧ (s.setTmcPar p).cud = s.cud ∧ (s.setTmcPar p).ssq = s.ssq ∧
      (s.setTmcPar p).rpd = s.rpd ∧ (s.setTmcPar p).lki = s.lki ∧ (s.setTmcPar p).cnt = s.cnt ∧
      (s.setTmcPar p).sts = s.sts ∧ (s.setTmcPar p).pending = s.pending ∧ (s.setTmcPar p).tmc.st = s.tmc.st ∧
      (s.setTmcPar p).tmc.phase = s.tmc.phase ∧ (s.setTmcPar p).tmc.timer = s.tmc.timer ∧
      (s.setTmcPar p).tmc.lifter = s.tmc.lifter ∧ (s.setTmcPar p).tmc.trayDrive = s.tmc.trayDrive ∧
      (s.setTmcPar p).tmc.qualDue = s.tmc.qualDue ∧ (s.setTmcPar p).tmc.trayPresent = s.tmc.trayPresent ∧
      (s.setTmcPar p).tmc.slots = s.tmc.slots ∧ (s.setTmcPar p).tmc.size = s.tmc.size ∧
      (s.setTmcPar p).tmc.pos = s.tmc.pos ∧ (s.setTmcPar p).tmc.gate = s.tmc.gate ∧
      (s.setTmcPar p).tmc.jam = s.tmc.jam ∧ (s.setTmcPar p).tmc.comparePos = s.tmc.comparePos := by
  unfold State.setTmcPar; (try unfold State.whenDue); (try dsimp only)
  (repeat' split) <;> first | (simp; done) | ((repeat' apply And.intro) <;> first | rfl | simp)

@[simp] theorem setLmcPar_frame (s : State) (p : LmcParams) :
    (s.setLmcPar p).powered = s.powered ∧ (s.setLmcPar p).now = s.now ∧ (s.setLmcPar p).free = s.free ∧
      (s.setLmcPar p).aq = s.aq ∧ (s.setLmcPar p).tmc = s.tmc ∧ (s.setLmcPar p).thc = s.thc ∧
      (s.setLmcPar p).ttc = s.ttc ∧ (s.setLmcPar p).cud = s.cud ∧ (s.setLmcPar p).ssq = s.ssq ∧
      (s.setLmcPar p).rpd = s.rpd ∧ (s.setLmcPar p).lki = s.lki ∧ (s.setLmcPar p).cnt = s.cnt ∧
      (s.setLmcPar p).sts = s.sts ∧ (s.setLmcPar p).pending = s.pending ∧
      (s.setLmcPar p).lmc.power = s.lmc.power ∧ (s.setLmcPar p).lmc.active = s.lmc.active ∧
      (s.setLmcPar p).lmc.blanks = s.lmc.blanks ∧ (s.setLmcPar p).lmc.outLevel = s.lmc.outLevel ∧
      (s.setLmcPar p).lmc.level = s.lmc.level ∧ (s.setLmcPar p).lmc.outDrive = s.lmc.outDrive := by
  unfold State.setLmcPar; (try unfold State.whenDue); (try dsimp only)
  (repeat' split) <;> first | (simp; done) | ((repeat' apply And.intro) <;> first | rfl | simp)

@[simp] theorem setThcPar_frame (s : State) (p : ThcParams) :
    (s.setThcPar p).powered = s.powered ∧ (s.setThcPar p).now = s.now ∧ (s.setThcPar p).free = s.free ∧
      (s.setThcPar p).aq = s.aq ∧ (s.setThcPar p).tmc = s.tmc ∧ (s.setThcPar p).lmc = s.lmc ∧
      (s.setThcPar p).ttc = s.ttc ∧ (s.setThcPar p).cud = s.cud ∧ (s.setThcPar p).ssq = s.ssq ∧
      (s.setThcPar p).rpd = s.rpd ∧ (s.setThcPar p).lki = s.lki ∧ (s.setThcPar p).cnt = s.cnt ∧
      (s.setThcPar p).sts = s.sts ∧ (s.setThcPar p).pending = s.pending ∧ (s.setThcPar p).thc.trip = s.thc.trip ∧
      (s.setThcPar p).thc.fanFault = s.thc.fanFault ∧ (s.setThcPar p).thc.power = s.thc.power ∧
      (s.setThcPar p).thc.lost = s.thc.lost ∧ (s.setThcPar p).thc.loss30 = s.thc.loss30 ∧
      (s.setThcPar p).thc.tm = s.thc.tm ∧ (s.setThcPar p).thc.hq = s.thc.hq ∧
      (s.setThcPar p).thc.cEff = s.thc.cEff := by
  unfold State.setThcPar; (try unfold State.whenDue); (try dsimp only)
  (repeat' split) <;> first | (simp; done) | ((repeat' apply And.intro) <;> first | rfl | simp)

@[simp] theorem setTtcPar_frame (s : State) (p : TtcParams) :
    (s.setTtcPar p).powered = s.powered ∧ (s.setTtcPar p).now = s.now ∧ (s.setTtcPar p).free = s.free ∧
      (s.setTtcPar p).aq = s.aq ∧ (s.setTtcPar p).tmc = s.tmc ∧ (s.setTtcPar p).lmc = s.lmc ∧
      (s.setTtcPar p).thc = s.thc ∧ (s.setTtcPar p).cud = s.cud ∧ (s.setTtcPar p).ssq = s.ssq ∧
      (s.setTtcPar p).rpd = s.rpd ∧ (s.setTtcPar p).lki = s.lki ∧ (s.setTtcPar p).cnt = s.cnt ∧
      (s.setTtcPar p).sts = s.sts ∧ (s.setTtcPar p).pending = s.pending ∧ (s.setTtcPar p).ttc.st = s.ttc.st ∧
      (s.setTtcPar p).ttc.curVol = s.ttc.curVol ∧ (s.setTtcPar p).ttc.servo = s.ttc.servo := by
  unfold State.setTtcPar; (try unfold State.whenDue); (try dsimp only)
  (repeat' split) <;> first | (simp; done) | ((repeat' apply And.intro) <;> first | rfl | simp)

@[simp] theorem setCudPar_frame (s : State) (p : CudParams) :
    (s.setCudPar p).powered = s.powered ∧ (s.setCudPar p).now = s.now ∧ (s.setCudPar p).free = s.free ∧
      (s.setCudPar p).aq = s.aq ∧ (s.setCudPar p).tmc = s.tmc ∧ (s.setCudPar p).lmc = s.lmc ∧
      (s.setCudPar p).thc = s.thc ∧ (s.setCudPar p).ttc = s.ttc ∧ (s.setCudPar p).ssq = s.ssq ∧
      (s.setCudPar p).rpd = s.rpd ∧ (s.setCudPar p).lki = s.lki ∧ (s.setCudPar p).cnt = s.cnt ∧
      (s.setCudPar p).sts = s.sts ∧ (s.setCudPar p).pending = s.pending ∧
      (s.setCudPar p).cud.carrier = s.cud.carrier := by
  unfold State.setCudPar; (try unfold State.whenDue); (try dsimp only)
  (repeat' split) <;> first | (simp; done) | ((repeat' apply And.intro) <;> first | rfl | simp)

@[simp] theorem lowerCeiling_frame (s : State) :
    s.lowerCeiling.powered = s.powered ∧ s.lowerCeiling.now = s.now ∧ s.lowerCeiling.free = s.free ∧
      s.lowerCeiling.aq = s.aq ∧ s.lowerCeiling.tmc = s.tmc ∧ s.lowerCeiling.lmc = s.lmc ∧
      s.lowerCeiling.ttc = s.ttc ∧ s.lowerCeiling.cud = s.cud ∧ s.lowerCeiling.ssq = s.ssq ∧
      s.lowerCeiling.rpd = s.rpd ∧ s.lowerCeiling.lki = s.lki ∧ s.lowerCeiling.cnt = s.cnt ∧
      s.lowerCeiling.sts = s.sts ∧ s.lowerCeiling.pending = s.pending ∧ s.lowerCeiling.thc.trip = s.thc.trip ∧
      s.lowerCeiling.thc.fanFault = s.thc.fanFault ∧ s.lowerCeiling.thc.power = s.thc.power ∧
      s.lowerCeiling.thc.lost = s.thc.lost ∧ s.lowerCeiling.thc.loss30 = s.thc.loss30 ∧
      s.lowerCeiling.thc.par = s.thc.par ∧ s.lowerCeiling.thc.tm = s.thc.tm ∧ s.lowerCeiling.thc.hq = s.thc.hq := by
  unfold State.lowerCeiling; (try unfold State.whenDue); (try dsimp only)
  (repeat' split) <;> first | (simp; done) | ((repeat' apply And.intro) <;> first | rfl | simp)

@[simp] theorem setInterval_frame (s : State) (n : Nat) :
    (s.setInterval n).powered = s.powered ∧ (s.setInterval n).now = s.now ∧ (s.setInterval n).free = s.free ∧
      (s.setInterval n).aq = s.aq ∧ (s.setInterval n).tmc = s.tmc ∧ (s.setInterval n).lmc = s.lmc ∧
      (s.setInterval n).thc = s.thc ∧ (s.setInterval n).ttc = s.ttc ∧ (s.setInterval n).cud = s.cud ∧
      (s.setInterval n).ssq = s.ssq ∧ (s.setInterval n).rpd = s.rpd ∧ (s.setInterval n).lki = s.lki ∧
      (s.setInterval n).sts = s.sts ∧ (s.setInterval n).pending = s.pending ∧
      (s.setInterval n).cnt.snap = s.cnt.snap ∧ (s.setInterval n).cnt.number = s.cnt.number := by
  unfold State.setInterval; (try unfold State.whenDue); (try dsimp only)
  (repeat' split) <;> first | (simp; done) | ((repeat' apply And.intro) <;> first | rfl | simp)

@[simp] theorem actionOf_frame (s : State) (a : Action) :
    (s.actionOf a).state.powered = s.powered ∧ (s.actionOf a).state.now = s.now ∧ (s.actionOf a).state.free = s.free ∧
      (s.actionOf a).state.tmc = s.tmc ∧ (s.actionOf a).state.lmc = s.lmc ∧ (s.actionOf a).state.thc = s.thc ∧
      (s.actionOf a).state.ttc = s.ttc ∧ (s.actionOf a).state.cud = s.cud ∧ (s.actionOf a).state.ssq = s.ssq ∧
      (s.actionOf a).state.rpd = s.rpd ∧ (s.actionOf a).state.lki = s.lki ∧ (s.actionOf a).state.cnt = s.cnt ∧
      (s.actionOf a).state.sts = s.sts ∧ (s.actionOf a).state.pending = s.pending ∧
      (s.actionOf a).state.aq.mode = s.aq.mode ∧ (s.actionOf a).state.aq.startMode = s.aq.startMode ∧
      (s.actionOf a).state.aq.stopPending = s.aq.stopPending ∧ (s.actionOf a).state.aq.holdDue = s.aq.holdDue := by
  unfold State.actionOf; (try unfold State.whenDue); (try dsimp only)
  (repeat' split) <;> first | (simp; done) | ((repeat' apply And.intro) <;> first | rfl | simp)

@[simp] theorem reqAction_frame (slot : SlotBytes) (s : State) :
    (reqAction slot s).state.powered = s.powered ∧ (reqAction slot s).state.now = s.now ∧
      (reqAction slot s).state.free = s.free ∧ (reqAction slot s).state.tmc = s.tmc ∧
      (reqAction slot s).state.lmc = s.lmc ∧ (reqAction slot s).state.thc = s.thc ∧
      (reqAction slot s).state.ttc = s.ttc ∧ (reqAction slot s).state.cud = s.cud ∧
      (reqAction slot s).state.ssq = s.ssq ∧ (reqAction slot s).state.rpd = s.rpd ∧
      (reqAction slot s).state.lki = s.lki ∧ (reqAction slot s).state.cnt = s.cnt ∧
      (reqAction slot s).state.sts = s.sts ∧ (reqAction slot s).state.pending = s.pending ∧
      (reqAction slot s).state.aq.mode = s.aq.mode ∧ (reqAction slot s).state.aq.startMode = s.aq.startMode ∧
      (reqAction slot s).state.aq.stopPending = s.aq.stopPending ∧
      (reqAction slot s).state.aq.holdDue = s.aq.holdDue := by
  unfold reqAction; (try unfold State.whenDue); (try dsimp only)
  (repeat' split) <;> first | (simp; done) | ((repeat' apply And.intro) <;> first | rfl | simp)

@[simp] theorem reqMode_frame (arg : Byte) (s : State) :
    (reqMode arg s).state.powered = s.powered ∧ (reqMode arg s).state.now = s.now ∧
      (reqMode arg s).state.free = s.free ∧ (reqMode arg s).state.tmc = s.tmc ∧
      (reqMode arg s).state.lmc = s.lmc ∧ (reqMode arg s).state.thc = s.thc ∧ (reqMode arg s).state.ttc = s.ttc ∧
      (reqMode arg s).state.cud = s.cud ∧ (reqMode arg s).state.ssq = s.ssq ∧ (reqMode arg s).state.rpd = s.rpd ∧
      (reqMode arg s).state.lki = s.lki ∧ (reqMode arg s).state.cnt = s.cnt ∧ (reqMode arg s).state.sts = s.sts ∧
      (reqMode arg s).state.pending = s.pending ∧ (reqMode arg s).state.aq.startMode = s.aq.startMode ∧
      (reqMode arg s).state.aq.queue = s.aq.queue ∧ (reqMode arg s).state.aq.stopPending = s.aq.stopPending ∧
      (reqMode arg s).state.aq.holdDue = s.aq.holdDue := by
  unfold reqMode; (try unfold State.whenDue); (try dsimp only)
  (repeat' split) <;> first | (simp; done) | ((repeat' apply And.intro) <;> first | rfl | simp)

@[simp] theorem reqPause_frame (s : State) :
    (reqPause s).state.powered = s.powered ∧ (reqPause s).state.now = s.now ∧ (reqPause s).state.free = s.free ∧
      (reqPause s).state.aq = s.aq ∧ (reqPause s).state.tmc = s.tmc ∧ (reqPause s).state.lmc = s.lmc ∧
      (reqPause s).state.thc = s.thc ∧ (reqPause s).state.cud = s.cud ∧ (reqPause s).state.rpd = s.rpd ∧
      (reqPause s).state.lki = s.lki ∧ (reqPause s).state.cnt = s.cnt ∧ (reqPause s).state.sts = s.sts ∧
      (reqPause s).state.pending = s.pending ∧ (reqPause s).state.ttc.curVol = s.ttc.curVol ∧
      (reqPause s).state.ttc.servo = s.ttc.servo ∧ (reqPause s).state.ssq.steps = s.ssq.steps ∧
      (reqPause s).state.ssq.head = s.ssq.head ∧ (reqPause s).state.ssq.ptr = s.ssq.ptr ∧
      (reqPause s).state.ssq.pend = s.ssq.pend ∧ (reqPause s).state.ssq.remembered = s.ssq.remembered := by
  unfold reqPause; (try unfold State.whenDue); (try dsimp only)
  (repeat' split) <;> first | (simp; done) | ((repeat' apply And.intro) <;> first | rfl | simp)

@[simp] theorem reqResume_frame (s : State) :
    (reqResume s).state.powered = s.powered ∧ (reqResume s).state.now = s.now ∧ (reqResume s).state.free = s.free ∧
      (reqResume s).state.cud = s.cud ∧ (reqResume s).state.rpd = s.rpd ∧
      (reqResume s).state.pending = s.pending ∧ (reqResume s).state.aq.mode = s.aq.mode ∧
      (reqResume s).state.aq.startMode = s.aq.startMode ∧ (reqResume s).state.tmc.lifter = s.tmc.lifter ∧
      (reqResume s).state.tmc.trayDrive = s.tmc.trayDrive ∧ (reqResume s).state.tmc.qualDue = s.tmc.qualDue ∧
      (reqResume s).state.tmc.trayPresent = s.tmc.trayPresent ∧ (reqResume s).state.tmc.slots = s.tmc.slots ∧
      (reqResume s).state.tmc.size = s.tmc.size ∧ (reqResume s).state.tmc.pos = s.tmc.pos ∧
      (reqResume s).state.tmc.gate = s.tmc.gate ∧ (reqResume s).state.tmc.jam = s.tmc.jam ∧
      (reqResume s).state.tmc.comparePos = s.tmc.comparePos ∧ (reqResume s).state.tmc.par = s.tmc.par ∧
      (reqResume s).state.lmc.active = s.lmc.active ∧ (reqResume s).state.lmc.outLevel = s.lmc.outLevel ∧
      (reqResume s).state.lmc.level = s.lmc.level ∧ (reqResume s).state.lmc.par = s.lmc.par ∧
      (reqResume s).state.thc.trip = s.thc.trip ∧ (reqResume s).state.thc.fanFault = s.thc.fanFault ∧
      (reqResume s).state.thc.power = s.thc.power ∧ (reqResume s).state.thc.lost = s.thc.lost ∧
      (reqResume s).state.thc.loss30 = s.thc.loss30 ∧ (reqResume s).state.thc.par = s.thc.par ∧
      (reqResume s).state.thc.tm = s.thc.tm ∧ (reqResume s).state.thc.hq = s.thc.hq ∧
      (reqResume s).state.thc.cEff = s.thc.cEff ∧ (reqResume s).state.ttc.curVol = s.ttc.curVol ∧
      (reqResume s).state.ttc.servo = s.ttc.servo ∧ (reqResume s).state.ssq.steps = s.ssq.steps ∧
      (reqResume s).state.ssq.head = s.ssq.head ∧ (reqResume s).state.lki.rx = s.lki.rx ∧
      (reqResume s).state.lki.resp = s.lki.resp ∧ (reqResume s).state.lki.addr = s.lki.addr ∧
      (reqResume s).state.lki.assignTaken = s.lki.assignTaken ∧ (reqResume s).state.lki.copies = s.lki.copies ∧
      (reqResume s).state.lki.enables = s.lki.enables ∧ (reqResume s).state.cnt.snap = s.cnt.snap ∧
      (reqResume s).state.cnt.number = s.cnt.number ∧ (reqResume s).state.sts.record = s.sts.record ∧
      (reqResume s).state.sts.serial = s.sts.serial ∧ (reqResume s).state.sts.storeLost = s.sts.storeLost := by
  unfold reqResume; (try unfold State.whenDue); (try dsimp only)
  (repeat' split) <;> first | (simp; done) | ((repeat' apply And.intro) <;> first | rfl | simp)

@[simp] theorem reqAdvance_frame (s : State) :
    (reqAdvance s).state.powered = s.powered ∧ (reqAdvance s).state.now = s.now ∧ (reqAdvance s).state.free = s.free ∧
      (reqAdvance s).state.tmc = s.tmc ∧ (reqAdvance s).state.lmc = s.lmc ∧ (reqAdvance s).state.thc = s.thc ∧
      (reqAdvance s).state.ttc = s.ttc ∧ (reqAdvance s).state.cud = s.cud ∧ (reqAdvance s).state.rpd = s.rpd ∧
      (reqAdvance s).state.cnt = s.cnt ∧ (reqAdvance s).state.sts = s.sts ∧
      (reqAdvance s).state.pending = s.pending ∧ (reqAdvance s).state.aq.mode = s.aq.mode ∧
      (reqAdvance s).state.aq.startMode = s.aq.startMode ∧
      (reqAdvance s).state.aq.stopPending = s.aq.stopPending ∧ (reqAdvance s).state.aq.holdDue = s.aq.holdDue ∧
      (reqAdvance s).state.ssq.steps = s.ssq.steps ∧ (reqAdvance s).state.ssq.head = s.ssq.head ∧
      (reqAdvance s).state.ssq.remembered = s.ssq.remembered ∧ (reqAdvance s).state.lki.rx = s.lki.rx ∧
      (reqAdvance s).state.lki.resp = s.lki.resp ∧ (reqAdvance s).state.lki.addr = s.lki.addr ∧
      (reqAdvance s).state.lki.assignTaken = s.lki.assignTaken ∧
      (reqAdvance s).state.lki.resetting = s.lki.resetting ∧ (reqAdvance s).state.lki.copies = s.lki.copies ∧
      (reqAdvance s).state.lki.enables = s.lki.enables := by
  unfold reqAdvance; (try unfold State.whenDue); (try dsimp only)
  (repeat' split) <;> first | (simp; done) | ((repeat' apply And.intro) <;> first | rfl | simp)

@[simp] theorem reqClearJam_frame (s : State) :
    (reqClearJam s).state.powered = s.powered ∧ (reqClearJam s).state.now = s.now ∧
      (reqClearJam s).state.free = s.free ∧ (reqClearJam s).state.aq = s.aq ∧ (reqClearJam s).state.thc = s.thc ∧
      (reqClearJam s).state.ttc = s.ttc ∧ (reqClearJam s).state.cud = s.cud ∧ (reqClearJam s).state.ssq = s.ssq ∧
      (reqClearJam s).state.rpd = s.rpd ∧ (reqClearJam s).state.lki = s.lki ∧ (reqClearJam s).state.cnt = s.cnt ∧
      (reqClearJam s).state.sts = s.sts ∧ (reqClearJam s).state.pending = s.pending ∧
      (reqClearJam s).state.tmc.lifter = s.tmc.lifter ∧ (reqClearJam s).state.tmc.trayDrive = s.tmc.trayDrive ∧
      (reqClearJam s).state.tmc.qualDue = s.tmc.qualDue ∧
      (reqClearJam s).state.tmc.trayPresent = s.tmc.trayPresent ∧ (reqClearJam s).state.tmc.slots = s.tmc.slots ∧
      (reqClearJam s).state.tmc.size = s.tmc.size ∧ (reqClearJam s).state.tmc.pos = s.tmc.pos ∧
      (reqClearJam s).state.tmc.gate = s.tmc.gate ∧ (reqClearJam s).state.tmc.jam = s.tmc.jam ∧
      (reqClearJam s).state.tmc.comparePos = s.tmc.comparePos ∧ (reqClearJam s).state.tmc.par = s.tmc.par ∧
      (reqClearJam s).state.lmc.power = s.lmc.power ∧ (reqClearJam s).state.lmc.active = s.lmc.active ∧
      (reqClearJam s).state.lmc.outLevel = s.lmc.outLevel ∧ (reqClearJam s).state.lmc.level = s.lmc.level ∧
      (reqClearJam s).state.lmc.par = s.lmc.par ∧ (reqClearJam s).state.lmc.outDrive = s.lmc.outDrive := by
  unfold reqClearJam; (try unfold State.whenDue); (try dsimp only)
  (repeat' split) <;> first | (simp; done) | ((repeat' apply And.intro) <;> first | rfl | simp)

@[simp] theorem reqClearMatch_frame (s : State) :
    (reqClearMatch s).state.powered = s.powered ∧ (reqClearMatch s).state.now = s.now ∧
      (reqClearMatch s).state.free = s.free ∧ (reqClearMatch s).state.aq = s.aq ∧
      (reqClearMatch s).state.lmc = s.lmc ∧ (reqClearMatch s).state.thc = s.thc ∧
      (reqClearMatch s).state.ttc = s.ttc ∧ (reqClearMatch s).state.cud = s.cud ∧
      (reqClearMatch s).state.ssq = s.ssq ∧ (reqClearMatch s).state.rpd = s.rpd ∧
      (reqClearMatch s).state.cnt = s.cnt ∧ (reqClearMatch s).state.sts = s.sts ∧
      (reqClearMatch s).state.pending = s.pending ∧ (reqClearMatch s).state.tmc.st = s.tmc.st ∧
      (reqClearMatch s).state.tmc.phase = s.tmc.phase ∧ (reqClearMatch s).state.tmc.timer = s.tmc.timer ∧
      (reqClearMatch s).state.tmc.lifter = s.tmc.lifter ∧
      (reqClearMatch s).state.tmc.trayDrive = s.tmc.trayDrive ∧
      (reqClearMatch s).state.tmc.qualDue = s.tmc.qualDue ∧
      (reqClearMatch s).state.tmc.trayPresent = s.tmc.trayPresent ∧
      (reqClearMatch s).state.tmc.slots = s.tmc.slots ∧ (reqClearMatch s).state.tmc.size = s.tmc.size ∧
      (reqClearMatch s).state.tmc.pos = s.tmc.pos ∧ (reqClearMatch s).state.tmc.gate = s.tmc.gate ∧
      (reqClearMatch s).state.tmc.jam = s.tmc.jam ∧ (reqClearMatch s).state.tmc.comparePos = s.tmc.comparePos ∧
      (reqClearMatch s).state.tmc.par = s.tmc.par ∧ (reqClearMatch s).state.lki.rx = s.lki.rx ∧
      (reqClearMatch s).state.lki.resp = s.lki.resp ∧ (reqClearMatch s).state.lki.addr = s.lki.addr ∧
      (reqClearMatch s).state.lki.assignTaken = s.lki.assignTaken ∧
      (reqClearMatch s).state.lki.resetting = s.lki.resetting ∧
      (reqClearMatch s).state.lki.copies = s.lki.copies ∧ (reqClearMatch s).state.lki.enables = s.lki.enables := by
  unfold reqClearMatch; (try unfold State.whenDue); (try dsimp only)
  (repeat' split) <;> first | (simp; done) | ((repeat' apply And.intro) <;> first | rfl | simp)

@[simp] theorem reqBlank_frame (arg : Byte) (s : State) :
    (reqBlank arg s).state.powered = s.powered ∧ (reqBlank arg s).state.now = s.now ∧
      (reqBlank arg s).state.free = s.free ∧ (reqBlank arg s).state.aq = s.aq ∧
      (reqBlank arg s).state.tmc = s.tmc ∧ (reqBlank arg s).state.thc = s.thc ∧
      (reqBlank arg s).state.ttc = s.ttc ∧ (reqBlank arg s).state.cud = s.cud ∧
      (reqBlank arg s).state.ssq = s.ssq ∧ (reqBlank arg s).state.rpd = s.rpd ∧
      (reqBlank arg s).state.lki = s.lki ∧ (reqBlank arg s).state.cnt = s.cnt ∧
      (reqBlank arg s).state.sts = s.sts ∧ (reqBlank arg s).state.pending = s.pending ∧
      (reqBlank arg s).state.lmc.power = s.lmc.power ∧ (reqBlank arg s).state.lmc.active = s.lmc.active ∧
      (reqBlank arg s).state.lmc.blanks.mech = s.lmc.blanks.mech ∧
      (reqBlank arg s).state.lmc.outLevel = s.lmc.outLevel ∧ (reqBlank arg s).state.lmc.level = s.lmc.level ∧
      (reqBlank arg s).state.lmc.par = s.lmc.par ∧ (reqBlank arg s).state.lmc.outDrive = s.lmc.outDrive := by
  unfold reqBlank; (try unfold State.whenDue); (try dsimp only)
  (repeat' split) <;> first | (simp; done) | ((repeat' apply And.intro) <;> first | rfl | simp)

@[simp] theorem reqLamp_frame (arg : Byte) (s : State) :
    (reqLamp arg s).state.powered = s.powered ∧ (reqLamp arg s).state.now = s.now ∧
      (reqLamp arg s).state.free = s.free ∧ (reqLamp arg s).state.aq = s.aq ∧ (reqLamp arg s).state.tmc = s.tmc ∧
      (reqLamp arg s).state.ttc = s.ttc ∧ (reqLamp arg s).state.cud = s.cud ∧ (reqLamp arg s).state.ssq = s.ssq ∧
      (reqLamp arg s).state.rpd = s.rpd ∧ (reqLamp arg s).state.pending = s.pending ∧
      (reqLamp arg s).state.lmc.active = s.lmc.active ∧
      (reqLamp arg s).state.lmc.blanks.mech = s.lmc.blanks.mech ∧
      (reqLamp arg s).state.lmc.outLevel = s.lmc.outLevel ∧ (reqLamp arg s).state.lmc.level = s.lmc.level ∧
      (reqLamp arg s).state.lmc.par = s.lmc.par ∧ (reqLamp arg s).state.thc.trip = s.thc.trip ∧
      (reqLamp arg s).state.thc.fanFault = s.thc.fanFault ∧ (reqLamp arg s).state.thc.power = s.thc.power ∧
      (reqLamp arg s).state.thc.lost = s.thc.lost ∧ (reqLamp arg s).state.thc.loss30 = s.thc.loss30 ∧
      (reqLamp arg s).state.thc.par = s.thc.par ∧ (reqLamp arg s).state.thc.tm = s.thc.tm ∧
      (reqLamp arg s).state.thc.hq = s.thc.hq ∧ (reqLamp arg s).state.thc.cEff = s.thc.cEff ∧
      (reqLamp arg s).state.lki.rx = s.lki.rx ∧ (reqLamp arg s).state.lki.resp = s.lki.resp ∧
      (reqLamp arg s).state.lki.addr = s.lki.addr ∧ (reqLamp arg s).state.lki.assignTaken = s.lki.assignTaken ∧
      (reqLamp arg s).state.lki.resetting = s.lki.resetting ∧ (reqLamp arg s).state.lki.copies = s.lki.copies ∧
      (reqLamp arg s).state.lki.enables = s.lki.enables ∧ (reqLamp arg s).state.cnt.snap = s.cnt.snap ∧
      (reqLamp arg s).state.cnt.number = s.cnt.number ∧ (reqLamp arg s).state.sts.record = s.sts.record ∧
      (reqLamp arg s).state.sts.serial = s.sts.serial ∧ (reqLamp arg s).state.sts.storeLost = s.sts.storeLost := by
  unfold reqLamp; (try unfold State.whenDue); (try dsimp only)
  (repeat' split) <;> first | (simp; done) | ((repeat' apply And.intro) <;> first | rfl | simp)

@[simp] theorem reqTape_frame (arg : Byte) (s : State) :
    (reqTape arg s).state.powered = s.powered ∧ (reqTape arg s).state.now = s.now ∧
      (reqTape arg s).state.free = s.free ∧ (reqTape arg s).state.aq = s.aq ∧ (reqTape arg s).state.tmc = s.tmc ∧
      (reqTape arg s).state.lmc = s.lmc ∧ (reqTape arg s).state.thc = s.thc ∧ (reqTape arg s).state.cud = s.cud ∧
      (reqTape arg s).state.ssq = s.ssq ∧ (reqTape arg s).state.rpd = s.rpd ∧ (reqTape arg s).state.lki = s.lki ∧
      (reqTape arg s).state.cnt = s.cnt ∧ (reqTape arg s).state.sts = s.sts ∧
      (reqTape arg s).state.pending = s.pending ∧ (reqTape arg s).state.ttc.curVol = s.ttc.curVol ∧
      (reqTape arg s).state.ttc.servo = s.ttc.servo := by
  unfold reqTape; (try unfold State.whenDue); (try dsimp only)
  (repeat' split) <;> first | (simp; done) | ((repeat' apply And.intro) <;> first | rfl | simp)

@[simp] theorem reqSave_frame (s : State) :
    (reqSave s).state.powered = s.powered ∧ (reqSave s).state.now = s.now ∧ (reqSave s).state.free = s.free ∧
      (reqSave s).state.aq = s.aq ∧ (reqSave s).state.tmc = s.tmc ∧ (reqSave s).state.lmc = s.lmc ∧
      (reqSave s).state.thc = s.thc ∧ (reqSave s).state.ttc = s.ttc ∧ (reqSave s).state.cud = s.cud ∧
      (reqSave s).state.ssq = s.ssq ∧ (reqSave s).state.rpd = s.rpd ∧ (reqSave s).state.lki = s.lki ∧
      (reqSave s).state.cnt = s.cnt ∧ (reqSave s).state.pending = s.pending ∧
      (reqSave s).state.sts.record = s.sts.record ∧ (reqSave s).state.sts.serial = s.sts.serial ∧
      (reqSave s).state.sts.storeLost = s.sts.storeLost := by
  unfold reqSave; (try unfold State.whenDue); (try dsimp only)
  (repeat' split) <;> first | (simp; done) | ((repeat' apply And.intro) <;> first | rfl | simp)

@[simp] theorem reqControl_frame (sub : Sub) (arg : Byte) (s : State) :
    (reqControl sub arg s).state.powered = s.powered ∧ (reqControl sub arg s).state.now = s.now ∧
      (reqControl sub arg s).state.free = s.free ∧ (reqControl sub arg s).state.cud = s.cud ∧
      (reqControl sub arg s).state.rpd = s.rpd ∧ (reqControl sub arg s).state.pending = s.pending := by
  unfold reqControl; (try unfold State.whenDue); (try dsimp only)
  (repeat' split) <;> first | (simp; done) | ((repeat' apply And.intro) <;> first | rfl | simp)

@[simp] theorem reqQuery_frame (group page : Byte) (s : State) :
    (reqQuery group page s).state.powered = s.powered ∧ (reqQuery group page s).state.now = s.now ∧
      (reqQuery group page s).state.free = s.free ∧ (reqQuery group page s).state.aq = s.aq ∧
      (reqQuery group page s).state.tmc = s.tmc ∧ (reqQuery group page s).state.lmc = s.lmc ∧
      (reqQuery group page s).state.thc = s.thc ∧ (reqQuery group page s).state.ttc = s.ttc ∧
      (reqQuery group page s).state.cud = s.cud ∧ (reqQuery group page s).state.ssq = s.ssq ∧
      (reqQuery group page s).state.rpd = s.rpd ∧ (reqQuery group page s).state.cnt = s.cnt ∧
      (reqQuery group page s).state.sts = s.sts ∧ (reqQuery group page s).state.pending = s.pending ∧
      (reqQuery group page s).state.lki.rx = s.lki.rx ∧ (reqQuery group page s).state.lki.resp = s.lki.resp ∧
      (reqQuery group page s).state.lki.addr = s.lki.addr ∧
      (reqQuery group page s).state.lki.assignTaken = s.lki.assignTaken ∧
      (reqQuery group page s).state.lki.resetting = s.lki.resetting ∧
      (reqQuery group page s).state.lki.notices = s.lki.notices ∧
      (reqQuery group page s).state.lki.attn = s.lki.attn ∧
      (reqQuery group page s).state.lki.enables = s.lki.enables := by
  unfold reqQuery; (try unfold State.whenDue); (try dsimp only)
  (repeat' split) <;> first | (simp; done) | ((repeat' apply And.intro) <;> first | rfl | simp)

@[simp] theorem reqArm_frame (head : Byte) (s : State) :
    (reqArm head s).state.powered = s.powered ∧ (reqArm head s).state.now = s.now ∧
      (reqArm head s).state.free = s.free ∧ (reqArm head s).state.cud = s.cud ∧
      (reqArm head s).state.rpd = s.rpd ∧ (reqArm head s).state.pending = s.pending ∧
      (reqArm head s).state.aq.mode = s.aq.mode ∧ (reqArm head s).state.aq.startMode = s.aq.startMode ∧
      (reqArm head s).state.tmc.lifter = s.tmc.lifter ∧ (reqArm head s).state.tmc.trayDrive = s.tmc.trayDrive ∧
      (reqArm head s).state.tmc.qualDue = s.tmc.qualDue ∧
      (reqArm head s).state.tmc.trayPresent = s.tmc.trayPresent ∧ (reqArm head s).state.tmc.slots = s.tmc.slots ∧
      (reqArm head s).state.tmc.size = s.tmc.size ∧ (reqArm head s).state.tmc.pos = s.tmc.pos ∧
      (reqArm head s).state.tmc.gate = s.tmc.gate ∧ (reqArm head s).state.tmc.jam = s.tmc.jam ∧
      (reqArm head s).state.tmc.comparePos = s.tmc.comparePos ∧ (reqArm head s).state.tmc.par = s.tmc.par ∧
      (reqArm head s).state.lmc.active = s.lmc.active ∧ (reqArm head s).state.lmc.outLevel = s.lmc.outLevel ∧
      (reqArm head s).state.lmc.level = s.lmc.level ∧ (reqArm head s).state.lmc.par = s.lmc.par ∧
      (reqArm head s).state.thc.trip = s.thc.trip ∧ (reqArm head s).state.thc.fanFault = s.thc.fanFault ∧
      (reqArm head s).state.thc.power = s.thc.power ∧ (reqArm head s).state.thc.lost = s.thc.lost ∧
      (reqArm head s).state.thc.loss30 = s.thc.loss30 ∧ (reqArm head s).state.thc.par = s.thc.par ∧
      (reqArm head s).state.thc.tm = s.thc.tm ∧ (reqArm head s).state.thc.hq = s.thc.hq ∧
      (reqArm head s).state.thc.cEff = s.thc.cEff ∧ (reqArm head s).state.ttc.st = s.ttc.st ∧
      (reqArm head s).state.ttc.curVol = s.ttc.curVol ∧ (reqArm head s).state.ttc.servo = s.ttc.servo ∧
      (reqArm head s).state.ssq.steps = s.ssq.steps ∧ (reqArm head s).state.lki.rx = s.lki.rx ∧
      (reqArm head s).state.lki.resp = s.lki.resp ∧ (reqArm head s).state.lki.addr = s.lki.addr ∧
      (reqArm head s).state.lki.assignTaken = s.lki.assignTaken ∧
      (reqArm head s).state.lki.copies = s.lki.copies ∧ (reqArm head s).state.lki.enables = s.lki.enables ∧
      (reqArm head s).state.cnt.snap = s.cnt.snap ∧ (reqArm head s).state.cnt.number = s.cnt.number ∧
      (reqArm head s).state.sts.record = s.sts.record ∧ (reqArm head s).state.sts.serial = s.sts.serial ∧
      (reqArm head s).state.sts.storeLost = s.sts.storeLost := by
  unfold reqArm; (try unfold State.whenDue); (try dsimp only)
  (repeat' split) <;> first | (simp; done) | ((repeat' apply And.intro) <;> first | rfl | simp)

@[simp] theorem writeStep_frame (s : State) (i : Nat) (r : StepRec) :
    (s.writeStep i r).powered = s.powered ∧ (s.writeStep i r).now = s.now ∧ (s.writeStep i r).free = s.free ∧
      (s.writeStep i r).aq = s.aq ∧ (s.writeStep i r).tmc = s.tmc ∧ (s.writeStep i r).lmc = s.lmc ∧
      (s.writeStep i r).thc = s.thc ∧ (s.writeStep i r).ttc = s.ttc ∧ (s.writeStep i r).cud = s.cud ∧
      (s.writeStep i r).rpd = s.rpd ∧ (s.writeStep i r).lki = s.lki ∧ (s.writeStep i r).cnt = s.cnt ∧
      (s.writeStep i r).sts = s.sts ∧ (s.writeStep i r).pending = s.pending ∧
      (s.writeStep i r).ssq.head = s.ssq.head ∧ (s.writeStep i r).ssq.st = s.ssq.st ∧
      (s.writeStep i r).ssq.ptr = s.ssq.ptr ∧ (s.writeStep i r).ssq.pend = s.ssq.pend ∧
      (s.writeStep i r).ssq.remembered = s.ssq.remembered := by
  unfold State.writeStep; (try unfold State.whenDue); (try dsimp only)
  (repeat' split) <;> first | (simp; done) | ((repeat' apply And.intro) <;> first | rfl | simp)

@[simp] theorem afterWrite_frame (s : State) :
    s.afterWrite.powered = s.powered ∧ s.afterWrite.now = s.now ∧ s.afterWrite.free = s.free ∧
      s.afterWrite.aq = s.aq ∧ s.afterWrite.tmc = s.tmc ∧ s.afterWrite.lmc = s.lmc ∧ s.afterWrite.thc = s.thc ∧
      s.afterWrite.ttc = s.ttc ∧ s.afterWrite.cud = s.cud ∧ s.afterWrite.rpd = s.rpd ∧ s.afterWrite.lki = s.lki ∧
      s.afterWrite.cnt = s.cnt ∧ s.afterWrite.sts = s.sts ∧ s.afterWrite.pending = s.pending ∧
      s.afterWrite.ssq.steps = s.ssq.steps ∧ s.afterWrite.ssq.head = s.ssq.head ∧
      s.afterWrite.ssq.pend = s.ssq.pend ∧ s.afterWrite.ssq.remembered = s.ssq.remembered := by
  unfold State.afterWrite; (try unfold State.whenDue); (try dsimp only)
  (repeat' split) <;> first | (simp; done) | ((repeat' apply And.intro) <;> first | rfl | simp)

@[simp] theorem reqStepWrite_frame (index mode : Byte) (record : List Byte) (s : State) :
    (reqStepWrite index mode record s).state.powered = s.powered ∧
      (reqStepWrite index mode record s).state.now = s.now ∧
      (reqStepWrite index mode record s).state.free = s.free ∧
      (reqStepWrite index mode record s).state.cud = s.cud ∧
      (reqStepWrite index mode record s).state.rpd = s.rpd ∧
      (reqStepWrite index mode record s).state.pending = s.pending ∧
      (reqStepWrite index mode record s).state.aq.mode = s.aq.mode ∧
      (reqStepWrite index mode record s).state.aq.startMode = s.aq.startMode ∧
      (reqStepWrite index mode record s).state.tmc.lifter = s.tmc.lifter ∧
      (reqStepWrite index mode record s).state.tmc.trayDrive = s.tmc.trayDrive ∧
      (reqStepWrite index mode record s).state.tmc.qualDue = s.tmc.qualDue ∧
      (reqStepWrite index mode record s).state.tmc.trayPresent = s.tmc.trayPresent ∧
      (reqStepWrite index mode record s).state.tmc.slots = s.tmc.slots ∧
      (reqStepWrite index mode record s).state.tmc.size = s.tmc.size ∧
      (reqStepWrite index mode record s).state.tmc.pos = s.tmc.pos ∧
      (reqStepWrite index mode record s).state.tmc.gate = s.tmc.gate ∧
      (reqStepWrite index mode record s).state.tmc.jam = s.tmc.jam ∧
      (reqStepWrite index mode record s).state.tmc.comparePos = s.tmc.comparePos ∧
      (reqStepWrite index mode record s).state.tmc.par = s.tmc.par ∧
      (reqStepWrite index mode record s).state.lmc.active = s.lmc.active ∧
      (reqStepWrite index mode record s).state.lmc.outLevel = s.lmc.outLevel ∧
      (reqStepWrite index mode record s).state.lmc.level = s.lmc.level ∧
      (reqStepWrite index mode record s).state.lmc.par = s.lmc.par ∧
      (reqStepWrite index mode record s).state.thc.trip = s.thc.trip ∧
      (reqStepWrite index mode record s).state.thc.fanFault = s.thc.fanFault ∧
      (reqStepWrite index mode record s).state.thc.power = s.thc.power ∧
      (reqStepWrite index mode record s).state.thc.lost = s.thc.lost ∧
      (reqStepWrite index mode record s).state.thc.loss30 = s.thc.loss30 ∧
      (reqStepWrite index mode record s).state.thc.par = s.thc.par ∧
      (reqStepWrite index mode record s).state.thc.tm = s.thc.tm ∧
      (reqStepWrite index mode record s).state.thc.hq = s.thc.hq ∧
      (reqStepWrite index mode record s).state.thc.cEff = s.thc.cEff ∧
      (reqStepWrite index mode record s).state.ttc.st = s.ttc.st ∧
      (reqStepWrite index mode record s).state.ttc.curVol = s.ttc.curVol ∧
      (reqStepWrite index mode record s).state.ttc.servo = s.ttc.servo ∧
      (reqStepWrite index mode record s).state.lki.rx = s.lki.rx ∧
      (reqStepWrite index mode record s).state.lki.resp = s.lki.resp ∧
      (reqStepWrite index mode record s).state.lki.addr = s.lki.addr ∧
      (reqStepWrite index mode record s).state.lki.assignTaken = s.lki.assignTaken ∧
      (reqStepWrite index mode record s).state.lki.copies = s.lki.copies ∧
      (reqStepWrite index mode record s).state.lki.enables = s.lki.enables ∧
      (reqStepWrite index mode record s).state.cnt.snap = s.cnt.snap ∧
      (reqStepWrite index mode record s).state.cnt.number = s.cnt.number ∧
      (reqStepWrite index mode record s).state.sts.record = s.sts.record ∧
      (reqStepWrite index mode record s).state.sts.serial = s.sts.serial ∧
      (reqStepWrite index mode record s).state.sts.storeLost = s.sts.storeLost := by
  unfold reqStepWrite; (try unfold State.whenDue); (try dsimp only)
  (repeat' split) <;> first | (simp; done) | ((repeat' apply And.intro) <;> first | rfl | simp)

@[simp] theorem reqStepRead_frame (index : Byte) (s : State) :
    (reqStepRead index s).state.powered = s.powered ∧ (reqStepRead index s).state.now = s.now ∧
      (reqStepRead index s).state.free = s.free ∧ (reqStepRead index s).state.aq = s.aq ∧
      (reqStepRead index s).state.tmc = s.tmc ∧ (reqStepRead index s).state.lmc = s.lmc ∧
      (reqStepRead index s).state.thc = s.thc ∧ (reqStepRead index s).state.ttc = s.ttc ∧
      (reqStepRead index s).state.cud = s.cud ∧ (reqStepRead index s).state.ssq = s.ssq ∧
      (reqStepRead index s).state.rpd = s.rpd ∧ (reqStepRead index s).state.lki = s.lki ∧
      (reqStepRead index s).state.cnt = s.cnt ∧ (reqStepRead index s).state.sts = s.sts ∧
      (reqStepRead index s).state.pending = s.pending := by
  unfold reqStepRead; (try unfold State.whenDue); (try dsimp only)
  (repeat' split) <;> first | (simp; done) | ((repeat' apply And.intro) <;> first | rfl | simp)

@[simp] theorem reqSlotFlags_frame (first last flag : Byte) (s : State) :
    (reqSlotFlags first last flag s).state.powered = s.powered ∧ (reqSlotFlags first last flag s).state.now = s.now ∧
      (reqSlotFlags first last flag s).state.free = s.free ∧ (reqSlotFlags first last flag s).state.aq = s.aq ∧
      (reqSlotFlags first last flag s).state.lmc = s.lmc ∧ (reqSlotFlags first last flag s).state.thc = s.thc ∧
      (reqSlotFlags first last flag s).state.ttc = s.ttc ∧ (reqSlotFlags first last flag s).state.cud = s.cud ∧
      (reqSlotFlags first last flag s).state.ssq = s.ssq ∧ (reqSlotFlags first last flag s).state.rpd = s.rpd ∧
      (reqSlotFlags first last flag s).state.lki = s.lki ∧ (reqSlotFlags first last flag s).state.cnt = s.cnt ∧
      (reqSlotFlags first last flag s).state.sts = s.sts ∧
      (reqSlotFlags first last flag s).state.pending = s.pending ∧
      (reqSlotFlags first last flag s).state.tmc.st = s.tmc.st ∧
      (reqSlotFlags first last flag s).state.tmc.phase = s.tmc.phase ∧
      (reqSlotFlags first last flag s).state.tmc.timer = s.tmc.timer ∧
      (reqSlotFlags first last flag s).state.tmc.lifter = s.tmc.lifter ∧
      (reqSlotFlags first last flag s).state.tmc.trayDrive = s.tmc.trayDrive ∧
      (reqSlotFlags first last flag s).state.tmc.qualDue = s.tmc.qualDue ∧
      (reqSlotFlags first last flag s).state.tmc.trayPresent = s.tmc.trayPresent ∧
      (reqSlotFlags first last flag s).state.tmc.size = s.tmc.size ∧
      (reqSlotFlags first last flag s).state.tmc.pos = s.tmc.pos ∧
      (reqSlotFlags first last flag s).state.tmc.gate = s.tmc.gate ∧
      (reqSlotFlags first last flag s).state.tmc.jam = s.tmc.jam ∧
      (reqSlotFlags first last flag s).state.tmc.comparePos = s.tmc.comparePos ∧
      (reqSlotFlags first last flag s).state.tmc.par = s.tmc.par := by
  unfold reqSlotFlags; (try unfold State.whenDue); (try dsimp only)
  (repeat' split) <;> first | (simp; done) | ((repeat' apply And.intro) <;> first | rfl | simp)

@[simp] theorem reqSlotRead_frame (first count : Byte) (s : State) :
    (reqSlotRead first count s).state.powered = s.powered ∧ (reqSlotRead first count s).state.now = s.now ∧
      (reqSlotRead first count s).state.free = s.free ∧ (reqSlotRead first count s).state.aq = s.aq ∧
      (reqSlotRead first count s).state.tmc = s.tmc ∧ (reqSlotRead first count s).state.lmc = s.lmc ∧
      (reqSlotRead first count s).state.thc = s.thc ∧ (reqSlotRead first count s).state.ttc = s.ttc ∧
      (reqSlotRead first count s).state.cud = s.cud ∧ (reqSlotRead first count s).state.ssq = s.ssq ∧
      (reqSlotRead first count s).state.rpd = s.rpd ∧ (reqSlotRead first count s).state.lki = s.lki ∧
      (reqSlotRead first count s).state.cnt = s.cnt ∧ (reqSlotRead first count s).state.sts = s.sts ∧
      (reqSlotRead first count s).state.pending = s.pending := by
  unfold reqSlotRead; (try unfold State.whenDue); (try dsimp only)
  (repeat' split) <;> first | (simp; done) | ((repeat' apply And.intro) <;> first | rfl | simp)

@[simp] theorem reqCountersRead_frame (group : Byte) (s : State) :
    (reqCountersRead group s).state.powered = s.powered ∧ (reqCountersRead group s).state.now = s.now ∧
      (reqCountersRead group s).state.free = s.free ∧ (reqCountersRead group s).state.aq = s.aq ∧
      (reqCountersRead group s).state.tmc = s.tmc ∧ (reqCountersRead group s).state.lmc = s.lmc ∧
      (reqCountersRead group s).state.thc = s.thc ∧ (reqCountersRead group s).state.ttc = s.ttc ∧
      (reqCountersRead group s).state.cud = s.cud ∧ (reqCountersRead group s).state.ssq = s.ssq ∧
      (reqCountersRead group s).state.rpd = s.rpd ∧ (reqCountersRead group s).state.lki = s.lki ∧
      (reqCountersRead group s).state.cnt = s.cnt ∧ (reqCountersRead group s).state.sts = s.sts ∧
      (reqCountersRead group s).state.pending = s.pending := by
  unfold reqCountersRead; (try unfold State.whenDue); (try dsimp only)
  (repeat' split) <;> first | (simp; done) | ((repeat' apply And.intro) <;> first | rfl | simp)

@[simp] theorem reqNoticePoll_frame (s : State) :
    (reqNoticePoll s).state.powered = s.powered ∧ (reqNoticePoll s).state.now = s.now ∧
      (reqNoticePoll s).state.free = s.free ∧ (reqNoticePoll s).state.aq = s.aq ∧
      (reqNoticePoll s).state.tmc = s.tmc ∧ (reqNoticePoll s).state.lmc = s.lmc ∧
      (reqNoticePoll s).state.thc = s.thc ∧ (reqNoticePoll s).state.ttc = s.ttc ∧
      (reqNoticePoll s).state.cud = s.cud ∧ (reqNoticePoll s).state.ssq = s.ssq ∧
      (reqNoticePoll s).state.rpd = s.rpd ∧ (reqNoticePoll s).state.cnt = s.cnt ∧
      (reqNoticePoll s).state.sts = s.sts ∧ (reqNoticePoll s).state.pending = s.pending ∧
      (reqNoticePoll s).state.lki.rx = s.lki.rx ∧ (reqNoticePoll s).state.lki.resp = s.lki.resp ∧
      (reqNoticePoll s).state.lki.addr = s.lki.addr ∧
      (reqNoticePoll s).state.lki.assignTaken = s.lki.assignTaken ∧
      (reqNoticePoll s).state.lki.resetting = s.lki.resetting ∧
      (reqNoticePoll s).state.lki.copies = s.lki.copies ∧ (reqNoticePoll s).state.lki.enables = s.lki.enables := by
  unfold reqNoticePoll; (try unfold State.whenDue); (try dsimp only)
  (repeat' split) <;> first | (simp; done) | ((repeat' apply And.intro) <;> first | rfl | simp)

@[simp] theorem reqNoticeEnable_frame (kind flag : Byte) (s : State) :
    (reqNoticeEnable kind flag s).state.powered = s.powered ∧ (reqNoticeEnable kind flag s).state.now = s.now ∧
      (reqNoticeEnable kind flag s).state.free = s.free ∧ (reqNoticeEnable kind flag s).state.aq = s.aq ∧
      (reqNoticeEnable kind flag s).state.tmc = s.tmc ∧ (reqNoticeEnable kind flag s).state.lmc = s.lmc ∧
      (reqNoticeEnable kind flag s).state.thc = s.thc ∧ (reqNoticeEnable kind flag s).state.ttc = s.ttc ∧
      (reqNoticeEnable kind flag s).state.cud = s.cud ∧ (reqNoticeEnable kind flag s).state.ssq = s.ssq ∧
      (reqNoticeEnable kind flag s).state.rpd = s.rpd ∧ (reqNoticeEnable kind flag s).state.cnt = s.cnt ∧
      (reqNoticeEnable kind flag s).state.sts = s.sts ∧ (reqNoticeEnable kind flag s).state.pending = s.pending ∧
      (reqNoticeEnable kind flag s).state.lki.rx = s.lki.rx ∧
      (reqNoticeEnable kind flag s).state.lki.resp = s.lki.resp ∧
      (reqNoticeEnable kind flag s).state.lki.addr = s.lki.addr ∧
      (reqNoticeEnable kind flag s).state.lki.assignTaken = s.lki.assignTaken ∧
      (reqNoticeEnable kind flag s).state.lki.resetting = s.lki.resetting ∧
      (reqNoticeEnable kind flag s).state.lki.copies = s.lki.copies := by
  unfold reqNoticeEnable; (try unfold State.whenDue); (try dsimp only)
  (repeat' split) <;> first | (simp; done) | ((repeat' apply And.intro) <;> first | rfl | simp)

@[simp] theorem resetLampRec_frame (s : State) (p : LampPos) :
    (s.resetLampRec p).powered = s.powered ∧ (s.resetLampRec p).now = s.now ∧ (s.resetLampRec p).free = s.free ∧
      (s.resetLampRec p).aq = s.aq ∧ (s.resetLampRec p).tmc = s.tmc ∧ (s.resetLampRec p).thc = s.thc ∧
      (s.resetLampRec p).ttc = s.ttc ∧ (s.resetLampRec p).cud = s.cud ∧ (s.resetLampRec p).ssq = s.ssq ∧
      (s.resetLampRec p).rpd = s.rpd ∧ (s.resetLampRec p).cnt = s.cnt ∧ (s.resetLampRec p).sts = s.sts ∧
      (s.resetLampRec p).pending = s.pending ∧ (s.resetLampRec p).lmc.power = s.lmc.power ∧
      (s.resetLampRec p).lmc.active = s.lmc.active ∧ (s.resetLampRec p).lmc.blanks = s.lmc.blanks ∧
      (s.resetLampRec p).lmc.outLevel = s.lmc.outLevel ∧ (s.resetLampRec p).lmc.level = s.lmc.level ∧
      (s.resetLampRec p).lmc.par = s.lmc.par ∧ (s.resetLampRec p).lmc.outDrive = s.lmc.outDrive ∧
      (s.resetLampRec p).lki.rx = s.lki.rx ∧ (s.resetLampRec p).lki.resp = s.lki.resp ∧
      (s.resetLampRec p).lki.addr = s.lki.addr ∧ (s.resetLampRec p).lki.assignTaken = s.lki.assignTaken ∧
      (s.resetLampRec p).lki.resetting = s.lki.resetting ∧ (s.resetLampRec p).lki.copies = s.lki.copies ∧
      (s.resetLampRec p).lki.enables = s.lki.enables := by
  unfold State.resetLampRec; (try unfold State.whenDue); (try dsimp only)
  (repeat' split) <;> first | (simp; done) | ((repeat' apply And.intro) <;> first | rfl | simp)

@[simp] theorem reqLampReset_frame (pos : Byte) (s : State) :
    (reqLampReset pos s).state.powered = s.powered ∧ (reqLampReset pos s).state.now = s.now ∧
      (reqLampReset pos s).state.free = s.free ∧ (reqLampReset pos s).state.aq = s.aq ∧
      (reqLampReset pos s).state.tmc = s.tmc ∧ (reqLampReset pos s).state.thc = s.thc ∧
      (reqLampReset pos s).state.ttc = s.ttc ∧ (reqLampReset pos s).state.cud = s.cud ∧
      (reqLampReset pos s).state.ssq = s.ssq ∧ (reqLampReset pos s).state.rpd = s.rpd ∧
      (reqLampReset pos s).state.cnt = s.cnt ∧ (reqLampReset pos s).state.sts = s.sts ∧
      (reqLampReset pos s).state.pending = s.pending ∧ (reqLampReset pos s).state.lmc.power = s.lmc.power ∧
      (reqLampReset pos s).state.lmc.active = s.lmc.active ∧
      (reqLampReset pos s).state.lmc.blanks = s.lmc.blanks ∧
      (reqLampReset pos s).state.lmc.outLevel = s.lmc.outLevel ∧
      (reqLampReset pos s).state.lmc.level = s.lmc.level ∧ (reqLampReset pos s).state.lmc.par = s.lmc.par ∧
      (reqLampReset pos s).state.lmc.outDrive = s.lmc.outDrive ∧ (reqLampReset pos s).state.lki.rx = s.lki.rx ∧
      (reqLampReset pos s).state.lki.resp = s.lki.resp ∧ (reqLampReset pos s).state.lki.addr = s.lki.addr ∧
      (reqLampReset pos s).state.lki.assignTaken = s.lki.assignTaken ∧
      (reqLampReset pos s).state.lki.resetting = s.lki.resetting ∧
      (reqLampReset pos s).state.lki.copies = s.lki.copies ∧
      (reqLampReset pos s).state.lki.enables = s.lki.enables := by
  unfold reqLampReset; (try unfold State.whenDue); (try dsimp only)
  (repeat' split) <;> first | (simp; done) | ((repeat' apply And.intro) <;> first | rfl | simp)

@[simp] theorem reqAssign_frame (serial : BitVec 32) (addr : Byte) (s : State) :
    (reqAssign serial addr s).state.powered = s.powered ∧ (reqAssign serial addr s).state.now = s.now ∧
      (reqAssign serial addr s).state.free = s.free ∧ (reqAssign serial addr s).state.aq = s.aq ∧
      (reqAssign serial addr s).state.tmc = s.tmc ∧ (reqAssign serial addr s).state.lmc = s.lmc ∧
      (reqAssign serial addr s).state.thc = s.thc ∧ (reqAssign serial addr s).state.ttc = s.ttc ∧
      (reqAssign serial addr s).state.cud = s.cud ∧ (reqAssign serial addr s).state.ssq = s.ssq ∧
      (reqAssign serial addr s).state.rpd = s.rpd ∧ (reqAssign serial addr s).state.cnt = s.cnt ∧
      (reqAssign serial addr s).state.sts = s.sts ∧ (reqAssign serial addr s).state.pending = s.pending ∧
      (reqAssign serial addr s).state.lki.rx = s.lki.rx ∧ (reqAssign serial addr s).state.lki.resp = s.lki.resp ∧
      (reqAssign serial addr s).state.lki.resetting = s.lki.resetting ∧
      (reqAssign serial addr s).state.lki.copies = s.lki.copies ∧
      (reqAssign serial addr s).state.lki.notices = s.lki.notices ∧
      (reqAssign serial addr s).state.lki.attn = s.lki.attn ∧
      (reqAssign serial addr s).state.lki.enables = s.lki.enables := by
  unfold reqAssign; (try unfold State.whenDue); (try dsimp only)
  (repeat' split) <;> first | (simp; done) | ((repeat' apply And.intro) <;> first | rfl | simp)

@[simp] theorem resetLampBlock_frame (s : State) :
    s.resetLampBlock.powered = s.powered ∧ s.resetLampBlock.now = s.now ∧ s.resetLampBlock.free = s.free ∧
      s.resetLampBlock.aq = s.aq ∧ s.resetLampBlock.tmc = s.tmc ∧ s.resetLampBlock.thc = s.thc ∧
      s.resetLampBlock.ttc = s.ttc ∧ s.resetLampBlock.cud = s.cud ∧ s.resetLampBlock.ssq = s.ssq ∧
      s.resetLampBlock.rpd = s.rpd ∧ s.resetLampBlock.lki = s.lki ∧ s.resetLampBlock.cnt = s.cnt ∧
      s.resetLampBlock.sts = s.sts ∧ s.resetLampBlock.pending = s.pending ∧
      s.resetLampBlock.lmc.power = s.lmc.power ∧ s.resetLampBlock.lmc.active = s.lmc.active ∧
      s.resetLampBlock.lmc.blanks.mech = s.lmc.blanks.mech ∧ s.resetLampBlock.lmc.outLevel = s.lmc.outLevel ∧
      s.resetLampBlock.lmc.par = s.lmc.par ∧ s.resetLampBlock.lmc.outDrive = s.lmc.outDrive := by
  unfold State.resetLampBlock; (try unfold State.whenDue); (try dsimp only)
  (repeat' split) <;> first | (simp; done) | ((repeat' apply And.intro) <;> first | rfl | simp)

@[simp] theorem resetShow_frame (s : State) :
    s.resetShow.powered = s.powered ∧ s.resetShow.now = s.now ∧ s.resetShow.free = s.free ∧ s.resetShow.aq = s.aq ∧
      s.resetShow.tmc = s.tmc ∧ s.resetShow.lmc = s.lmc ∧ s.resetShow.thc = s.thc ∧ s.resetShow.ttc = s.ttc ∧
      s.resetShow.cud = s.cud ∧ s.resetShow.rpd = s.rpd ∧ s.resetShow.lki = s.lki ∧ s.resetShow.cnt = s.cnt ∧
      s.resetShow.sts = s.sts ∧ s.resetShow.pending = s.pending ∧ s.resetShow.ssq.steps = s.ssq.steps := by
  unfold State.resetShow; (try unfold State.whenDue); (try dsimp only)
  (repeat' split) <;> first | (simp; done) | ((repeat' apply And.intro) <;> first | rfl | simp)

@[simp] theorem resetTape_frame (s : State) :
    s.resetTape.powered = s.powered ∧ s.resetTape.now = s.now ∧ s.resetTape.free = s.free ∧ s.resetTape.aq = s.aq ∧
      s.resetTape.tmc = s.tmc ∧ s.resetTape.lmc = s.lmc ∧ s.resetTape.thc = s.thc ∧ s.resetTape.cud = s.cud ∧
      s.resetTape.ssq = s.ssq ∧ s.resetTape.rpd = s.rpd ∧ s.resetTape.lki = s.lki ∧ s.resetTape.cnt = s.cnt ∧
      s.resetTape.sts = s.sts ∧ s.resetTape.pending = s.pending ∧ s.resetTape.ttc.curVol = s.ttc.curVol ∧
      s.resetTape.ttc.servo = s.ttc.servo := by
  unfold State.resetTape; (try unfold State.whenDue); (try dsimp only)
  (repeat' split) <;> first | (simp; done) | ((repeat' apply And.intro) <;> first | rfl | simp)

@[simp] theorem resetQueue_frame (s : State) :
    s.resetQueue.powered = s.powered ∧ s.resetQueue.now = s.now ∧ s.resetQueue.free = s.free ∧
      s.resetQueue.thc = s.thc ∧ s.resetQueue.ttc = s.ttc ∧ s.resetQueue.cud = s.cud ∧
      s.resetQueue.rpd = s.rpd ∧ s.resetQueue.cnt = s.cnt ∧ s.resetQueue.sts = s.sts ∧
      s.resetQueue.pending = s.pending ∧ s.resetQueue.aq.startMode = s.aq.startMode ∧
      s.resetQueue.tmc.st = s.tmc.st ∧ s.resetQueue.tmc.phase = s.tmc.phase ∧
      s.resetQueue.tmc.timer = s.tmc.timer ∧ s.resetQueue.tmc.lifter = s.tmc.lifter ∧
      s.resetQueue.tmc.trayDrive = s.tmc.trayDrive ∧ s.resetQueue.tmc.qualDue = s.tmc.qualDue ∧
      s.resetQueue.tmc.trayPresent = s.tmc.trayPresent ∧ s.resetQueue.tmc.slots = s.tmc.slots ∧
      s.resetQueue.tmc.size = s.tmc.size ∧ s.resetQueue.tmc.pos = s.tmc.pos ∧ s.resetQueue.tmc.gate = s.tmc.gate ∧
      s.resetQueue.tmc.jam = s.tmc.jam ∧ s.resetQueue.tmc.comparePos = s.tmc.comparePos ∧
      s.resetQueue.tmc.par = s.tmc.par ∧ s.resetQueue.lmc.power = s.lmc.power ∧
      s.resetQueue.lmc.active = s.lmc.active ∧ s.resetQueue.lmc.blanks = s.lmc.blanks ∧
      s.resetQueue.lmc.outLevel = s.lmc.outLevel ∧ s.resetQueue.lmc.level = s.lmc.level ∧
      s.resetQueue.lmc.par = s.lmc.par ∧ s.resetQueue.lmc.outDrive = s.lmc.outDrive ∧
      s.resetQueue.ssq.steps = s.ssq.steps ∧ s.resetQueue.ssq.head = s.ssq.head ∧
      s.resetQueue.ssq.remembered = s.ssq.remembered ∧ s.resetQueue.lki.rx = s.lki.rx ∧
      s.resetQueue.lki.resp = s.lki.resp ∧ s.resetQueue.lki.addr = s.lki.addr ∧
      s.resetQueue.lki.assignTaken = s.lki.assignTaken ∧ s.resetQueue.lki.resetting = s.lki.resetting ∧
      s.resetQueue.lki.copies = s.lki.copies ∧ s.resetQueue.lki.enables = s.lki.enables := by
  unfold State.resetQueue; (try unfold State.whenDue); (try dsimp only)
  (repeat' split) <;> first | (simp; done) | ((repeat' apply And.intro) <;> first | rfl | simp)

/-- R165: while the show does not run, a report inside a rule of SSQ changes nothing of SSQ or LKI. -/
theorem reportAll_quiet (l : List (Option Nat × Manner)) (s : State) (h : s.ssq.st ≠ .RUNNING) :
    (s.reportAll false l).ssq = s.ssq ∧ (s.reportAll false l).lki = s.lki := by
  induction l generalizing s with
  | nil => simp [State.reportAll]
  | cons d l ih =>
    have hr : (s.report false d.1 d.2).ssq = s.ssq ∧ (s.report false d.1 d.2).lki = s.lki := by
      simp [State.report, State.endTest, h]
    have := ih (s.report false d.1 d.2) (by rw [hr.1]; exact h)
    simp only [State.reportAll, List.foldl_cons] at this ⊢
    exact ⟨this.1.trans hr.1, this.2.trans hr.2⟩

/-- R165: SSQ and LKI take no action at the reports of a unit reset's flush. -/
theorem resetQueue_quiet (s : State) (h : s.ssq.st ≠ .RUNNING) :
    s.resetQueue.ssq = s.ssq ∧ s.resetQueue.lki = s.lki := by
  have := reportAll_quiet
    (flushReports false (s.aq.queue.filter (fun e => !staysThrough coverAll false e)))
    (State.flushQueue (s.setAq { s.aq with mode := s.aq.startMode, stopPending := false }) coverAll false)
    (by simpa using h)
  simpa [State.resetQueue, State.flushReported] using this

@[simp] theorem resetMech_frame (s : State) :
    s.resetMech.powered = s.powered ∧ s.resetMech.now = s.now ∧ s.resetMech.free = s.free ∧ s.resetMech.aq = s.aq ∧
      s.resetMech.thc = s.thc ∧ s.resetMech.ttc = s.ttc ∧ s.resetMech.cud = s.cud ∧ s.resetMech.ssq = s.ssq ∧
      s.resetMech.rpd = s.rpd ∧ s.resetMech.cnt = s.cnt ∧ s.resetMech.sts = s.sts ∧
      s.resetMech.pending = s.pending ∧ s.resetMech.tmc.lifter = s.tmc.lifter ∧
      s.resetMech.tmc.trayDrive = s.tmc.trayDrive ∧ s.resetMech.tmc.qualDue = s.tmc.qualDue ∧
      s.resetMech.tmc.trayPresent = s.tmc.trayPresent ∧ s.resetMech.tmc.slots = s.tmc.slots ∧
      s.resetMech.tmc.size = s.tmc.size ∧ s.resetMech.tmc.pos = s.tmc.pos ∧ s.resetMech.tmc.gate = s.tmc.gate ∧
      s.resetMech.tmc.jam = s.tmc.jam ∧ s.resetMech.tmc.par = s.tmc.par ∧ s.resetMech.lmc.power = s.lmc.power ∧
      s.resetMech.lmc.active = s.lmc.active ∧ s.resetMech.lmc.outLevel = s.lmc.outLevel ∧
      s.resetMech.lmc.level = s.lmc.level ∧ s.resetMech.lmc.par = s.lmc.par ∧
      s.resetMech.lmc.outDrive = s.lmc.outDrive ∧ s.resetMech.lki.rx = s.lki.rx ∧
      s.resetMech.lki.resp = s.lki.resp ∧ s.resetMech.lki.addr = s.lki.addr ∧
      s.resetMech.lki.assignTaken = s.lki.assignTaken ∧ s.resetMech.lki.resetting = s.lki.resetting ∧
      s.resetMech.lki.copies = s.lki.copies ∧ s.resetMech.lki.enables = s.lki.enables := by
  unfold State.resetMech; (try unfold State.whenDue); (try dsimp only)
  (repeat' split) <;> first | (simp; done) | ((repeat' apply And.intro) <;> first | rfl | simp)

@[simp] theorem unitReset_frame (s : State) :
    s.unitReset.powered = s.powered ∧ s.unitReset.now = s.now ∧ s.unitReset.free = s.free ∧
      s.unitReset.pending = s.pending ∧ s.unitReset.aq.startMode = s.aq.startMode ∧
      s.unitReset.tmc.lifter = s.tmc.lifter ∧ s.unitReset.tmc.trayDrive = s.tmc.trayDrive ∧
      s.unitReset.tmc.qualDue = s.tmc.qualDue ∧ s.unitReset.tmc.trayPresent = s.tmc.trayPresent ∧
      s.unitReset.tmc.slots = s.tmc.slots ∧ s.unitReset.tmc.size = s.tmc.size ∧ s.unitReset.tmc.pos = s.tmc.pos ∧
      s.unitReset.tmc.gate = s.tmc.gate ∧ s.unitReset.tmc.jam = s.tmc.jam ∧ s.unitReset.tmc.par = s.tmc.par ∧
      s.unitReset.lmc.active = s.lmc.active ∧ s.unitReset.lmc.outLevel = s.lmc.outLevel ∧
      s.unitReset.lmc.par = s.lmc.par ∧ s.unitReset.thc.trip = s.thc.trip ∧
      s.unitReset.thc.fanFault = s.thc.fanFault ∧ s.unitReset.thc.power = s.thc.power ∧
      s.unitReset.thc.lost = s.thc.lost ∧ s.unitReset.thc.loss30 = s.thc.loss30 ∧
      s.unitReset.thc.par = s.thc.par ∧ s.unitReset.thc.tm = s.thc.tm ∧ s.unitReset.thc.hq = s.thc.hq ∧
      s.unitReset.thc.cEff = s.thc.cEff ∧ s.unitReset.ttc.curVol = s.ttc.curVol ∧
      s.unitReset.ttc.servo = s.ttc.servo ∧ s.unitReset.ssq.steps = s.ssq.steps ∧ s.unitReset.lki.rx = s.lki.rx ∧
      s.unitReset.lki.resp = s.lki.resp ∧ s.unitReset.lki.addr = s.lki.addr ∧
      s.unitReset.lki.assignTaken = s.lki.assignTaken ∧ s.unitReset.lki.enables = s.lki.enables ∧
      s.unitReset.cnt.snap = s.cnt.snap ∧ s.unitReset.cnt.number = s.cnt.number ∧
      s.unitReset.rpd.channel = s.rpd.channel ∧ s.unitReset.sts.record = s.sts.record ∧
      s.unitReset.sts.serial = s.sts.serial ∧ s.unitReset.sts.storeLost = s.sts.storeLost := by
  unfold State.unitReset; (try unfold State.whenDue); (try dsimp only)
  (repeat' split) <;> first | (simp; done) | ((repeat' apply And.intro) <;> first | rfl | simp)

@[simp] theorem reqUnitReset_frame (s : State) :
    (reqUnitReset s).state.powered = s.powered ∧ (reqUnitReset s).state.now = s.now ∧
      (reqUnitReset s).state.free = s.free ∧ (reqUnitReset s).state.pending = s.pending ∧
      (reqUnitReset s).state.aq.startMode = s.aq.startMode ∧ (reqUnitReset s).state.tmc.lifter = s.tmc.lifter ∧
      (reqUnitReset s).state.tmc.trayDrive = s.tmc.trayDrive ∧
      (reqUnitReset s).state.tmc.qualDue = s.tmc.qualDue ∧
      (reqUnitReset s).state.tmc.trayPresent = s.tmc.trayPresent ∧
      (reqUnitReset s).state.tmc.slots = s.tmc.slots ∧ (reqUnitReset s).state.tmc.size = s.tmc.size ∧
      (reqUnitReset s).state.tmc.pos = s.tmc.pos ∧ (reqUnitReset s).state.tmc.gate = s.tmc.gate ∧
      (reqUnitReset s).state.tmc.jam = s.tmc.jam ∧ (reqUnitReset s).state.tmc.par = s.tmc.par ∧
      (reqUnitReset s).state.lmc.active = s.lmc.active ∧ (reqUnitReset s).state.lmc.outLevel = s.lmc.outLevel ∧
      (reqUnitReset s).state.lmc.par = s.lmc.par ∧ (reqUnitReset s).state.thc.trip = s.thc.trip ∧
      (reqUnitReset s).state.thc.fanFault = s.thc.fanFault ∧ (reqUnitReset s).state.thc.power = s.thc.power ∧
      (reqUnitReset s).state.thc.lost = s.thc.lost ∧ (reqUnitReset s).state.thc.loss30 = s.thc.loss30 ∧
      (reqUnitReset s).state.thc.par = s.thc.par ∧ (reqUnitReset s).state.thc.tm = s.thc.tm ∧
      (reqUnitReset s).state.thc.hq = s.thc.hq ∧ (reqUnitReset s).state.thc.cEff = s.thc.cEff ∧
      (reqUnitReset s).state.ttc.curVol = s.ttc.curVol ∧ (reqUnitReset s).state.ttc.servo = s.ttc.servo ∧
      (reqUnitReset s).state.ssq.steps = s.ssq.steps ∧ (reqUnitReset s).state.lki.rx = s.lki.rx ∧
      (reqUnitReset s).state.lki.resp = s.lki.resp ∧ (reqUnitReset s).state.lki.addr = s.lki.addr ∧
      (reqUnitReset s).state.lki.assignTaken = s.lki.assignTaken ∧
      (reqUnitReset s).state.lki.enables = s.lki.enables ∧ (reqUnitReset s).state.cnt.snap = s.cnt.snap ∧
      (reqUnitReset s).state.cnt.number = s.cnt.number ∧ (reqUnitReset s).state.rpd.channel = s.rpd.channel ∧
      (reqUnitReset s).state.sts.record = s.sts.record ∧ (reqUnitReset s).state.sts.serial = s.sts.serial ∧
      (reqUnitReset s).state.sts.storeLost = s.sts.storeLost := by
  unfold reqUnitReset; (try unfold State.whenDue); (try dsimp only)
  (repeat' split) <;> first | (simp; done) | ((repeat' apply And.intro) <;> first | rfl | simp)

@[simp] theorem respond_frame (s : State) (own kind dest : Byte) (a : Answer) :
    (s.respond own kind dest a).powered = s.powered ∧ (s.respond own kind dest a).now = s.now ∧
      (s.respond own kind dest a).free = s.free ∧ (s.respond own kind dest a).aq = s.aq ∧
      (s.respond own kind dest a).tmc = s.tmc ∧ (s.respond own kind dest a).lmc = s.lmc ∧
      (s.respond own kind dest a).thc = s.thc ∧ (s.respond own kind dest a).ttc = s.ttc ∧
      (s.respond own kind dest a).cud = s.cud ∧ (s.respond own kind dest a).ssq = s.ssq ∧
      (s.respond own kind dest a).rpd = s.rpd ∧ (s.respond own kind dest a).cnt = s.cnt ∧
      (s.respond own kind dest a).sts = s.sts ∧ (s.respond own kind dest a).pending = s.pending ∧
      (s.respond own kind dest a).lki.rx = s.lki.rx ∧ (s.respond own kind dest a).lki.addr = s.lki.addr ∧
      (s.respond own kind dest a).lki.assignTaken = s.lki.assignTaken ∧
      (s.respond own kind dest a).lki.resetting = s.lki.resetting ∧
      (s.respond own kind dest a).lki.copies = s.lki.copies ∧
      (s.respond own kind dest a).lki.notices = s.lki.notices ∧
      (s.respond own kind dest a).lki.attn = s.lki.attn ∧
      (s.respond own kind dest a).lki.enables = s.lki.enables := by
  unfold State.respond; (try unfold State.whenDue); (try dsimp only)
  (repeat' split) <;> first | (simp; done) | ((repeat' apply And.intro) <;> first | rfl | simp)

@[simp] theorem withhold_frame (s : State) :
    s.withhold.powered = s.powered ∧ s.withhold.now = s.now ∧ s.withhold.free = s.free ∧ s.withhold.aq = s.aq ∧
      s.withhold.tmc = s.tmc ∧ s.withhold.lmc = s.lmc ∧ s.withhold.thc = s.thc ∧ s.withhold.ttc = s.ttc ∧
      s.withhold.cud = s.cud ∧ s.withhold.ssq = s.ssq ∧ s.withhold.rpd = s.rpd ∧ s.withhold.cnt = s.cnt ∧
      s.withhold.sts = s.sts ∧ s.withhold.pending = s.pending ∧ s.withhold.lki.rx = s.lki.rx ∧
      s.withhold.lki.addr = s.lki.addr ∧ s.withhold.lki.assignTaken = s.lki.assignTaken ∧
      s.withhold.lki.resetting = s.lki.resetting ∧ s.withhold.lki.copies = s.lki.copies ∧
      s.withhold.lki.notices = s.lki.notices ∧ s.withhold.lki.attn = s.lki.attn ∧
      s.withhold.lki.enables = s.lki.enables := by
  unfold State.withhold; (try unfold State.whenDue); (try dsimp only)
  (repeat' split) <;> first | (simp; done) | ((repeat' apply And.intro) <;> first | rfl | simp)

@[simp] theorem abandon_frame (s : State) :
    s.abandon.powered = s.powered ∧ s.abandon.now = s.now ∧ s.abandon.free = s.free ∧ s.abandon.aq = s.aq ∧
      s.abandon.tmc = s.tmc ∧ s.abandon.lmc = s.lmc ∧ s.abandon.thc = s.thc ∧ s.abandon.ttc = s.ttc ∧
      s.abandon.cud = s.cud ∧ s.abandon.ssq = s.ssq ∧ s.abandon.rpd = s.rpd ∧ s.abandon.sts = s.sts ∧
      s.abandon.pending = s.pending ∧ s.abandon.lki.resp = s.lki.resp ∧ s.abandon.lki.addr = s.lki.addr ∧
      s.abandon.lki.assignTaken = s.lki.assignTaken ∧ s.abandon.lki.resetting = s.lki.resetting ∧
      s.abandon.lki.copies = s.lki.copies ∧ s.abandon.lki.notices = s.lki.notices ∧
      s.abandon.lki.attn = s.lki.attn ∧ s.abandon.lki.enables = s.lki.enables ∧ s.abandon.cnt.snap = s.cnt.snap ∧
      s.abandon.cnt.number = s.cnt.number := by
  unfold State.abandon; (try unfold State.whenDue); (try dsimp only)
  (repeat' split) <;> first | (simp; done) | ((repeat' apply And.intro) <;> first | rfl | simp)

@[simp] theorem linkByteGapExpiry_frame (s : State) :
    (linkByteGapExpiry s).powered = s.powered ∧
      (linkByteGapExpiry s).free = s.free ∧ (linkByteGapExpiry s).aq = s.aq ∧ (linkByteGapExpiry s).tmc = s.tmc ∧
      (linkByteGapExpiry s).lmc = s.lmc ∧ (linkByteGapExpiry s).thc = s.thc ∧ (linkByteGapExpiry s).ttc = s.ttc ∧
      (linkByteGapExpiry s).cud = s.cud ∧ (linkByteGapExpiry s).ssq = s.ssq ∧ (linkByteGapExpiry s).rpd = s.rpd ∧
      (linkByteGapExpiry s).sts = s.sts ∧ (linkByteGapExpiry s).pending = s.pending ∧
      (linkByteGapExpiry s).lki.resp = s.lki.resp ∧ (linkByteGapExpiry s).lki.addr = s.lki.addr ∧
      (linkByteGapExpiry s).lki.assignTaken = s.lki.assignTaken ∧
      (linkByteGapExpiry s).lki.resetting = s.lki.resetting ∧ (linkByteGapExpiry s).lki.copies = s.lki.copies ∧
      (linkByteGapExpiry s).lki.notices = s.lki.notices ∧ (linkByteGapExpiry s).lki.attn = s.lki.attn ∧
      (linkByteGapExpiry s).lki.enables = s.lki.enables ∧ (linkByteGapExpiry s).cnt.snap = s.cnt.snap ∧
      (linkByteGapExpiry s).cnt.number = s.cnt.number := by
  unfold linkByteGapExpiry; (try unfold State.whenDue); (try dsimp only)
  (repeat' split) <;> first | (simp; done) | ((repeat' apply And.intro) <;> first | rfl | simp)

@[simp] theorem responseStart_frame (s : State) :
    (responseStart s).powered = s.powered ∧ (responseStart s).free = s.free ∧ (responseStart s).aq = s.aq ∧
      (responseStart s).tmc = s.tmc ∧ (responseStart s).lmc = s.lmc ∧ (responseStart s).thc = s.thc ∧
      (responseStart s).ttc = s.ttc ∧ (responseStart s).cud = s.cud ∧ (responseStart s).ssq = s.ssq ∧
      (responseStart s).rpd = s.rpd ∧ (responseStart s).cnt = s.cnt ∧ (responseStart s).sts = s.sts ∧
      (responseStart s).pending = s.pending ∧ (responseStart s).lki.rx = s.lki.rx ∧
      (responseStart s).lki.addr = s.lki.addr ∧ (responseStart s).lki.assignTaken = s.lki.assignTaken ∧
      (responseStart s).lki.resetting = s.lki.resetting ∧ (responseStart s).lki.copies = s.lki.copies ∧
      (responseStart s).lki.notices = s.lki.notices ∧ (responseStart s).lki.attn = s.lki.attn ∧
      (responseStart s).lki.enables = s.lki.enables := by
  unfold responseStart; (try unfold State.whenDue); (try dsimp only)
  (repeat' split) <;> first | (simp; done) | ((repeat' apply And.intro) <;> first | rfl | simp)

@[simp] theorem responseEnd_frame (s : State) :
    (responseEnd s).powered = s.powered ∧ (responseEnd s).now = s.now ∧ (responseEnd s).free = s.free ∧
      (responseEnd s).aq = s.aq ∧ (responseEnd s).tmc = s.tmc ∧ (responseEnd s).lmc = s.lmc ∧
      (responseEnd s).thc = s.thc ∧ (responseEnd s).ttc = s.ttc ∧ (responseEnd s).cud = s.cud ∧
      (responseEnd s).ssq = s.ssq ∧ (responseEnd s).rpd = s.rpd ∧ (responseEnd s).cnt = s.cnt ∧
      (responseEnd s).sts = s.sts ∧ (responseEnd s).pending = s.pending ∧ (responseEnd s).lki.rx = s.lki.rx ∧
      (responseEnd s).lki.addr = s.lki.addr ∧ (responseEnd s).lki.assignTaken = s.lki.assignTaken ∧
      (responseEnd s).lki.resetting = s.lki.resetting ∧ (responseEnd s).lki.copies = s.lki.copies ∧
      (responseEnd s).lki.notices = s.lki.notices ∧ (responseEnd s).lki.attn = s.lki.attn ∧
      (responseEnd s).lki.enables = s.lki.enables := by
  unfold responseEnd; (try unfold State.whenDue); (try dsimp only)
  (repeat' split) <;> first | (simp; done) | ((repeat' apply And.intro) <;> first | rfl | simp)

@[simp] theorem loseCarrier_frame (s : State) :
    s.loseCarrier.powered = s.powered ∧ s.loseCarrier.now = s.now ∧ s.loseCarrier.free = s.free ∧
      s.loseCarrier.aq = s.aq ∧ s.loseCarrier.tmc = s.tmc ∧ s.loseCarrier.lmc = s.lmc ∧
      s.loseCarrier.thc = s.thc ∧ s.loseCarrier.ttc = s.ttc ∧ s.loseCarrier.ssq = s.ssq ∧
      s.loseCarrier.rpd = s.rpd ∧ s.loseCarrier.sts = s.sts ∧ s.loseCarrier.pending = s.pending ∧
      s.loseCarrier.cud.par = s.cud.par ∧ s.loseCarrier.lki.rx = s.lki.rx ∧
      s.loseCarrier.lki.resp = s.lki.resp ∧ s.loseCarrier.lki.addr = s.lki.addr ∧
      s.loseCarrier.lki.assignTaken = s.lki.assignTaken ∧ s.loseCarrier.lki.resetting = s.lki.resetting ∧
      s.loseCarrier.lki.copies = s.lki.copies ∧ s.loseCarrier.lki.enables = s.lki.enables ∧
      s.loseCarrier.cnt.snap = s.cnt.snap ∧ s.loseCarrier.cnt.number = s.cnt.number := by
  unfold State.loseCarrier; dsimp only; split <;> simp

@[simp] theorem carrierTimerExpiry_frame (s : State) :
    (carrierTimerExpiry s).powered = s.powered ∧ (carrierTimerExpiry s).free = s.free ∧
      (carrierTimerExpiry s).aq = s.aq ∧ (carrierTimerExpiry s).tmc = s.tmc ∧
      (carrierTimerExpiry s).lmc = s.lmc ∧ (carrierTimerExpiry s).thc = s.thc ∧
      (carrierTimerExpiry s).ttc = s.ttc ∧ (carrierTimerExpiry s).ssq = s.ssq ∧
      (carrierTimerExpiry s).rpd = s.rpd ∧ (carrierTimerExpiry s).sts = s.sts ∧
      (carrierTimerExpiry s).pending = s.pending ∧ (carrierTimerExpiry s).cud.par = s.cud.par ∧
      (carrierTimerExpiry s).lki.rx = s.lki.rx ∧ (carrierTimerExpiry s).lki.resp = s.lki.resp ∧
      (carrierTimerExpiry s).lki.addr = s.lki.addr ∧
      (carrierTimerExpiry s).lki.assignTaken = s.lki.assignTaken ∧
      (carrierTimerExpiry s).lki.resetting = s.lki.resetting ∧
      (carrierTimerExpiry s).lki.copies = s.lki.copies ∧ (carrierTimerExpiry s).lki.enables = s.lki.enables ∧
      (carrierTimerExpiry s).cnt.snap = s.cnt.snap ∧ (carrierTimerExpiry s).cnt.number = s.cnt.number := by
  unfold carrierTimerExpiry State.whenDue; split <;> simp

@[simp] theorem setSource_frame (s : State) (v : CueSource) :
    (s.setSource v).powered = s.powered ∧ (s.setSource v).now = s.now ∧ (s.setSource v).free = s.free ∧
      (s.setSource v).aq = s.aq ∧ (s.setSource v).tmc = s.tmc ∧ (s.setSource v).lmc = s.lmc ∧
      (s.setSource v).thc = s.thc ∧ (s.setSource v).ttc = s.ttc ∧ (s.setSource v).ssq = s.ssq ∧
      (s.setSource v).rpd = s.rpd ∧ (s.setSource v).sts = s.sts ∧ (s.setSource v).pending = s.pending ∧
      (s.setSource v).lki.rx = s.lki.rx ∧ (s.setSource v).lki.resp = s.lki.resp ∧
      (s.setSource v).lki.addr = s.lki.addr ∧ (s.setSource v).lki.assignTaken = s.lki.assignTaken ∧
      (s.setSource v).lki.resetting = s.lki.resetting ∧ (s.setSource v).lki.copies = s.lki.copies ∧
      (s.setSource v).lki.enables = s.lki.enables ∧ (s.setSource v).cnt.snap = s.cnt.snap ∧
      (s.setSource v).cnt.number = s.cnt.number := by
  unfold State.setSource; split <;> simp

theorem setParam_frame (s : State) (id i : Nat) (v : Int) (t : State) (w : Int) (h : setParam s id i v = .done t w) :
    t.powered = s.powered ∧ t.now = s.now ∧ t.free = s.free ∧ t.ssq = s.ssq ∧ t.sts = s.sts ∧
      t.pending = s.pending ∧ t.aq.mode = s.aq.mode ∧ t.aq.queue = s.aq.queue ∧
      t.aq.stopPending = s.aq.stopPending ∧ t.aq.holdDue = s.aq.holdDue ∧ t.tmc.st = s.tmc.st ∧
      t.tmc.phase = s.tmc.phase ∧ t.tmc.timer = s.tmc.timer ∧ t.tmc.lifter = s.tmc.lifter ∧
      t.tmc.trayDrive = s.tmc.trayDrive ∧ t.tmc.qualDue = s.tmc.qualDue ∧
      t.tmc.trayPresent = s.tmc.trayPresent ∧ t.tmc.slots = s.tmc.slots ∧ t.tmc.size = s.tmc.size ∧
      t.tmc.pos = s.tmc.pos ∧ t.tmc.gate = s.tmc.gate ∧ t.tmc.jam = s.tmc.jam ∧ t.lmc.power = s.lmc.power ∧
      t.lmc.active = s.lmc.active ∧ t.lmc.blanks = s.lmc.blanks ∧ t.lmc.outLevel = s.lmc.outLevel ∧
      t.lmc.level = s.lmc.level ∧ t.lmc.outDrive = s.lmc.outDrive ∧ t.thc.trip = s.thc.trip ∧
      t.thc.fanFault = s.thc.fanFault ∧ t.thc.power = s.thc.power ∧ t.thc.lost = s.thc.lost ∧
      t.thc.loss30 = s.thc.loss30 ∧ t.thc.tm = s.thc.tm ∧ t.thc.hq = s.thc.hq ∧ t.ttc.st = s.ttc.st ∧
      t.ttc.curVol = s.ttc.curVol ∧ t.ttc.servo = s.ttc.servo ∧ t.lki.rx = s.lki.rx ∧
      t.lki.resp = s.lki.resp ∧ t.lki.addr = s.lki.addr ∧ t.lki.assignTaken = s.lki.assignTaken ∧
      t.lki.resetting = s.lki.resetting ∧ t.lki.copies = s.lki.copies ∧ t.lki.enables = s.lki.enables ∧
      t.cnt.snap = s.cnt.snap ∧ t.cnt.number = s.cnt.number ∧ t.aq.runner = s.aq.runner ∧
      t.lmc.ramp = s.lmc.ramp ∧ t.lmc.motion = s.lmc.motion := by
  unfold setParam at h; dsimp only at h; split at h
  all_goals try simp only [setNum, setPair, setFlag, setEnum, State.setCompare, State.setTable, State.setTrim] at h
  all_goals (repeat' split at h)
  all_goals first | (injection h with h1 h2; subst h1) | (cases h; done)
  all_goals first | (simp; done) | ((repeat' apply And.intro) <;> first | rfl | (simp; done) | (unfold State.evalLife; (repeat' split) <;> (simp [State.setLmcPar]; done)) | (unfold State.evalNoLamp; (repeat' split) <;> (simp [State.setLmcPar]; done)))

@[simp] theorem reqSet_frame (param index : Byte) (value : BitVec 32) (s : State) :
    (reqSet param index value s).state.powered = s.powered ∧ (reqSet param index value s).state.now = s.now ∧
      (reqSet param index value s).state.ssq = s.ssq ∧ (reqSet param index value s).state.sts = s.sts ∧
      (reqSet param index value s).state.pending = s.pending ∧
      (reqSet param index value s).state.aq.mode = s.aq.mode ∧
      (reqSet param index value s).state.aq.queue = s.aq.queue ∧
      (reqSet param index value s).state.aq.stopPending = s.aq.stopPending ∧
      (reqSet param index value s).state.aq.holdDue = s.aq.holdDue ∧
      (reqSet param index value s).state.tmc.st = s.tmc.st ∧
      (reqSet param index value s).state.tmc.phase = s.tmc.phase ∧
      (reqSet param index value s).state.tmc.timer = s.tmc.timer ∧
      (reqSet param index value s).state.tmc.lifter = s.tmc.lifter ∧
      (reqSet param index value s).state.tmc.trayDrive = s.tmc.trayDrive ∧
      (reqSet param index value s).state.tmc.qualDue = s.tmc.qualDue ∧
      (reqSet param index value s).state.tmc.trayPresent = s.tmc.trayPresent ∧
      (reqSet param index value s).state.tmc.slots = s.tmc.slots ∧
      (reqSet param index value s).state.tmc.size = s.tmc.size ∧
      (reqSet param index value s).state.tmc.pos = s.tmc.pos ∧
      (reqSet param index value s).state.tmc.gate = s.tmc.gate ∧
      (reqSet param index value s).state.tmc.jam = s.tmc.jam ∧
      (reqSet param index value s).state.lmc.power = s.lmc.power ∧
      (reqSet param index value s).state.lmc.active = s.lmc.active ∧
      (reqSet param index value s).state.lmc.blanks = s.lmc.blanks ∧
      (reqSet param index value s).state.lmc.outLevel = s.lmc.outLevel ∧
      (reqSet param index value s).state.lmc.level = s.lmc.level ∧
      (reqSet param index value s).state.lmc.outDrive = s.lmc.outDrive ∧
      (reqSet param index value s).state.thc.trip = s.thc.trip ∧
      (reqSet param index value s).state.thc.fanFault = s.thc.fanFault ∧
      (reqSet param index value s).state.thc.power = s.thc.power ∧
      (reqSet param index value s).state.thc.lost = s.thc.lost ∧
      (reqSet param index value s).state.thc.loss30 = s.thc.loss30 ∧
      (reqSet param index value s).state.thc.tm = s.thc.tm ∧
      (reqSet param index value s).state.thc.hq = s.thc.hq ∧
      (reqSet param index value s).state.ttc.st = s.ttc.st ∧
      (reqSet param index value s).state.ttc.curVol = s.ttc.curVol ∧
      (reqSet param index value s).state.ttc.servo = s.ttc.servo ∧
      (reqSet param index value s).state.lki.rx = s.lki.rx ∧
      (reqSet param index value s).state.lki.resp = s.lki.resp ∧
      (reqSet param index value s).state.lki.addr = s.lki.addr ∧
      (reqSet param index value s).state.lki.assignTaken = s.lki.assignTaken ∧
      (reqSet param index value s).state.lki.resetting = s.lki.resetting ∧
      (reqSet param index value s).state.lki.copies = s.lki.copies ∧
      (reqSet param index value s).state.lki.enables = s.lki.enables ∧
      (reqSet param index value s).state.cnt.snap = s.cnt.snap ∧
      (reqSet param index value s).state.cnt.number = s.cnt.number ∧
      (reqSet param index value s).state.aq.runner = s.aq.runner ∧
      (reqSet param index value s).state.lmc.ramp = s.lmc.ramp ∧
      (reqSet param index value s).state.lmc.motion = s.lmc.motion := by
  unfold reqSet; split <;> rename_i h
  · have hf := setParam_frame s _ _ _ _ _ h
    simp [hf]
  all_goals simp

@[simp] theorem counted_frame (a : Answer) :
    a.counted.powered = a.state.powered ∧ a.counted.now = a.state.now ∧ a.counted.free = a.state.free ∧
      a.counted.aq = a.state.aq ∧ a.counted.tmc = a.state.tmc ∧ a.counted.lmc = a.state.lmc ∧
      a.counted.thc = a.state.thc ∧ a.counted.ttc = a.state.ttc ∧ a.counted.cud = a.state.cud ∧
      a.counted.ssq = a.state.ssq ∧ a.counted.rpd = a.state.rpd ∧ a.counted.lki = a.state.lki ∧
      a.counted.sts = a.state.sts ∧ a.counted.pending = a.state.pending ∧
      a.counted.cnt.snap = a.state.cnt.snap ∧ a.counted.cnt.number = a.state.cnt.number ∧
      a.counted.cnt.timer = a.state.cnt.timer ∧ a.counted.cnt.interval = a.state.cnt.interval := by
  unfold Answer.counted; split <;> simp [State.count]

@[simp] theorem applyReq_frame (s : State) (r : Req) :
    (applyReq s r).state.powered = s.powered ∧ (applyReq s r).state.now = s.now ∧
      (applyReq s r).state.pending = s.pending := by
  unfold applyReq; (repeat' split) <;> simp

@[simp] theorem judge_frame (s : State) (b : Bool) (r : Option Req) :
    (judge s b r).state.powered = s.powered ∧ (judge s b r).state.now = s.now ∧
      (judge s b r).state.pending = s.pending := by
  unfold judge; (repeat' split) <;> simp

@[simp] theorem takeRequest_frame (s : State) (h : LinkHdr) (kind : Byte) (r : Option Req) :
    (s.takeRequest h kind r).powered = s.powered ∧ (s.takeRequest h kind r).now = s.now ∧
      (s.takeRequest h kind r).pending = s.pending := by
  unfold State.takeRequest; split <;> simp

@[simp] theorem request_frame (h : LinkHdr) (r : Req) (s : State) :
    (request h r s).powered = s.powered ∧ (request h r s).now = s.now ∧ (request h r s).pending = s.pending := by
  unfold request; split <;> simp

@[simp] theorem requestStepWrite_frame (h : LinkHdr) (index mode : Byte) (record : List Byte) (s : State) :
    (requestStepWrite h index mode record s).powered = s.powered ∧
      (requestStepWrite h index mode record s).now = s.now ∧
      (requestStepWrite h index mode record s).pending = s.pending := by
  unfold requestStepWrite; split <;> simp

@[simp] theorem frameEnds_frame (s : State) (l : List Byte) :
    (s.frameEnds l).powered = s.powered ∧ (s.frameEnds l).now = s.now ∧ (s.frameEnds l).pending = s.pending := by
  unfold State.frameEnds; dsimp only; split <;> simp

@[simp] theorem receiving_frame (s : State) (l : List Byte) :
    (s.receiving l).powered = s.powered ∧ (s.receiving l).now = s.now ∧ (s.receiving l).pending = s.pending := by
  unfold State.receiving; simp

@[simp] theorem nextByte_frame (s : State) (before : List Byte) (b : Byte) :
    (s.nextByte before b).powered = s.powered ∧ (s.nextByte before b).now = s.now ∧
      (s.nextByte before b).pending = s.pending := by
  unfold State.nextByte; dsimp only; (repeat' split) <;> simp

@[simp] theorem receive_frame (s : State) (b : Byte) (damaged : Bool) :
    (s.receive b damaged).powered = s.powered ∧ (s.receive b damaged).now = s.now ∧
      (s.receive b damaged).pending = s.pending := by
  unfold State.receive; (repeat' split) <;> simp

@[simp] theorem linkByte_frame (b : Byte) (damaged : Bool) (s : State) :
    (linkByte b damaged s).powered = s.powered ∧ (linkByte b damaged s).now = s.now ∧
      (linkByte b damaged s).pending = s.pending := by
  unfold linkByte; (repeat' split) <;> simp

end Sys2Proof.Machine
end

