-- ==== Sys2Proof/Laws/Requests.lean ====
section
/-!
SUPPORT. What a command comes to before its own rule acts: a part with supply takes it, an addressed request reaches its owner, a
timer that runs is taken at its due time; and what a notice does to the link.
-/

namespace Sys2Proof.Machine

/-- A part with supply takes a command. -/
theorem take_powered (s : State) (dt : Nat) (f : State → State) (h : s.powered = true) :
    s.take dt f = (f (s.advance dt)).finish := by
  simp [State.take, h]

/-- In a part without supply a command does nothing (log 13). -/
theorem take_unpowered (s : State) (dt : Nat) (f : State → State) (h : s.powered = false) : s.take dt f = s := by
  simp [State.take, h]

@[simp] theorem advance_deaf (s : State) (d : Nat) : (s.advance d).deaf = s.deaf := rfl

/-- R181: what is received while no response is sent leaves no response. -/
theorem withhold_not_deaf (s : State) (h : s.deaf = false) : s.withhold = s.setLki { s.lki with resp := .NONE } := by
  unfold State.deaf at h
  unfold State.withhold
  rcases hr : s.lki.resp with _ | _ | _ <;> simp [hr] at h ⊢
  cases s
  rename_i l _ _ _
  cases l
  simp_all [State.setLki]

/-- R180 to R182: an addressed request that is not locked reaches its owner, is counted if refused, and is answered. -/
theorem request_addressed (s : State) (h : LinkHdr) (dt : Nat) (r : Req) (ha : s.addressed h)
    (hm : r.misaddressed false = false) (hl : (s.sts.save.isSome && r.locked) = false) :
    request h r (s.advance dt) =
      (applyReq ((s.advance dt).setLki { s.lki with resp := .NONE }) r).counted.respond h.dest r.code h.src
        (applyReq ((s.advance dt).setLki { s.lki with resp := .NONE }) r) := by
  obtain ⟨_, hd, hr, had⟩ := ha
  have hc : ¬ (0x80 ≤ r.code.toNat) := by cases r <;> simp [Req.code]
  unfold request
  rw [advance_deaf, hd, withhold_not_deaf _ (by simpa using hd)]
  simp [State.takeRequest, route, had, hc, judge, hr, hm]
  have hn : ¬(s.sts.save.isSome = true ∧ r.locked = true) := by simpa using hl
  simp only [if_neg hn]

/-- R181: the answer that a request's response carries. -/
theorem respond_answered (s : State) (own kind dest : Byte) (a : Answer) (k : Byte) (hk : kind + 0x80 = k) :
    s.respond own kind dest a = s.answered { dest := own, src := dest } k a.status a.body := by
  subst hk
  rfl

/-- R196, R198: a notice of a kind that is on joins the queue, one of a kind that is off is discarded. -/
theorem notice_lki (s : State) (k : NoticeKind) (clear : Bool) (subject : Option Nat) :
    (s.notice k clear subject).lki = if s.lki.enabled k then
      s.lki.join { kind := k, clear := clear, subject := subject, stamp := s.stamp } else s.lki := by
  unfold State.notice
  split <;> simp_all

/-- A timer that runs is taken at its due time, one that does not run has no effect. -/
theorem whenDue_some (s : State) (d : Nat) (f : State → State) : s.whenDue (some d) f = f (s.reach d) := rfl
theorem whenDue_none (s : State) (f : State → State) : s.whenDue none f = s := rfl

end Sys2Proof.Machine
end

