-- ==== Sys2Proof/Laws/UnitReset.lean ====
section
/-!
SUPPORT. What each block's part of a unit reset comes to (R190): the flush of the whole queue, the cue track, the mechanism, the
runner over what the flush leaves, and the end of RESETTING.
-/

namespace Sys2Proof.Machine

/-! ## The sequencer at rest (R165) and the end of RESETTING (R191) -/

/-- R165: a sequencer that does not run, with no step watched, takes no action at a report. -/
theorem takeReport_atRest (s : State) (hs : s.ssq.st ≠ .RUNNING) (hw : s.ssq.watched = none) : s.takeReport = s := by
  have ho : s.offerPending = s := by unfold State.offerPending; split <;> simp [hs]
  have hf : s.followStart = none := by unfold State.followStart; split <;> simp_all
  simp [State.takeReport, ho, followFuel, State.checks, hf, State.endTest, hs]

/-- R191: what the end of RESETTING makes of the link. -/
def State.resetDone (s : State) : State :=
  (s.setLki { s.lki with resetting := false, notices := [], lost := 0, attn := false }).event .UNIT_RESET_DONE none

/-- A notice touches of the link its queue, its lost count and ATTN alone. -/
theorem event_resetDone (s : State) (k : NoticeKind) (x : Option Nat) : (s.event k x).resetDone = s.resetDone := by
  unfold State.event State.notice State.resetDone
  split
  · simp only [State.setLki, Lki.join]
    split <;> rfl
  · rfl

/-- A notice reads nothing of AQ. -/
theorem event_setAq (s : State) (a : Aq) (k : NoticeKind) (x : Option Nat) :
    (s.setAq a).event k x = (s.event k x).setAq a := by
  unfold State.event State.notice
  by_cases h : s.lki.enabled k = true
  · simp [h]
    rfl
  · simp [h]

theorem resetDone_setAq (s : State) (a : Aq) : (s.setAq a).resetDone = s.resetDone.setAq a := by
  unfold State.resetDone
  rw [← event_setAq]
  rfl

theorem resetDone_resetting (s : State) : s.resetDone.lki.resetting = false := by simp [State.resetDone]

/-- R191: the link after the end of RESETTING. -/
theorem resetDone_lki (s : State) : s.resetDone.lki = { s.lki with
    resetting := false, lost := 0, attn := s.lki.enabled .UNIT_RESET_DONE
    notices := if s.lki.enabled .UNIT_RESET_DONE then
      [{ kind := .UNIT_RESET_DONE, clear := false, subject := none, stamp := s.stamp }] else [] } := by
  unfold State.resetDone State.event State.notice
  by_cases h : s.lki.enables.getD NoticeKind.UNIT_RESET_DONE.code false = true
  · simp only [State.setLki_lki, Lki.enabled, h, if_true]
    rfl
  · simp only [State.setLki_lki, Lki.enabled, h]
    rfl

theorem resetEnd_touches_link (s : State) : ∃ l, s.resetEnd = s.setLki l := by
  unfold State.resetEnd State.event State.notice
  split
  · split <;> exact ⟨_, rfl⟩
  · exact ⟨s.lki, rfl⟩

/-- R191: with the queue empty and the mechanism at rest a unit reset ends. -/
theorem resetEnd_atRest (s : State) (hr : s.lki.resetting = true) (hm : s.tmc.st = .IDLE ∨ s.tmc.st = .PARKED)
    (hq : s.aq.queue = []) : s.resetEnd = s.resetDone := by
  simp [State.resetEnd, hr, hm, hq, State.resetDone]

/-! ## The runner over what a unit reset's flush leaves (R11, R22) -/

/-- R11: a head that runs a CHANGE or a SEEK waits while the mechanism is in a cycle. -/
theorem runHead_waits_moving (s : State) (hm : s.tmc.st.moving = true)
    (hq : ∀ e ∈ s.aq.queue, e.running = true ∧ e.action.mech = true) :
    s.runHead = s.setAq { s.aq with runner := if s.aq.queue = [] then .EMPTY else .RUNNING } := by
  have hw : s.headMove = .wait (if s.aq.queue = [] then .EMPTY else .RUNNING) := by
    unfold State.headMove
    split
    · simp_all
    · rename_i e l he
      have h := hq e (by simp [he])
      simp only [h.1, if_true, he]
      unfold State.runningMove
      cases ha : e.action <;> simp_all [Action.mech] <;> cases ht : s.tmc.st <;> simp_all [MechState.moving]
  simp [State.runHead, runnerFuel, State.settle, hw]

/-- R11, R12: a CHANGE or a SEEK that runs at the head leaves it while the mechanism is at rest. -/
theorem headMove_atRest (s : State) {e : Entry} {l : List Entry} (hm : s.tmc.st = .IDLE ∨ s.tmc.st = .PARKED)
    (hl : s.aq.queue = e :: l) (hr : e.running = true) (ha : e.action.mech = true) :
    ∃ d, s.headMove = .leave e d := by
  simp only [State.headMove, hl, hr, if_true, State.runningMove]
  cases hc : e.action <;> simp_all [Action.mech] <;> rcases hm with h | h <;> simp [h]

/-- R11: with nothing in the queue the runner is EMPTY. -/
theorem settle_empty (n : Nat) (rep : Bool) (s : State) (h : s.aq.queue = []) :
    State.settle (n + 1) rep s = s.setAq { s.aq with runner := .EMPTY } := by
  simp [State.settle, State.headMove, h]

/-- R17, R165: an entry of the queue leaves while SSQ is at rest: the report finds nothing to do. -/
theorem depart_atRest (s : State) (e : Entry) (d : Bool) (hs : s.ssq.st ≠ .RUNNING) (hw : s.ssq.watched = none)
    (hp : s.aq.stopPending = false) :
    ∃ x, s.depart e d true = (State.setAq (if d then s.event .ACTION_DROPPED e.tag else s)
      { s.aq with queue := s.aq.queue.tail, lastReport := x }).resetEnd := by
  refine ⟨some { tag := e.tag, manner := if d then .DROPPED else .COMPLETED,
                 room := (s.setAq { s.aq with queue := s.aq.queue.tail }).room }, ?_⟩
  have hx : (if d then (s.setAq { s.aq with queue := s.aq.queue.tail }).event .ACTION_DROPPED e.tag
      else s.setAq { s.aq with queue := s.aq.queue.tail }) =
      (if d then s.event .ACTION_DROPPED e.tag else s).setAq { s.aq with queue := s.aq.queue.tail } := by
    cases d <;> simp [event_setAq]
  unfold State.depart
  simp only [hx]
  obtain ⟨t, ht, h1, h2, h3⟩ : ∃ t, t = (if d then s.event .ACTION_DROPPED e.tag else s) ∧ t.aq = s.aq ∧ t.ssq = s.ssq ∧
      t.lki.resetting = s.lki.resetting := ⟨_, rfl, by cases d <;> simp, by cases d <;> simp, by cases d <;> simp⟩
  rw [← ht, State.report, if_pos rfl, takeReport_atRest _ (by simpa [h2] using hs) (by simpa [h2] using hw),
    State.stoppedIfPending]
  simp only [State.setAq_aq, hp, Bool.false_eq_true, if_false, ite_self, State.room, State.setAq_lki, h3]
  rfl

/-- R11, R191: CHANGE and SEEK entries that run while the mechanism is at rest all leave, and with the last of them RESETTING
ends. -/
theorem settle_atRest (n : Nat) (s : State) (hn : s.aq.queue.length < n) (hr : s.lki.resetting = true)
    (hm : s.tmc.st = .IDLE ∨ s.tmc.st = .PARKED) (hs : s.ssq.st ≠ .RUNNING) (hw : s.ssq.watched = none)
    (hp : s.aq.stopPending = false) (hq : ∀ e ∈ s.aq.queue, e.running = true ∧ e.action.mech = true) :
    ∃ x, (State.settle n true s).resetEnd =
      s.resetDone.setAq { s.aq with queue := [], runner := .EMPTY, lastReport := x } := by
  induction n generalizing s with
  | zero => omega
  | succ n ih =>
    rcases hl : s.aq.queue with _ | ⟨e, l⟩
    · refine ⟨s.aq.lastReport, ?_⟩
      rw [settle_empty _ _ _ hl, resetEnd_atRest _ (by simpa using hr) (by simpa using hm) (by simpa using hl),
        resetDone_setAq]
      simp [← hl]
    · have he := hq e (by simp [hl])
      obtain ⟨d, hd⟩ := headMove_atRest s hm hl he.1 he.2
      obtain ⟨x, hx⟩ := depart_atRest s e d hs hw hp
      obtain ⟨t, ht, h1, h2, h3, h4, h5⟩ : ∃ t, t = (if d then s.event .ACTION_DROPPED e.tag else s) ∧ t.aq = s.aq ∧
          t.ssq = s.ssq ∧ t.lki.resetting = true ∧ t.tmc = s.tmc ∧ t.resetDone = s.resetDone :=
        ⟨_, rfl, by cases d <;> simp, by cases d <;> simp, by cases d <;> simp [hr], by cases d <;> simp,
          by cases d <;> simp [event_resetDone]⟩
      rw [← ht, hl, List.tail_cons] at hx
      simp only [State.settle, hd, hx]
      rcases l with _ | ⟨e2, l2⟩
      · have hz : ∀ a, (s.resetDone.setAq a).resetEnd = s.resetDone.setAq a := by
          intro a
          simp [State.resetEnd, resetDone_resetting]
        rw [resetEnd_atRest (State.setAq t _) (by simpa using h3) (by simpa [h4] using hm) (by simp), resetDone_setAq, h5]
        have hn1 : n = (n - 1) + 1 := by simp [hl] at hn; omega
        rw [hn1, settle_empty _ _ _ (by simp)]
        refine ⟨x, ?_⟩
        simp only [State.setAq_aq]
        exact hz _
      · have hne : (t.setAq { s.aq with queue := e2 :: l2, lastReport := x }).resetEnd =
            t.setAq { s.aq with queue := e2 :: l2, lastReport := x } := by
          simp [State.resetEnd]
        rw [hne]
        obtain ⟨y, hy⟩ := ih (t.setAq { s.aq with queue := e2 :: l2, lastReport := x })
          (by simp [hl] at hn ⊢; omega) (by simpa using h3) (by simpa [h4] using hm) (by simpa [h2] using hs)
          (by simpa [h2] using hw) (by simpa using hp)
          (by intro a ha; exact hq a (by rw [hl]; exact List.mem_cons_of_mem _ (by simpa using ha)))
        exact ⟨y, by rw [hy, resetDone_setAq, h5]; rfl⟩

/-- R165: whatever the runner does then, only AQ and the link change. -/
theorem settle_atRest_frame (n : Nat) (s : State) (hm : s.tmc.st = .IDLE ∨ s.tmc.st = .PARKED)
    (hs : s.ssq.st ≠ .RUNNING) (hw : s.ssq.watched = none) (hp : s.aq.stopPending = false) (hq : ∀ e ∈ s.aq.queue, e.running = true ∧ e.action.mech = true) :
    ∃ a l, State.settle n true s = (s.setAq a).setLki l ∧ a.holdDue = s.aq.holdDue ∧ a.stopPending = false := by
  induction n generalizing s with
  | zero => exact ⟨s.aq, s.lki, rfl, rfl, hp⟩
  | succ n ih =>
    rcases hl : s.aq.queue with _ | ⟨e, l⟩
    · rw [settle_empty _ _ _ hl]
      exact ⟨{ s.aq with runner := .EMPTY }, s.lki, rfl, rfl, hp⟩
    · have he := hq e (by simp [hl])
      obtain ⟨d, hd⟩ := headMove_atRest s hm hl he.1 he.2
      obtain ⟨x, hx⟩ := depart_atRest s e d hs hw hp
      obtain ⟨k, hk⟩ := resetEnd_touches_link (State.setAq (if d then s.event .ACTION_DROPPED e.tag else s)
        { s.aq with queue := s.aq.queue.tail, lastReport := x })
      obtain ⟨m, hmm⟩ : ∃ m, (if d then s.event .ACTION_DROPPED e.tag else s) = s.setLki m := by
        unfold State.event State.notice
        split
        · split <;> exact ⟨_, rfl⟩
        · exact ⟨s.lki, rfl⟩
      rw [hk, hmm] at hx
      simp only [State.settle, hd, hx]
      obtain ⟨a, b, h1, h2, h3⟩ := ih (((s.setLki m).setAq { s.aq with queue := s.aq.queue.tail, lastReport := x }).setLki k)
        hm hs hw hp (by intro y hy; exact hq y (List.mem_of_mem_tail hy))
      exact ⟨a, b, h1.trans rfl, h2, h3⟩

/-! ## The cue track (R128, R142) -/

/-- What a notice makes of the link depends on the link and the clock alone. -/
theorem notice_lki_congr (s t : State) (k : NoticeKind) (v : Bool) (x : Option Nat) (hl : t.lki = s.lki)
    (hn : t.now = s.now) : (t.notice k v x).lki = (s.notice k v x).lki := by
  rw [notice_lki, notice_lki, hl, State.stamp, hn]
  rfl

/-- R128: leaving SYNC, block by block. -/
theorem leaveSync_cud (s : State) : s.leaveSync.cud =
    { s.cud with framing := .HUNT, cueSync := false, errs := 0, expected := none, window := none, cand := none
                 lock := false, sending := false, cueOut := none, slotDue := none, buf := [] } := by
  simp [State.leaveSync, Cud.silence]

theorem leaveSync_lki (s : State) :
    s.leaveSync.lki = ((s.condNotice .CUE_SYNC false none).event .SYNC_LOSS none).lki := by
  exact notice_lki_congr _ _ _ _ _ (notice_lki_congr _ _ _ _ _ rfl rfl) (by simp)

theorem leaveSync_cnt (s : State) : s.leaveSync.cnt = (s.count .cueSyncLosses).cnt := by
  simp [State.leaveSync, State.count]

theorem clearSpeedOff_cud (s : State) : s.clearSpeedOff.cud = { s.cud with speedOff := false } := by
  unfold State.clearSpeedOff
  split
  · simp
  · rename_i h
    have h : s.cud.speedOff = false := by simpa using h
    rw [← h]

theorem clearSpeedOff_lki (s : State) :
    s.clearSpeedOff.lki = (if s.cud.speedOff then s.condNotice .TAPE_SPEED_OFF false none else s).lki := by
  unfold State.clearSpeedOff
  split
  · exact notice_lki_congr _ _ _ _ _ rfl rfl
  · rfl

theorem clearDegraded_cud (s : State) : s.clearDegraded.cud = { s.cud with degraded := false } := by
  unfold State.clearDegraded
  split
  · simp
  · rename_i h
    have h : s.cud.degraded = false := by simpa using h
    rw [← h]

theorem clearDegraded_lki (s : State) :
    s.clearDegraded.lki = (if s.cud.degraded then s.condNotice .CUE_DEGRADED false none else s).lki := by
  unfold State.clearDegraded
  split
  · exact notice_lki_congr _ _ _ _ _ rfl rfl
  · rfl

/-- R142: the cue track after its part of a unit reset. -/
theorem resetCue_cud (s : State) : s.resetCue.cud =
    { carrier := false, carrierTimer := none, lastEdge := s.cud.lastEdge, pendHalf := none, bitIndex := 0, bits := []
      cellE := 3125, speed := 1000, speedOffTimer := none, speedOff := false, framing := .HUNT
      candAlign := s.cud.candAlign, align := s.cud.align, prevAlign := none, expected := none, errs := 0
      window := none, degraded := false, cueSync := false, tapeTime := none, cand := none, lastCue := none
      lock := false, buf := [], regenCount := 0, sending := false, cueOut := none, slotDue := none
      par := { source := s.cud.par.source, relay := s.storedSettings.cud.relay, loss := s.cud.par.loss
               degThr := s.storedSettings.cud.degThr, confirm := s.cud.par.confirm } } := by
  simp only [State.resetCue, State.setCud_cud, clearDegraded_cud, clearSpeedOff_cud, Cud.silence]
  split
  · rw [leaveSync_cud]; rfl
  · rfl

/-- R128, R142: the notices that it queues. -/
theorem resetCue_lki (s : State) : s.resetCue.lki = (
  let a := if s.cud.framing = .SYNC then (s.condNotice .CUE_SYNC false none).event .SYNC_LOSS none else s
  let b := if s.cud.speedOff then a.condNotice .TAPE_SPEED_OFF false none else a
  if s.cud.degraded then b.condNotice .CUE_DEGRADED false none else b).lki := by
  obtain ⟨a, ha⟩ : ∃ a, a = if s.cud.framing = .SYNC then s.leaveSync else s := ⟨_, rfl⟩
  have h1 : a.cud.speedOff = s.cud.speedOff ∧ a.cud.degraded = s.cud.degraded ∧ a.now = s.now := by
    rw [ha]; split <;> simp [leaveSync_cud]
  obtain ⟨b, hb⟩ : ∃ b, b = if s.cud.framing = .SYNC then (s.condNotice .CUE_SYNC false none).event .SYNC_LOSS none else s :=
    ⟨_, rfl⟩
  have h2 : a.lki = b.lki ∧ b.now = s.now := by
    rw [ha, hb]; split <;> simp [leaveSync_lki]
  simp only [State.resetCue, State.setCud_lki, clearDegraded_lki, clearSpeedOff_cud, ← ha, ← hb, h1]
  have h3 : a.clearSpeedOff.lki = (if s.cud.speedOff then b.condNotice .TAPE_SPEED_OFF false none else b).lki ∧
      a.clearSpeedOff.now = s.now ∧ (if s.cud.speedOff then b.condNotice .TAPE_SPEED_OFF false none else b).now = s.now := by
    rw [clearSpeedOff_lki, h1.1]
    refine ⟨?_, by simp [h1], by split <;> simp [h2]⟩
    split
    · exact notice_lki_congr _ _ _ _ _ h2.1 (by simp [h1, h2])
    · exact h2.1
  split
  · exact notice_lki_congr _ _ _ _ _ h3.1 (h3.2.1.trans h3.2.2.symm)
  · exact h3.1

/-- R128, R142: what it counts. -/
theorem resetCue_cnt (s : State) :
    s.resetCue.cnt = (if s.cud.framing = .SYNC then s.count .cueSyncLosses else s).cnt := by
  have h : ∀ t : State, t.clearSpeedOff.clearDegraded.cnt = t.cnt := by
    intro t; unfold State.clearSpeedOff State.clearDegraded; split <;> split <;> simp
  simp only [State.resetCue, State.setCud_cnt, h]
  split
  · exact leaveSync_cnt s
  · rfl

/-! ## The flush of the whole queue (R18, R22) -/

/-- Reports made without SSQ touch of AQ the last report alone. -/
theorem reportAll_false_queue (l : List (Option Nat × Manner)) (s : State) :
    (s.reportAll false l).aq.queue = s.aq.queue ∧ (s.reportAll false l).aq.runner = s.aq.runner := by
  induction l generalizing s with
  | nil => exact ⟨rfl, rfl⟩
  | cons d l ih =>
    have := ih (s.report false d.1 d.2)
    simp only [State.reportAll, List.foldl_cons] at this ⊢
    simpa [State.report] using this

/-- R18: what becomes of the work of a running head that a flush of the whole queue covers. -/
theorem endRunning_running (s : State) (e : Entry) (hr : e.running = true) :
    (s.endRunning e).aq = { s.aq with holdDue := if e.holds then none else s.aq.holdDue } ∧
    (s.endRunning e).tmc =
      { s.tmc with truncated := s.tmc.truncated || (decide (s.tmc.st = .SEEKING) && e.seeks) } ∧
    (s.lmc.ramp = none → (s.endRunning e).lmc = s.lmc) := by
  unfold State.endRunning Entry.holds Entry.seeks
  cases ha : e.action <;> simp [hr, State.truncate]
  case FADE => intro h; rw [← h]
  case SEEK => split <;> simp_all

/-- R18: a flush of the whole queue leaves a running CHANGE or SEEK alone. -/
theorem flushQueue_all (s : State) :
    (s.flushQueue coverAll false).aq = { s.aq with
        queue := s.aq.queue.filter (fun e => e.running && e.action.mech)
        holdDue := if s.aq.queue.head?.any Entry.holds then none else s.aq.holdDue } ∧
    (s.flushQueue coverAll false).tmc = { s.tmc with
        truncated := s.tmc.truncated || (decide (s.tmc.st = .SEEKING) && s.aq.queue.head?.any Entry.seeks) } ∧
    (s.lmc.ramp = none → (s.flushQueue coverAll false).lmc = s.lmc) := by
  have hk : staysThrough coverAll false = fun e => e.running && e.action.mech := by
    funext e; simp [staysThrough, coverAll]
  unfold State.flushQueue
  rw [hk]
  rcases hq : s.aq.queue with _ | ⟨e, l⟩
  · simp [hq]
  · rcases hr : e.running with _ | _
    · simp [hr, hq, Entry.holds, Entry.seeks]
    · obtain ⟨h1, h2, h3⟩ := endRunning_running s e hr
      refine ⟨?_, ?_, ?_⟩
      · simp [hr, coverAll, h1, hq]
        rfl
      · simp [hr, coverAll, h2]
      · intro h
        simp [hr, coverAll, h3 h]

/-- R22: AQ, the mechanism and the light after the flush of a unit reset. -/
theorem resetQueue_aq (s : State) :
    s.resetQueue.aq.mode = s.aq.startMode ∧ s.resetQueue.aq.stopPending = false ∧
      s.resetQueue.aq.queue = s.aq.queue.filter (fun e => e.running && e.action.mech) ∧
      s.resetQueue.aq.holdDue = if s.aq.queue.head?.any Entry.holds then none else s.aq.holdDue := by
  have h := flushQueue_all (s.setAq { s.aq with mode := s.aq.startMode, stopPending := false })
  have hq := reportAll_false_queue (flushReports false (s.aq.queue.filter (fun e => !staysThrough coverAll false e)))
    (State.flushQueue (s.setAq { s.aq with mode := s.aq.startMode, stopPending := false }) coverAll false)
  simp only [State.resetQueue, State.flushReported, State.setAq_aq]
  rw [hq.1]
  simp [h.1]
  rfl

theorem resetQueue_tmc (s : State) :
    s.resetQueue.tmc = { s.tmc with truncated := s.tmc.truncated ||
      (decide (s.tmc.st = .SEEKING) && s.aq.queue.head?.any Entry.seeks) } := by
  have h := flushQueue_all (s.setAq { s.aq with mode := s.aq.startMode, stopPending := false })
  simp [State.resetQueue, State.flushReported, h.2.1]
  rfl

theorem resetQueue_lmc (s : State) (h : s.lmc.ramp = none) : s.resetQueue.lmc = s.lmc := by
  have h := (flushQueue_all (s.setAq { s.aq with mode := s.aq.startMode, stopPending := false })).2.2 h
  simp [State.resetQueue, State.flushReported, h]

/-! ## The mechanism (R45, R48, R50) -/

/-- R50: the mechanism, the light and the link after its part of a unit reset. -/
theorem resetMech_tmc (s : State) (t : Tmc)
    (ht : t = { s.tmc with comparePos := none, clearMode := .AUTO, slotMatch := false }) :
    s.resetMech.tmc = if s.tmc.st = .JAMMED then
        { t with st := .HOMING, phase := some .DARKEN, timer := none, dir := .forward, retriedLift := false
                 retriedDrop := false, steps := 0 }
      else t := by
  subst ht
  unfold State.resetMech State.clearMatch
  dsimp only
  split <;> split <;> simp_all [State.startHoming, State.beginCycle, State.setMech]

theorem resetMech_lmc (s : State) : s.resetMech.lmc =
    { s.lmc with blanks := { s.lmc.blanks with mech := s.lmc.blanks.mech || decide (s.tmc.st = .JAMMED) } } := by
  unfold State.resetMech State.clearMatch
  dsimp only
  split <;> split <;> simp_all [State.startHoming, State.beginCycle, State.setMech]

theorem clearMatch_lki (s : State) (x : Option Nat) :
    (s.clearMatch x).lki = (if s.tmc.slotMatch then s.condNotice .SLOT_MATCH false x else s).lki := by
  unfold State.clearMatch
  split
  · exact notice_lki_congr _ _ _ _ _ rfl rfl
  · rfl

theorem resetMech_lki (s : State) : s.resetMech.lki =
    (if s.tmc.slotMatch then s.condNotice .SLOT_MATCH false s.tmc.comparePos else s).lki := by
  rw [← clearMatch_lki]
  unfold State.resetMech
  dsimp only
  split <;> rfl

/-! ## The transport and the light (R81, R117) -/

/-- R117: a transport that is driven or paused stops. -/
theorem resetTape_ttc (s : State) : s.resetTape.ttc = (if s.ttc.st = .EMPTY ∨ s.ttc.st = .STOPPED then s.ttc else
    { s.ttc with st := .STOPPED, seqHold := false, fgTimer := none, reelTimer := none, unlockStart := none
                 unlockPassed := false }) := by
  unfold State.resetTape
  cases h : s.ttc.st <;> simp [State.setTransport, h]

/-- R81: the ramp, the engine level and MANUAL are taken away. -/
theorem resetLampBlock_lmc (s : State) : s.resetLampBlock.lmc =
    { s.lmc with ramp := none, level := 0, blanks := { s.lmc.blanks with manual := false } } := rfl

/-! ## The notices of a unit reset -/

/-- The notice queue, its lost count, ATTN and the enables are the same. -/
def Lki.sameNotices (l m : Lki) : Prop :=
  m.notices = l.notices ∧ m.lost = l.lost ∧ m.attn = l.attn ∧ m.enables = l.enables

/-- R196: a notice keeps that agreement, at the same time. -/
theorem notice_sameNotices (s t : State) (k : NoticeKind) (v : Bool) (x : Option Nat) (h : s.lki.sameNotices t.lki)
    (hn : t.now = s.now) : (s.notice k v x).lki.sameNotices (t.notice k v x).lki ∧
      (t.notice k v x).now = (s.notice k v x).now := by
  obtain ⟨h1, h2, h3, h4⟩ := h
  refine ⟨?_, by simp [hn]⟩
  by_cases he : s.lki.enables.getD k.code false = true
  · simp only [notice_lki, Lki.enabled, h4, State.stamp, hn, Lki.join, h1, h2, he, if_true]
    split <;> exact ⟨rfl, rfl, rfl, rfl⟩
  · simp only [notice_lki, Lki.enabled, h4, he]
    exact ⟨h1, h2, h3, h4⟩

/-- The notices of a unit reset depend on the notice queue, the enables and the conditions alone. -/
theorem resetNotices_same (s t : State) (h : s.lki.sameNotices t.lki) (hn : t.now = s.now) (hc : t.cud = s.cud)
    (ht : t.tmc = s.tmc) : s.resetNotices.lki.sameNotices t.resetNotices.lki := by
  unfold State.resetNotices
  simp only [hc, ht]
  have step : ∀ (c : Prop) [Decidable c] (a b a' b' : State), a.lki.sameNotices b.lki ∧ b.now = a.now →
      (a'.lki.sameNotices b'.lki ∧ b'.now = a'.now) → (if c then a' else a).lki.sameNotices (if c then b' else b).lki ∧
        (if c then b' else b).now = (if c then a' else a).now := by
    intro c _ a b a' b' h1 h2; split <;> assumption
  have n : ∀ (a b : State) (k : NoticeKind) (v : Bool) (x : Option Nat), a.lki.sameNotices b.lki ∧ b.now = a.now →
      (a.notice k v x).lki.sameNotices (b.notice k v x).lki ∧ (b.notice k v x).now = (a.notice k v x).now :=
    fun a b k v x h => notice_sameNotices a b k v x h.1 h.2
  have h0 := And.intro h hn
  have h1 := step (s.cud.framing = .SYNC) _ _ _ _ h0 (n _ _ .SYNC_LOSS false none (n _ _ .CUE_SYNC true none h0))
  have h2 := step (s.cud.speedOff = true) _ _ _ _ h1 (n _ _ .TAPE_SPEED_OFF true none h1)
  have h3 := step (s.cud.degraded = true) _ _ _ _ h2 (n _ _ .CUE_DEGRADED true none h2)
  exact (step (s.tmc.slotMatch = true) _ _ _ _ h3 (n _ _ .SLOT_MATCH true s.tmc.comparePos h3)).1

end Sys2Proof.Machine
end

