-- ==== Sys2Proof/Tests/Slice0.lean ====
section
/-!
SUPPORT. Tests: the check of ill-formed commands, the spec's worked examples, and for every obligation with hypotheses a state
and operands that meet them, clause by clause, at the bounds of their ranges.
-/

namespace Sys2Proof.Tests

open Sys2Proof.Machine

/-! ## Well-formedness: each check refuses a term that fails it -/

theorem test_wellFormed_refuses_short_step_record :
    WellFormed (.stepWrite 0 { dest := 1, src := 9 } 0 0 (List.replicate 25 0)) = false ∧
      WellFormed (.stepWrite 0 { dest := 1, src := 9 } 0 0 (List.replicate 26 0)) = true := by decide

theorem test_wellFormed_refuses_short_cue_frame :
    WellFormed (.cueFrame 0 (List.replicate 31 .void)) = false ∧
      WellFormed (.degradeWindowClose 0 (List.replicate 33 .void)) = false ∧
      WellFormed (.cueFrame 0 (List.replicate 32 .void)) = true := by decide

theorem test_wellFormed_refuses_two_lows_in_a_row :
    WellFormed (.remoteMalformed 0 .wired [.low 2400, .low 600]) = false ∧
      WellFormed (.remoteMalformed 0 .wired [.low 2400, .high 600, .high 600]) = false ∧
      WellFormed (.remoteMalformed 0 .wired [.low 2400, .high 600, .low 600]) = true := by decide

theorem test_wellFormed_refuses_a_key_named_twice :
    WellFormed (.powerOn { trayPresent := false, trayCode := .absent, lampA := true, lampB := true, cassette := false
                           panelClosed := [.FWD, .FWD], straps := 1 }) = false ∧
      WellFormed (.powerOn { trayPresent := false, trayCode := .absent, lampA := true, lampB := true, cassette := false
                             panelClosed := [.FWD, .REV], straps := 1 }) = true := by decide

/-! ## Worked examples of the spec -/

/-- Section 9.7: the CUE frame with count 0 and payload 1 is 1011 0010 0000 01 00000000000001 1011. -/
theorem test_cue_frame_example :
    frameWord 0 .CUE 1 = 0b10110010000001000000000000011011#32 ∧
      judgeWindow ((frameBits 0 .CUE 1).map some) = .valid 0 .CUE 1 := by decide +kernel

/-- R113: the gain table of the manual, and −1000 at v = 57 and at v = 63. -/
theorem test_gain_examples :
    [63, 62, 57, 53, 43, 23, 3, 1, 0].map (fun v => gainTable.getD v 7) =
        [65536, 58409, 32846, 20724, 6554, 655, 66, 52, 0] ∧
      Int.tdiv (-1000 * (gainTable.getD 57 0 : Nat)) 65536 = -501 ∧
      Int.tdiv (-1000 * (gainTable.getD 63 0 : Nat)) 65536 = -1000 := by decide +kernel

/-- Section 9.7: a step record with its fields, and the same bytes sent back. -/
theorem test_step_record_example :
    decodeStep ([0x81, 0x01, 0x02, 7, 9, 2, 4, 200, 5, 5, 5, 1, 0x03, 0xE9, 10, 3] ++ List.replicate 10 0) =
        some { valid := true, trigger := .TIME 258, gateSlot := some 7, next := some 9
               actions := [.SEEK 120, .FADE 1000 10 .CROSS true] } ∧
      encodeStep { valid := true, trigger := .TIME 258, gateSlot := some 7, next := some 9
                   actions := [.SEEK 120, .FADE 1000 10 .CROSS true] } =
        [0x81, 0x01, 0x02, 7, 9, 2, 4, 120, 0, 0, 0, 1, 0x03, 0xE8, 10, 3] ++ List.replicate 10 0 := by decide +kernel

/-- R67: the factory cross-dissolve from 0 to 1000 stands at 750 half way. -/
theorem test_ramp_examples :
    rampLevel { start := 0, stop := 1000, n := 4, k := 0, curve := .CROSS } 2 = 750 ∧
      rampLevel { start := 1000, stop := 0, n := 4, k := 0, curve := .CROSS } 2 = 750 ∧
      rampLevel { start := 0, stop := 1000, n := 4, k := 0, curve := .LINEAR } 1 = 250 := by decide +kernel

/-- R179, R185: the bytes of a MODE request to station 1 make the request. -/
theorem test_request_bytes_example :
    decodeReq 4 [5, 1] = some (.control 5 1) ∧ Sub.ofCode 5 = some .MODE ∧
      (([1, 9, 4, 2, 5, 1, 234] : List Byte).map BitVec.toNat).sum % 256 = 0 := by decide

/-! ## States for the witnesses -/

/-- A request to this station, and one to every station. -/
def own : LinkHdr := { dest := 1, src := 9 }
def all : LinkHdr := { dest := 31, src := 9 }

/-- No sensor of the mechanism confirms. -/
def noSense : MechSense := { lifterUp := false, lifterDown := false, slide := false, homeMark := false }

/-- The mechanism in a state, a phase and a timer, with a tray of 80 at position 0. -/
def mech (st : MechState) (phase : Option Phase) (timer : Option (MechTimer × Nat)) : State :=
  State.reset.setTmc { resetTmc with st := st, phase := phase, timer := timer, size := some 80, pos := some 0
                                     trayPresent := true }

/-- The lamp in a power state. -/
def lampIn (p : Power) : State := State.reset.setLmc { resetLmc with power := p, ignLen := 40 }

/-- The transport in a state. -/
def tapeIn (x : Transport) : State := State.reset.setTtc { resetTtc with st := x }

/-- The framing in a state, at the alignment of the next frame. -/
def framing (x : Framing) : State :=
  State.reset.setCud { resetCud with carrier := true, framing := x, cueSync := decide (x = .SYNC), align := some 0
                                     candAlign := some 0 }

/-- A valid step without actions. -/
def plainStep (next : Option Nat) (t : Trigger) : StepRec :=
  { valid := true, trigger := t, gateSlot := none, actions := [], next := next }

/-- The sequencer in a state at its valid head 0, step 1 being one that follows at once and ends. -/
def seqIn (st : SeqState) (ptr : Option Nat) : State :=
  State.reset.setSsq { resetSsq with
    steps := plainStep (some 1) .MANUAL :: plainStep none (.FOLLOW 1) :: List.replicate 254 defaultStep
    st := st, ptr := ptr, pausedFrom := if st = .PAUSED then some .RUNNING else none }

/-- A key record of the panel. -/
def panelWith (k : Key) (r : PanelRec) : State := State.reset.setPanel k r

/-- A held press of FWD. -/
def pressFwd : HeldPress := { key := .FWD, pressed := 0, releaseDue := 5, repeats := false }

/-- The queue of entries of the link. -/
def queued (l : List Machine.Action) : State :=
  State.reset.setAq { resetAq with queue := l.map (plainEntry .LINK) }

/-- The bit positions of a frame at the nominal cell. -/
def cellsOf (count : Nat) (kind : FrameKind) (payload : Nat) : List CueCell :=
  (frameBits count kind payload).map (fun b => .bit b 3125)

/-- A response under way. -/
def sending : State :=
  State.reset.setLki { resetLki with resp := .SENDING { dest := 9, src := 1, kind := 0x84, payload := [0] } }

/-- RESETTING. -/
def resetting : State := State.reset.setLki { resetLki with resetting := true }

/-- A save under way. -/
def saving (full : Bool) : State :=
  State.reset.setSts { resetSts with save := some { full := full, image := factory, keepMarker := false } }

/-! ## The step and power-on -/

theorem test_StepTakesTheFrontCommand_hypotheses : State.reset.pending = [] := by decide

theorem test_PowerLossStopsThePart_hypotheses :
    (State.reset.setPowered false).powered = false ∧ ∀ l, Instr.powerLoss ≠ .powerOn l :=
  ⟨by decide, fun _ h => by cases h⟩

theorem test_PowerOnSetsTheMechanismTheLampAndTheTape_hypotheses :
    State.reset.sts.loaded.flags.length = 121 := by decide +kernel

theorem test_PowerOnSetsTheOtherBlocks_hypotheses :
    ((powerOn { trayPresent := false, trayCode := .absent, lampA := true, lampB := true, cassette := false
                panelClosed := [], straps := 30 } (State.reset.setSts { resetSts with
        record := { factory with steps := [plainStep none .MANUAL] } })).ssq.step 0).valid = true ∧
      ((powerOn { trayPresent := false, trayCode := .absent, lampA := true, lampB := true, cassette := false
                  panelClosed := [], straps := 0 } State.reset).ssq.step 0).valid = false := by decide +kernel

theorem test_PowerOnPanelNoticesAndTimer_hypotheses :
    (powerOn { trayPresent := true, trayCode := .invalid, lampA := false, lampB := true, cassette := false
               panelClosed := [.STOP], straps := 1 } (State.reset.setSts { resetSts with
        marker := true })).lki.notices.map Notice.kind = [.STORE_LOST, .TRAY_INVALID] ∧
      State.reset.sts.loaded.interval ≠ 0 ∧
      (State.reset.setSts { resetSts with record := { factory with interval := 0 } }).sts.loaded.interval = 0 := by
  decide +kernel

/-! ## The action queue and its runner -/

theorem test_RunnerWaitsAndKeeps_hypotheses :
    State.reset.headMove = .wait .EMPTY ∧ (queued [.HOLD 1]).headMove ≠ .wait .EMPTY := by decide

theorem test_RunnerStartsTheHead_hypotheses :
    (queued [.CHANGE_FWD]).aq.queue = plainEntry .LINK .CHANGE_FWD :: [] ∧
      (queued [.SEEK 80]).aq.queue = plainEntry .LINK (.SEEK 80) :: [] ∧
      (plainEntry .LINK .CHANGE_FWD).running = false ∧ (mech .IDLE none none).tmc.st = .IDLE ∧
      (mech .IDLE none none).tmc.pacingOut = true ∧ 80 ≤ (mech .IDLE none none).tmc.trayS ∧
      (mech .IDLE none none).tmc.pos = some 0 ∧ 0 ≤ (mech .IDLE none none).tmc.trayS := by decide

/-- R40: from 3 to 0 in a tray of 80 the seek runs 3 in reverse. -/
theorem test_seek_example : ((0 : Int) - 3) % 81 = 78 ∧ ((3 : Int) - 0) % 81 = 3 ∧ min (78 : Int) 3 = 3 := by decide

theorem test_HeadGoesOn_hypotheses :
    (queued [.FADE 1000 5 .CROSS true, .MARK]).aq.queue = plainEntry .LINK (.FADE 1000 5 .CROSS true) :: [plainEntry .LINK .MARK] ∧
      (queued [.HOLD 1]).aq.queue = plainEntry .LINK (.HOLD 1) :: [] ∧ (lampIn .IGNITING).lmc.power = .IGNITING ∧
      State.reset.lmc.power = .OFF ∧ State.reset.thc.power = .ACTIVE ∧ State.reset.lmc.noLamp = false ∧
      State.reset.lmc.motion = none ∧ (State.reset.lmc.lamp State.reset.lmc.active).usable = true ∧
      (mech .HOMING (some .DARKEN) none).tmc.st.moving = true ∧ Machine.Action.CHANGE_REV.mech = true ∧
      ((mech .IDLE none none).setTmc { resetTmc with st := .IDLE, pacingOut := false }).tmc.pacingOut = false := by decide

theorem test_ActionIsQueuedOrRefused_hypotheses :
    State.reset.addressed own ∧ (queued (List.replicate 12 .MARK)).addressed own ∧
      (queued (List.replicate 11 .MARK)).aq.queue.length < 12 ∧ 12 ≤ (queued (List.replicate 12 .MARK)).aq.queue.length ∧
      decodeSlot { kind := 4, b1 := 120, b2 := 0, b3 := 0, b4 := 0 } = some (.SEEK 120) ∧
      120 ≤ State.reset.tmc.size.getD 120 ∧
      decodeSlot { kind := 4, b1 := 121, b2 := 0, b3 := 0, b4 := 0 } = some (.SEEK 121) ∧
      State.reset.tmc.size.getD 120 < 121 ∧ (0 : Byte).toNat = 0 ∧ 0x0B < (0x0C : Byte).toNat := by decide

theorem test_ControlModeSetsTheMode_hypotheses :
    State.reset.addressed own ∧ 2 < (3 : Byte).toNat ∧ resetting.powered = true ∧ resetting.deaf = false ∧
      resetting.lki.resetting = true ∧ resetting.lki.addr = .ASSIGNED own.dest.toNat := by decide

theorem test_StopEmptiesAndStops_hypotheses :
    (mech .SEEKING (some .DARKEN) none).addressed own ∧ (queued [.HOLD 1, .MARK]).addressed own ∧
      (queued [.HOLD 1, .MARK]).aq.queue.filter (fun e => e.running && e.action.mech) = [] := by decide

/-- A queue that is one running HOLD. -/
def holding : State :=
  State.reset.setAq { resetAq with queue := [{ plainEntry .LINK (.HOLD 5) with running := true }], holdDue := some 7 }

theorem test_HoldAndPacingTimersExpire_hypotheses :
    holding.aq.holdDue = some 7 ∧ holding.aq.queue = [{ plainEntry .LINK (.HOLD 5) with running := true }] ∧
      State.reset.powered = true ∧ State.reset.aq.holdDue = none ∧ State.reset.ssq.st ≠ .RUNNING ∧
      ((mech .IDLE none none).setTmc { resetTmc with pacingOut := false }).tmc.pacingOut = false := by decide

theorem test_SingleEntryIsTaken_hypotheses :
    (queued [.MARK]).aq.queue = [plainEntry .LINK .MARK] ∧ (queued [.MARK]).ssq.st ≠ .RUNNING ∧
      (plainEntry .LINK .MARK).running = false ∧ (lampIn .LIT).lmc.power = .LIT ∧ State.reset.lmc.power = .OFF ∧
      (State.reset.setThc { resetThc with trip := true }).thc.trip = true ∧ State.reset.tmc.st = .PARKED ∧
      (mech .JAMMED none none).tmc.st = .JAMMED ∧ (mech .IDLE none none).tmc.trayS < 81 ∧
      (mech .IDLE none none).tmc.pacingOut = true ∧ State.reset.lmc.ramp = none ∧
      (queued [.HOLD 0]).aq.queue = [plainEntry .LINK (.HOLD 0)] ∧ (queued [.HOLD 0]).aq.holdDue = none := by decide

/-- A show in RUNNING with the pointer `ptr`, whose queue is one HOLD that is over. -/
def departing (ptr : Option Nat) : State :=
  (seqIn .RUNNING ptr).setAq { resetAq with queue := [{ showEntry 0 (.HOLD 5) with running := true }] }

theorem test_DeparturesServeTheShow_hypotheses :
    (departing none).aq.queue = [{ showEntry 0 (.HOLD 5) with running := true }] ∧ (departing none).ssq.st = .RUNNING ∧
      (departing none).lki.resetting = false ∧ (departing none).aq.stopPending = false ∧
      (departing none).aq.holdDue = none ∧ (departing none).ssq.ptr = none ∧ (departing none).ssq.pend = none ∧
      ((departing (some 1)).setSsq { (departing (some 1)).ssq with watched := some 0 }).ssq.watched = some 0 ∧
      (departing (some 1)).ssq.follow = .stopped ∧ ((departing (some 1)).ssq.step 1).trigger = .FOLLOW 1 ∧
      ((departing (some 0)).ssq.step 0).trigger ≠ .FOLLOW 0 ∧ State.reset.lmc.ramp = none ∧ (lampIn .LIT).lmc.power = .LIT ∧
      ((departing none).setSsq { (departing none).ssq with
        pend := some { index := 2, chase := false, need := 1 }
        steps := (departing none).ssq.steps.set 2 { plainStep none .MANUAL with actions := [.HOLD 1] } }).ssq.entries 2 false =
          [showEntry 2 (.HOLD 1)] ∧ (mech .HOMING (some .DARKEN) none).tmc.st.moving = true := by decide

/-! ## The tray mechanism -/

theorem test_TrayIsSetOnAndLiftedOff_hypotheses :
    State.reset.tmc.trayPresent = false ∧
      (State.reset.setTmc { resetTmc with trayPresent := true, qualDue := some 5 }).tmc.qualDue = some 5 ∧
      (mech .IDLE none none).tmc.trayPresent = true ∧ (mech .IDLE none none).tmc.qualDue = none := by decide

theorem test_TrayRemovalDropsItsWork_hypotheses :
    (mech .IDLE none none).tmc.trayPresent = true ∧ (mech .IDLE none none).tmc.qualDue = none ∧
      (mech .IDLE none none).ssq.st ≠ .RUNNING ∧ (mech .IDLE none none).aq.stopPending = false ∧
      (mech .IDLE none none).lki.resetting = false ∧ (mech .IDLE none none).aq.queue = [] ∧
      ((mech .CHANGING (some .DARKEN) none).setAq (queued [.CHANGE_FWD, .SEEK 3]).aq).aq.queue =
        [plainEntry .LINK .CHANGE_FWD, plainEntry .LINK (.SEEK 3)] ∧
      ((mech .IDLE none none).setAq holding.aq).aq.holdDue.isSome = true := by decide

theorem test_DarkenAndLiftEnd_hypotheses :
    (mech .CHANGING (some .DARKEN) (some (.tDark, 5))).tmc.timer = some (.tDark, 5) ∧
      (mech .CHANGING (some .LIFT) (some (.lift, 5))).tmc.timer = some (.lift, 5) ∧
      (mech .CHANGING (some .LIFT) (some (.lift, 5))).tmc.st = .CHANGING ∧
      (mech .SEEKING (some .LIFT) (some (.lift, 5))).tmc.truncated = false ∧
      (mech .SEEKING (some .LIFT) (some (.lift, 5))).tmc.distance = 0 ∧
      0 < ((mech .SEEKING none none).setTmc { resetTmc with distance := 1 }).tmc.distance ∧
      (mech .HOMING (some .LIFT) (some (.lift, 5))).tmc.st = .HOMING ∧ noSense.homeMark = false ∧
      noSense.lifterDown = false ∧ noSense.lifterUp = false := by decide

theorem test_LiftAndDropAreRetriedOnce_hypotheses :
    (mech .CHANGING (some .LIFT) (some (.lift, 5))).tmc.retriedLift = false ∧
      (mech .CHANGING (some .DROP) (some (.drop, 5))).tmc.timer = some (.drop, 5) ∧
      (mech .CHANGING (some .DROP) (some (.drop, 5))).tmc.retriedDrop = false ∧
      (mech .CHANGING (some .LIFT) (some (.retryPause, 5))).tmc.timer = some (.retryPause, 5) ∧
      (mech .CHANGING (some .LIFT) (some (.retryPause, 5))).tmc.phase = some .LIFT ∧
      (mech .CHANGING (some .DROP) (some (.retryPause, 5))).tmc.phase = some .DROP := by decide

theorem test_JamStopsTheMechanism_hypotheses :
    ((mech .CHANGING (some .LIFT) (some (.lift, 5))).setTmc { resetTmc with
        timer := some (.lift, 5), retriedLift := true }).tmc.retriedLift = true ∧
      ((mech .CHANGING (some .DROP) (some (.drop, 5))).setTmc { resetTmc with
        timer := some (.drop, 5), retriedDrop := true }).tmc.retriedDrop = true ∧
      (mech .CHANGING (some .STEP) (some (.indexWait, 5))).tmc.timer = some (.indexWait, 5) ∧
      (mech .CHANGING (some .STEP) (some (.indexWait, 5))).tmc.phase = some .STEP ∧
      (mech .HOMING (some .SEARCH) (some (.indexWait, 5))).ssq.st ≠ .RUNNING ∧
      (mech .HOMING (some .SEARCH) (some (.indexWait, 5))).lki.enabled .ACTION_DROPPED = true ∧
      (mech .HOMING (some .SEARCH) (some (.indexWait, 5))).aq.stopPending = false := by decide

/-- A change at position 3, which has jammed twice, and a search that has run out of steps. -/
def jamming (t : MechTimer) : State :=
  (mech .CHANGING (some .STEP) none).setTmc { (mech .CHANGING (some .STEP) (some (t, 5))).tmc with
    pos := some 3, retriedLift := true, retriedDrop := true
    slots := resetSlots.modify 3 (fun r => { r with jams := 2 }) }
def searching : State :=
  (mech .HOMING (some .SEARCH) none).setTmc { (mech .HOMING (some .SEARCH) (some (.indexWait, 5))).tmc with steps := 81 }

theorem test_JamIsCountedAndNoticed_hypotheses :
    (jamming .lift).powered = true ∧ (jamming .lift).ssq.st ≠ .RUNNING ∧ (jamming .lift).tmc.timer = some (.lift, 5) ∧
      (jamming .lift).tmc.retriedLift = true ∧ (jamming .drop).tmc.timer = some (.drop, 5) ∧
      (jamming .drop).tmc.retriedDrop = true ∧ (jamming .indexWait).tmc.timer = some (.indexWait, 5) ∧
      (jamming .indexWait).aq.stopPending = false ∧ (jamming .indexWait).aq.queue.head? = none ∧
      ((jamming .indexWait).tmc.slots[3]?.map (fun r => decide (2 ≤ r.jams))).getD false = true ∧
      searching.tmc.st = .HOMING ∧ searching.tmc.phase = some .SEARCH ∧ noSense.homeMark = false ∧
      searching.tmc.trayS + 2 ≤ searching.tmc.steps + 1 ∧ searching.ssq.st ≠ .RUNNING := by decide

theorem test_IndexPulsesMoveTheTray_hypotheses :
    (mech .CHANGING (some .STEP) none).tmc.pos = some 0 ∧ (mech .CHANGING (some .STEP) none).tmc.phase = some .STEP ∧
      (0 + 80) % (80 + 1) = 80 ∧ (80 + 1) % (80 + 1) = 0 ∧
      ((mech .CHANGING (some .STEP) none).setTmc { resetTmc with
        pos := some 80, par := { defaultTmc with wrapGap := true } }).tmc.par.wrapGap = true ∧
      ((mech .CHANGING (some .STEP) none).tmc.slots[0]?).map SlotRec.occ = some .EMPTY ∧
      (mech .SEEKING (some .ROTATE) none).tmc.phase = some .ROTATE ∧
      (mech .HOMING (some .SEARCH) none).tmc.phase = some .SEARCH ∧
      ((mech .HOMING (some .SEARCH) none).setTmc { (mech .HOMING (some .SEARCH) none).tmc with steps := 81 }).tmc.trayS + 2 ≤
        81 + 1 ∧
      State.reset.tmc.phase ≠ some .STEP ∧ State.reset.tmc.phase ≠ some .ROTATE ∧
      State.reset.tmc.phase ≠ some .SEARCH := by decide

theorem test_DropAndSettleEnd_hypotheses :
    (mech .CHANGING (some .DROP) (some (.drop, 5))).tmc.timer = some (.drop, 5) ∧
      (mech .CHANGING (some .DROP) (some (.drop, 5))).tmc.pos = some 0 ∧
      (mech .CHANGING (some .SETTLE) (some (.settle, 5))).tmc.timer = some (.settle, 5) := by decide

theorem test_ClearJamAndClearMatch_hypotheses :
    (mech .JAMMED none none).addressed own ∧ (mech .JAMMED none none).tmc.st = .JAMMED ∧
      State.reset.addressed own ∧ State.reset.tmc.st ≠ .JAMMED ∧
      ((panelWith .STOP { resetPanelKey with hold := true }).panelKey .STOP).hold = true ∧
      State.reset.aq.mode ≠ .CONSOLE ∧ State.reset.lki.resetting = false ∧
      (State.reset.setTmc { resetTmc with slotMatch := true }).addressed own ∧ State.reset.tmc.slotMatch = false := by
  decide

theorem test_SlotFlagsAndSlotRead_hypotheses :
    State.reset.addressed own ∧ State.reset.unlocked ∧ (120 : Byte).toNat ≤ 120 ∧ 120 < (121 : Byte).toNat ∧
      1 ≤ (8 : Byte).toNat ∧ (8 : Byte).toNat ≤ 8 ∧ (113 : Byte).toNat + (8 : Byte).toNat ≤ 121 ∧
      8 < (9 : Byte).toNat ∧ 121 < (114 : Byte).toNat + (8 : Byte).toNat := by decide

/-! ## The lamp and the dissolve engine -/

theorem test_LampUpdateFormsTheLight_hypotheses :
    (lampIn .LIT).powered = true ∧ (lampIn .LIT).lmc.motion = none ∧
      ¬(true = true ∧ (lampIn .LIT).lmc.power = .LIT ∧ 200 ≤ (lampIn .LIT).lmc.outDrive ∧
        3 ≤ (lampIn .LIT).lmc.failCount + 1) := by decide

theorem test_LampUpdateServesTheMotions_hypotheses :
    (mech .CHANGING (some .DARKEN) none).tmc.phase = some .DARKEN ∧ (mech .CHANGING (some .DARKEN) none).tmc.timer = none ∧
      (mech .CHANGING (some .DARKEN) none).lmc.blanks.mech = true ∧
      ((lampIn .SWAPPING).setLmc { resetLmc with power := .SWAPPING, motion := some { target := .B, count := 148 } }).lmc.motion =
        some { target := .B, count := 148 } ∧ 148 + 1 < 150 ∧ (lampIn .SWAPPING).lmc.power = .SWAPPING := by decide

theorem test_RampAndTableStayInTheirIntervals_hypotheses :
    defaultTable.length = 33 ∧ defaultTable.Pairwise (· ≤ ·) ∧ 1 ≤ 1 := by decide +kernel

theorem test_RampIgnitionAndLitSecondComplete_hypotheses :
    ((lampIn .LIT).setLmc { resetLmc with ramp := some { start := 0, stop := 1000, n := 5, k := 4, curve := .CROSS } }).lmc.ramp =
        some { start := 0, stop := 1000, n := 5, k := 4, curve := .CROSS } ∧ 4 + 1 = 5 ∧
      (lampIn .IGNITING).lmc.power = .IGNITING ∧ 1 ≤ (lampIn .IGNITING).lmc.ignLen ∧
      ((lampIn .IGNITING).setLmc { resetLmc with ignJ := 39, ignLen := 40 }).lmc.ignJ + 1 = 40 ∧
      (((lampIn .LIT).setLmc { resetLmc with recA := { resetLamp with acc := 99 } }).lmc.lamp .A).acc = 99 := by decide

theorem test_LampFailureAndTheChanger_hypotheses :
    ((lampIn .LIT).setLmc { resetLmc with power := .LIT, outDrive := 200, failCount := 2 }).lmc.outDrive = 200 ∧
      (State.reset.lmc.lamp .B).usable = true ∧ State.reset.lmc.par.changer = true ∧
      ((lampIn .SWAPPING).setLmc { resetLmc with motion := some { target := .B, count := 149 } }).lmc.motion =
        some { target := .B, count := 149 } ∧ 1 ≤ State.reset.lmc.par.ignTime ∧ State.reset.thc.lost = false := by decide

theorem test_LampPresenceAndLampReset_hypotheses :
    ((lampIn .LIT).lmc.lamp .A).present = !false ∧ (lampIn .LIT).lmc.active = .A ∧ State.reset.addressed own ∧
      State.reset.unlocked ∧ LampPos.B ≠ State.reset.lmc.active ∧ State.reset.lmc.power = .OFF ∧
      (lampIn .LIT).addressed own ∧ (lampIn .LIT).lmc.power ≠ .OFF ∧ 1 < (2 : Byte).toNat := by decide

theorem test_ControlLampAndControlBlank_hypotheses :
    (lampIn .LIT).addressed own ∧ (lampIn .LIT).lmc.power ≠ .OFF ∧ State.reset.addressed own ∧
      State.reset.lmc.power = .OFF ∧ State.reset.thc.trip = false ∧ State.reset.thc.fanFault = false ∧
      State.reset.thc.power = .ACTIVE ∧ State.reset.lmc.noLamp = false ∧ State.reset.lmc.motion = none ∧
      (State.reset.lmc.lamp .A).usable = true ∧
      (State.reset.setThc { resetThc with trip := true }).addressed own ∧
      ((State.reset.setLmc { resetLmc with recA := { resetLamp with failed := true } }).lmc.lamp .A).usable = false ∧
      3 < (4 : Byte).toNat ∧ 1 < (2 : Byte).toNat := by decide

/-! ## Cooling, power hold and standby -/

theorem test_TemperatureSampleIsTaken_hypotheses :
    State.reset.powered = true ∧ (-1 : Int) < 0 ∧ (400 : Int) < 401 ∧ (400 : Int) = (400 : Nat) ∧
      State.reset.thc.trip = false ∧ State.reset.thc.par.tTrip ≤ 200 ∧ State.reset.thc.par.tSafe < 200 ∧
      (State.reset.setThc { resetThc with trip := true }).thc.trip = true ∧ 199 < State.reset.thc.par.tTrip := by decide

theorem test_SampleMovesTheFan_hypotheses :
    State.reset.powered = true ∧ State.reset.thc.fan = 0 ∧ State.reset.thc.tm = none ∧
      (State.reset.setThc { resetThc with tm := some 90, fan := 3 }).thc.tm.isSome = true ∧
      0 < (State.reset.setThc { resetThc with tm := some 90, fan := 3 }).thc.fan ∧
      (State.reset.setThc { resetThc with tm := some 90, fan := 3 }).thc.kick = none ∧
      (State.reset.setThc { resetThc with tm := some 90, fan := 3, kick := some 5 }).thc.kick.isSome = true ∧
      State.reset.thc.par.tSafe < 199 ∧ 199 < State.reset.thc.par.tTrip ∧ 100 ≤ State.reset.thc.par.tSafe := by decide

theorem test_FanStartsWithAKick_hypotheses :
    State.reset.thc.lossTimer = some 1000000 ∧ State.reset.thc.fan = 0 ∧
      ((lampIn .LIT).setThc { resetThc with lost := true, lossStart := some 5 }).lmc.power = .LIT ∧
      ((lampIn .LIT).setThc { resetThc with lost := true, lossStart := some 5 }).thc.lossStart = some 5 ∧
      (State.reset.setThc { resetThc with cooldown := some { start := 5, trip := false }, tm := some 100 }).thc.cooldown =
        some { start := 5, trip := false } ∧ 100 ≤ State.reset.thc.par.tSafe ∧ State.reset.thc.lost = false ∧
      State.reset.addressed own ∧ State.reset.lmc.power = .OFF ∧ State.reset.thc.trip = false ∧
      State.reset.thc.fanFault = false ∧ State.reset.thc.power = .ACTIVE ∧ State.reset.lmc.noLamp = false ∧
      State.reset.lmc.motion = none ∧ (State.reset.lmc.lamp State.reset.lmc.active).usable = true := by decide

theorem test_SensorLossAndCooldownEnd_hypotheses :
    State.reset.thc.lossTimer = some 1000000 ∧
      (State.reset.setThc { resetThc with lost := true, lossStart := some 5 }).thc.lossStart = some 5 ∧
      (State.reset.setThc { resetThc with lost := true, lossStart := some 5 }).thc.loss30 = false ∧
      (State.reset.setThc { resetThc with cooldown := some { start := 5, trip := false }, tm := some 100 }).thc.tm = some 100 ∧
      100 ≤ State.reset.thc.par.tSafe ∧ State.reset.thc.par.tSafe < 101 ∧ State.reset.thc.lost = false := by decide

theorem test_FanIsKickedAndWatched_hypotheses :
    (State.reset.setThc { resetThc with kick := some 5 }).thc.kick = some 5 ∧
      (State.reset.setThc { resetThc with tachQual := true }).thc.tachQual = true ∧
      State.reset.thc.tachCount < State.reset.thc.par.stallThr ∧ State.reset.thc.fanFault = false ∧
      State.reset.thc.stall = 0 ∧ 1 ≤ (State.reset.setThc { resetThc with stall := 1 }).thc.stall ∧
      State.reset.thc.par.stallThr ≤ 10 ∧ State.reset.thc.tachQual = false := by decide

theorem test_StandbyAndWake_hypotheses :
    State.reset.thc.power = .ACTIVE ∧ State.reset.addressed own ∧
      ((panelWith .POWER { resetPanelKey with hold := true }).panelKey .POWER).hold = true ∧
      (panelWith .POWER { resetPanelKey with hold := true }).thc.power = .ACTIVE ∧
      (State.reset.setThc { resetThc with power := .STANDBY }).addressed own ∧
      (mech .IDLE none none).tmc.st = .IDLE := by decide

/-! ## The tape and the sound -/

theorem test_CassetteAndTapeEnds_hypotheses :
    State.reset.ttc.st = .EMPTY ∧ State.reset.ttc.cassette = !true ∧ State.reset.ttc.cassetteDue = none ∧
      (State.reset.setTtc { resetTtc with cassette := true, cassetteDue := some 5 }).ttc.cassetteDue = some 5 ∧
      ((tapeIn .PLAY).setTtc { resetTtc with st := .PLAY, fgTimer := some 5 }).ttc.fgTimer = some 5 ∧
      ((tapeIn .PLAY).setTtc { resetTtc with st := .PLAY, reelTimer := some 5 }).ttc.reelTimer = some 5 ∧
      ((tapeIn .REWIND).setTtc { resetTtc with st := .REWIND, reelTimer := some 5 }).ttc.par.loop = false ∧
      ((seqIn .ENDED none).setTtc { resetTtc with
        st := .REWIND, reelTimer := some 5, par := { defaultTtc with loop := true } }).ttc.par.loop = true ∧
      (seqIn .ENDED none).ssq.st ≠ .UNLOADED := by decide

theorem test_RestartIsSilent_hypotheses :
    (((seqIn .RUNNING none).setTtc { resetTtc with
        st := .REWIND, reelTimer := some 5, par := { defaultTtc with loop := true } }).setAq { resetAq with
          queue := [showEntry 0 .MARK] }).ttc.reelTimer = some 5 ∧ (seqIn .RUNNING none).ssq.st ≠ .UNLOADED ∧
      (seqIn .RUNNING none).lki.resetting = false ∧
      (∀ e ∈ [showEntry 0 .MARK], e.tag.isSome = true ∧ (e.running = true → e.action.mech = false)) := by decide

theorem test_TapeOperationByTheTable_hypotheses :
    (tapeIn .STOPPED).addressed own ∧ (tapeIn .EMPTY).addressed own ∧
      tapeRefusal .PLAY (tapeIn .STOPPED).ttc.st (tapeIn .STOPPED).ttc.atEnd false = false ∧
      tapeRefusal .PLAY (tapeIn .EMPTY).ttc.st (tapeIn .EMPTY).ttc.atEnd false = true ∧ 4 < (5 : Byte).toNat := by decide

theorem test_FgReelVolumeAndUnlock_hypotheses :
    State.reset.ttc.st ≠ .PLAY ∧ (tapeIn .PLAY).ttc.st = .PLAY ∧ (tapeIn .PLAY).ttc.lastFg = none ∧
      ((tapeIn .PLAY).setTtc { resetTtc with st := .PLAY, lastFg := some 0 }).ttc.lastFg = some 0 ∧ 0 ≤ State.reset.now ∧
      (0 : Int) < 1000 + (tapeIn .PLAY).ttc.par.trimT ∧ (tapeIn .REWIND).ttc.st = .REWIND ∧
      (State.reset.setTtc { resetTtc with unlockStart := some 5 }).ttc.unlockStart = some 5 ∧
      State.reset.ttc.unlockPassed = false := by decide

theorem test_GainScalesEveryFrame_hypotheses : State.reset.powered = true ∧ State.reset.ttc.curVol ≤ 63 := by decide

/-! ## The cue track -/

theorem test_EdgesCarrierAndSpeed_hypotheses :
    (State.reset.setCud { resetCud with par := { defaultCud with source := .NONE } }).cud.par.source = .NONE ∧
      State.reset.cud.par.source ≠ .NONE ∧ State.reset.cud.carrier = false ∧ State.reset.cud.lastEdge = none ∧
      (State.reset.setCud { resetCud with lastEdge := some 0 }).cud.lastEdge = some 0 ∧ 0 + 50000 - 0 ≤ 50000 ∧
      (State.reset.setCud { resetCud with
        carrier := true, lastEdge := some 0, pendHalf := some 1562, bits := List.replicate 32 none }).cud.bits.length = 32 ∧
      4 * (2 * (1562 : Int) - 3125).natAbs ≤ 3125 ∧
      (State.reset.setCud { resetCud with carrierTimer := some 5 }).cud.carrierTimer = some 5 ∧
      (State.reset.setCud { resetCud with speedOffTimer := some 5 }).cud.speedOffTimer = some 5 := by decide

theorem test_FramesLeadFromHuntToSync_hypotheses :
    (framing .HUNT).cud.carrier = true ∧ (cellsOf 0 .CUE 1).length = 32 ∧ (framing .HUNT).cud.framing = .HUNT ∧
      (framing .HUNT).cud.bits = [] ∧ judgeWindow ((cellsOf 0 .CUE 1).map cellValue) = .valid 0 .CUE 1 ∧
      (framing .CONFIRM).cud.candAlign = some ((framing .CONFIRM).cud.bitIndex % 32) ∧
      judgeWindow ((List.replicate 32 CueCell.void).map cellValue) = .damaged := by decide +kernel

theorem test_FramesInSyncAreHandled_hypotheses :
    (framing .SYNC).cud.carrier = true ∧ (framing .SYNC).cud.framing = .SYNC ∧
      (framing .SYNC).cud.align = some ((framing .SYNC).cud.bitIndex % 32) ∧ (framing .SYNC).cud.bits.length ≤ 32 ∧
      judgeWindow ((cellsOf 15 .CUE 16383).map cellValue) = .valid 15 .CUE 16383 ∧
      judgeWindow ((List.replicate 32 CueCell.void).map cellValue) = .damaged ∧
      ((framing .SYNC).setCud { resetCud with window := some { frames := 15, errors := 4 } }).cud.window =
        some { frames := 15, errors := 4 } := by decide +kernel

/-- A program of two steps, the second one waiting for cue 5, at its first step in a sequencer state. -/
def cued (st : SeqState) : State :=
  State.reset.setSsq { resetSsq with
    steps := plainStep (some 1) (.TIME 3) :: plainStep none (.CUE 5) :: List.replicate 254 defaultStep
    st := st, ptr := some 0, pausedFrom := if st = .PAUSED then some .RUNNING else none }

theorem test_TriggersReachTheShow_hypotheses :
    ((cued .RUNNING).setAq { resetAq with mode := .SHOW }).aq.mode = .SHOW ∧ (cued .RUNNING).lki.resetting = false ∧
      (cued .RUNNING).ssq.ptr = some 0 ∧ ((cued .RUNNING).ssq.step 0).trigger ≠ .CUE 5 ∧
      (cued .RUNNING).ssq.finds 5 0 false 1 1 ∧ (cued .RUNNING).ssq.finds 5 1 true 1 0 ∧
      ((cued .RUNNING).ssq.step 0).trigger = .TIME 3 ∧ (cued .PAUSED).ssq.st = .PAUSED ∧
      (cued .RUNNING).ssq.linked ((cued .RUNNING).ssq.step 1).next = none := by
  refine ⟨by decide, by decide, by decide, by decide, ⟨by decide, by decide, by decide, by decide, ?_⟩,
    ⟨by decide, by decide, by decide, by decide, ?_⟩, by decide, by decide, by decide⟩
  · intro i hi hp
    have h0 : i = 0 := by omega
    subst h0
    exact absurd hp (by decide)
  · intro i hi
    omega

theorem test_FramesHandTheirTriggers_hypotheses :
    judgeWindow ((cellsOf 2 .TIME 9).map cellValue) = .valid 2 .TIME 9 ∧
      judgeWindow (((cellsOf 2 .TIME 9).take 31 ++ [CueCell.bit (!((frameBits 2 .TIME 9).getD 31 false)) 3125]).map cellValue) =
        .checkError ∧
      ((framing .SYNC).setCud { resetCud with window := some { frames := 15, errors := 3 } }).cud.window =
        some { frames := 15, errors := 3 } ∧ (framing .SYNC).cud.errs + 1 < 3 := by decide +kernel

theorem test_StopFrameEndsTheTape_hypotheses :
    judgeWindow ((cellsOf 2 .STOP 9).map cellValue) = .valid 2 .STOP 9 ∧ (cellsOf 2 .STOP 9).length = 32 ∧
      (framing .SYNC).cud.align = some ((framing .SYNC).cud.bitIndex % 32) ∧ (framing .SYNC).cud.bits.length ≤ 32 ∧
      (framing .SYNC).cud.carrier = true ∧ (framing .SYNC).cud.par.source = .LOCAL_TAPE ∧
      ((framing .SYNC).setTtc { resetTtc with st := .PLAY, par := { defaultTtc with stopRewind := true } }).ttc.par.stopRewind =
        true ∧ (framing .SYNC).ttc.st ≠ .PLAY := by decide +kernel

theorem test_IntervalsFormBits_hypotheses :
    ((framing .HUNT).setCud { (framing .HUNT).cud with
        lastEdge := some 0, bits := List.replicate 32 none, pendHalf := some 1500 }).cud.bits.length = 32 ∧
      (framing .HUNT).cud.carrier = true ∧ (framing .HUNT).cud.par.source ≠ .NONE ∧ (framing .HUNT).cud.cellE = 3125 ∧
      4 * (((3906 : Nat) : Int) - (3125 : Nat)).natAbs ≤ 3125 ∧ ¬4 * (((3907 : Nat) : Int) - (3125 : Nat)).natAbs ≤ 3125 ∧
      ¬4 * (2 * ((2344 : Nat) : Int) - (3125 : Nat)).natAbs ≤ 3125 := by decide

theorem test_RegeneratorSendsValidFrames_hypotheses :
    ((framing .SYNC).setCud { resetCud with slotDue := some 5 }).cud.slotDue = some 5 ∧ 15 < 16 ∧ 16383 < 16384 := by
  decide

/-! ## The sequencer -/

theorem test_StepRecordsAreWrittenAndRead_hypotheses :
    (seqIn .RUNNING (some 0)).addressed own ∧ (seqIn .RUNNING (some 0)).unlocked ∧
      (seqIn .RUNNING (some 0)).ssq.st = .RUNNING ∧ (encodeStep (plainStep none .MANUAL)).length = 26 ∧
      decodeStep (encodeStep (plainStep none .MANUAL)) = some (plainStep none .MANUAL) ∧
      decodeStep (4 :: List.replicate 25 0) = none ∧ (seqIn .READY (some 0)).addressed own ∧
      (seqIn .READY (some 0)).ssq.head < (seqIn .READY (some 0)).ssq.steps.length ∧
      decodeStep (encodeStep defaultStep) = some defaultStep ∧ defaultStep.valid = false ∧
      (255 : Byte).toNat < (seqIn .READY (some 0)).ssq.steps.length ∧ State.reset.ssq.st = .UNLOADED := by decide +kernel

theorem test_ArmPauseAndResume_hypotheses :
    (seqIn .READY (some 0)).addressed own ∧ (seqIn .READY (some 0)).unlocked ∧
      ((seqIn .READY (some 0)).ssq.step 1).valid = true ∧ ((seqIn .READY (some 0)).ssq.step 2).valid = false ∧
      (seqIn .PAUSED (some 0)).addressed own ∧ (seqIn .PAUSED (some 0)).ssq.pausedFrom = some .RUNNING ∧
      (seqIn .ENDED none).addressed own ∧
      ((seqIn .PAUSED (some 0)).setSsq { (seqIn .PAUSED (some 0)).ssq with follow := .frozen 0 }).ssq.follow = .frozen 0 := by
  decide

theorem test_ResumeOffersAndJudges_hypotheses :
    (seqIn .PAUSED (some 0)).addressed own ∧ (seqIn .PAUSED (some 0)).ssq.pausedFrom = some .RUNNING ∧
      ((seqIn .PAUSED (some 0)).setAq holding.aq).headMove = .wait .RUNNING ∧
      (seqIn .PAUSED (some 0)).headMove = .wait .EMPTY ∧
      ((seqIn .PAUSED (some 0)).setSsq { (seqIn .PAUSED (some 0)).ssq with
        pend := (some { index := 0, chase := false, need := 0 }) }).ssq.pend = some { index := 0, chase := false, need := 0 } ∧
      ((cued .PAUSED).setSsq { (cued .PAUSED).ssq with remembered := some 5, ptr := some 1 }).ssq.remembered = some 5 ∧
      ((cued .PAUSED).ssq.step 1).trigger = .CUE 5 := by decide

/-- A show paused in RUNNING at step 1, which follows at once: step 2 without actions waits to be placed, and the cue of step 3
is remembered. -/
def pausedShow : State :=
  (State.reset.setSsq { resetSsq with
    steps := plainStep (some 1) .MANUAL :: plainStep (some 3) (.FOLLOW 0) :: plainStep none .MANUAL ::
      plainStep none (.CUE 5) :: List.replicate 252 defaultStep
    st := .PAUSED, ptr := some 1, pausedFrom := some .RUNNING, watched := some 2, remembered := some 5
    pend := some { index := 2, chase := false, need := 0 } }).setAq { holding.aq with mode := .SHOW }

theorem test_ResumeStartsTheFollowTimer_hypotheses :
    pausedShow.addressed own ∧ pausedShow.ssq.st = .PAUSED ∧ pausedShow.ssq.pausedFrom = some .RUNNING ∧
      pausedShow.ssq.pend = some { index := 2, chase := false, need := 0 } ∧ pausedShow.ssq.entries 2 false = [] ∧
      pausedShow.ssq.watched = some 2 ∧ (∀ e ∈ pausedShow.aq.queue, e.tag ≠ some 2) ∧ pausedShow.ssq.ptr = some 1 ∧
      (pausedShow.ssq.step 1).trigger = .FOLLOW 0 ∧ pausedShow.ssq.follow = .stopped ∧
      pausedShow.headMove = .wait .RUNNING ∧ pausedShow.aq.mode = .SHOW ∧ pausedShow.ssq.remembered = some 5 ∧
      pausedShow.ssq.linked (pausedShow.ssq.step 1).next = some 3 ∧ (pausedShow.ssq.step 3).trigger = .CUE 5 ∧
      pausedShow.aq.queue ≠ [] ∧ pausedShow.ssq.linked (pausedShow.ssq.step 3).next = none := by decide

/-- R151, R162: the step that follows at once fires before the cue of its successor is judged, which is then no chase. -/
theorem test_resume_fires_the_follow_step_first :
    pausedShow.resumeSeq.ssq.watched = some 3 ∧ pausedShow.resumeSeq.ssq.skipped = 0 := by decide +kernel

/-- R163: a restart in RUNNING at END queues no notice of the sequencer's own. -/
theorem test_restart_ends_no_show :
    ((seqIn .RUNNING none).setAq { resetAq with queue := [showEntry 0 .MARK] }).restartSeq.lki.notices = [] ∧
      ((seqIn .RUNNING none).setAq { resetAq with queue := [showEntry 0 .MARK] }).restartSeq.ssq.st = .READY := by
  decide +kernel

theorem test_AdvanceAndFollowFireTheStep_hypotheses :
    (seqIn .READY (some 0)).addressed own ∧ (seqIn .READY (some 0)).ssq.ptr = some 0 ∧
      (seqIn .READY (some 0)).ssq.linked ((seqIn .READY (some 0)).ssq.step 0).next = some 1 ∧
      ((seqIn .READY (some 0)).ssq.step 1).trigger = .FOLLOW 1 ∧ (seqIn .ENDED none).ssq.ptr = none ∧
      (seqIn .RUNNING (some 1)).ssq.linked ((seqIn .RUNNING (some 1)).ssq.step 1).next = none ∧
      ((seqIn .RUNNING (some 1)).setSsq { (seqIn .RUNNING (some 1)).ssq with follow := .running 5 }).ssq.follow = .running 5 ∧
      ((seqIn .RUNNING (some 1)).setAq { resetAq with mode := .SHOW }).aq.mode = .SHOW ∧
      State.reset.aq.mode ≠ .SHOW := by decide

/-! ## The remote line and the panel -/

/-- R168: a bit high that fails at its falling edge: the low that begins there is no start, the next one is. -/
theorem test_low_after_a_failed_high_is_no_start :
    let times := [LineTime.low 2400, .high 600, .low 600, .high 1100, .low 2400]
    ((remoteMalformed .ir times State.reset).rpd.ir.rx = none ∧
      (remoteMalformed .ir (times ++ [.high 600, .low 2400]) State.reset).rpd.ir.rx = some (.inFrame 0 [])) ∧
      (remoteMalformed .ir [.low 2400, .high 600, .low 600, .high 2200, .low 2400] State.reset).rpd.ir.rx =
        some (.inFrame 0 []) := by decide

theorem test_RemoteFramesArePresses_hypotheses :
    (State.reset.rpd.dec .ir).rx = none ∧ remoteKey 1 = some .FWD ∧ remoteKey 13 = some .TAPE_STOP ∧
      (4095#12).toNat / 256 = 15 ∧ State.reset.rpd.channel = 0 ∧ (State.reset.rpd.dec .ir).lastSeq ≠ some 3 ∧
      ((State.reset.setDec .ir { rx := none, lastSeq := some 3, held := some pressFwd }).rpd.dec .ir).lastSeq = some 3 ∧
      ((State.reset.setDec .ir { rx := none, lastSeq := some 3, held := some pressFwd }).rpd.dec .ir).held =
        some pressFwd ∧
      1919 < 1920 ∧ 2880 < 2881 ∧ 479 < 480 ∧ 720 < 721 ∧ 721 < 1440 ∧ 1439 < 1440 ∧ 2160 < 2161 ∧
      ((State.reset.setDec .ir { resetDecoder with rx := some .passing }).rpd.dec .ir).rx = some .passing ∧
      remoteKey ((0x00E#12).toNat / 4 % 64) = some .DIM_UP ∧ (0x00E#12).toNat / 256 = State.reset.rpd.channel ∧
      ((State.reset.setDec .ir { rx := none, lastSeq := some 2, held :=
        (some { pressFwd with key := .DIM_UP, repeats := true }) }).rpd.dec .ir).lastSeq =
          some ((0x00E#12).toNat % 4) := by decide

theorem test_KeysHaveTheirEffects_hypotheses :
    State.reset.aq.mode = .LOCAL ∧ State.reset.lki.resetting = false ∧ resetting.lki.resetting = true ∧
      (queued (List.replicate 11 .MARK)).aq.queue.length < 12 ∧ 12 ≤ (queued (List.replicate 12 .MARK)).aq.queue.length ∧
      (State.reset.setAq { resetAq with mode := .CONSOLE }).aq.mode = .CONSOLE ∧
      (State.reset.setThc { resetThc with power := .STANDBY }).thc.power = .STANDBY ∧
      (seqIn .READY (some 0)).ssq.st = .READY ∧ (seqIn .PAUSED (some 0)).ssq.pausedFrom = some .RUNNING ∧
      tapeRefusal .PLAY (tapeIn .STOPPED).ttc.st (tapeIn .STOPPED).ttc.atEnd false = false := by decide

theorem test_PanelKeysActByTheirLines_hypotheses :
    State.reset.rpd.panel.length = 15 ∧ (State.reset.panelKey .POWER).closed = !true ∧
      ((panelWith .FWD { resetPanelKey with closed := true, debounce := some 5 }).panelKey .FWD).debounce = some 5 ∧
      ((panelWith .FWD { resetPanelKey with down := true, debounce := some 5 }).panelKey .FWD).closed = false ∧
      ((panelWith .VOL_UP { resetPanelKey with nextRepeat := some 5 }).panelKey .VOL_UP).nextRepeat = some 5 ∧
      ((panelWith .MODE { resetPanelKey with hold := true }).panelKey .MODE).hold = true ∧
      (panelWith .MODE { resetPanelKey with hold := true }).rpd.panel.length = 15 := by decide

theorem test_PanelHoldsAreTimed_hypotheses :
    ((panelWith .MODE { resetPanelKey with closed := true, debounce := some 5 }).panelKey .MODE).debounce = some 5 ∧
      ((panelWith .MODE { resetPanelKey with closed := true, debounce := some 5 }).panelKey .MODE).down = false ∧
      ((panelWith .POWER { resetPanelKey with closed := true, debounce := some 5 }).panelKey .POWER).closed = true ∧
      (panelWith .POWER { resetPanelKey with closed := true, debounce := some 5 }).thc.power = .ACTIVE ∧
      ((panelWith .POWER { resetPanelKey with closed := true }).setThc { resetThc with power := .STANDBY }).thc.power =
        .STANDBY ∧
      (((panelWith .STOP { resetPanelKey with hold := true }).setTmc (mech .JAMMED none none).tmc).panelKey .STOP).hold = true ∧
      (mech .JAMMED none none).tmc.st = .JAMMED ∧ (State.reset.setAq { resetAq with mode := .CONSOLE }).aq.mode = .CONSOLE ∧
      (State.reset.panelKey .MODE).hold = false ∧ State.reset.tmc.st ≠ .JAMMED := by decide

/-! ## The show link -/

/-- A frame under way, after the bytes `l`. -/
def receivingOf (l : List Byte) : State := State.reset.setLki { resetLki with rx := some { bytes := l, gapDue := 2000 } }

theorem test_BytesMakeRequests_hypotheses :
    sending.deaf = true ∧ State.reset.deaf = false ∧ State.reset.lki.rx = none ∧
      (receivingOf [1, 9, 4]).lki.rx = some { bytes := [1, 9, 4], gapDue := 2000 } ∧ 32 < (33 : Byte).toNat ∧
      (receivingOf [1, 9, 4]).now + 2260 ≤ 2000 + 260 ∧ 2000 + 260 < (receivingOf [1, 9, 4]).now + 2261 ∧
      (Req.control 5 1).command 7 own = some (.controlMode 7 own 1) ∧
      (([1, 9, 4, 2, 5, 1] : List Byte).map BitVec.toNat).sum + (234 : Byte).toNat = 256 ∧
      [1, 9, 4, 2, 5, 1] = [own.dest, own.src, (Req.control 5 1).code, 2] ++ (Req.control 5 1).payload ∧
      (State.reset.setLki { resetLki with resp := .PENDING { dest := 9, src := 1, kind := 0x84, payload := [0] } 0 }).deaf =
        false := by decide

theorem test_RequestsAreRouted_hypotheses :
    (Req.control 8 1).command 7 all = some (.controlBlank 7 all 1) ∧ (Req.control 8 1).code ≠ 0x0B ∧
      (Req.control 8 1).command 7 own = some (.controlBlank 7 own 1) ∧ (1 : Byte) ≠ 31 ∧
      State.reset.lki.addr = .ASSIGNED (1 : Byte).toNat ∧ resetting.lki.resetting = true ∧
      (State.reset.setLki { resetLki with addr := .LISTEN_ONLY }).lki.addr = .LISTEN_ONLY ∧
      (State.reset.setLki { resetLki with addr := .UNASSIGNED }).lki.addr = .UNASSIGNED ∧ (2 : Byte).toNat ≠ 1 := by decide

theorem test_FramesOutsideTheCatalogue_hypotheses :
    (receivingOf [1, 9, 16, 0]).deaf = false ∧ (([1, 9, 16, 0] : List Byte).map BitVec.toNat).sum + (230 : Byte).toNat = 256 ∧
      (∀ n, ((16 : Byte).toNat, n) ∉ [(1, 2), (2, 6), (3, 5), (4, 2), (5, 28), (6, 1), (7, 1), (8, 3), (9, 2), (10, 1), (11, 0),
        (12, 2), (13, 1), (14, 0), (15, 5)]) ∧ 128 ≤ (0x84 : Byte).toNat ∧ 14 < (15 : Byte).toNat ∧
      (receivingOf [1, 9, 16, 0]).lki.addr = .ASSIGNED 1 := by
  refine ⟨by decide, by decide, ?_, by decide, by decide, by decide⟩
  intro n h
  simp at h

theorem test_SavesLockRequests_hypotheses :
    (saving true).addressed own ∧ (saving true).sts.save ≠ none ∧ (List.replicate 26 (0 : Byte)).length = 26 ∧
      (State.reset.setLki { resetLki with addr := .LISTEN_ONLY }).lki.addr = .LISTEN_ONLY ∧
      (State.reset.setLki { resetLki with addr := .LISTEN_ONLY }).deaf = false ∧ all.dest = 31 ∧
      (Req.control 8 1).command 7 all = some (.controlBlank 7 all 1) ∧
      (Req.control 8 1).command 7 own = some (.controlBlank 7 own 1) ∧ (Req.control 8 1).code ≠ 0x01 ∧
      1 ≤ (10 : Byte).toNat ∧ (10 : Byte).toNat ≤ 10 ∧ 10 < (11 : Byte).toNat ∧ (1 : Byte).toNat < (29 + 27) / 28 ∧
      (29 + 27) / 28 ≤ (2 : Byte).toNat := by decide +kernel

theorem test_ShortStepWriteIsRefused_hypotheses :
    State.reset.addressed own ∧ (List.replicate 25 (0 : Byte)).length ≠ 26 := by decide

theorem test_QueryReportsAGroup_hypotheses :
    State.reset.addressed own ∧ (report State.reset 9).isSome = true ∧ State.reset.lki.copies[9]? = some none ∧
      (State.reset.setLki { resetLki with copies := [some [1, 2, 3]] }).lki.copies[0]? = some (some [1, 2, 3]) ∧
      10 < (11 : Byte).toNat := by decide +kernel

theorem test_SetHoldsValuesInRange_hypotheses :
    State.reset.addressed own ∧ State.reset.unlocked ∧ (saving true).addressed own ∧
      (saving true).sts.save.isSome = true ∧ (255 : Int) = min 255 (max 0 (300#32).toInt) ∧
      (0 : Int) = min 255 (max 0 (BitVec.ofInt 32 (-1)).toInt) ∧ 139 < State.reset.thc.par.tHi ∧
      State.reset.thc.par.tHi ≤ 140 ∧ State.reset.lmc.par.table.length = 33 ∧
      State.reset.lmc.par.table.Pairwise (· ≤ ·) ∧ (32 : Byte).toNat ≤ 32 ∧ 32 < (33 : Byte).toNat ∧
      41 < (42 : Byte).toNat ∧
      (State.reset.setThc { resetThc with cooldown := some { start := 0, trip := false } }).thc.cooldown =
        some { start := 0, trip := false } := by decide +kernel

theorem test_SetTakesEachParameter_hypotheses :
    State.reset.addressed own ∧ State.reset.unlocked ∧ (36 : Byte).toNat ∈ [6, 13, 14, 15, 29, 30, 31, 32, 36] ∧
      ((36 : Byte).toNat, State.reset.cud.par.relay) = (36, false) ∧ (2#32) ≠ 0 ∧ (2#32) ≠ 1 ∧
      (BitVec.ofInt 32 (-1)).toInt < 0 ∧ (3 : Int) ≤ (3#32).toInt ∧ (120 : Int) = min 120 (121#32).toInt ∧
      (80 : Int) = min 400 (max 0 (80#32).toInt) ∧ State.reset.thc.par.tLo = 80 ∧ State.reset.thc.par.tTrip = 200 ∧
      (200 : Int) = min 400 (max 0 (200#32).toInt) ∧ (201 : Int) = min 400 (max 0 (201#32).toInt) ∧
      (35 : Int) = min 100 (max 0 (35#32).toInt) ∧ State.reset.thc.par.fMinLit = 35 ∧ State.reset.thc.par.fMax = 100 ∧
      (framing .SYNC).cud.framing = .SYNC ∧ (framing .SYNC).cud.sending = false ∧ State.reset.cud.par.source = .LOCAL_TAPE := by
  decide +kernel

/-- A part whose SEEK runs, with 11 entries behind it. -/
def seekingBusy : State :=
  (mech .SEEKING (some .DARKEN) none).setAq { resetAq with
    queue := { plainEntry .LINK (.SEEK 5) with running := true } :: List.replicate 11 (plainEntry .LINK .MARK) }

/-- R165: a show that runs at step 1 is READY at the stored head 0 again. R22: of a queue whose SEEK runs the SEEK alone is left,
and R42, R50: the seek is truncated. -/
theorem test_unit_reset_examples :
    (seqIn .RUNNING (some 1)).unitReset.ssq.st = .READY ∧ (seqIn .RUNNING (some 1)).unitReset.ssq.ptr = some 0 ∧
      seekingBusy.unitReset.aq.queue.map Entry.action = [.SEEK 5] ∧ seekingBusy.unitReset.tmc.truncated = true ∧
      seekingBusy.unitReset.lki.resetting = true := by decide +kernel

theorem test_UnitResetAndAssign_hypotheses :
    State.reset.addressed own ∧ (mech .JAMMED none none).addressed own ∧ (mech .JAMMED none none).tmc.st = .JAMMED ∧
      seekingBusy.addressed own ∧ seekingBusy.tmc.st.moving = true ∧ seekingBusy.aq.queue.length = 12 ∧
      (queued (List.replicate 12 .MARK)).addressed own ∧ (queued (List.replicate 12 .MARK)).tmc.st = .PARKED ∧
      (queued (List.replicate 12 .MARK)).aq.queue.length ≤ 12 ∧ (mech .IDLE none none).tmc.st = .IDLE ∧
      State.reset.powered = true ∧ State.reset.deaf = false ∧ State.reset.lki.resetting = false ∧ (1 : Nat) ≠ 31 ∧
      (State.reset.setLki { resetLki with addr := .LISTEN_ONLY }).deaf = false ∧
      State.reset.aq.queue = [] ∧ State.reset.tmc.st = .PARKED ∧ (queued [.MARK]).aq.queue ≠ [] ∧
      resetting.lki.resetting = true ∧ resetting.powered = true ∧ own.dest ≠ 31 ∧ all.dest = 31 ∧
      (State.reset.setLki { resetLki with addr := .UNASSIGNED }).lki.addr = .UNASSIGNED ∧
      (State.reset.setSts { resetSts with serial := 7 }).sts.serial = 7 ∧ 1 ≤ (30 : Byte).toNat ∧ (30 : Byte).toNat ≤ 30 ∧
      30 < (31 : Byte).toNat ∧ (State.reset.setLki { resetLki with addr := .LISTEN_ONLY }).lki.addr = .LISTEN_ONLY ∧
      State.reset.lki.addr = .ASSIGNED 1 ∧ State.reset.lki.assignTaken = false ∧
      (State.reset.setLki { resetLki with assignTaken := true }).lki.assignTaken = true := by decide

/-! ## Counters, notices and saves -/

theorem test_CountersReadSendsTheSnapshot_hypotheses :
    State.reset.addressed own ∧ State.reset.cnt.snap.length = 24 ∧ 5 < (6 : Byte).toNat := by decide

theorem test_SnapshotsMoveTheCounters_hypotheses :
    State.reset.cnt.timer = some 10000000 ∧ State.reset.addressed own ∧ 65534 < 65535 := by decide

theorem test_NoticePollTakesTheOldest_hypotheses :
    State.reset.addressed own ∧ own.dest ≠ 31 ∧ all.dest = 31 ∧ State.reset.lki.addr = .ASSIGNED 1 ∧
      (State.reset.setLki { resetLki with addr := .LISTEN_ONLY }).lki.addr = .LISTEN_ONLY := by decide

theorem test_NoticeEnableSwitchesAKind_hypotheses :
    State.reset.addressed own ∧ 33 < (34 : Byte).toNat ∧ (21 : Byte).toNat ≤ 21 ∧
      (State.reset.setLki { resetLki with enables := List.replicate 34 false }).addressed own ∧
      (State.reset.setLki { resetLki with enables := List.replicate 34 false }).lki.enables.getD 33 false = false := by
  decide

theorem test_SavesWriteTheRecord_hypotheses :
    State.reset.addressed own ∧ State.reset.sts.save = none ∧ (saving false).addressed own ∧
      (saving false).sts.save.isSome = true ∧ (saving true).powered = true ∧
      (State.reset.setSts { resetSts with litTimer := some 5 }).sts.litTimer = some 5 := by decide +kernel

theorem test_LampChangesAskForASave_hypotheses :
    (lampIn .LIT).addressed own ∧ (lampIn .LIT).lmc.power ≠ .OFF ∧ (lampIn .LIT).thc.power = .ACTIVE ∧
      (lampIn .LIT).sts.save = none ∧ ((lampIn .LIT).setSts (saving true).sts).sts.save.isSome = true ∧
      State.reset.addressed own ∧ State.reset.lmc.power = .OFF ∧ State.reset.thc.trip = false ∧
      State.reset.thc.fanFault = false ∧ State.reset.lmc.noLamp = false ∧ State.reset.thc.lost = false := by decide +kernel

/-! ## What every command keeps: a part at work that meets every invariant, and a step of it -/

/-- A part with a tray in IDLE, the lamp lit, a program that runs and a notice. -/
def working : State :=
  ((((mech .IDLE none none).setLmc { resetLmc with
      power := .LIT, outLevel := 500, outDrive := 500, blanks := { resetLmc.blanks with mech := false } }).setSsq
        (seqIn .RUNNING (some 1)).ssq).setLki { resetLki with
          notices := [{ kind := .JAM, clear := false, subject := some 80, stamp := 0 }], attn := true }).setPending
            [.lampUpdate 10000 false]

theorem test_working_steps : ∃ t, step working = .next t := ⟨_, rfl⟩

theorem test_OutputsAndNoticesAreKept_hypotheses : NoticeInv working ∧ OutputInv working := by
  refine ⟨⟨?_, ?_⟩, ?_, ?_⟩ <;> decide

theorem test_LampSafetyIsKept_hypotheses : LampInv working := by refine ⟨?_, ?_, ?_⟩ <;> decide

theorem test_NoMotionInTheLight_hypotheses :
    MechInv working ∧ MechInv ((mech .CHANGING (some .LIFT) (some (.lift, 5))).setTmc
      { (mech .CHANGING (some .LIFT) (some (.lift, 5))).tmc with lifter := .up }) ∧
      ((mech .CHANGING none none).setTmc { resetTmc with lifter := .up }).mechDriven := by
  refine ⟨⟨?_, ?_, ?_, ?_, ?_⟩, ⟨?_, ?_, ?_, ?_, ?_⟩, .inl ?_⟩ <;> decide

theorem test_TrayRecordsAreKept_hypotheses : TrayInv working := by
  refine ⟨?_, ?_, ?_, ?_, ?_, ?_, ?_, ?_, ?_⟩
  · decide
  · decide
  · decide
  · decide +kernel
  · decide
  · decide
  · decide
  · intro p h
    cases h
    decide
  · exact trivial

theorem test_SequencerStatesAreKept_hypotheses : SeqInv working.ssq := by
  refine ⟨?_, ?_, ?_, ?_, ?_, ?_, ?_, ?_, ?_, ?_⟩
  all_goals first | decide | exact trivial

theorem test_ActionQueueIsKept_hypotheses :
    QueueInv working ∧ QueueInv (queued (List.replicate 12 .MARK)) ∧ QueueInv holding ∧
      holding.aq.holdDue.isSome = true := by
  refine ⟨⟨?_, ?_, ?_, ?_⟩, ⟨?_, ?_, ?_, ?_⟩, ⟨?_, ?_, ?_, ?_⟩, ?_⟩ <;> decide

theorem test_CueTrackIsKept_hypotheses : CueInv working ∧ CueInv (framing .SYNC) := by
  refine ⟨⟨?_, ?_, ?_, ?_, ?_, ?_⟩, ?_, ?_, ?_, ?_, ?_, ?_⟩ <;> decide

theorem test_ShapesAndRangesAreKept_hypotheses : ShapeInv working := by
  refine ⟨?_, ?_, ?_, ?_, ?_, ?_, ?_, ?_, ?_⟩
  · refine ⟨?_, ?_, ?_, ⟨?_, ?_⟩, ?_, ?_, ?_, ?_⟩ <;> decide +kernel
  · refine ⟨?_, ?_, ?_, ⟨?_, ?_⟩, ?_, ?_, ?_, ?_⟩ <;> decide +kernel
  · intro v h
    cases h
  · decide
  · decide
  · decide
  · decide
  · decide
  · decide

end Sys2Proof.Tests
end

section
/-!
Control modes and the action queue (spec/01): the MODE request (R2). The lemmas of the first part hold of every CONTROL
request: which owner's rule it reaches, how a refusal is counted and answered, and what RESETTING answers.
-/

namespace Sys2Proof.Machine

/-! ## CONTROL requests, refusals and RESETTING (R180, R182, R188) -/

/-- R188: a CONTROL with a sub-operation's code reaches that sub-operation. -/
theorem applyReq_control_code (s : State) (x : Sub) (arg : Byte) :
    applyReq s (.control x.code arg) = reqControl x arg s := by
  cases x <;> rfl

@[simp] theorem counted_doneWith (s : State) (body : List Byte) : (doneWith s body).counted = s := rfl

/-- R182: a denial with a status other than DONE and ACCEPTED counts one refused request. -/
theorem counted_deny (s : State) (x : Status) (hd : x ≠ .DONE) (ha : x ≠ .ACCEPTED) :
    (deny s x).counted = s.count .linkRefused := by
  cases x with
  | DONE => exact absurd rfl hd
  | ACCEPTED => exact absurd rfl ha
  | _ => rfl

/-- R188: a CONTROL addressed to this station is answered by its sub-operation's rule. -/
theorem request_control_addressed (s : State) (h : LinkHdr) (dt : Nat) (x : Sub) (arg : Byte) (ha : s.addressed h) :
    request h (.control x.code arg) (s.advance dt) =
      (reqControl x arg ((s.advance dt).setLki { s.lki with resp := .NONE })).counted.answered h 0x84
        (reqControl x arg ((s.advance dt).setLki { s.lki with resp := .NONE })).status
        (reqControl x arg ((s.advance dt).setLki { s.lki with resp := .NONE })).body := by
  rw [request_addressed s h dt _ ha rfl (by simp [Req.locked]), applyReq_control_code,
    respond_answered _ _ _ _ _ 0x84 rfl]

/-- R180: a request whose destination is the own address is taken as addressed. -/
theorem route_own_address (addr : AddrState) (dest : Byte) (r : Req) (h : addr = .ASSIGNED dest.toNat) :
    route addr dest r.code = .addressed dest := by
  have hkind : ¬ 0x80 ≤ r.code.toNat := by cases r <;> simp [Req.code]
  simp [route, h, hkind]

/-- R182, test 1: RESETTING refuses every request. -/
theorem judge_resetting (s : State) (broadcast : Bool) (r : Option Req) (h : s.lki.resetting = true) :
    judge s broadcast r = deny s .RESETTING := by
  simp [judge, h]

/-- R182: an addressed request that comes while RESETTING is counted as refused and answered RESETTING. -/
theorem request_resetting (s : State) (h : LinkHdr) (r : Req) (hd : s.deaf = false)
    (hr : s.lki.resetting = true) (haddr : s.lki.addr = .ASSIGNED h.dest.toNat) :
    request h r s = (s.count .linkRefused).answered h (r.code + 0x80) .RESETTING [] := by
  have hjudge : judge (s.setLki { s.lki with resp := .NONE }) false (some r) =
      deny (s.setLki { s.lki with resp := .NONE }) .RESETTING := judge_resetting _ _ _ hr
  have hroute : route (s.setLki { s.lki with resp := .NONE }).lki.addr h.dest r.code = .addressed h.dest :=
    route_own_address _ _ _ haddr
  simp only [request, hd, Bool.false_eq_true, if_false, withhold_not_deaf s hd, State.takeRequest, hroute, hjudge]
  rw [counted_deny _ _ (by decide) (by decide), respond_answered _ _ _ _ _ _ rfl]
  rfl

/-! ## The MODE request (R2) -/

/-- R2: the values 0, 1 and 2 name LOCAL, SHOW and CONSOLE. -/
theorem reqMode_named (s : State) (arg : Byte) (m : Mode)
    (hm : (arg = 0 ∧ m = .LOCAL) ∨ (arg = 1 ∧ m = .SHOW) ∨ (arg = 2 ∧ m = .CONSOLE)) :
    reqMode arg s = doneWith (s.setAq { s.aq with mode := m }) [arg] := by
  obtain ⟨rfl, rfl⟩ | ⟨rfl, rfl⟩ | ⟨rfl, rfl⟩ := hm <;> rfl

/-- R2: a value above 2 names no mode. -/
theorem reqMode_unnamed (s : State) (arg : Byte) (h : 2 < arg.toNat) : reqMode arg s = deny s .BAD_VALUE := by
  have hnone : [Mode.LOCAL, .SHOW, .CONSOLE][arg.toNat]? = none := List.getElem?_eq_none h
  simp only [reqMode, hnone]

/-- A MODE command in a part with supply is the MODE request, after the time that passed. -/
theorem exec_controlMode_powered (dt : Nat) (h : LinkHdr) (arg : Byte) (s : State) (hp : s.powered = true) :
    exec (.controlMode dt h arg) s = .next (request h (.control Sub.MODE.code arg) (s.advance dt)).finish :=
  congrArg Host.Outcome.next (take_powered s dt _ hp)

/-- R2, R188: an addressed MODE request is answered by AQ's rule for it. -/
theorem exec_controlMode_addressed (dt : Nat) (h : LinkHdr) (arg : Byte) (s : State) (ha : s.addressed h) :
    exec (.controlMode dt h arg) s =
      .next (State.finish ((reqMode arg ((s.advance dt).setLki { s.lki with resp := .NONE })).counted.answered h 0x84
        (reqMode arg ((s.advance dt).setLki { s.lki with resp := .NONE })).status
        (reqMode arg ((s.advance dt).setLki { s.lki with resp := .NONE })).body)) := by
  have hp : s.powered = true := ha.1
  rw [exec_controlMode_powered dt h arg s hp, request_control_addressed s h dt .MODE arg ha]
  rfl

/-- R2: an addressed MODE request that names a mode sets it and is answered DONE with the mode. -/
theorem exec_controlMode_named (dt : Nat) (h : LinkHdr) (arg : Byte) (s : State) (m : Mode) (ha : s.addressed h)
    (hm : (arg = 0 ∧ m = .LOCAL) ∨ (arg = 1 ∧ m = .SHOW) ∨ (arg = 2 ∧ m = .CONSOLE)) :
    exec (.controlMode dt h arg) s =
      .next (State.finish (((s.advance dt).setAq { s.aq with mode := m }).answered h 0x84 .DONE [arg])) := by
  rw [exec_controlMode_addressed dt h arg s ha, reqMode_named _ arg m hm, counted_doneWith]
  rfl

/-- R2: an addressed MODE request with any other value is counted as refused and answered BAD_VALUE. -/
theorem exec_controlMode_unnamed (dt : Nat) (h : LinkHdr) (arg : Byte) (s : State) (ha : s.addressed h)
    (hv : 2 < arg.toNat) :
    exec (.controlMode dt h arg) s =
      .next (State.finish (((s.advance dt).count .linkRefused).answered h 0x84 .BAD_VALUE [])) := by
  rw [exec_controlMode_addressed dt h arg s ha, reqMode_unnamed _ arg hv, counted_deny _ _ (by decide) (by decide)]
  rfl

/-- R2, R182: an addressed MODE request that comes while RESETTING is counted as refused and answered RESETTING. -/
theorem exec_controlMode_resetting (dt : Nat) (h : LinkHdr) (arg : Byte) (s : State) (hp : s.powered = true)
    (hd : s.deaf = false) (hr : s.lki.resetting = true) (haddr : s.lki.addr = .ASSIGNED h.dest.toNat) :
    exec (.controlMode dt h arg) s =
      .next (State.finish (((s.advance dt).count .linkRefused).answered h 0x84 .RESETTING [])) := by
  rw [exec_controlMode_powered dt h arg s hp, request_resetting (s.advance dt) h _ hd hr haddr]
  rfl

/-- Settles O10: by the value of the request (R2), and by the first test of R182 while the unit is RESETTING. -/
theorem controlModeSetsTheMode : Obligations.ControlModeSetsTheMode := by
  intro dt h arg s
  refine ⟨?named, ?unnamed, ?resetting⟩
  case named => exact fun ha m hm => exec_controlMode_named dt h arg s m ha hm
  case unnamed => exact exec_controlMode_unnamed dt h arg s
  case resetting => exact exec_controlMode_resetting dt h arg s

end Sys2Proof.Machine
end

section
/-!
Tape transport and programme sound (spec/05): the gain factors and the scaling of the I2S frames (R113).
-/

namespace Sys2Proof.Machine

/-! ## The gain factors (R113) -/

/-- R113: every factor of 1..63 is the whole number nearest to 65536 · 10^((v − 63) / 20). The two bounds say that the exact
value lies less than a half from it: both sides are doubled, raised to the 20th power and multiplied by 10^(63 − v). -/
theorem gainTable_getD_rounded (v : Nat) (h1 : 1 ≤ v) (h63 : v ≤ 63) :
    (2 * gainTable.getD v 0 - 1) ^ 20 * 10 ^ (63 - v) < 131072 ^ 20 ∧
      131072 ^ 20 < (2 * gainTable.getD v 0 + 1) ^ 20 * 10 ^ (63 - v) := by
  have hrows : ∀ w < 64, 1 ≤ w →
      (2 * gainTable.getD w 0 - 1) ^ 20 * 10 ^ (63 - w) < 131072 ^ 20 ∧
        131072 ^ 20 < (2 * gainTable.getD w 0 + 1) ^ 20 * 10 ^ (63 - w) := by decide
  exact hrows v (by omega) h1

/-- R113: unity gain is the largest factor. -/
theorem gainTable_getD_le_unity (v : Nat) : gainTable.getD v 0 ≤ 65536 := by
  have hall : ∀ g ∈ gainTable, g ≤ 65536 := by decide
  by_cases hv : v < gainTable.length
  · rw [List.getD_eq_getElem _ _ hv]
    exact hall _ (List.getElem_mem hv)
  · rw [List.getD_eq_default _ _ (by omega)]
    omega

/-! ## A frame (R113) -/

/-- R113: truncation towards 0 of a product with a factor up to unity stays within the sample's magnitude. -/
theorem natAbs_tdiv_unity_le (x : Int) (g : Nat) (hg : g ≤ 65536) :
    (Int.tdiv (x * g) 65536).natAbs ≤ x.natAbs :=
  calc (Int.tdiv (x * g) 65536).natAbs
      = x.natAbs * g / 65536 := by rw [Int.natAbs_tdiv, Int.natAbs_mul]; rfl
    _ ≤ x.natAbs * 65536 / 65536 := Nat.div_le_div_right (Nat.mul_le_mul_left _ hg)
    _ = x.natAbs := Nat.mul_div_cancel _ (by decide)

/-- R113: an I2S frame in a part with supply leaves both samples scaled at the factor of the current volume, in every transport
state. -/
theorem exec_i2sFrame_powered (dt : Nat) (left right : Sample) (s : State) (hp : s.powered = true) :
    exec (.i2sFrame dt left right) s =
      .next (State.finish ((s.advance dt).setTtc { s.ttc with
        i2sOut := (scaleSample left (gainTable.getD s.ttc.curVol 0), scaleSample right (gainTable.getD s.ttc.curVol 0)) })) :=
  congrArg Host.Outcome.next (take_powered s dt (i2sFrame left right) hp)

/-- Settles O34: the table row by row, the frame by the gain factor of the current volume, and the bound from unity being the
largest factor. -/
theorem gainScalesEveryFrame : Obligations.GainScalesEveryFrame := by
  refine ⟨⟨rfl, rfl, gainTable_getD_rounded⟩, fun dt left right s hp => ⟨?frame, ?bound⟩⟩
  case frame => exact exec_i2sFrame_powered dt left right s hp
  case bound => exact fun _ x => natAbs_tdiv_unity_le x.toInt _ (gainTable_getD_le_unity s.ttc.curVol)

end Sys2Proof.Machine
end

section
/-!
What a move of the part keeps: one relation between a state and what an operation makes of it, with one field for each
invariant of Safety.lean. Each operation of the model is shown once to be such a move; every invariant is then a field of
what is shown of `exec`. This part: the relation, and what a change of one block needs to be such a move.
-/

namespace Sys2Proof.Machine

/-! ## The sequencer's invariant in two parts -/

/-- The sequencer's invariant but for the remembered cue, which a RESUME judges last (R162). -/
def SeqLoose (q : Ssq) : Prop := SeqInv { q with remembered := none }

/-- R150, R162: a cue is remembered in PAUSED alone. -/
def RememberedInv (q : Ssq) : Prop := q.remembered.isSome = true → q.st = .PAUSED

theorem seqInv_iff (q : Ssq) : SeqInv q ↔ SeqLoose q ∧ RememberedInv q := by
  constructor
  · rintro ⟨hhead, hptr, hready, hpaused, hfrom, hrem, hend, hpend, hfollow, hskip⟩
    exact ⟨⟨hhead, hptr, hready, hpaused, hfrom, by simp, hend, hpend, hfollow, hskip⟩, hrem⟩
  · rintro ⟨⟨hhead, hptr, hready, hpaused, hfrom, _, hend, hpend, hfollow, hskip⟩, hrem⟩
    exact ⟨hhead, hptr, hready, hpaused, hfrom, hrem, hend, hpend, hfollow, hskip⟩

/-- R156: the sequencer is as it was, or a show that has nothing left has ended. -/
def Ssq.endsOrStays (q r : Ssq) : Prop :=
  r = q ∨ (q.st = .RUNNING ∧ q.ptr = none ∧ q.pend = none ∧ r = { q with st := .ENDED })

theorem Ssq.endsOrStays.trans {q r u : Ssq} (h : q.endsOrStays r) (k : r.endsOrStays u) : q.endsOrStays u := by
  obtain rfl | ⟨hst, hptr, hpend, rfl⟩ := h
  · exact k
  · obtain rfl | ⟨hst', _⟩ := k
    · exact .inr ⟨hst, hptr, hpend, rfl⟩
    · exact absurd hst' (by simp)

theorem SeqLoose.endsOrStays {q r : Ssq} (hq : SeqLoose q) (h : q.endsOrStays r) : SeqLoose r := by
  obtain rfl | ⟨hst, hptr, hpend, rfl⟩ := h
  · exact hq
  · obtain ⟨hhead, _, hready, hpaused, hfrom, _, hend, _, hfollow, hskip⟩ := hq
    have hstop : q.follow = .stopped := hend hptr
    have hnone : q.pausedFrom = none := hfrom (by simp [hst])
    refine ⟨fun _ => hhead (by simp [hst]), fun _ => hptr, by simp [hnone], by simp [hnone], fun _ => hnone, by simp,
      fun _ => hstop, by simp [hpend], by simp [hstop], hskip⟩

theorem RememberedInv.endsOrStays {q r : Ssq} (hr : RememberedInv q) (h : q.endsOrStays r) : RememberedInv r := by
  obtain rfl | ⟨hst, _, _, rfl⟩ := h
  · exact hr
  · intro hsome
    exact absurd (hr hsome) (by simp [hst])

/-- A show that has a program keeps it, and none loads one. -/
theorem Ssq.endsOrStays.loaded {q r : Ssq} (h : q.endsOrStays r) : r.st = .UNLOADED ↔ q.st = .UNLOADED := by
  obtain rfl | ⟨hst, _, _, rfl⟩ := h
  · rfl
  · simp [hst]

/-! ## Moves -/

/-- `t` keeps every invariant that `s` meets but that of the lamp, and the sequencer at most ends a show that has nothing
left. A forced OFF passes through states in which the lamp alone is not yet safe. -/
structure State.Calm (s t : State) : Prop where
  notice : NoticeInv s → NoticeInv t
  mech : MechInv s → MechInv t
  tray : MechInv s → ShapeInv s → TrayInv s → TrayInv t
  ssq : s.ssq.endsOrStays t.ssq
  queue : QueueInv s → QueueInv t
  cue : CueInv s → CueInv t
  shape : ShapeInv s → ShapeInv t

/-- `t` keeps every invariant that `s` meets, and the sequencer at most ends a show that has nothing left. -/
structure State.Quiet (s t : State) : Prop extends s.Calm t where
  lamp : LampInv s → LampInv t

/-- `t` keeps every invariant that `s` meets; that of the action queue may need the sequencer's, by which a pending fire has
the length of its entries (R153, R154). -/
structure State.Keeps (s t : State) : Prop where
  notice : NoticeInv s → NoticeInv t
  lamp : LampInv s → LampInv t
  mech : MechInv s → MechInv t
  tray : MechInv s → ShapeInv s → TrayInv s → TrayInv t
  seq : SeqLoose s.ssq → SeqLoose t.ssq
  remembered : SeqLoose s.ssq → RememberedInv s.ssq → RememberedInv t.ssq
  queue : SeqLoose s.ssq → QueueInv s → QueueInv t
  cue : CueInv s → CueInv t
  shape : ShapeInv s → ShapeInv t

theorem State.Quiet.refl (s : State) : s.Quiet s :=
  ⟨⟨id, id, fun _ _ h => h, .inl rfl, id, id, id⟩, id⟩

theorem State.Calm.trans {s t u : State} (h : s.Calm t) (k : t.Calm u) : s.Calm u where
  notice := k.notice ∘ h.notice
  mech := k.mech ∘ h.mech
  tray hm hs ht := k.tray (h.mech hm) (h.shape hs) (h.tray hm hs ht)
  ssq := h.ssq.trans k.ssq
  queue := k.queue ∘ h.queue
  cue := k.cue ∘ h.cue
  shape := k.shape ∘ h.shape

theorem State.Quiet.trans {s t u : State} (h : s.Quiet t) (k : t.Quiet u) : s.Quiet u :=
  ⟨h.toCalm.trans k.toCalm, k.lamp ∘ h.lamp⟩

theorem State.Calm.after {s t u : State} (k : t.Calm u) (h : s.Calm t) : s.Calm u := h.trans k

/-- `Quiet.trans` with the last move first, which is the one the goal names. -/
theorem State.Quiet.after {s t u : State} (k : t.Quiet u) (h : s.Quiet t) : s.Quiet u := h.trans k

theorem State.Quiet.keeps {s t : State} (h : s.Quiet t) : s.Keeps t where
  notice := h.notice
  lamp := h.lamp
  mech := h.mech
  tray := h.tray
  seq hq := hq.endsOrStays h.ssq
  remembered _ hr := hr.endsOrStays h.ssq
  queue _ := h.queue
  cue := h.cue
  shape := h.shape

theorem State.Keeps.refl (s : State) : s.Keeps s := (State.Quiet.refl s).keeps

theorem State.Keeps.trans {s t u : State} (h : s.Keeps t) (k : t.Keeps u) : s.Keeps u where
  notice := k.notice ∘ h.notice
  lamp := k.lamp ∘ h.lamp
  mech := k.mech ∘ h.mech
  tray hm hs ht := k.tray (h.mech hm) (h.shape hs) (h.tray hm hs ht)
  seq := k.seq ∘ h.seq
  remembered hq hr := k.remembered (h.seq hq) (h.remembered hq hr)
  queue hq hu := k.queue (h.seq hq) (h.queue hq hu)
  cue := k.cue ∘ h.cue
  shape := k.shape ∘ h.shape

theorem State.Keeps.after {s t u : State} (k : t.Keeps u) (h : s.Keeps t) : s.Keeps u := h.trans k

/-- A move on which a test decides is one where both branches are. -/
theorem State.Quiet.ite {s t u : State} {c : Prop} [Decidable c] (ht : c → s.Quiet t) (hu : ¬c → s.Quiet u) :
    s.Quiet (if c then t else u) := by
  split
  · exact ht ‹_›
  · exact hu ‹_›

theorem State.Keeps.ite {s t u : State} {c : Prop} [Decidable c] (ht : c → s.Keeps t) (hu : ¬c → s.Keeps u) :
    s.Keeps (if c then t else u) := by
  split
  · exact ht ‹_›
  · exact hu ‹_›

/-! ## A change of one block -/

theorem State.Quiet.setNow (s : State) (n : Nat) : s.Quiet (s.setNow n) :=
  ⟨⟨id, id, fun _ _ h => h, .inl rfl, id, id, id⟩, id⟩

theorem State.Quiet.setFree (s : State) (n : Nat) : s.Quiet (s.setFree n) :=
  ⟨⟨id, id, fun _ _ h => h, .inl rfl, id, id, id⟩, id⟩

/-- AQ changes: the queue's own invariant is to be shown. -/
theorem State.Quiet.setAq (s : State) (x : Aq) (h : QueueInv s → QueueInv (s.setAq x)) : s.Quiet (s.setAq x) :=
  ⟨⟨id, id, fun _ _ h => h, .inl rfl, h, id, id⟩, id⟩

/-- AQ changes but for the queue and the HOLD timer. -/
theorem State.Quiet.setAq_same (s : State) (x : Aq) (hq : x.queue = s.aq.queue) (hd : x.holdDue = s.aq.holdDue) :
    s.Quiet (s.setAq x) :=
  .setAq s x (fun h => by simpa [QueueInv, hq, hd] using h)

/-- TMC changes, its slot table keeping its length. -/
theorem State.Quiet.setTmc (s : State) (x : Tmc) (hm : MechInv s → MechInv (s.setTmc x))
    (ht : MechInv s → TrayInv s → TrayInv (s.setTmc x)) (hl : x.slots.length = s.tmc.slots.length) :
    s.Quiet (s.setTmc x) :=
  ⟨⟨id, hm, fun hi _ => ht hi, .inl rfl, id, id,
    fun h => by simpa [ShapeInv, Settings.ok, State.capture, hl] using h⟩, id⟩

/-- The phase, the drives and the records of the tray are the same. -/
def Tmc.sameWork (t x : Tmc) : Prop :=
  x.st = t.st ∧ x.phase = t.phase ∧ x.timer = t.timer ∧ x.lifter = t.lifter ∧ x.trayDrive = t.trayDrive ∧
    x.qualDue = t.qualDue ∧ x.trayPresent = t.trayPresent ∧ x.size = t.size ∧ x.gate = t.gate ∧ x.pos = t.pos ∧
    x.slots = t.slots

theorem Tmc.sameWork.inPhase {t x : Tmc} (h : t.sameWork x) : x.inPhase = t.inPhase := by
  obtain ⟨hst, hp, ht, hl, hd, _⟩ := h
  simp only [Tmc.inPhase, hst, hp, ht, hl, hd]

theorem State.Quiet.setTmc_same (s : State) (x : Tmc) (h : s.tmc.sameWork x) : s.Quiet (s.setTmc x) := by
  have hi := h.inPhase
  obtain ⟨hst, hp, ht, hl, hd, hq, hpr, hsz, hg, hpos, hsl⟩ := h
  refine .setTmc s x (fun hm => ?_) (fun _ htr => ?_) (by rw [hsl])
  · simpa [MechInv, hi, hst, ht, hq, hpr] using hm
  · simpa [TrayInv, gateOk, Tmc.trayS, hst, hsz, hg, hpos, hsl] using htr

/-- LMC changes. -/
theorem State.Quiet.setLmc (s : State) (x : Lmc) (hl : LampInv s → LampInv (s.setLmc x))
    (hm : MechInv s → MechInv (s.setLmc x)) (hs : ShapeInv s → ShapeInv (s.setLmc x)) : s.Quiet (s.setLmc x) :=
  ⟨⟨id, hm, fun _ _ h => h, .inl rfl, id, id, hs⟩, hl⟩

theorem State.Calm.setLmc (s : State) (x : Lmc) (hm : MechInv s → MechInv (s.setLmc x))
    (hs : ShapeInv s → ShapeInv (s.setLmc x)) : s.Calm (s.setLmc x) :=
  ⟨id, hm, fun _ _ h => h, .inl rfl, id, id, hs⟩

/-- The lamp's power state, the outputs, MECH, the parameters and the length of an ignition are the same. -/
def Lmc.sameLight (l x : Lmc) : Prop :=
  x.power = l.power ∧ x.outDrive = l.outDrive ∧ x.outLevel = l.outLevel ∧ x.blanks.mech = l.blanks.mech ∧ x.par = l.par ∧
    x.ignLen = l.ignLen

theorem State.Quiet.setLmc_same (s : State) (x : Lmc) (h : s.lmc.sameLight x) : s.Quiet (s.setLmc x) := by
  obtain ⟨hp, hd, hl, hb, hpar, hlen⟩ := h
  refine .setLmc s x (fun hi => ?_) (fun hi => ?_) (fun hi => ?_)
  · simpa [LampInv, hp, hd] using hi
  · obtain ⟨hmech, hphase, hdark, htray⟩ := hi
    exact ⟨hb.trans hmech, hphase, fun ht => hl.trans (hdark ht), htray⟩
  · simpa [ShapeInv, Settings.ok, State.capture, hp, hpar, hlen] using hi

/-- THC changes: the lamp's safety alone reads it. -/
theorem State.Calm.setThc (s : State) (x : Thc) : s.Calm (s.setThc x) :=
  ⟨id, id, fun _ _ h => h, .inl rfl, id, id, id⟩

theorem State.Quiet.setThc (s : State) (x : Thc) (h : LampInv s → LampInv (s.setThc x)) : s.Quiet (s.setThc x) :=
  ⟨.setThc s x, h⟩

/-- What of THC bears on the lamp is the same. -/
def Thc.sameSafety (t x : Thc) : Prop :=
  x.trip = t.trip ∧ x.fanFault = t.fanFault ∧ x.power = t.power ∧ x.lost = t.lost ∧ x.loss30 = t.loss30

theorem State.Quiet.setThc_same (s : State) (x : Thc) (h : s.thc.sameSafety x) : s.Quiet (s.setThc x) := by
  obtain ⟨ht, hf, hp, hl, h3⟩ := h
  exact .setThc s x (fun hi => by simpa [LampInv, ht, hf, hp, hl, h3] using hi)

/-- TTC changes; its volume and its parameters stay in range. -/
theorem State.Quiet.setTtc (s : State) (x : Ttc) (h : ShapeInv s → ShapeInv (s.setTtc x)) : s.Quiet (s.setTtc x) :=
  ⟨⟨id, id, fun _ _ h => h, .inl rfl, id, id, h⟩, id⟩

theorem State.Quiet.setTtc_same (s : State) (x : Ttc) (hv : x.curVol = s.ttc.curVol) (hp : x.par = s.ttc.par) :
    s.Quiet (s.setTtc x) :=
  .setTtc s x (fun h => by simpa [ShapeInv, Settings.ok, State.capture, hv, hp] using h)

/-- CUD changes. -/
theorem State.Quiet.setCud (s : State) (x : Cud) (h : CueInv s → CueInv (s.setCud x)) : s.Quiet (s.setCud x) :=
  ⟨⟨id, id, fun _ _ h => h, .inl rfl, id, h, id⟩, id⟩

/-- The window, the buffer, the framing and cue-out are the same. -/
def Cud.sameTrack (c x : Cud) : Prop :=
  x.bits = c.bits ∧ x.buf = c.buf ∧ x.cueSync = c.cueSync ∧ x.framing = c.framing ∧ x.carrier = c.carrier ∧
    x.sending = c.sending ∧ x.par.relay = c.par.relay

theorem State.Quiet.setCud_same (s : State) (x : Cud) (h : s.cud.sameTrack x) : s.Quiet (s.setCud x) := by
  obtain ⟨hbits, hbuf, hsync, hf, hc, hse, hr⟩ := h
  exact .setCud s x (fun hi => by simpa [CueInv, hbits, hbuf, hsync, hf, hc, hse, hr] using hi)

/-- SSQ ends a show, and nothing else. -/
theorem State.Quiet.setSsq (s : State) (x : Ssq) (h : s.ssq.endsOrStays x) : s.Quiet (s.setSsq x) :=
  ⟨⟨id, id, fun _ _ h => h, h, id, id, fun hi => by
    obtain rfl | ⟨_, _, _, rfl⟩ := h <;> exact hi⟩, id⟩

/-- SSQ changes, its step memory keeping its length. -/
theorem State.Keeps.setSsq (s : State) (x : Ssq) (hq : SeqLoose s.ssq → SeqLoose x)
    (hr : SeqLoose s.ssq → RememberedInv s.ssq → RememberedInv x) (hl : x.steps.length = s.ssq.steps.length) :
    s.Keeps (s.setSsq x) :=
  ⟨id, id, id, fun _ _ h => h, hq, hr, fun _ h => h, id,
    fun h => by simpa [ShapeInv, Settings.ok, State.capture, hl] using h⟩

/-- RPD changes, its panel records keeping their number. -/
theorem State.Quiet.setRpd (s : State) (x : Rpd) (h : x.panel.length = s.rpd.panel.length) : s.Quiet (s.setRpd x) :=
  ⟨⟨id, id, fun _ _ h => h, .inl rfl, id, id, fun hi => by
    simpa [ShapeInv, Settings.ok, State.capture, h] using hi⟩, id⟩

/-- LKI changes, its tables keeping their lengths. -/
theorem State.Quiet.setLki (s : State) (x : Lki) (hn : NoticeInv s → NoticeInv (s.setLki x))
    (hc : x.copies.length = s.lki.copies.length) (he : x.enables.length = s.lki.enables.length) :
    s.Quiet (s.setLki x) :=
  ⟨⟨hn, id, fun _ _ h => h, .inl rfl, id, id, fun hi => by
    simpa [ShapeInv, Settings.ok, State.capture, hc, he] using hi⟩, id⟩

/-- LKI changes but for its notices. -/
theorem State.Quiet.setLki_same (s : State) (x : Lki) (hn : x.notices = s.lki.notices) (ha : x.attn = s.lki.attn)
    (hc : x.copies.length = s.lki.copies.length) (he : x.enables.length = s.lki.enables.length) :
    s.Quiet (s.setLki x) :=
  .setLki s x (fun h => by simpa [NoticeInv, hn, ha] using h) hc he

/-- CNT changes, its lists keeping their lengths. -/
theorem State.Quiet.setCnt (s : State) (x : Cnt) (hl : x.live.length = s.cnt.live.length)
    (hs : ShapeInv s → x.snap.length = s.cnt.snap.length) : s.Quiet (s.setCnt x) :=
  ⟨⟨id, id, fun _ _ h => h, .inl rfl, id, id, fun hi => by
    have hsn := hs hi
    simpa [ShapeInv, Settings.ok, State.capture, hl, hsn] using hi⟩, id⟩

/-- STS changes; its record and a save's image stay in shape. -/
theorem State.Quiet.setSts (s : State) (x : Sts)
    (h : ShapeInv s → x.record.ok ∧ ∀ v, x.save = some v → v.image.ok) : s.Quiet (s.setSts x) :=
  ⟨⟨id, id, fun _ _ h => h, .inl rfl, id, id, fun hi => by
    obtain ⟨hrec, himg⟩ := h hi
    obtain ⟨hcap, _, _, hrest⟩ := hi
    exact ⟨hcap, hrec, himg, hrest⟩⟩, id⟩

theorem State.Quiet.setSts_same (s : State) (x : Sts) (hr : x.record = s.sts.record) (hv : x.save = s.sts.save) :
    s.Quiet (s.setSts x) :=
  .setSts s x (fun h => by rw [hr, hv]; exact ⟨h.2.1, h.2.2.1⟩)

end Sys2Proof.Machine
end

section
/-!
The shared operations are moves: notices and counters, saves, cooling, lamp, transport, and the phases of the mechanism.
-/

namespace Sys2Proof.Machine

/-! ## Notices and counters -/

theorem NoticeInv.join (s : State) (n : Notice) (h : NoticeInv s) : NoticeInv (s.setLki (s.lki.join n)) := by
  obtain ⟨hlen, _⟩ := h
  simp only [NoticeInv, State.setLki_lki, Lki.join]
  split
  · rename_i hlt
    simp [noticePlaces] at hlt ⊢
    omega
  · rename_i hge
    simp [noticePlaces] at hge ⊢
    omega

theorem quiet_notice (s : State) (k : NoticeKind) (clear : Bool) (x : Option Nat) : s.Quiet (s.notice k clear x) := by
  obtain ⟨_, _, _, _, _, hcopies, henables⟩ := join_fields s.lki { kind := k, clear := clear, subject := x, stamp := s.stamp }
  refine .ite (fun _ => .setLki s _ (NoticeInv.join s _) ?_ ?_) (fun _ => .refl s)
  · rw [hcopies]
  · rw [henables]

theorem quiet_event (s : State) (k : NoticeKind) (x : Option Nat) : s.Quiet (s.event k x) := quiet_notice s k false x

theorem quiet_condNotice (s : State) (k : NoticeKind) (v : Bool) (x : Option Nat) : s.Quiet (s.condNotice k v x) :=
  quiet_notice s k (!v) x

theorem quiet_count (s : State) (c : Ctr) : s.Quiet (s.count c) :=
  .setCnt s _ (by simp) (fun _ => rfl)

theorem quiet_advance (s : State) (dt : Nat) : s.Quiet (s.advance dt) := .setNow s _

theorem quiet_reach (s : State) (due : Nat) : s.Quiet (s.reach due) := .setNow s _

/-- A timer's command is a move when what it does at its due time is one. -/
theorem quiet_whenDue (s : State) (due : Option Nat) (f : State → State)
    (h : ∀ d, due = some d → (s.reach d).Quiet (f (s.reach d))) : s.Quiet (s.whenDue due f) := by
  cases due with
  | none => exact .refl s
  | some d => exact (quiet_reach s d).trans (h d rfl)

theorem keeps_whenDue (s : State) (due : Option Nat) (f : State → State)
    (h : ∀ d, due = some d → (s.reach d).Keeps (f (s.reach d))) : s.Keeps (s.whenDue due f) := by
  cases due with
  | none => exact .refl s
  | some d => exact (quiet_reach s d).keeps.trans (h d rfl)

/-! ## Saves (R201 to R203) -/

theorem Settings.ok_captureLamps (s : State) (h : s.sts.record.ok) : s.captureLamps.ok := h

theorem quiet_beginSave (s : State) (full : Bool) : s.Quiet (s.beginSave full) := by
  refine .setSts s _ (fun ⟨hcap, hrec, _⟩ => ⟨hrec, ?_⟩)
  rintro v ⟨⟩
  cases full
  · exact Settings.ok_captureLamps s hrec
  · exact hcap

theorem quiet_autoSave (s : State) : s.Quiet s.autoSave :=
  .ite (fun _ => .setSts_same s _ rfl rfl) (fun _ => quiet_beginSave s false)

theorem quiet_storeReport (s : State) (old new : Power) : s.Quiet (s.storeReport old new) := by
  cases new with
  | OFF => exact .after (quiet_autoSave _) (.setSts_same s _ rfl rfl)
  | LIT => exact .refl s
  | IGNITING | SWAPPING => exact .ite (fun _ => .setSts_same s _ rfl rfl) (fun _ => .refl s)

theorem factory_ok : factory.ok := by
  refine ⟨List.length_replicate, List.length_replicate, List.length_replicate, ⟨rfl, ?_⟩, by decide⟩
  exact List.Pairwise.map _ (fun a b h => by omega) List.pairwise_lt_range

/-! ## Cooling (R85 to R93) -/

theorem quiet_recomputeFan (s : State) : s.Quiet s.recomputeFan :=
  .setThc_same s _ (by simp [Thc.sameSafety])

theorem quiet_cooldownOn (s : State) (trip : Bool) : s.Quiet (s.cooldownOn trip) := by
  unfold State.cooldownOn
  split
  · exact .after (quiet_condNotice ..) (.setThc_same s _ ⟨rfl, rfl, rfl, rfl, rfl⟩)
  · exact .setThc_same s _ ⟨rfl, rfl, rfl, rfl, rfl⟩

theorem quiet_cooldownOff (s : State) : s.Quiet s.cooldownOff :=
  .ite (fun _ => .after (quiet_condNotice ..) (.setThc_same s _ ⟨rfl, rfl, rfl, rfl, rfl⟩)) (fun _ => .refl s)

theorem quiet_cooldownTest (s : State) : s.Quiet s.cooldownTest :=
  .ite (fun _ => (quiet_cooldownOff s).trans (quiet_recomputeFan _)) (fun _ => .refl s)

theorem quiet_coolReport (s : State) (new : Power) (trip : Bool) : s.Quiet (s.coolReport new trip) := by
  refine State.Quiet.trans ?_ (quiet_recomputeFan _)
  cases new with
  | OFF => exact quiet_cooldownOn s trip
  | LIT => exact .refl s
  | IGNITING | SWAPPING =>
    dsimp only
    split
    · exact .ite (fun _ => .refl s) (fun _ => quiet_cooldownOff s)
    · exact .refl s

/-! ## The lamp (R52 to R64) -/

theorem quiet_evalNoLamp (s : State) : s.Quiet s.evalNoLamp :=
  .ite (fun _ => .refl s)
    (fun _ => .after (quiet_condNotice ..) (.setLmc_same s _ ⟨rfl, rfl, rfl, rfl, rfl, rfl⟩))

theorem Lmc.sameLight_setLamp (l : Lmc) (p : LampPos) (r : LampRec) : l.sameLight (l.setLamp p r) := by
  cases p <;> exact ⟨rfl, rfl, rfl, rfl, rfl, rfl⟩

theorem quiet_setLamp (s : State) (p : LampPos) (r : LampRec) : s.Quiet (s.setLmc (s.lmc.setLamp p r)) :=
  .setLmc_same s _ (s.lmc.sameLight_setLamp p r)

theorem quiet_evalLife (s : State) (p : LampPos) : s.Quiet (s.evalLife p) :=
  .ite (fun _ => .refl s) (fun _ => (quiet_setLamp s p _).trans (quiet_condNotice ..))

/-- R57, R61, R83, R94: the power states that the lamp may enter from `s`. -/
def State.powerAllowed (s : State) (p : Power) : Prop :=
  (p ≠ .OFF → s.thc.trip = false ∧ s.thc.fanFault = false ∧ s.thc.power = .ACTIVE) ∧
    (s.thc.lost = true → s.thc.loss30 = true → p = .OFF ∨ p = .SWAPPING)

theorem calm_setPower (s : State) (p : Power) (trip : Bool) (hj : ShapeInv s → p = .IGNITING → 10 ≤ s.lmc.ignLen) :
    s.Calm (s.setPower p trip) := by
  unfold State.setPower
  split
  · exact (State.Quiet.refl s).toCalm
  · refine .after (quiet_coolReport _ p trip).toCalm (.after (quiet_storeReport _ s.lmc.power p).toCalm
      (.setLmc s _ id (fun h => ?_)))
    obtain ⟨hcap, hrec, himg, hcop, hpan, hlive, hsnap, hvol, _⟩ := h
    exact ⟨hcap, hrec, himg, hcop, hpan, hlive, hsnap, hvol, hj ⟨hcap, hrec, himg, hcop, hpan, hlive, hsnap, hvol, ‹_›⟩⟩

theorem LampInv.setPower (s : State) (p : Power) (trip : Bool) (h : LampInv s) (hp : s.powerAllowed p) :
    LampInv (s.setPower p trip) := by
  unfold State.setPower
  split
  · exact h
  · obtain ⟨hon, hlost⟩ := hp
    refine (quiet_coolReport _ p trip).lamp ((quiet_storeReport _ s.lmc.power p).lamp ⟨hon, hlost, ?_⟩)
    cases p <;> simp

theorem quiet_setPower (s : State) (p : Power) (trip : Bool) (hp : LampInv s → s.powerAllowed p)
    (hj : ShapeInv s → p = .IGNITING → 10 ≤ s.lmc.ignLen) : s.Quiet (s.setPower p trip) :=
  ⟨calm_setPower s p trip hj, fun h => h.setPower s p trip (hp h)⟩

theorem State.powerAllowed_off (s : State) : s.powerAllowed .OFF := ⟨by simp, by simp⟩

theorem quiet_setPower_off (s : State) (trip : Bool) : s.Quiet (s.setPower .OFF trip) :=
  quiet_setPower s .OFF trip (fun _ => s.powerAllowed_off) (by simp)

theorem quiet_lampOff (s : State) (trip : Bool) : s.Quiet (s.lampOff trip) :=
  .ite (fun _ => .refl s)
    (fun _ => .after (quiet_setPower_off _ trip) (.setLmc_same s _ ⟨rfl, rfl, rfl, rfl, rfl, rfl⟩))

theorem setPower_lmc_power (s : State) (p : Power) (trip : Bool) : (s.setPower p trip).lmc.power = p := by
  unfold State.setPower
  split
  · assumption
  · simp

theorem lampOff_lmc_power (s : State) (trip : Bool) : (s.lampOff trip).lmc.power = .OFF := by
  unfold State.lampOff
  split
  · assumption
  · exact setPower_lmc_power ..

theorem setPower_off_drive (s : State) (p : Power) (trip : Bool) (h : p = .OFF ∨ p = .SWAPPING) :
    (s.setPower p trip).lmc.outDrive = if s.lmc.power = p then s.lmc.outDrive else 0 := by
  unfold State.setPower
  split
  · rfl
  · obtain rfl | rfl := h <;> simp

theorem LampInv.of_off (s : State) (hp : s.lmc.power = .OFF) (hd : s.lmc.outDrive = 0) : LampInv s :=
  ⟨fun h => absurd hp h, fun _ _ => .inl hp, fun _ => hd⟩

/-- R60, R61: a forced OFF leaves the lamp safe, whatever it forces. -/
theorem LampInv.lampOff (s : State) (trip : Bool) (h : s.lmc.power = .OFF → s.lmc.outDrive = 0) :
    LampInv (s.lampOff trip) := by
  refine .of_off _ (lampOff_lmc_power s trip) ?_
  unfold State.lampOff
  split
  · exact h ‹_›
  · rw [setPower_off_drive _ _ _ (.inl rfl)]
    simp [*]

/-- A forced OFF ends what was calm in a state whose lamp is safe. -/
theorem State.Calm.lampOff {s t : State} (h : s.Calm t) (trip : Bool)
    (hd : LampInv s → t.lmc.power = .OFF → t.lmc.outDrive = 0) : s.Quiet (t.lampOff trip) :=
  ⟨h.trans (quiet_lampOff t trip).toCalm, fun hl => .lampOff t trip (hd hl)⟩

/-- R57: what lets the lamp be on. -/
def State.lampMayBurn (s : State) : Prop := s.thc.trip = false ∧ s.thc.fanFault = false ∧ s.thc.power = .ACTIVE

/-- R57: the length of an ignition is the parameter's. -/
theorem quiet_ignitionSet (s : State) (r : LampRec) : s.Quiet (s.setLmc
    { s.lmc.setLamp s.lmc.active r with ignJ := 0, ignLen := s.lmc.par.ignTime }) := by
  refine .setLmc s _ ?_ ?_ ?_
  · cases s.lmc.active <;> exact id
  · cases s.lmc.active <;> exact id
  · rintro ⟨hcap, hrec, himg, hcop, hpan, hlive, hsnap, hvol, _⟩
    obtain ⟨_, _, _, _, hign, _⟩ := id hcap
    cases s.lmc.active <;> exact ⟨hcap, hrec, himg, hcop, hpan, hlive, hsnap, hvol, fun _ => hign⟩

/-- What an ignition has done when the power state becomes IGNITING (R57, R59). -/
def State.ignitionSet (s : State) : State :=
  State.count (s.setLmc { s.lmc.setLamp s.lmc.active { s.lmc.lamp s.lmc.active with
      ignitions := satInc16 (s.lmc.lamp s.lmc.active).ignitions } with
    ignJ := 0, ignLen := s.lmc.par.ignTime }) .lampIgnitions

theorem enterIgniting_eq (s : State) : s.enterIgniting =
    if s.thc.lost && s.thc.loss30 then (s.ignitionSet.setPower .IGNITING false).lampOff false
    else s.ignitionSet.setPower .IGNITING false := by
  simp [State.enterIgniting, State.ignitionSet]

theorem ignitionSet_length (s : State) (h : ShapeInv s.ignitionSet) : 10 ≤ s.ignitionSet.lmc.ignLen := by
  obtain ⟨⟨_, _, _, _, hign, _⟩, _⟩ := h
  simpa [State.ignitionSet, State.capture] using hign

/-- R57, R83: an ignition that is not refused; in a loss of 30 s it is forced off again. -/
theorem quiet_enterIgniting (s : State) (hb : LampInv s → s.lampMayBurn) : s.Quiet s.enterIgniting := by
  have hset : s.Quiet s.ignitionSet := (quiet_count _ _).after (quiet_ignitionSet s _)
  have hcalm : s.Calm (s.ignitionSet.setPower .IGNITING false) :=
    (calm_setPower _ _ _ fun h _ => ignitionSet_length s h).after hset.toCalm
  rw [enterIgniting_eq]
  split
  · exact hcalm.lampOff false fun _ h => absurd h (by simp [setPower_lmc_power])
  · rename_i hlost
    refine ⟨hcalm, fun hl => (hset.lamp hl).setPower _ _ _ ⟨fun _ => ?_, fun h3 h30 => ?_⟩⟩
    · simpa [State.ignitionSet, State.lampMayBurn] using hb hl
    · simp [State.ignitionSet] at h3 h30
      simp [h3, h30] at hlost

theorem quiet_beginMotion (s : State) : s.Quiet s.beginMotion := .setLmc_same s _ ⟨rfl, rfl, rfl, rfl, rfl, rfl⟩

/-- R58, R63: a changer motion that begins with the lamp SWAPPING. -/
theorem quiet_swap (s : State) (hb : LampInv s → s.lampMayBurn) :
    s.Quiet ((s.beginMotion.count .lampSwaps).setPower .SWAPPING false) := by
  have hmotion : s.Quiet (s.beginMotion.count .lampSwaps) := (quiet_count _ _).after (quiet_beginMotion s)
  refine ⟨(calm_setPower _ _ _ (by simp)).after hmotion.toCalm, fun hl => (hmotion.lamp hl).setPower _ _ _ ⟨fun _ => ?_, by simp⟩⟩
  simpa [State.lampMayBurn] using hb hl

theorem lampMayBurn_of_not_refused (s : State) (h : s.ignitionRefused = false) : s.lampMayBurn := by
  simp only [State.ignitionRefused, Bool.or_eq_false_iff] at h
  obtain ⟨⟨⟨htrip, hfan⟩, hpower⟩, _⟩ := h
  refine ⟨htrip, hfan, ?_⟩
  cases hp : s.thc.power <;> simp_all

theorem quiet_ignite (s : State) : s.Quiet s.ignite := by
  unfold State.ignite
  refine .ite (fun _ => .refl s) (fun hon => ?_)
  have hr : s.ignitionRefused = false := by
    cases hr : s.ignitionRefused <;> simp_all
  have hb := lampMayBurn_of_not_refused s hr
  refine .ite (fun _ => quiet_setPower s _ _ (fun _ => ⟨fun _ => hb, by simp⟩) (by simp)) (fun _ => ?_)
  exact .ite (fun _ => quiet_enterIgniting s fun _ => hb) (fun _ => quiet_swap s fun _ => hb)

/-- R63: the active lamp has failed; it was on. -/
theorem quiet_lampFail (s : State) (hon : s.lmc.power ≠ .OFF) : s.Quiet s.lampFail := by
  unfold State.lampFail
  dsimp only
  have hfail : s.Quiet ((((s.setLmc (s.lmc.setLamp s.lmc.active { s.lmc.lamp s.lmc.active with failed := true })).event
      .LAMP_FAILED (some s.lmc.active.num)).count .lampFailures).evalNoLamp) :=
    .after (quiet_evalNoLamp _) (.after (quiet_count _ _) (.after (quiet_event ..) (quiet_setLamp s _ _)))
  refine .ite (fun _ => .after (quiet_swap _ fun hl => hl.1 ?_) hfail) (fun _ => .after (quiet_setPower_off _ _) hfail)
  simpa using hon

theorem quiet_startRamp (s : State) (target time : Nat) (curve : Curve) : s.Quiet (s.startRamp target time curve) :=
  .setLmc_same s _ ⟨rfl, rfl, rfl, rfl, rfl, rfl⟩

theorem quiet_setManual (s : State) (v : Bool) : s.Quiet (s.setManual v) :=
  .setLmc_same s _ ⟨rfl, rfl, rfl, rfl, rfl, rfl⟩

/-! ## The transport (R101 to R103, R112) -/

theorem quiet_setVolume (s : State) (v : Nat) : s.Quiet (s.setVolume v) := by
  refine .setTtc s _ (fun ⟨⟨hflags, hsteps, hen, htable, hign, hlo, hhi, _⟩, hrest⟩ => ?_)
  exact ⟨⟨hflags, hsteps, hen, htable, hign, hlo, hhi, Nat.min_le_right v 63⟩, hrest⟩

theorem setTransport_par (s : State) (t : Transport) : (s.setTransport t).ttc.par = s.ttc.par := by
  unfold State.setTransport
  split
  · rfl
  · cases t <;> rfl

theorem quiet_setTransport (s : State) (t : Transport) : s.Quiet (s.setTransport t) := by
  unfold State.setTransport
  refine .ite (fun _ => .refl s) (fun _ => .setTtc_same s _ ?_ ?_) <;> cases t <;> rfl

theorem quiet_tape (s : State) (op : TapeOp) : s.Quiet (s.tape op) :=
  .ite (fun _ => .refl s) (fun _ => quiet_setTransport ..)

theorem quiet_seqPause (s : State) : s.Quiet s.seqPause :=
  .ite (fun _ => .after (.setTtc_same _ _ rfl rfl) (quiet_setTransport s .PAUSE)) (fun _ => .refl s)

theorem quiet_seqResume (s : State) : s.Quiet s.seqResume :=
  .ite (fun _ => quiet_setTransport s .PLAY) (fun _ => .refl s)

end Sys2Proof.Machine
end

section
/-!
The phases of the mechanism are moves (R30 to R46). A phase is entered in several writes; each lemma takes them together,
notices first, since between them the mechanism is in no phase.
-/

namespace Sys2Proof.Machine

/-! ## Notices and the mechanism's registers -/

theorem notice_setTmc (s : State) (x : Tmc) (k : NoticeKind) (v : Bool) (o : Option Nat) :
    (s.setTmc x).notice k v o = (s.notice k v o).setTmc x := by
  unfold State.notice
  by_cases h : s.lki.enabled k = true
  · simp [h]
    rfl
  · simp [h]

/-- The mechanism's registers become `t`, and MECH with them (R30). -/
def State.putMech (s : State) (t : Tmc) : State :=
  (s.setTmc t).setLmc { s.lmc with blanks := { s.lmc.blanks with mech := decide (t.st ≠ .IDLE) } }

/-! ## What a phase says (section 2.3) -/

/-- Outside a cycle nothing is driven and no phase runs. -/
theorem Tmc.inPhase_atRest {t : Tmc} (h : t.inPhase = true) (hm : t.st.moving = false) :
    t.phase = none ∧ t.timer = none ∧ t.lifter = .released ∧ t.trayDrive = none := by
  unfold Tmc.inPhase at h
  split at h <;> simp_all
  all_goals simp_all [MechState.moving]

/-- A timer of a phase runs in a cycle alone. -/
theorem Tmc.inPhase_timer {t : Tmc} {k : MechTimer} (h : t.inPhase = true) (hk : t.timer.map Prod.fst = some k) :
    t.st.moving = true ∧ (k = .indexWait ∨ t.trayDrive = none) := by
  unfold Tmc.inPhase at h
  split at h <;> simp_all
  all_goals simp_all [MechState.moving]

/-- A tray that is driven, or a lifter, is driven in a phase whose timer runs. -/
theorem Tmc.inPhase_driven {t : Tmc} (h : t.inPhase = true) (hd : t.lifter ≠ .released ∨ t.trayDrive ≠ none) :
    t.timer.isSome = true ∧ t.st.moving = true := by
  cases ht : t.timer.map Prod.fst with
  | none =>
    unfold Tmc.inPhase at h
    rw [ht] at h
    split at h <;> simp_all
  | some k => exact ⟨by rw [← Option.isSome_map, ht]; rfl, (Tmc.inPhase_timer h ht).1⟩

theorem Tmc.inPhase_indexWait {t : Tmc} (h : t.inPhase = true)
    (hp : t.phase = some .STEP ∨ t.phase = some .ROTATE ∨ t.phase = some .SEARCH) :
    t.timer.isSome = true ∧ t.lifter = .up ∧ (t.phase = some .STEP → t.st = .CHANGING) ∧
      (t.phase = some .ROTATE → t.st = .SEEKING) ∧ (t.phase = some .SEARCH → t.st = .HOMING) := by
  have htimer : t.timer.isSome = true := by
    cases ht : t.timer with
    | some _ => rfl
    | none =>
      simp only [Tmc.inPhase, ht, Option.map_none] at h
      split at h <;> simp_all
  refine ⟨htimer, ?_⟩
  unfold Tmc.inPhase at h
  split at h <;> simp_all

/-- R32: the lifter is up at the end of LIFT. -/
theorem Tmc.inPhase_lift {t : Tmc} (h : t.inPhase = true) (hk : t.timer.map Prod.fst = some .lift) : t.lifter = .up := by
  unfold Tmc.inPhase at h
  split at h <;> simp_all

theorem MechState.moving_cases {st : MechState} (h : st.moving = true) : st = .HOMING ∨ st = .CHANGING ∨ st = .SEEKING := by
  cases st <;> simp_all [MechState.moving]

theorem MechInv.qualDue_none {s : State} (h : MechInv s) (hp : s.tmc.st ≠ .PARKED) : s.tmc.qualDue = none := by
  obtain ⟨_, _, _, hq, _⟩ := h
  cases hd : s.tmc.qualDue with
  | none => rfl
  | some d => exact absurd (hq (by simp [hd])).1 hp

theorem MechInv.trayPresent {s : State} (h : MechInv s) (hp : s.tmc.st ≠ .PARKED) : s.tmc.trayPresent = true := by
  obtain ⟨_, _, _, _, ht⟩ := h
  cases hd : s.tmc.trayPresent with
  | true => rfl
  | false => exact absurd (ht hd) hp

theorem MechState.not_parked_of_moving {st : MechState} (h : st.moving = true) : st ≠ .PARKED := by
  rintro rfl
  simp [MechState.moving] at h

/-! ## A phase is entered -/

/-- Within a cycle the mechanism goes on to a phase: the light is dark where a timer runs. -/
theorem quiet_phase (s : State) (t : Tmc) (hst : t.st = s.tmc.st) (hq : t.qualDue = s.tmc.qualDue)
    (hpr : t.trayPresent = s.tmc.trayPresent) (hm : MechInv s → t.inPhase = true ∧ s.tmc.timer.isSome = true)
    (ht : MechInv s → TrayInv s → TrayInv (s.setTmc t)) (hl : t.slots.length = s.tmc.slots.length) :
    s.Quiet (s.setTmc t) := by
  refine .setTmc s t (fun h => ?_) ht hl
  obtain ⟨hphase, htimer⟩ := hm h
  obtain ⟨hmech, _, hdark, hqual, hpres⟩ := h
  refine ⟨?_, hphase, fun _ => hdark htimer, ?_, ?_⟩
  · simpa [hst] using hmech
  · simpa [hq, hst, hpr] using hqual
  · simpa [hst, hpr] using hpres

/-- The mechanism's state changes to `t` with no timer running. -/
theorem quiet_putMech (s : State) (t : Tmc) (hm : MechInv s → t.inPhase = true) (htimer : t.timer = none)
    (hq : MechInv s → t.st ≠ .PARKED → t.trayPresent = true) (hqd : MechInv s → t.qualDue = none)
    (ht : MechInv s → TrayInv s → TrayInv (s.setTmc t)) (hl : t.slots.length = s.tmc.slots.length) :
    s.Quiet (s.putMech t) := by
  refine ⟨⟨id, fun h => ?_, fun h _ htr => ht h htr, .inl rfl, id, id, fun h => ?_⟩, id⟩
  · refine ⟨rfl, hm h, by simp [State.putMech, htimer], by simp [State.putMech, hqd h], fun hp => ?_⟩
    exact Classical.byContradiction fun hne => by
      have := hq h hne
      simp_all [State.putMech]
  · simpa [ShapeInv, Settings.ok, State.capture, State.putMech, hl] using h

theorem beginCycle_eq (s : State) (st : MechState) : s.beginCycle st = s.putMech
    { s.tmc with st := st, phase := some .DARKEN, timer := none, retriedLift := false, retriedDrop := false, steps := 0 } :=
  rfl

/-- R31, R40, R45: a cycle begins in a mechanism at rest, with a tray in place. -/
theorem quiet_beginCycle (s : State) (st : MechState) (hst : st.moving = true) (hm : s.tmc.st.moving = false)
    (hp : s.tmc.st ≠ .PARKED) : s.Quiet (s.beginCycle st) := by
  rw [beginCycle_eq]
  refine quiet_putMech s _ (fun h => ?_) rfl (fun h _ => h.trayPresent hp) (fun h => h.qualDue_none hp)
    (fun h htr => ?_) rfl
  · obtain ⟨_, hphase, _⟩ := h
    obtain ⟨_, _, hlift, hdrive⟩ := Tmc.inPhase_atRest hphase hm
    simp [Tmc.inPhase, hst, hlift, hdrive]
  · obtain ⟨hlen, hocc, hblank, hjams, hsize, hpark, _, hpos, hgate⟩ := htr
    have hne : st ≠ .PARKED := MechState.not_parked_of_moving hst
    refine ⟨hlen, hocc, hblank, hjams, hsize, ?_, fun h => absurd h hne, hpos, hgate⟩
    simpa [hne, hp] using hpark

theorem quiet_startHoming (s : State) (hm : s.tmc.st.moving = false) (hp : s.tmc.st ≠ .PARKED) :
    s.Quiet s.startHoming :=
  .after (quiet_beginCycle (s.setTmc { s.tmc with dir := .forward }) .HOMING rfl hm hp)
    (.setTmc_same s _ ⟨rfl, rfl, rfl, rfl, rfl, rfl, rfl, rfl, rfl, rfl, rfl⟩)

theorem quiet_startChange (s : State) (d : Dir) (hi : s.tmc.st = .IDLE) : s.Quiet (s.startChange d) :=
  .after (quiet_count _ _) (.after (quiet_beginCycle (s.setTmc { s.tmc with dir := d }) .CHANGING rfl
      (by simp [hi, MechState.moving]) (by simp [hi]))
    (.setTmc_same s _ ⟨rfl, rfl, rfl, rfl, rfl, rfl, rfl, rfl, rfl, rfl, rfl⟩))

theorem quiet_startSeek (s : State) (p : Nat) (hi : s.tmc.st = .IDLE) : s.Quiet (s.startSeek p) := by
  unfold State.startSeek
  refine .after (quiet_count _ _) (.after (quiet_beginCycle _ .SEEKING rfl (by simp [hi, MechState.moving]) (by simp [hi])) ?_)
  exact .setTmc_same s _ ⟨rfl, rfl, rfl, rfl, rfl, rfl, rfl, rfl, rfl, rfl, rfl⟩

theorem quiet_truncate (s : State) : s.Quiet s.truncate :=
  .ite (fun _ => .setTmc_same s _ ⟨rfl, rfl, rfl, rfl, rfl, rfl, rfl, rfl, rfl, rfl, rfl⟩) (fun _ => .refl s)

theorem quiet_clearMatch (s : State) (x : Option Nat) : s.Quiet (s.clearMatch x) :=
  .ite (fun _ => .after (quiet_condNotice ..) (.setTmc_same s _ ⟨rfl, rfl, rfl, rfl, rfl, rfl, rfl, rfl, rfl, rfl, rfl⟩))
    (fun _ => .refl s)

theorem quiet_evalPacing (s : State) : s.Quiet s.evalPacing :=
  .setTmc_same s _ ⟨rfl, rfl, rfl, rfl, rfl, rfl, rfl, rfl, rfl, rfl, rfl⟩

/-! ## DROP and SETTLE (R36, R37) -/

/-- R36: what the slide sensor says of gate and slot. -/
def Tmc.seat (t : Tmc) (m : MechSense) : Tmc :=
  match t.pos with
  | some (p + 1) =>
    if m.slide then
      { t with gate := .LOADED (p + 1), slots := t.slots.modify (p + 1) (fun r => { r with occ := .PRESENT }) }
    else { t with gate := .EMPTY, slots := t.slots.modify (p + 1) (fun r => { r with occ := .EMPTY }) }
  | _ => { t with gate := .EMPTY }

theorem Tmc.seat_fields (t : Tmc) (m : MechSense) :
    (t.seat m).st = t.st ∧ (t.seat m).qualDue = t.qualDue ∧ (t.seat m).trayPresent = t.trayPresent ∧
      (t.seat m).trayDrive = t.trayDrive ∧ (t.seat m).size = t.size ∧ (t.seat m).pos = t.pos ∧
      (t.seat m).slots.length = t.slots.length ∧ (t.seat m).comparePos = t.comparePos ∧ (t.seat m).par = t.par ∧
      (t.seat m).slotMatch = t.slotMatch := by
  unfold Tmc.seat
  split
  · split <;> simp
  · simp

/-- R36: the slots after the slide is read. -/
theorem Tmc.seat_slots (t : Tmc) (m : MechSense) :
    (t.seat m).slots = t.slots ∨ ∃ p o, (t.seat m).slots = t.slots.modify (p + 1) (fun r => { r with occ := o }) := by
  unfold Tmc.seat
  split
  · split <;> exact .inr ⟨_, _, rfl⟩
  · exact .inl rfl

/-- R36: a gate that holds a slot holds that of the position, PRESENT. -/
theorem Tmc.seat_gate (t : Tmc) (m : MechSense) :
    (t.seat m).gate = .EMPTY ∨ ∃ p, t.pos = some (p + 1) ∧ (t.seat m).gate = .LOADED (p + 1) ∧
      (t.seat m).slots = t.slots.modify (p + 1) (fun r => { r with occ := .PRESENT }) := by
  unfold Tmc.seat
  split
  · rename_i p hp
    split
    · exact .inr ⟨p, hp, rfl, rfl⟩
    · exact .inl rfl
  · exact .inl rfl

/-- R36, R37: the mechanism's registers in SETTLE; `b`: SLOT_MATCH. -/
def State.settled (s : State) (m : MechSense) (b : Bool) : Tmc :=
  { s.tmc.seat m with
    lifter := .released, phase := some .SETTLE, timer := some (.settle, s.now + delayUnits (s.tmc.seat m).par.tSettle)
    slotMatch := b }

/-- R36, R47: DROP ends in SETTLE, but for the notice of slot compare. -/
theorem dropEnds_settled (s : State) (m : MechSense) : ∃ b, (s.setTmc (s.settled m b)).Quiet (s.dropEnds m) := by
  obtain ⟨a, ha⟩ : ∃ a : Tmc, a = { s.tmc.seat m with lifter := .released, timer := none } := ⟨_, rfl⟩
  have hform : s.dropEnds m = (State.testMatch (s.setTmc a)).setTmc { (State.testMatch (s.setTmc a)).tmc with
      phase := some .SETTLE
      timer := some (.settle, (State.testMatch (s.setTmc a)).now +
        delayUnits (State.testMatch (s.setTmc a)).tmc.par.tSettle) } := by rw [ha]; rfl
  rw [hform]
  unfold State.testMatch
  split
  · refine ⟨true, ?_⟩
    simp only [State.condNotice, notice_setTmc]
    have h := quiet_notice (s.setTmc (s.settled m true)) .SLOT_MATCH (!true) a.comparePos
    rw [notice_setTmc] at h
    subst ha
    simpa [notice_setTmc, State.settled] using h
  · refine ⟨a.slotMatch, ?_⟩
    subst ha
    exact .refl _

/-- The mechanism is in a cycle, with a timer running and the tray not driven. -/
def State.phaseStill (s : State) : Prop :=
  s.tmc.timer.isSome = true ∧ s.tmc.st.moving = true ∧ s.tmc.trayDrive = none

theorem MechInv.phaseStill {s : State} {k : MechTimer} (h : MechInv s) (hk : s.tmc.timer.map Prod.fst = some k)
    (hne : k ≠ .indexWait) : s.phaseStill := by
  obtain ⟨_, hphase, _⟩ := h
  obtain ⟨hmov, hdrive⟩ := Tmc.inPhase_timer hphase hk
  exact ⟨by rw [← Option.isSome_map, hk]; rfl, hmov, hdrive.resolve_left hne⟩

theorem TrayInv.trayS_le {s : State} (h : TrayInv s) : s.tmc.trayS ≤ 120 := by
  obtain ⟨_, _, _, _, hs | hs | hs, _⟩ := h <;> simp [Tmc.trayS, hs]

/-- What an occupancy written above position 0 leaves of the slot table. -/
theorem TrayInv.modify_occ {s : State} (h : TrayInv s) (p : Nat) (o : Occ) (l : List SlotRec)
    (hl : l = s.tmc.slots.modify (p + 1) (fun r => { r with occ := o })) :
    l.length = 121 ∧ l[0]?.map SlotRec.occ = some .EMPTY ∧ l[0]?.map SlotRec.blank = some false ∧ ∀ r ∈ l, r.jams ≤ 3 := by
  obtain ⟨hlen, hocc, hblank, hjams, _⟩ := h
  subst hl
  refine ⟨by simp [hlen], by simpa [List.getElem?_modify] using hocc, by simpa [List.getElem?_modify] using hblank, ?_⟩
  intro r hr
  obtain ⟨i, hi, rfl⟩ := List.getElem_of_mem hr
  rw [List.getElem_modify]
  have hle := hjams _ (List.getElem_mem (by simpa using hi : i < s.tmc.slots.length))
  split <;> exact hle

/-- R36: the slot that a DROP reads lies in the tray, and the gate holds it only as PRESENT. -/
theorem TrayInv.settled {s : State} (m : MechSense) (b : Bool) (h : TrayInv s) : TrayInv (s.setTmc (s.settled m b)) := by
  obtain ⟨hst, _, _, _, hsz, hpos, _⟩ := s.tmc.seat_fields m
  have htable : (s.tmc.seat m).slots.length = 121 ∧ (s.tmc.seat m).slots[0]?.map SlotRec.occ = some .EMPTY ∧
      (s.tmc.seat m).slots[0]?.map SlotRec.blank = some false ∧ ∀ r ∈ (s.tmc.seat m).slots, r.jams ≤ 3 := by
    obtain hsl | ⟨p, o, hsl⟩ := s.tmc.seat_slots m
    · rw [hsl]
      exact ⟨h.1, h.2.1, h.2.2.1, h.2.2.2.1⟩
    · exact h.modify_occ p o _ hsl
  have hgate : gateOk (s.settled m b) := by
    obtain hg | ⟨p, hp, hg, hsl⟩ := s.tmc.seat_gate m
    · simp [gateOk, State.settled, hg]
    · have hle := h.trayS_le
      obtain ⟨hlen, _, _, _, _, _, _, hin, _⟩ := h
      have hlt : p + 1 < s.tmc.slots.length := by
        have := hin _ hp
        omega
      simp [gateOk, State.settled, hg, hsl, List.getElem?_eq_getElem hlt]
  obtain ⟨hlen, hocc, hblank, hjams⟩ := htable
  obtain ⟨_, _, _, _, hsize, hpark, hnone, hin, _⟩ := h
  refine ⟨hlen, hocc, hblank, hjams, ?_, ?_, ?_, ?_, hgate⟩
  · simpa [State.settled, hsz] using hsize
  · simpa [State.settled, hsz, hst] using hpark
  · simpa [State.settled, hst, hpos] using hnone
  · simpa [State.settled, hpos, Tmc.trayS, hsz] using hin

theorem quiet_dropEnds (s : State) (m : MechSense) (hm : MechInv s → s.phaseStill) : s.Quiet (s.dropEnds m) := by
  obtain ⟨b, hb⟩ := dropEnds_settled s m
  obtain ⟨hst, hqd, hpr, hdrive, _, _, hlen, _⟩ := s.tmc.seat_fields m
  refine .after hb (quiet_phase s (s.settled m b) hst hqd hpr (fun h => ?_) (fun _ htr => htr.settled m b) hlen)
  obtain ⟨htimer, hmov, hd⟩ := hm h
  exact ⟨by simp [Tmc.inPhase, State.settled, hst, hmov, hdrive, hd], htimer⟩

theorem quiet_beginDrop (s : State) (m : MechSense) (hm : MechInv s → s.tmc.timer.isSome = true ∧ s.tmc.st.moving = true) :
    s.Quiet (s.beginDrop m) := by
  have hdrop : s.Quiet (s.setTmc { s.tmc with
      trayDrive := none, phase := some .DROP, lifter := .down, timer := some (.drop, s.now + dropTime) }) := by
    refine quiet_phase s _ rfl rfl rfl (fun h => ?_) (fun _ htr => htr) rfl
    obtain ⟨htimer, hmov⟩ := hm h
    exact ⟨by simp [Tmc.inPhase, hmov], htimer⟩
  refine .ite (fun _ => .after (quiet_dropEnds _ m fun h => ?_) hdrop) (fun _ => hdrop)
  exact h.phaseStill (k := .drop) rfl (by simp)

/-! ## LIFT and the drive of the tray (R32, R34, R41, R45) -/

/-- The tray is driven with the lifter up, in the phase of the mechanism's state. -/
theorem quiet_driveTray (s : State) (p : Phase) (d : Dir)
    (hm : MechInv s → s.tmc.timer.isSome = true ∧ s.tmc.lifter = .up ∧
      ((p = .STEP ∧ s.tmc.st = .CHANGING) ∨ (p = .ROTATE ∧ s.tmc.st = .SEEKING) ∨ (p = .SEARCH ∧ s.tmc.st = .HOMING))) :
    s.Quiet (s.driveTray p d) := by
  refine quiet_phase s _ rfl rfl rfl (fun h => ?_) (fun _ htr => htr) rfl
  obtain ⟨htimer, hlift, ⟨rfl, hst⟩ | ⟨rfl, hst⟩ | ⟨rfl, hst⟩⟩ := hm h <;>
    exact ⟨by simp [Tmc.inPhase, hst, hlift], htimer⟩

/-- The gate empties, the steps are counted anew and, in homing, the position is forgotten: all within a phase. -/
theorem quiet_record (s : State) (t : Tmc) (h : s.tmc.sameWork { t with gate := s.tmc.gate, pos := s.tmc.pos })
    (hg : t.gate = .EMPTY ∨ t.gate = s.tmc.gate)
    (hp : MechInv s → t.pos = s.tmc.pos ∨ s.tmc.st ≠ .PARKED ∧ ∀ p, t.pos = some p → TrayInv s → p ≤ s.tmc.trayS) :
    s.Quiet (s.setTmc t) := by
  obtain ⟨hst, hphase, htimer, hlift, hdrive, hq, hpr, hsz, _, _, hsl⟩ := h
  dsimp only at hst hphase htimer hlift hdrive hq hpr hsz hsl
  refine .setTmc s t (fun h => ?_) (fun hm htr => ?_) (by rw [hsl])
  · simpa [MechInv, Tmc.inPhase, hst, hphase, htimer, hlift, hdrive, hq, hpr] using h
  · have hin : ∀ p, t.pos = some p → p ≤ s.tmc.trayS := by
      intro p hpp
      obtain h | ⟨_, h⟩ := hp hm
      · exact htr.2.2.2.2.2.2.2.1 p (h ▸ hpp)
      · exact h p hpp htr
    obtain ⟨hlen, hocc, hblank, hjams, hsize, hpark, hnone, _, hgate⟩ := htr
    refine ⟨by simpa [hsl] using hlen, by simpa [hsl] using hocc, by simpa [hsl] using hblank, by simpa [hsl] using hjams,
      by simpa [hsz] using hsize, by simpa [hst, hsz] using hpark, fun h => ?_, by simpa [Tmc.trayS, hsz] using hin, ?_⟩
    · have hps : s.tmc.st = .PARKED := by simpa [hst] using h
      obtain h | ⟨h, _⟩ := hp hm
      · simpa [h] using hnone hps
      · exact absurd hps h
    · obtain h | h := hg
      · simp [gateOk, h]
      · simpa [gateOk, h, hsl] using hgate

theorem quiet_liftEnds (s : State) (m : MechSense) (hk : s.tmc.timer.map Prod.fst = some .lift) :
    s.Quiet (s.liftEnds m) := by
  have htimer : s.tmc.timer.isSome = true := by rw [← Option.isSome_map (f := Prod.fst), hk]; rfl
  have hup : MechInv s → s.tmc.lifter = .up := fun h => Tmc.inPhase_lift h.2.1 hk
  have hmov : MechInv s → s.tmc.st.moving = true := fun h => (Tmc.inPhase_timer h.2.1 hk).1
  have hempty : s.Quiet (s.setTmc { s.tmc with gate := .EMPTY, steps := 0 }) :=
    quiet_record s _ ⟨rfl, rfl, rfl, rfl, rfl, rfl, rfl, rfl, rfl, rfl, rfl⟩ (.inl rfl) (fun _ => .inl rfl)
  cases hst : s.tmc.st with
  | PARKED | IDLE | JAMMED =>
    have hnot : ¬MechInv s := fun h => by simpa [hst, MechState.moving] using hmov h
    simp only [State.liftEnds, State.setTmc_tmc, hst]
    exact .setTmc s _ (fun h => absurd h hnot) (fun h => absurd h hnot) rfl
  | CHANGING =>
    have heq : s.liftEnds m = (s.setTmc { s.tmc with gate := .EMPTY, steps := 0 }).driveTray .STEP s.tmc.dir := by
      simp only [State.liftEnds, State.setTmc_tmc, hst]
      rfl
    rw [heq]
    exact .after (quiet_driveTray _ _ _ fun h => ⟨htimer, Tmc.inPhase_lift h.2.1 hk, .inl ⟨rfl, hst⟩⟩) hempty
  | SEEKING =>
    have heq : s.liftEnds m = if s.tmc.truncated || s.tmc.distance == 0 then
        (s.setTmc { s.tmc with gate := .EMPTY, steps := 0 }).beginDrop m
        else (s.setTmc { s.tmc with gate := .EMPTY, steps := 0 }).driveTray .ROTATE s.tmc.dir := by
      simp only [State.liftEnds, State.setTmc_tmc, hst]
      rfl
    rw [heq]
    refine .ite (fun _ => .after (quiet_beginDrop _ m fun h => ⟨htimer, ?_⟩) hempty) (fun _ =>
      .after (quiet_driveTray _ _ _ fun h => ⟨htimer, Tmc.inPhase_lift h.2.1 hk, .inr (.inl ⟨rfl, hst⟩)⟩) hempty)
    simp [hst, MechState.moving]
  | HOMING =>
    have heq : s.liftEnds m = if m.homeMark then
        (s.setTmc { s.tmc with gate := .EMPTY, steps := 0, pos := some 0 }).beginDrop m
        else (s.setTmc { s.tmc with gate := .EMPTY, steps := 0, pos := none }).driveTray .SEARCH .forward := by
      simp only [State.liftEnds, State.setTmc_tmc, hst]
      rfl
    rw [heq]
    refine .ite (fun _ => .after (quiet_beginDrop _ m fun h => ⟨htimer, by simp [hst, MechState.moving]⟩) ?_) (fun _ =>
      .after (quiet_driveTray _ _ _ fun h => ⟨htimer, Tmc.inPhase_lift h.2.1 hk, .inr (.inr ⟨rfl, hst⟩)⟩) ?_)
    · exact quiet_record s _ ⟨rfl, rfl, rfl, rfl, rfl, rfl, rfl, rfl, rfl, rfl, rfl⟩ (.inl rfl)
        fun _ => .inr ⟨by simp [hst], by simp⟩
    · exact quiet_record s _ ⟨rfl, rfl, rfl, rfl, rfl, rfl, rfl, rfl, rfl, rfl, rfl⟩ (.inl rfl)
        fun _ => .inr ⟨by simp [hst], by simp⟩

theorem quiet_beginLift (s : State) (m : MechSense) (k : MechTimer) (hk : s.tmc.timer.map Prod.fst = some k)
    (hne : k ≠ .indexWait) : s.Quiet (s.beginLift m) := by
  obtain ⟨u, hu⟩ : ∃ u, u = (if s.tmc.clearMode = .AUTO then s.clearMatch s.tmc.comparePos else s) := ⟨_, rfl⟩
  have hclear : s.Quiet u := by
    rw [hu]
    exact .ite (fun _ => quiet_clearMatch ..) (fun _ => .refl s)
  have hk' : u.tmc.timer.map Prod.fst = some k := by
    rw [hu]
    split <;> simpa using hk
  have hlift : u.Quiet (u.setTmc { u.tmc with
      phase := some .LIFT, lifter := .up, timer := some (.lift, u.now + liftTime) }) := by
    refine quiet_phase u _ rfl rfl rfl (fun h => ?_) (fun _ htr => htr) rfl
    obtain ⟨htimer, hmov, hdrive⟩ := h.phaseStill hk' hne
    exact ⟨by simp [Tmc.inPhase, hmov, hdrive], htimer⟩
  unfold State.beginLift
  rw [← hu]
  exact .ite (fun _ => .after (quiet_liftEnds _ m rfl) (hclear.trans hlift)) (fun _ => hclear.trans hlift)

/-! ## Retries and index pulses (R33 to R35, R41, R45) -/

theorem phaseDue_timer {s : State} {k : MechTimer} {d : Nat} (h : s.phaseDue k = some d) :
    s.tmc.timer.map Prod.fst = some k := by
  unfold State.phaseDue at h
  split at h
  · rename_i heq
    split at h
    · subst k
      simp [heq]
    · simp at h
  · simp at h

theorem quiet_retry (s : State) (c : Ctr) (t : MechTimer) (hk : s.tmc.timer.map Prod.fst = some t)
    (ht : t = .lift ∨ t = .drop) : s.Quiet (s.retry c) := by
  refine .after (quiet_count _ c) (quiet_phase s _ rfl rfl rfl (fun h => ?_) (fun _ htr => htr) rfl)
  have hne : t ≠ .indexWait := by rintro rfl; simp at ht
  obtain ⟨htimer, hmov, hdrive⟩ := h.phaseStill hk hne
  refine ⟨?_, htimer⟩
  obtain ⟨_, hphase, _⟩ := h
  have hp : s.tmc.phase = some .LIFT ∨ s.tmc.phase = some .DROP := by
    unfold Tmc.inPhase at hphase
    rw [hk] at hphase
    split at hphase <;> simp_all
  obtain hp | hp := hp <;> simp [Tmc.inPhase, hp, hmov, hdrive]

theorem quiet_retryPhase (s : State) (m : MechSense) (hk : s.tmc.timer.map Prod.fst = some .retryPause) :
    s.Quiet (s.retryPhase m) :=
  .ite (fun _ => quiet_beginLift s m _ hk (by simp)) (fun _ => quiet_beginDrop s m fun h =>
    ⟨(h.phaseStill hk (by simp)).1, (h.phaseStill hk (by simp)).2.1⟩)

theorem stepPos_le (n : Nat) (d : Dir) (p : Nat) : stepPos n d p ≤ n := by
  cases d <;> exact Nat.lt_succ_iff.mp (Nat.mod_lt _ (Nat.succ_pos n))

/-- R34: the tray moves on in a cycle. -/
theorem quiet_moveTray (s : State) (hm : MechInv s → s.tmc.st.moving = true) : s.Quiet s.moveTray := by
  refine quiet_record s _ ⟨rfl, rfl, rfl, rfl, rfl, rfl, rfl, rfl, rfl, rfl, rfl⟩ (.inr rfl) fun h => .inr ⟨?_, ?_⟩
  · exact MechState.not_parked_of_moving (hm h)
  · rintro p ⟨⟩ _
    exact stepPos_le _ _ _

/-- The phases in which an index pulse moves the tray. -/
theorem MechInv.indexed {s : State} (h : MechInv s)
    (hp : s.tmc.phase = some .STEP ∨ s.tmc.phase = some .ROTATE ∨ s.tmc.phase = some .SEARCH) :
    s.tmc.timer.isSome = true ∧ s.tmc.st.moving = true ∧ s.tmc.lifter = .up := by
  obtain ⟨_, hphase, _⟩ := h
  obtain ⟨htimer, hlift, _⟩ := Tmc.inPhase_indexWait hphase hp
  exact ⟨htimer, (Tmc.inPhase_driven hphase (.inl (by simp [hlift]))).2, hlift⟩

theorem quiet_pulseStep (s : State) (m : MechSense) (hp : s.tmc.phase = some .STEP) : s.Quiet (s.pulseStep m) := by
  have hmove := quiet_moveTray s fun h => (h.indexed (.inl hp)).2.1
  refine .ite (fun _ => .after (quiet_driveTray _ _ _ fun h => ?_) hmove)
    (fun _ => .after (quiet_beginDrop _ m fun h => ?_) hmove)
  · obtain ⟨htimer, _, hlift⟩ := h.indexed (.inl hp)
    exact ⟨htimer, hlift, .inl ⟨rfl, (Tmc.inPhase_indexWait h.2.1 (.inl hp)).2.2.1 hp⟩⟩
  · obtain ⟨htimer, hmov, _⟩ := h.indexed (.inl hp)
    exact ⟨htimer, hmov⟩

theorem quiet_pulseRotate (s : State) (m : MechSense) (hp : s.tmc.phase = some .ROTATE) : s.Quiet (s.pulseRotate m) := by
  have hmove := quiet_moveTray s fun h => (h.indexed (.inr (.inl hp))).2.1
  refine .ite (fun _ => .after (quiet_beginDrop _ m fun h => ?_) hmove)
    (fun _ => .after (quiet_driveTray _ _ _ fun h => ?_) hmove)
  · obtain ⟨htimer, hmov, _⟩ := h.indexed (.inr (.inl hp))
    exact ⟨htimer, hmov⟩
  · obtain ⟨htimer, _, hlift⟩ := h.indexed (.inr (.inl hp))
    exact ⟨htimer, hlift, .inr (.inl ⟨rfl, (Tmc.inPhase_indexWait h.2.1 (.inr (.inl hp))).2.2.2.1 hp⟩)⟩

/-! ## Jam, removal and rest (R25, R30, R43) -/

theorem countJam_some (s : State) (p : Nat) (l : List SlotRec)
    (hl : l = s.tmc.slots.modify p (fun r => { r with jams := min (r.jams + 1) 3 })) :
    s.countJam (some p) = if l[p]?.map SlotRec.jams = some 3 then
      (s.setTmc { s.tmc with slots := l }).event .SLOT_SUSPECT (some p) else s.setTmc { s.tmc with slots := l } := by
  subst hl
  rfl

/-- What a jam count leaves of the slot table. -/
theorem quiet_countJam (s : State) (p : Option Nat) : s.Quiet (s.countJam p) := by
  unfold State.countJam
  split
  · exact .refl s
  · rename_i p
    have hslots : s.Quiet (s.setTmc { s.tmc with
        slots := s.tmc.slots.modify p (fun r => { r with jams := min (r.jams + 1) 3 }) }) := by
      refine .setTmc s _ id (fun _ htr => ?_) (by simp)
      obtain ⟨hlen, hocc, hblank, hjams, hsize, hpark, hnone, hin, hgate⟩ := htr
      have hget : ∀ (i : Nat) {α : Type} (f : SlotRec → α), (∀ r : SlotRec, f { r with jams := min (r.jams + 1) 3 } = f r) →
          (s.tmc.slots.modify p (fun r => { r with jams := min (r.jams + 1) 3 }))[i]?.map f = s.tmc.slots[i]?.map f := by
        intro i α f hf
        rw [List.getElem?_modify]
        split <;> cases s.tmc.slots[i]? <;> simp [hf]
      refine ⟨by simpa using hlen, (hget 0 SlotRec.occ fun _ => rfl).trans hocc,
        (hget 0 SlotRec.blank fun _ => rfl).trans hblank, ?_, hsize, hpark, hnone, hin, ?_⟩
      · intro r hr
        obtain ⟨i, hi, rfl⟩ := List.getElem_of_mem hr
        simp only [State.setTmc_tmc, List.getElem_modify]
        have hle := hjams _ (List.getElem_mem (by simpa using hi : i < s.tmc.slots.length))
        split
        · simp
        · exact hle
      · unfold gateOk at hgate ⊢
        cases hg : s.tmc.gate with
        | EMPTY | UNKNOWN => simp [hg]
        | LOADED q =>
          rw [hg] at hgate
          obtain ⟨hq, hpres⟩ := hgate
          simp only [State.setTmc_tmc, hg]
          exact ⟨hq, (hget q SlotRec.occ fun _ => rfl).trans hpres⟩
    exact .ite (fun _ => .after (quiet_event ..) hslots) (fun _ => hslots)

/-- R43: the drives and the timer end, and the jam is recorded. -/
def State.jamHalts (s : State) (cause : JamCause) (t : Tmc) : Tmc :=
  { t with
    lifter := .released, trayDrive := none, timer := none
    jam := some { cause := cause, phase := s.tmc.phase.getD .DARKEN, position := s.jamPosition } }

theorem countJam_jamHalts (s : State) (cause : JamCause) (p : Option Nat) :
    (s.setTmc (s.jamHalts cause s.tmc)).countJam p =
      (s.countJam p).setTmc (s.jamHalts cause (s.countJam p).tmc) := by
  cases p with
  | none => rfl
  | some p =>
    rw [countJam_some s p _ rfl, countJam_some (s.setTmc (s.jamHalts cause s.tmc)) p (s.tmc.slots.modify p _) rfl]
    split
    · simp only [State.event, notice_setTmc]
      rfl
    · rfl

/-- R43: the mechanism's registers after a jam. -/
def State.jammed (s : State) (cause : JamCause) (t : Tmc) : Tmc :=
  { s.jamHalts cause t with st := .JAMMED, gate := .UNKNOWN, pos := none, phase := none }

/-- R29, R43: a jam is counted and noticed, and the mechanism stops. -/
theorem jamMech_eq (s : State) (cause : JamCause) : s.jamMech cause =
    (((s.countJam s.jamPosition).event .JAM s.jamPosition).count .mechJams).putMech
      (s.jammed cause (s.countJam s.jamPosition).tmc) := by
  have hform : s.jamMech cause = State.setMech
      ((((State.countJam (s.setTmc (s.jamHalts cause s.tmc)) s.jamPosition).event .JAM s.jamPosition).count
        .mechJams).setTmc
      { (((State.countJam (s.setTmc (s.jamHalts cause s.tmc)) s.jamPosition).event .JAM s.jamPosition).count
        .mechJams).tmc with gate := .UNKNOWN, pos := none, phase := none }) .JAMMED := rfl
  rw [hform, countJam_jamHalts]
  simp only [State.event, notice_setTmc]
  rfl

/-- A mechanism in a phase is in a cycle. -/
theorem Tmc.inPhase_moving {t : Tmc} (h : t.inPhase = true) (hp : t.phase.isSome = true ∨ t.timer.isSome = true) :
    t.st.moving = true := by
  by_contra hm
  obtain ⟨hphase, htimer, _⟩ := Tmc.inPhase_atRest h (by simpa using hm)
  simp [hphase, htimer] at hp

/-- R43: a mechanism in a phase jams. -/
theorem quiet_jamMech (s : State) (cause : JamCause) (hp : s.tmc.phase.isSome = true ∨ s.tmc.timer.isSome = true) :
    s.Quiet (s.jamMech cause) := by
  obtain ⟨u, hu⟩ : ∃ u, u = ((s.countJam s.jamPosition).event .JAM s.jamPosition).count .mechJams := ⟨_, rfl⟩
  have hsu : s.Quiet u := by
    rw [hu]
    exact .after (quiet_count ..) (.after (quiet_event ..) (quiet_countJam s _))
  have hut : (s.countJam s.jamPosition).tmc = u.tmc := by simp [hu]
  have hup : u.tmc.phase.isSome = true ∨ u.tmc.timer.isSome = true := by simpa [hu] using hp
  have hst : MechInv u → u.tmc.st ≠ .PARKED := fun h =>
    MechState.not_parked_of_moving (Tmc.inPhase_moving h.2.1 hup)
  rw [jamMech_eq, ← hu, hut]
  refine .after (quiet_putMech u _ (fun _ => rfl) rfl (fun h _ => h.trayPresent (hst h))
    (fun h => h.qualDue_none (hst h)) (fun h htr => ?_) rfl) hsu
  have hne := hst h
  obtain ⟨hlen, hocc, hblank, hjams, hsize, hpark, _, _, _⟩ := htr
  refine ⟨hlen, hocc, hblank, hjams, hsize, ?_, by simp [State.jammed], by simp [State.jammed], trivial⟩
  simpa [State.jammed, State.jamHalts, hne] using hpark

/-- R25: the mechanism's registers after a removal. -/
def Tmc.removed (t : Tmc) : Tmc :=
  { t with
    st := .PARKED
    lifter := .released, trayDrive := none, timer := none, phase := none, size := none, pos := none, qualDue := none
    trayPresent := false
    gate := (match t.gate with
      | .LOADED _ => .UNKNOWN
      | g => g)
    slots := t.slots.mapIdx (fun i r => { r with occ := if i = 0 then .EMPTY else .UNKNOWN, jams := 0 })
    truncated := false
    jam := none }

theorem quiet_removed (s : State) : s.Quiet (s.putMech s.tmc.removed) := by
  refine quiet_putMech s _ (fun _ => rfl) rfl (fun _ h => absurd rfl h) (fun _ => rfl) (fun _ htr => ?_)
    List.length_mapIdx
  obtain ⟨hlen, hocc, hblank, hjams, _⟩ := htr
  have hzero : 0 < s.tmc.slots.length := by omega
  refine ⟨by simpa [Tmc.removed] using hlen, by simp [Tmc.removed, hzero], ?_, ?_, .inl rfl, by simp [Tmc.removed],
    fun _ => rfl, by simp [Tmc.removed], ?_⟩
  · simpa [Tmc.removed, hzero] using hblank
  · intro r hr
    obtain ⟨i, hi, rfl⟩ := List.getElem_of_mem hr
    simp [Tmc.removed]
  · simp only [gateOk, State.setTmc_tmc, Tmc.removed]
    cases s.tmc.gate <;> trivial

theorem enterParked_eq (s : State) : s.enterParked = ((((s.putMech s.tmc.removed).event .TRAY_REMOVED none).runHead).resetEnd) :=
  rfl

/-- R30, R37: the mechanism's registers at the entry to IDLE. -/
def State.atIdle (s : State) : Tmc :=
  { s.tmc with
    st := .IDLE, phase := none, timer := none, idleSince := s.now, pacingOut := decide (s.tmc.par.pacing = 0) }

theorem quiet_atIdle (s : State) (hk : s.tmc.timer.map Prod.fst = some .settle) : s.Quiet (s.putMech s.atIdle) := by
  have hst : MechInv s → s.tmc.st ≠ .PARKED := fun h =>
    MechState.not_parked_of_moving (Tmc.inPhase_timer h.2.1 hk).1
  refine quiet_putMech s _ (fun h => ?_) rfl (fun h _ => h.trayPresent (hst h)) (fun h => h.qualDue_none (hst h))
    (fun h htr => ?_) rfl
  · obtain ⟨_, hphase, _⟩ := h
    unfold Tmc.inPhase at hphase
    rw [hk] at hphase
    split at hphase <;> simp_all [Tmc.inPhase, State.atIdle, MechState.moving]
  · have hne := hst h
    obtain ⟨hlen, hocc, hblank, hjams, hsize, hpark, _, hin, hgate⟩ := htr
    refine ⟨hlen, hocc, hblank, hjams, hsize, ?_, by simp [State.atIdle], hin, hgate⟩
    simpa [State.atIdle, hne] using hpark

theorem enterIdle_eq (s : State) : s.enterIdle = (((s.putMech s.atIdle).runHead).resetEnd).powerOnLamp := rfl

/-! ## The tray is set on (R24) -/

theorem codeSize_cases {c : TrayCode} {n : Nat} (h : codeSize c = some n) : n = 80 ∨ n = 120 := by
  cases c <;> simp [codeSize] at h <;> omega

/-- R24, R45: the mechanism's registers when a tray of size `n` has been read. -/
def Tmc.received (t : Tmc) (n : Nat) : Tmc :=
  { t with
    st := .HOMING, phase := some .DARKEN, timer := none, retriedLift := false, retriedDrop := false, steps := 0
    dir := .forward, size := some n, qualDue := none }

theorem qualify_eq (s : State) (code : TrayCode) (n : Nat) (h : codeSize code = some n) :
    s.qualify code = (s.event .TRAY_INSERTED none).putMech (s.tmc.received n) := by
  simp only [State.qualify, h, State.event, notice_setTmc]
  rfl

theorem quiet_qualify (s : State) (code : TrayCode) (hq : s.tmc.qualDue.isSome = true) : s.Quiet (s.qualify code) := by
  cases hc : codeSize code with
  | none =>
    simp only [State.qualify, hc]
    refine .after (quiet_event ..) (.setTmc s _ (fun h => ?_) (fun _ htr => htr) rfl)
    obtain ⟨hmech, hphase, hdark, _, hpres⟩ := h
    exact ⟨hmech, hphase, hdark, by simp, hpres⟩
  | some n =>
    obtain ⟨u, hu⟩ : ∃ u, u = s.event .TRAY_INSERTED none := ⟨_, rfl⟩
    have hut : u.tmc = s.tmc := by simp [hu]
    rw [qualify_eq s code n hc, ← hu, ← hut]
    refine .after (quiet_putMech u _ (fun h => ?_) rfl (fun h _ => ?_) (fun _ => rfl) (fun h htr => ?_) rfl)
      (hu ▸ quiet_event s .TRAY_INSERTED none)
    all_goals obtain ⟨_, hphase, _, hqual, _⟩ := h
    all_goals obtain ⟨hst, hpres⟩ := hqual (by rw [hut]; exact hq)
    · obtain ⟨_, _, hlift, hdrive⟩ := Tmc.inPhase_atRest hphase (by rw [hst]; rfl)
      simp [Tmc.inPhase, Tmc.received, hlift, hdrive, MechState.moving]
    · exact hpres
    · obtain ⟨hlen, hocc, hblank, hjams, _, _, hnone, _, hgate⟩ := htr
      refine ⟨hlen, hocc, hblank, hjams, .inr ?_, by simp [Tmc.received], by simp [Tmc.received], ?_, hgate⟩
      · simpa [Tmc.received] using codeSize_cases hc
      · simp [Tmc.received, hnone hst]

end Sys2Proof.Machine
end

section
/-!
The action queue, its runner and the sequencer are moves (spec/01, spec/07).
-/

namespace Sys2Proof.Machine

/-! ## The queue (R8, R9) -/

/-- R8: entries that may join: none runs, and a step tag stands exactly on those of SHOW origin. -/
def joinable (es : List Entry) : Prop := ∀ e ∈ es, e.running = false ∧ e.tag.isSome = (e.origin == .SHOW)

theorem joinable_plainEntry (o : Origin) (a : Action) (ho : o ≠ .SHOW) : joinable [plainEntry o a] := by
  intro e he
  obtain rfl : e = plainEntry o a := by simpa using he
  cases o <;> simp_all [plainEntry]

theorem joinable_entries (q : Ssq) (j : Nat) (chase : Bool) : joinable (q.entries j chase) := by
  intro e he
  unfold Ssq.entries at he
  rw [List.mem_append] at he
  obtain he | he := he
  · split at he
    · obtain rfl : e = showEntry j (.SEEK _) := by simpa using he
      exact ⟨rfl, rfl⟩
    · simp at he
  · obtain ⟨a, _, rfl⟩ := List.mem_map.mp he
    exact ⟨rfl, rfl⟩

theorem QueueInv.enqueue {s : State} {es : List Entry} (h : QueueInv s) (hroom : es.length ≤ s.room) (hj : joinable es) :
    QueueInv (s.enqueue es) := by
  obtain ⟨hlen, htail, htag, hhold⟩ := h
  have hsum : s.aq.queue.length + es.length ≤ 12 := by
    unfold State.room queuePlaces at hroom
    split at hroom <;> omega
  cases hq : s.aq.queue with
  | nil =>
    rw [hq] at hhold hsum
    refine ⟨by simpa [State.enqueue, hq] using hsum, ?_, ?_, fun hd => absurd (hhold hd) (by simp)⟩
    · intro e he
      exact (hj e (List.mem_of_mem_tail (by simpa [State.enqueue, hq] using he))).1
    · intro e he
      exact (hj e (by simpa [State.enqueue, hq] using he)).2
  | cons x l =>
    rw [hq] at htail htag hhold hsum
    refine ⟨by simpa [State.enqueue, hq, Nat.add_right_comm] using hsum, ?_, ?_, ?_⟩
    · intro e he
      obtain he | he : e ∈ l ∨ e ∈ es := by simpa [State.enqueue, hq] using he
      · exact htail e he
      · exact (hj e he).1
    · intro e he
      obtain he | he : (e = x ∨ e ∈ l) ∨ e ∈ es := by simpa [State.enqueue, hq, or_assoc] using he
      · exact htag e (by simpa using he)
      · exact (hj e he).2
    · simpa [State.enqueue, hq] using hhold

theorem quiet_enqueue (s : State) (es : List Entry) (hroom : es.length ≤ s.room) (hj : joinable es) :
    s.Quiet (s.enqueue es) :=
  .setAq s _ fun h => h.enqueue hroom hj

/-! ## The end of the show and the end of a unit reset (R156, R191) -/

theorem quiet_endTest (s : State) : s.Quiet s.endTest :=
  .ite (fun ⟨hst, hptr, hpend, _⟩ => .after (quiet_event ..) (.setSsq s _ (.inr ⟨hst, hptr, hpend, rfl⟩)))
    (fun _ => .refl s)

theorem quiet_resetEnd (s : State) : s.Quiet s.resetEnd :=
  .ite (fun _ => .after (quiet_event ..) (.setLki s _ (fun _ => ⟨by simp, rfl⟩) rfl rfl)) (fun _ => .refl s)

/-! ## Firing (R151, R153, R154) -/

/-- R153, R155: the sequencer as a fire finds it, with a fire that it supersedes gone. -/
def Ssq.superseded (q : Ssq) : Ssq := if q.pend.isSome then Ssq.skip { q with pend := none } 1 else q

theorem Ssq.superseded_fields (q : Ssq) :
    q.superseded.steps = q.steps ∧ q.superseded.head = q.head ∧ q.superseded.st = q.st ∧
      q.superseded.pausedFrom = q.pausedFrom ∧ q.superseded.remembered = q.remembered ∧
      (q.skipped ≤ 65535 → q.superseded.skipped ≤ 65535) := by
  unfold Ssq.superseded
  split
  · simp [Ssq.skip]
  · simp

/-- R153: the sequencer after step `j` has fired, its entries placed in the queue or pending. -/
def Ssq.fired (q : Ssq) (j : Nat) (flag placed : Bool) : Ssq :=
  { q with
    pend := if placed then none else some { index := j, chase := flag, need := q.need j flag }
    ptr := q.linked (q.step j).next
    follow := .stopped
    watched := some j
    st := (match q.st with
      | .READY | .ENDED => .RUNNING
      | .RUNNING => .RUNNING
      | .PAUSED => .PAUSED
      | .UNLOADED => .UNLOADED)
    pausedFrom := if q.st = .PAUSED then some .RUNNING else q.pausedFrom }

theorem fireCore_eq (s : State) (j : Nat) (chase : Bool) : ∃ flag placed : Bool,
    (placed = true → s.ssq.superseded.need j flag ≤ s.room) ∧
    s.fireCore j chase = (if placed then s.enqueue (s.ssq.superseded.entries j flag) else s).setSsq
      (s.ssq.superseded.fired j flag placed) :=
  ⟨chase || s.ssq.pend.isSome, s.ssq.superseded.st != .PAUSED &&
    decide (s.ssq.superseded.need j (chase || s.ssq.pend.isSome) ≤ s.room), by simp, rfl⟩

theorem Ssq.fired_st (q : Ssq) (j : Nat) (flag placed : Bool) (h : q.st ≠ .UNLOADED) :
    (q.fired j flag placed).st = if q.st = .PAUSED then .PAUSED else .RUNNING := by
  cases hq : q.st <;> simp_all [Ssq.fired]

theorem SeqLoose.fired {q : Ssq} (j : Nat) (flag placed : Bool) (h : SeqLoose q) (hl : q.st ≠ .UNLOADED) :
    SeqLoose (q.superseded.fired j flag placed) := by
  obtain ⟨hsteps, hhd, hst, hpf, _, hskip⟩ := q.superseded_fields
  obtain ⟨hhead, _, _, hpaused, hfrom, _, _, _, _, hle⟩ := h
  have hst' := q.superseded.fired_st j flag placed (by rwa [hst])
  rw [hst] at hst'
  have hpf' : (q.superseded.fired j flag placed).pausedFrom = if q.st = .PAUSED then some .RUNNING else none := by
    simp only [Ssq.fired, hst, hpf]
    split
    · rfl
    · exact hfrom ‹_›
  refine ⟨fun _ => ?_, ?_, ?_, ?_, ?_, by simp, fun _ => rfl, ?_, trivial, hskip hle⟩
  · have := hhead hl
    simpa [Ssq.step, Ssq.fired, hsteps, hhd] using this
  · dsimp only
    rw [hst']
    split <;> simp
  · dsimp only
    rw [hst', hpf']
    split <;> simp
  · dsimp only
    rw [hst', hpf']
    split <;> simp
  · dsimp only
    rw [hst', hpf']
    split <;> simp
  · dsimp only
    rw [hst']
    intro p hp
    cases placed
    · simp only [Ssq.fired, Bool.false_eq_true, if_false, Option.some.injEq] at hp
      subst hp
      exact ⟨rfl, by split <;> simp⟩
    · simp [Ssq.fired] at hp

theorem keeps_fireCore (s : State) (j : Nat) (chase : Bool) (hl : SeqLoose s.ssq → s.ssq.st ≠ .UNLOADED) :
    s.Keeps (s.fireCore j chase) := by
  obtain ⟨flag, placed, hplaced, heq⟩ := fireCore_eq s j chase
  obtain ⟨hsteps, _, hst, _, hrem, _⟩ := s.ssq.superseded_fields
  have hq : s.Quiet (if placed then s.enqueue (s.ssq.superseded.entries j flag) else s) :=
    .ite (fun hp => quiet_enqueue s _ (hplaced hp) (joinable_entries _ _ _)) (fun _ => .refl s)
  have hssq : (if placed then s.enqueue (s.ssq.superseded.entries j flag) else s).ssq = s.ssq := by
    split <;> simp
  rw [heq]
  refine .after (.setSsq _ _ ?_ ?_ ?_) hq.keeps
  all_goals rw [hssq]
  · exact fun h => h.fired j flag placed (hl h)
  · intro h hr hsome
    have hp : s.ssq.st = .PAUSED := hr (by simpa [Ssq.fired, hrem] using hsome)
    rw [Ssq.fired_st _ _ _ _ (by rw [hst]; exact hl h), hst, hp]
    rfl
  · simp [Ssq.fired, hsteps]

/-- R151: the FOLLOW timer of a watched step changes. -/
theorem keeps_setFollow (s : State) (f : Follow) (hp : s.ssq.ptr ≠ none)
    (hw : SeqLoose s.ssq → s.ssq.watched ≠ none ∨ s.ssq.follow ≠ .stopped)
    (hf : SeqLoose s.ssq → match f with
      | .stopped => True
      | .running _ => s.ssq.st = .RUNNING
      | .frozen _ => s.ssq.st = .PAUSED
      | .due => s.ssq.st = .RUNNING ∨ s.ssq.st = .PAUSED) :
    s.Keeps (s.setSsq { s.ssq with follow := f }) := by
  refine .setSsq s _ (fun h => ?_) (fun _ hr => hr) rfl
  have hw' := hw h
  have hf' := hf h
  obtain ⟨hhead, hptr, hready, hpaused, hfrom, hrem, _, hpend, _, hskip⟩ := h
  refine ⟨hhead, hptr, fun hr => ?_, hpaused, hfrom, hrem, fun hn => absurd hn hp, hpend, hf', hskip⟩
  obtain ⟨_, hwn, _, hfs⟩ := hready hr
  exact absurd hwn (hw'.resolve_right (fun h => h hfs))

theorem followStart_some {s : State} {d p : Nat} (h : s.followStart = some (d, p)) :
    s.ssq.follow = .stopped ∧ s.ssq.ptr = some p ∧ s.ssq.watched ≠ none := by
  unfold State.followStart at h
  split at h
  · rename_i hf hp hw
    refine ⟨hf, ?_, by simp [hw]⟩
    split at h
    · split at h
      · simp at h
      · simp only [Option.some.injEq, Prod.mk.injEq] at h
        rw [hp, h.2]
    · simp at h
  · simp at h

theorem keeps_checks (n : Nat) (s : State) (hz : n = 0 → SeqLoose s.ssq → s.ssq.st = .RUNNING) :
    s.Keeps (State.checks n s) := by
  induction n generalizing s with
  | zero =>
    unfold State.checks
    split
    · rename_i d p hf
      obtain ⟨_, hptr, hw⟩ := followStart_some hf
      exact .after (quiet_endTest _).keeps (keeps_setFollow s _ (by simp [hptr]) (fun _ => .inl hw) (hz rfl))
    · exact (quiet_endTest s).keeps
  | succ n ih =>
    unfold State.checks
    split
    · exact (quiet_endTest s).keeps
    · rename_i d p hf
      obtain ⟨_, hptr, hw⟩ := followStart_some hf
      have hfollow := fun f => keeps_setFollow s f (by simp [hptr]) (fun _ => .inl hw)
      split
      · rename_i hst
        refine .ite (fun _ => .ite (fun _ => ?_) (fun _ => ?_)) (fun _ => ?_)
        · refine .after (ih _ fun _ _ => ?_) (keeps_fireCore s p false (by simp [hst]))
          obtain ⟨flag, placed, _, heq⟩ := fireCore_eq s p false
          obtain ⟨_, _, hsame, _⟩ := s.ssq.superseded_fields
          rw [heq, State.setSsq_ssq, Ssq.fired_st _ _ _ _ (by simp [hsame, hst])]
          simp [hsame, hst]
        · exact .after (quiet_endTest _).keeps (hfollow _ fun _ => .inl hst)
        · exact .after (quiet_endTest _).keeps (hfollow _ fun _ => hst)
      · rename_i hst
        exact .after (quiet_endTest _).keeps (hfollow _ fun _ => hst)
      all_goals exact (quiet_endTest s).keeps

theorem keeps_fire (s : State) (j : Nat) (chase : Bool) (hl : SeqLoose s.ssq → s.ssq.st ≠ .UNLOADED) :
    s.Keeps (s.fire j chase) :=
  .after (keeps_checks _ _ (by simp [followFuel])) (keeps_fireCore s j chase hl)

/-- R154: the entries of a pending fire are as many as it needs. -/
theorem SeqLoose.need {q : Ssq} (h : SeqLoose q) {p : PendFire} (hp : q.pend = some p) :
    (q.entries p.index p.chase).length = p.need := by
  obtain ⟨_, _, _, _, _, _, _, hpend, _⟩ := h
  exact ((hpend p hp).1).symm

theorem SeqLoose.withoutPend {q : Ssq} (h : SeqLoose q) : SeqLoose { q with pend := none } := by
  obtain ⟨hhead, hptr, hready, hpaused, hfrom, hrem, hend, _, hfollow, hskip⟩ := h
  refine ⟨hhead, hptr, fun hr => ?_, hpaused, hfrom, hrem, hend, by simp, hfollow, hskip⟩
  obtain ⟨hp, hw, _, hf⟩ := hready hr
  exact ⟨hp, hw, rfl, hf⟩

theorem keeps_offerPending (s : State) : s.Keeps s.offerPending := by
  unfold State.offerPending
  split
  · rename_i p hp
    refine .ite (fun ⟨_, hroom⟩ => ?_) (fun _ => .refl s)
    refine .after (.setSsq _ _ (fun h => h.withoutPend) (fun _ hr => hr) rfl)
      ⟨id, id, id, fun _ _ h => h, id, fun _ => id, fun hq hu => ?_, id, id⟩
    exact hu.enqueue (by rw [hq.need hp]; exact hroom) (joinable_entries _ _ _)
  · exact .refl s

theorem keeps_takeReport (s : State) : s.Keeps s.takeReport :=
  .after (keeps_checks _ _ (by simp [followFuel])) (keeps_offerPending s)

theorem keeps_followTest (s : State) : s.Keeps s.followTest :=
  .ite (fun _ => keeps_checks _ _ (by simp [followFuel])) (fun _ => .refl s)

/-! ## Departures (R17) -/

/-- A move, quiet where SSQ only tests the end of the show (`rep` false). -/
def State.Moves (rep : Bool) (s t : State) : Prop := if rep then s.Keeps t else s.Quiet t

theorem State.Quiet.moves {s t : State} (h : s.Quiet t) (rep : Bool) : State.Moves rep s t := by
  cases rep
  · exact h
  · exact h.keeps

theorem State.Moves.keeps {rep : Bool} {s t : State} (h : State.Moves rep s t) : s.Keeps t := by
  cases rep
  · exact State.Quiet.keeps h
  · exact h

theorem State.Moves.after {rep : Bool} {s t u : State} (k : State.Moves rep t u) (h : State.Moves rep s t) :
    State.Moves rep s u := by
  cases rep
  · exact State.Quiet.after k h
  · exact State.Keeps.after k h

theorem moves_report (s : State) (rep : Bool) (tag : Option Nat) (m : Manner) : State.Moves rep s (s.report rep tag m) := by
  have hlast := State.Quiet.setAq_same s { s.aq with lastReport := some { tag := tag, manner := m, room := s.room } } rfl rfl
  cases rep
  · exact .after (quiet_endTest _) hlast
  · exact .after (keeps_takeReport _) hlast.keeps

theorem moves_reportAll (s : State) (rep : Bool) (l : List (Option Nat × Manner)) :
    State.Moves rep s (s.reportAll rep l) := by
  induction l generalizing s with
  | nil => exact (State.Quiet.refl s).moves rep
  | cons d l ih => exact (ih _).after (moves_report s rep d.1 d.2)

theorem quiet_stoppedIfPending (s : State) : s.Quiet s.stoppedIfPending :=
  .ite (fun _ => .after (quiet_event ..) (.setAq_same s _ rfl rfl)) (fun _ => .refl s)

/-- R8, R14: a head that leaves leaves no HOLD timer behind. -/
theorem QueueInv.pop {s : State} {e : Entry} {d : Bool} (h : QueueInv s) (hm : s.headMove = .leave e d) :
    QueueInv (s.setAq { s.aq with queue := s.aq.queue.tail }) := by
  obtain ⟨hlen, htail, htag, hhold⟩ := h
  have hdue : s.aq.holdDue = none := by
    cases hq : s.aq.queue with
    | nil =>
      rw [hq] at hhold
      simpa using hhold
    | cons x l =>
      rw [hq] at hhold
      by_contra hne
      have hx : x.holds = true := by simpa using hhold (Option.isSome_iff_ne_none.mpr hne)
      unfold Entry.holds at hx
      simp only [State.headMove, hq] at hm
      cases ha : x.action <;> simp_all [State.runningMove, Option.isSome_iff_ne_none]
  refine ⟨by simp; omega, fun e he => htail e (List.mem_of_mem_tail he), fun e he => htag e (List.mem_of_mem_tail he), ?_⟩
  simp [hdue]

theorem moves_depart (s : State) (e : Entry) (dropped rep : Bool) (hm : s.headMove = .leave e dropped) :
    State.Moves rep s (s.depart e dropped rep) := by
  have hpop := State.Quiet.setAq s { s.aq with queue := s.aq.queue.tail } fun h => h.pop hm
  have hdropped : s.Quiet (if dropped then
      (s.setAq { s.aq with queue := s.aq.queue.tail }).event .ACTION_DROPPED e.tag
      else s.setAq { s.aq with queue := s.aq.queue.tail }) :=
    .after (.ite (fun _ => quiet_event ..) (fun _ => .refl _)) hpop
  have hreport := (moves_report _ rep e.tag (if dropped then .DROPPED else .COMPLETED)).after (hdropped.moves rep)
  exact ((quiet_resetEnd _).moves rep).after
    ((State.Quiet.moves (.ite (fun _ => quiet_stoppedIfPending _) (fun _ => .refl _)) rep).after hreport)

/-! ## Starts (R12 to R16) -/

theorem headMove_start {s : State} {e : Entry} (h : s.headMove = .start e) :
    ∃ l, s.aq.queue = e :: l ∧ e.running = false ∧ (e.action.mech = true → s.tmc.st = .IDLE) := by
  unfold State.headMove at h
  split at h
  · simp at h
  · rename_i x l hq
    split at h
    · exfalso
      unfold State.runningMove at h
      repeat' (split at h)
      all_goals simp at h
    · rename_i hr
      unfold State.queuedMove at h
      repeat' (split at h)
      all_goals simp_all

theorem QueueInv.start {s : State} {e : Entry} {l : List Entry} (h : QueueInv s) (hq : s.aq.queue = e :: l)
    (hr : e.running = false) : QueueInv (s.setAq { s.aq with queue := { e with running := true } :: s.aq.queue.tail }) := by
  obtain ⟨hlen, htail, htag, hhold⟩ := h
  rw [hq] at hlen htail htag hhold
  refine ⟨by simpa [hq] using hlen, by simpa [hq] using htail, ?_, fun hd => ?_⟩
  · intro x hx
    obtain rfl | hx : x = { e with running := true } ∨ x ∈ l := by simpa [hq] using hx
    · exact htag e (by simp)
    · exact htag x (by simp [hx])
  · have := hhold hd
    simp [Entry.holds, hr] at this

theorem quiet_startEffect (s : State) (e : Entry) (hm : e.action.mech = true → s.tmc.st = .IDLE)
    (hh : ∀ ms, e.action = .HOLD ms → s.aq.queue.head?.any Entry.holds = true) : s.Quiet (s.startEffect e) := by
  unfold State.startEffect
  cases ha : e.action with
  | FADE target time curve wait => exact quiet_startRamp ..
  | CHANGE_FWD => exact quiet_startChange s _ (hm (by simp [ha, Action.mech]))
  | CHANGE_REV => exact quiet_startChange s _ (hm (by simp [ha, Action.mech]))
  | SEEK p => exact quiet_startSeek s p (hm (by simp [ha, Action.mech]))
  | HOLD ms =>
    exact .ite (fun _ => .refl s) (fun _ => .setAq s _ fun ⟨hlen, htail, htag, _⟩ => ⟨hlen, htail, htag, fun _ => hh ms ha⟩)
  | LAMP_ON => exact quiet_ignite s
  | LAMP_OFF => exact quiet_lampOff s false
  | VOLUME v => exact quiet_setVolume s v
  | BLANK_ON => exact quiet_setManual s true
  | BLANK_OFF => exact quiet_setManual s false
  | MARK => exact quiet_event ..

theorem quiet_startHead (s : State) (e : Entry) (h : s.headMove = .start e) : s.Quiet (s.startHead e) := by
  obtain ⟨l, hq, hr, hm⟩ := headMove_start h
  refine .after (quiet_startEffect _ e hm fun ms ha => ?_) (.setAq s _ fun hu => hu.start hq hr)
  simp [Entry.holds, ha]

/-! ## The runner (R11) -/

theorem moves_settle (n : Nat) (rep : Bool) (s : State) : State.Moves rep s (State.settle n rep s) := by
  induction n generalizing s with
  | zero => exact (State.Quiet.refl s).moves rep
  | succ n ih =>
    unfold State.settle
    split
    · rename_i r _
      have hwait : s.Quiet (s.setAq { s.aq with runner := r }) := .setAq_same s _ rfl rfl
      exact hwait.moves rep
    · exact (ih _).after ((quiet_startHead s _ ‹_›).moves rep)
    · exact (ih _).after (moves_depart s _ _ rep ‹_›)

theorem keeps_runHead (s : State) : s.Keeps s.runHead := moves_settle runnerFuel true s

theorem quiet_runHeadQuiet (s : State) : s.Quiet s.runHeadQuiet := moves_settle runnerFuel false s

/-! ## Flushes (R18 to R22) -/

theorem quiet_endRunning (s : State) (e : Entry) : s.Quiet (s.endRunning e) := by
  unfold State.endRunning
  split
  · exact quiet_truncate s
  · exact .setLmc_same s _ ⟨rfl, rfl, rfl, rfl, rfl, rfl⟩
  · exact .setAq s _ fun ⟨hlen, htail, htag, _⟩ => ⟨hlen, htail, htag, by simp⟩
  · exact .refl s

/-- R18: a running HOLD that a flush covers ends, and its entry with it. -/
theorem QueueInv.filter {s : State} (keep : Entry → Bool) (h : QueueInv s)
    (hk : s.aq.holdDue.isSome = true → ∀ e ∈ s.aq.queue.head?, e.holds = true → keep e = true) :
    QueueInv (s.setAq { s.aq with queue := s.aq.queue.filter keep }) := by
  obtain ⟨hlen, htail, htag, hhold⟩ := h
  refine ⟨(List.length_filter_le _ _).trans hlen, ?_, fun e he => htag e (List.mem_of_mem_filter he), fun hd => ?_⟩
  · cases hq : s.aq.queue with
    | nil => simp
    | cons x l =>
      rw [hq] at htail
      intro e he
      simp only [State.setAq_aq, List.filter_cons] at he
      split at he
      · exact htail e (List.mem_of_mem_filter he)
      · exact htail e (List.mem_of_mem_filter (List.mem_of_mem_tail he))
  · have hh := hhold hd
    cases hq : s.aq.queue with
    | nil => simp [hq] at hh
    | cons x l =>
      rw [hq] at hh hk
      have hx : x.holds = true := by simpa using hh
      have := hk hd x (by simp) hx
      simp [this, hx]

theorem quiet_flushQueue (s : State) (cover : Entry → Bool) (jam : Bool) : s.Quiet (s.flushQueue cover jam) := by
  obtain ⟨u, hu⟩ : ∃ u, u = (match s.aq.queue with
    | e :: _ => if e.running && cover e && !(jam && e.action.mech) then s.endRunning e else s
    | [] => s) := ⟨_, rfl⟩
  have hsu : s.Quiet u := by
    rw [hu]
    split
    · exact .ite (fun _ => quiet_endRunning s _) (fun _ => .refl s)
    · exact .refl s
  have hq : u.aq.queue = s.aq.queue := by
    rw [hu]
    split
    · split <;> simp
    · rfl
  have heq : s.flushQueue cover jam = u.setAq { u.aq with queue := u.aq.queue.filter (staysThrough cover jam) } := by
    rw [hu]
    rfl
  rw [heq]
  refine .after (.setAq u _ fun h => h.filter _ fun hd e he hh => ?_) hsu
  rw [hq] at he
  obtain ⟨l, hl⟩ : ∃ l, s.aq.queue = e :: l := by
    cases hs : s.aq.queue <;> simp_all
  by_cases hc : cover e = true
  · exfalso
    rw [hu, hl] at hd
    unfold Entry.holds at hh
    cases ha : e.action <;> simp_all [Action.mech, State.endRunning]
  · simp [staysThrough, hc]

theorem moves_flushReported (s : State) (cover : Entry → Bool) (jam rep : Bool) :
    State.Moves rep s (s.flushReported cover jam rep) :=
  (moves_reportAll _ rep _).after ((quiet_flushQueue s cover jam).moves rep)

theorem moves_flush (s : State) (cover : Entry → Bool) (jam rep : Bool) : State.Moves rep s (s.flush cover jam rep) := by
  unfold State.flush
  split
  · exact (quiet_flushQueue s cover jam).moves rep
  · exact ((quiet_resetEnd _).moves rep).after (moves_flushReported s cover jam rep)

end Sys2Proof.Machine
end

section
/-!
The rules of the sequencer, STOP, STANDBY and WAKE, and the entries of the mechanism to IDLE, PARKED and JAMMED are moves
(spec/07, spec/01, spec/02).
-/

namespace Sys2Proof.Machine

/-! ## A pause (R160) -/

/-- R160: a FOLLOW timer as a pause leaves it. -/
def Follow.paused (f : Follow) (now : Nat) : Follow :=
  match f with
  | .running d => .frozen (d - now)
  | f => f

theorem SeqLoose.pause {q : Ssq} (now : Nat) (h : SeqLoose q) (hst : q.st = .READY ∨ q.st = .RUNNING) :
    SeqLoose { q with st := .PAUSED, pausedFrom := some q.st, follow := q.follow.paused now } := by
  obtain ⟨hhead, hptr, hready, _, _, _, hend, hpend, hfollow, hskip⟩ := h
  have hstop : q.follow = .stopped → q.follow.paused now = .stopped := fun hs => by rw [hs]; rfl
  refine ⟨fun _ => hhead (by obtain h | h := hst <;> simp [h]), by simp, fun hr => ?_, ?_, by simp, by simp,
    fun hn => hstop (hend hn), fun p hp => ⟨(hpend p hp).1, .inr rfl⟩, ?_, hskip⟩
  · obtain ⟨hp, hw, hn, hs⟩ := hready (.inl (by simpa using hr))
    exact ⟨hp, hw, hn, hstop hs⟩
  · obtain h | h := hst <;> simp [h]
  · cases hq : q.follow with
    | stopped => trivial
    | running due => rfl
    | frozen left => rfl
    | due => exact .inr rfl

theorem keeps_pauseSeq (s : State) : s.Keeps s.pauseSeq := by
  refine .ite (fun hst => ?_) (fun _ => .refl s)
  have hpause : s.Keeps (s.setSsq { s.ssq with
      st := .PAUSED, pausedFrom := some s.ssq.st, follow := s.ssq.follow.paused s.now }) :=
    .setSsq s _ (fun h => h.pause s.now hst) (fun _ _ _ => rfl) rfl
  exact .ite (fun _ => .after (quiet_seqPause _).keeps hpause) (fun _ => hpause)

/-! ## Cues, times and an ADVANCE (R149, R150, R152, R157 to R159) -/

theorem SeqLoose.skip {q : Ssq} (n : Nat) (h : SeqLoose q) : SeqLoose (q.skip n) := by
  obtain ⟨hhead, hptr, hready, hpaused, hfrom, hrem, hend, hpend, hfollow, _⟩ := h
  exact ⟨hhead, hptr, hready, hpaused, hfrom, hrem, hend, hpend, hfollow, Nat.min_le_right _ _⟩

theorem keeps_skip (s : State) (n : Nat) : s.Keeps (s.setSsq (s.ssq.skip n)) :=
  .setSsq s _ (fun h => h.skip n) (fun _ hr => hr) rfl

theorem quiet_flushTagged (s : State) : s.Quiet (s.flush coverTagged false false).runHeadQuiet :=
  .after (quiet_runHeadQuiet _) (moves_flush s coverTagged false false)

theorem keeps_chase (s : State) (j h : Nat) (hl : s.ssq.st ≠ .UNLOADED) : s.Keeps (s.chase j h) := by
  have hflush := quiet_flushTagged s
  have hst : (s.flush coverTagged false false).runHeadQuiet.ssq.st ≠ .UNLOADED := by rwa [ne_eq, hflush.ssq.loaded]
  unfold State.chase
  generalize (s.flush coverTagged false false).runHeadQuiet = u at hflush hst
  obtain ⟨v, hv⟩ : ∃ v, v = (if u.ssq.pend.isSome then u.setSsq (Ssq.skip { u.ssq with pend := none } 1) else u) := ⟨_, rfl⟩
  have huv : u.Keeps v := by
    rw [hv]
    exact .ite (fun _ => .setSsq u _ (fun h => h.withoutPend.skip 1) (fun _ hr => hr) rfl) (fun _ => .refl u)
  have hvst : v.ssq.st = u.ssq.st := by
    rw [hv]
    split <;> simp
  dsimp only
  rw [← hv]
  refine .after (quiet_event ..).keeps (.after (keeps_fire _ j true fun _ => ?_) (.after (keeps_skip v h) (.after huv hflush.keeps)))
  simpa [hvst] using hst

theorem keeps_chaseCue (s : State) (n start : Nat) (fromHead : Bool) (hl : s.ssq.st ≠ .UNLOADED) :
    s.Keeps (s.chaseCue n start fromHead) := by
  unfold State.chaseCue
  split
  · exact keeps_chase s _ _ hl
  · exact (State.Quiet.after (quiet_count _ _) (quiet_event ..)).keeps

theorem keeps_seqCue (s : State) (n : Nat) : s.Keeps (s.seqCue n) := by
  unfold State.seqCue
  split
  · exact .refl s
  · rename_i hst
    exact keeps_chaseCue s n _ true (by simp [hst])
  · rename_i hst
    exact .setSsq s _ (fun h => h) (fun _ _ _ => hst) rfl
  all_goals
    rename_i hst
    have hl : s.ssq.st ≠ .UNLOADED := by simp [hst]
    split
    · exact .ite (fun _ => keeps_chaseCue s n _ true hl) (fun _ => .refl s)
    · exact .ite (fun _ => keeps_fire s _ false fun _ => hl) (fun _ => keeps_chaseCue s n _ false hl)

theorem keeps_seqTime (s : State) (v : Nat) : s.Keeps (s.seqTime v) := by
  refine .ite (fun hst => ?_) (fun _ => .refl s)
  split
  · exact .refl s
  · split
    · exact .ite (fun _ => keeps_fire s _ false fun _ => by obtain h | h := hst <;> simp [h]) (fun _ => .refl s)
    · exact .refl s

theorem keeps_handCue (s : State) (n : Nat) : s.Keeps (s.handCue n) := .ite (fun _ => keeps_seqCue s n) (fun _ => .refl s)

theorem keeps_handTime (s : State) (v : Nat) : s.Keeps (s.handTime v) :=
  .ite (fun _ => keeps_seqTime s v) (fun _ => .refl s)

theorem keeps_advanceSeq (s : State) : s.Keeps s.advanceSeq := by
  unfold State.advanceSeq
  split
  · refine .ite (fun ht => keeps_fire s _ false fun _ => ?_) (fun _ => .refl s)
    intro hst
    simp [State.advanceTaken, hst] at ht
  · exact .refl s

/-! ## A RESUME (R162) -/

theorem keeps_judgeRemembered (s : State) : s.Keeps s.judgeRemembered := by
  unfold State.judgeRemembered
  split
  · exact .refl s
  · exact .after (.ite (fun _ => keeps_seqCue _ _) (fun _ => .refl _))
      (.setSsq s _ (fun h => h) (fun _ _ hs => absurd hs (by simp)) rfl)

/-- The cue is remembered no longer once it is judged, but where it is remembered anew. -/
theorem judgeRemembered_remembered (s : State) (h : SeqLoose s.ssq) : RememberedInv s.judgeRemembered.ssq := by
  unfold State.judgeRemembered
  split
  · rename_i hr
    exact fun hs => absurd hs (by simp [hr])
  · rename_i n _
    have hnone : RememberedInv (s.setSsq { s.ssq with remembered := none }).ssq := fun hs => absurd hs (by simp)
    dsimp only
    split
    · exact (keeps_seqCue _ n).remembered h hnone
    · exact hnone

/-- R162: a FOLLOW timer as a RESUME sets it running. -/
def Follow.resumed (f : Follow) (now : Nat) : Follow :=
  match f with
  | .frozen left => .running (now + left)
  | f => f

theorem SeqLoose.resume {q : Ssq} (now : Nat) (h : SeqLoose q) (hst : q.st = .PAUSED) :
    SeqLoose { q with st := q.pausedFrom.getD .READY, pausedFrom := none, follow := q.follow.resumed now } := by
  obtain ⟨hhead, _, hready, hpaused, _, _, hend, hpend, hfollow, hskip⟩ := h
  have hstop : q.follow = .stopped → q.follow.resumed now = .stopped := fun hs => by rw [hs]; rfl
  have hvalid : (q.step q.head).valid = true := hhead (by simp [hst])
  obtain hfrom | hfrom : q.pausedFrom = some .READY ∨ q.pausedFrom = some .RUNNING := hpaused.mp hst
  · obtain ⟨hp, hw, hn, hs⟩ := hready (.inr hfrom)
    refine ⟨fun _ => hvalid, by simp [hfrom], fun _ => ⟨hp, hw, hn, hstop hs⟩, by simp [hfrom], by simp, by simp,
      fun hn => hstop (hend hn), ?_, ?_, hskip⟩
    · intro p hpe
      exact absurd hpe (by simpa using fun h => by simp_all)
    · simp [hstop hs]
  · refine ⟨fun _ => hvalid, by simp [hfrom], by simp [hfrom], by simp [hfrom], by simp, by simp,
      fun hn => hstop (hend hn), fun p hp => ⟨(hpend p hp).1, by simp [hfrom]⟩, ?_, hskip⟩
    cases hq : q.follow with
    | stopped => trivial
    | running due => exact absurd hst (by simp_all)
    | frozen left => simp [Follow.resumed, hfrom]
    | due => simp [Follow.resumed, hfrom]

theorem keeps_resumeSeq (s : State) : s.Keeps s.resumeSeq := by
  refine .ite (fun hst => ?_) (fun _ => .refl s)
  obtain ⟨q, hq⟩ : ∃ q : Ssq, q = { s.ssq with
    st := s.ssq.pausedFrom.getD .READY, pausedFrom := none, follow := s.ssq.follow.resumed s.now } := ⟨_, rfl⟩
  have hloose : SeqLoose s.ssq → SeqLoose q := fun h => hq ▸ h.resume s.now hst
  have hshape : ShapeInv s → ShapeInv (s.setSsq q) := fun h => by simpa [ShapeInv, Settings.ok, State.capture, hq] using h
  have hruns : (s.setSsq q).Keeps (s.setSsq q).seqResume.offerPending.followTest.runHead :=
    .after (keeps_runHead _) (.after (keeps_followTest _) (.after (keeps_offerPending _) (quiet_seqResume _).keeps))
  have hall : (s.setSsq q).Keeps (s.setSsq q).seqResume.offerPending.followTest.runHead.judgeRemembered.takeReport :=
    .after (keeps_takeReport _) (.after (keeps_judgeRemembered _) hruns)
  have heq : s.Keeps (s.setSsq q).seqResume.offerPending.followTest.runHead.judgeRemembered.takeReport := {
    notice := hall.notice
    lamp := hall.lamp
    mech := hall.mech
    tray := fun hm hs ht => hall.tray hm (hshape hs) ht
    seq := fun h => hall.seq (hloose h)
    remembered := fun h _ => by
      have hs := hruns.seq (hloose h)
      exact (keeps_takeReport _).remembered ((keeps_judgeRemembered _).seq hs) (judgeRemembered_remembered _ hs)
    queue := fun h => hall.queue (hloose h)
    cue := hall.cue
    shape := fun h => hall.shape (hshape h) }
  rw [hq] at heq
  exact heq

/-! ## A restart and an ARM (R147, R163) -/

theorem keeps_restartSeq (s : State) : s.Keeps s.restartSeq := by
  refine .ite (fun _ => .refl s) (fun hl => .after (quiet_flushTagged _).keeps ?_)
  refine .setSsq s _ (fun h => ?_) (fun _ _ hs => absurd hs (by simp)) rfl
  obtain ⟨hhead, _, _, _, _, _, _, _, _, hskip⟩ := h
  exact ⟨fun _ => hhead hl, by simp, by simp, by simp, by simp, by simp, by simp, by simp, trivial, hskip⟩

/-- R147: the sequencer, its head at `head`, armed. -/
def Ssq.armed (q : Ssq) (head : Nat) : Ssq :=
  { q with
    pend := none, remembered := none, watched := none, pausedFrom := none, follow := .stopped
    ptr := if (q.step head).valid then some head else none, st := if (q.step head).valid then .READY else .UNLOADED }

theorem Ssq.armed_loose (q : Ssq) (head : Nat) (hh : q.head = head) (h : q.skipped ≤ 65535) : SeqLoose (q.armed head) := by
  subst hh
  by_cases hv : (q.step q.head).valid = true
  · simp only [SeqLoose, SeqInv, Ssq.armed, hv]
    simpa [Ssq.step] using ⟨hv, h⟩
  · simp only [SeqLoose, SeqInv, Ssq.armed, hv]
    simpa using h

theorem Ssq.armed_remembered (q : Ssq) (head : Nat) : RememberedInv (q.armed head) := fun hs =>
  absurd hs (by simp [Ssq.armed])

/-- The sequencer with another head, as an ARM begins. -/
def Ssq.withHead (q : Ssq) (head : Nat) : Ssq := { q with head := head }

theorem armSeq_eq (s : State) (head : Nat) : ∃ u, (s.setSsq (s.ssq.withHead head)).Quiet u ∧
    s.armSeq head = u.setSsq (u.ssq.armed head) :=
  ⟨if s.ssq.st = .RUNNING ∨ s.ssq.st = .PAUSED then
      ((s.setSsq (s.ssq.withHead head)).flush coverTagged false false).runHeadQuiet
    else s.setSsq (s.ssq.withHead head), .ite (fun _ => quiet_flushTagged _) (fun _ => .refl _), rfl⟩

/-- R147: an ARM of any step memory of the same length; nothing of the sequencer before it counts but the skipped steps. -/
theorem keeps_armSeqOf (s : State) (q : Ssq) (head : Nat) (hskip : q.skipped = s.ssq.skipped)
    (hlen : q.steps.length = s.ssq.steps.length) : s.Keeps ((s.setSsq q).armSeq head) := by
  obtain ⟨u, hu, heq⟩ := armSeq_eq (s.setSsq q) head
  have hshape : ShapeInv s → ShapeInv ((s.setSsq q).setSsq (q.withHead head)) := fun h => by
    simpa [ShapeInv, Settings.ok, State.capture, Ssq.withHead, hlen] using h
  have hhead : u.ssq.head = head := by
    obtain hs | ⟨_, _, _, hs⟩ := hu.ssq <;> rw [hs] <;> rfl
  have hskip : SeqLoose s.ssq → u.ssq.skipped ≤ 65535 := fun h => by
    obtain ⟨_, _, _, _, _, _, _, _, _, hle⟩ := h
    have hs : u.ssq.skipped = q.skipped := by
      obtain hs | ⟨_, _, _, hs⟩ := hu.ssq <;> rw [hs] <;> rfl
    rw [hs, hskip]
    exact hle
  rw [heq]
  exact {
    notice := hu.notice
    lamp := hu.lamp
    mech := hu.mech
    tray := fun hm hs ht => hu.tray hm (hshape hs) ht
    seq := fun h => u.ssq.armed_loose head hhead (hskip h)
    remembered := fun _ _ => u.ssq.armed_remembered head
    queue := fun _ => hu.queue
    cue := hu.cue
    shape := fun h => hu.shape (hshape h) }

theorem keeps_armSeq (s : State) (head : Nat) : s.Keeps (s.armSeq head) := keeps_armSeqOf s s.ssq head rfl rfl

/-! ## STOP (R19), STANDBY (R94), WAKE (R95) -/

theorem keeps_stopAll (s : State) : s.Keeps s.stopAll := by
  have hrest : s.Keeps (((s.flush coverAll false true).truncate.tape .STOP).pauseSeq) :=
    .after (keeps_pauseSeq _) (.after (quiet_tape _ _).keeps (.after (quiet_truncate _).keeps
      (moves_flush s coverAll false true)))
  unfold State.stopAll
  generalize ((s.flush coverAll false true).truncate.tape .STOP).pauseSeq = u at hrest
  have hpending := fun b => State.Quiet.setAq_same u { u.aq with stopPending := b } rfl rfl
  exact .ite (fun _ => .after (hpending true).keeps hrest)
    (fun _ => .after (quiet_event ..).keeps (.after (hpending false).keeps hrest))

theorem keeps_standby (s : State) : s.Keeps s.standby := by
  refine .ite (fun _ => .refl s) (fun _ => ?_)
  have hoff : s.Quiet ((s.setThc { s.thc with power := .STANDBY }).lampOff false) :=
    State.Calm.lampOff (.setThc s _) false fun hi hp => by
      obtain ⟨_, _, hdrive⟩ := hi
      exact hdrive (.inl hp)
  exact .after (keeps_pauseSeq _) (.after (quiet_tape _ _).keeps hoff.keeps)

theorem quiet_wake (s : State) : s.Quiet s.wake := by
  refine .ite (fun _ => .refl s) (fun _ => ?_)
  have hactive : s.Quiet (s.setThc { s.thc with power := .ACTIVE }) := .setThc s _ fun ⟨hon, hloss, hdrive⟩ =>
    ⟨fun hp => ⟨(hon hp).1, (hon hp).2.1, rfl⟩, hloss, hdrive⟩
  refine .ite (fun hidle => .after (quiet_startHoming _ ?_ ?_) hactive) (fun _ => hactive)
  · rw [hidle]; rfl
  · rw [hidle]; simp

/-! ## Entries of the mechanism to IDLE, PARKED and JAMMED -/

theorem quiet_powerOnLamp (s : State) : s.Quiet s.powerOnLamp :=
  .ite (fun _ => .after (quiet_ignite _) (.setLmc_same s _ ⟨rfl, rfl, rfl, rfl, rfl, rfl⟩)) (fun _ => .refl s)

theorem keeps_enterIdle (s : State) (hk : s.tmc.timer.map Prod.fst = some .settle) : s.Keeps s.enterIdle := by
  rw [enterIdle_eq]
  exact .after (quiet_powerOnLamp _).keeps (.after (quiet_resetEnd _).keeps (.after (keeps_runHead _) (quiet_atIdle s hk).keeps))

theorem keeps_enterParked (s : State) : s.Keeps s.enterParked := by
  rw [enterParked_eq]
  exact .after (quiet_resetEnd _).keeps (.after (keeps_runHead _) (.after (quiet_event ..).keeps (quiet_removed s).keeps))

theorem quiet_noteWaiting (s : State) : s.Quiet s.noteWaiting := by
  unfold State.noteWaiting
  split
  · exact .refl s
  · exact .ite (fun _ => quiet_event ..) (fun _ => .refl s)

theorem keeps_enterJammed (s : State) (cause : JamCause) (hp : s.tmc.phase.isSome = true ∨ s.tmc.timer.isSome = true) :
    s.Keeps (s.enterJammed cause) :=
  .after (keeps_pauseSeq _) (.after (quiet_stoppedIfPending _).keeps (.after (moves_flush _ coverAll true true)
    (.after (quiet_noteWaiting _).keeps (quiet_jamMech s cause hp).keeps)))

end Sys2Proof.Machine
end

section
/-!
The commands of the cooling block and of the tape transport are moves (spec/04, spec/05).
-/

namespace Sys2Proof.Machine

/-! ## Temperature samples (R82 to R91) -/

theorem quiet_sampleTemp (s : State) (v : Nat) : s.Quiet (s.sampleTemp v) := by
  refine .ite (fun _ => .after (quiet_condNotice ..) (.setThc s _ fun ⟨hon, _, hdrive⟩ => ⟨hon, by simp, hdrive⟩)) (fun _ => ?_)
  exact .setThc_same s _ ⟨rfl, rfl, rfl, rfl, rfl⟩

theorem quiet_sampleState (s : State) (v : Nat) : s.Quiet (s.sampleState v) := by
  have hset := State.Quiet.setThc_same s { s.thc with
    tstate := thermalOf s.thc.par v, warm := decide (s.thc.par.tWarn < v) } ⟨rfl, rfl, rfl, rfl, rfl⟩
  exact .ite (fun _ => hset) (fun _ => .after (quiet_condNotice ..) hset)

theorem quiet_tripLatch (s : State) : s.Quiet s.tripLatch := by
  refine .ite (fun hoff => ?_) (fun hon => ?_)
  · have hp : s.lmc.power = .OFF := by simpa using hoff
    exact .after (quiet_cooldownOn _ _) (.after (quiet_condNotice ..)
      (.setThc s _ fun ⟨_, _, hdrive⟩ => LampInv.of_off _ hp (hdrive (.inl hp))))
  · exact State.Calm.lampOff (.after (quiet_condNotice ..).toCalm (.setThc s _)) true fun _ hp => absurd hp hon

theorem quiet_sampleTrip (s : State) (v : Nat) : s.Quiet (s.sampleTrip v) := by
  refine .ite (fun _ => .ite (fun _ => ?_) (fun _ => .refl s)) (fun _ => .ite (fun _ => quiet_tripLatch s) (fun _ => .refl s))
  exact .after (quiet_condNotice ..) (.setThc s _ fun ⟨hon, hloss, hdrive⟩ => ⟨fun hp => ⟨rfl, (hon hp).2⟩, hloss, hdrive⟩)

theorem quiet_sampleCeiling (s : State) (v : Nat) : s.Quiet (s.sampleCeiling v) :=
  .setThc_same s _ ⟨rfl, rfl, rfl, rfl, rfl⟩

theorem quiet_sampleFirst (s : State) (first : Bool) (v : Nat) : s.Quiet (s.sampleFirst first v) :=
  .ite (fun _ => .after (quiet_recomputeFan _) (quiet_cooldownOn s false)) (fun _ => .refl s)

theorem quiet_temperatureSample (good : Bool) (reading : Int) (s : State) : s.Quiet (temperatureSample good reading s) :=
  .ite (fun _ => .after (quiet_sampleFirst _ _ _) (.after (quiet_cooldownTest _) (.after (quiet_recomputeFan _)
    (.after (quiet_sampleCeiling _ _) (.after (quiet_sampleTrip _ _) (.after (quiet_sampleState _ _) (quiet_sampleTemp s _)))))))
    (fun _ => .refl s)

/-! ## The sensor's silence, the cooldown and the fan (R83, R86, R87, R93) -/

theorem quiet_sensorLossTimerExpiry (s : State) : s.Quiet (sensorLossTimerExpiry s) :=
  quiet_whenDue s _ _ fun _ _ => .after (quiet_recomputeFan _) (.after (quiet_condNotice ..)
    (.setThc _ _ fun ⟨hon, _, hdrive⟩ => ⟨hon, by simp, hdrive⟩))

theorem quiet_longLost (s : State) : s.Quiet s.longLost := by
  have hlost : s.Calm (s.setThc { s.thc with loss30 := true }) := .setThc s _
  unfold State.longLost
  cases hp : s.lmc.power with
  | IGNITING | LIT =>
    simp only [State.setThc_lmc, hp]
    exact State.Calm.lampOff hlost false fun _ h => absurd h (by simp [hp])
  | OFF | SWAPPING =>
    simp only [State.setThc_lmc, hp]
    exact .setThc s _ fun ⟨hon, _, hdrive⟩ => ⟨hon, fun _ _ => by simp [hp], hdrive⟩

theorem quiet_lossTime30s (s : State) : s.Quiet (lossTime30s s) :=
  .ite (fun _ => quiet_whenDue s _ _ fun _ _ => quiet_longLost _) (fun _ => .refl s)

theorem quiet_tCoolExpiry (s : State) : s.Quiet (tCoolExpiry s) :=
  quiet_whenDue s _ _ fun _ _ => quiet_cooldownTest _

theorem quiet_fanKickExpiry (s : State) : s.Quiet (fanKickExpiry s) :=
  quiet_whenDue s _ _ fun _ _ => .setThc_same _ _ ⟨rfl, rfl, rfl, rfl, rfl⟩

theorem quiet_fanTachPulse (s : State) : s.Quiet (fanTachPulse s) := .setThc_same s _ ⟨rfl, rfl, rfl, rfl, rfl⟩

theorem quiet_fanFaultOn (s : State) : s.Quiet s.fanFaultOn := by
  have hcalm : s.Calm ((s.setThc { s.thc with fanFault := true, stall := 0 }).condNotice .FAN_FAULT true none) :=
    .after (quiet_condNotice ..).toCalm (.setThc s _)
  exact .after (quiet_recomputeFan _) (hcalm.lampOff false fun ⟨_, _, hdrive⟩ hp => by simpa using hdrive (.inl (by simpa using hp)))

theorem quiet_fanFaultOff (s : State) : s.Quiet s.fanFaultOff :=
  .after (quiet_recomputeFan _) (.after (quiet_condNotice ..)
    (.setThc s _ fun ⟨hon, hloss, hdrive⟩ => ⟨fun hp => ⟨(hon hp).1, rfl, (hon hp).2.2⟩, hloss, hdrive⟩))

theorem quiet_judgeTach (s : State) : s.Quiet s.judgeTach := by
  have hstall := fun n => State.Quiet.setThc_same s { s.thc with stall := n } ⟨rfl, rfl, rfl, rfl, rfl⟩
  refine .ite (fun _ => .ite (fun _ => ?_) (fun _ => ?_)) (fun _ => .ite (fun _ => .refl s) (fun _ => hstall _))
  · exact .ite (fun _ => .refl s) (fun _ => .ite (fun _ => quiet_fanFaultOn s) (fun _ => hstall _))
  · exact .ite (fun _ => quiet_fanFaultOff s) (fun _ => hstall _)

theorem quiet_tachWindowEnd (s : State) : s.Quiet (tachWindowEnd s) :=
  quiet_whenDue s _ _ fun _ _ => .after (.setThc_same _ _ ⟨rfl, rfl, rfl, rfl, rfl⟩) (quiet_judgeTach _)

/-! ## The cassette and the capstan (R100 to R107) -/

theorem quiet_takeCassette (s : State) : s.Quiet s.takeCassette :=
  .ite (fun _ => .ite (fun _ => .after (.setTtc_same _ _ rfl rfl) (quiet_setTransport s _)) (fun _ => .refl s))
    (fun _ => .after (.setTtc_same _ _ rfl rfl) (quiet_setTransport s _))

theorem quiet_cassettePresentChange (present : Bool) (s : State) : s.Quiet (cassettePresentChange present s) := by
  refine .ite (fun _ => quiet_whenDue s _ _ fun d _ => ?_) (fun _ => .setTtc_same s _ rfl rfl)
  exact .after (quiet_takeCassette _) (.setTtc_same (s.reach d) _ rfl rfl)

theorem quiet_fgPulse (s : State) : s.Quiet (fgPulse s) :=
  .ite (fun _ => .setTtc_same s _ (by simp) (by simp)) (fun _ => .refl s)

theorem quiet_fgTimerExpiry (s : State) : s.Quiet (fgTimerExpiry s) :=
  quiet_whenDue s _ _ fun _ _ => .after (quiet_setTransport _ _) (quiet_event ..)

/-! ## The ends of the tape (R108 to R110) -/

theorem quiet_tapeEnd (s : State) : s.Quiet s.tapeEnd := by
  have hend : s.Quiet (((s.setTransport .STOPPED).setTtc { (s.setTransport .STOPPED).ttc with atEnd := true }).event
      .TAPE_END none) :=
    .after (quiet_event ..) (.after (.setTtc_same _ _ rfl rfl) (quiet_setTransport s _))
  exact .ite (fun _ => .after (quiet_setTransport _ _) hend) (fun _ => hend)

theorem quiet_takeUpReelTimerExpiry (s : State) : s.Quiet (takeUpReelTimerExpiry s) :=
  .ite (fun _ => quiet_whenDue s _ _ fun _ _ => quiet_tapeEnd _) (fun _ => .refl s)

theorem keeps_tapeRewound (s : State) : s.Keeps s.tapeRewound :=
  .ite (fun _ => .after (keeps_restartSeq _) (State.Quiet.after (quiet_setTransport _ _) (quiet_event ..)).keeps)
    (fun _ => (State.Quiet.after (quiet_setTransport _ _) (quiet_event ..)).keeps)

theorem keeps_supplyReelTimerExpiry (s : State) : s.Keeps (supplyReelTimerExpiry s) :=
  .ite (fun _ => keeps_whenDue s _ _ fun _ _ => keeps_tapeRewound _) (fun _ => .refl s)

theorem quiet_reelPulse (reel : Reel) (s : State) : s.Quiet (reelPulse reel s) :=
  .ite (fun _ => .setTtc_same s _ rfl rfl) (fun _ => .refl s)

theorem quiet_stopFrame (s : State) : s.Quiet s.stopFrame := .ite (fun _ => quiet_tapeEnd s) (fun _ => .refl s)

/-! ## Sound (R112 to R114) -/

theorem quiet_unlockTimer300ms (s : State) : s.Quiet (unlockTimer300ms s) :=
  .ite (fun _ => .refl s) (fun _ => quiet_whenDue s _ _ fun _ _ => .setTtc_same _ _ rfl rfl)

theorem stepToward_le {v target n : Nat} (hv : v ≤ n) (ht : target ≤ n) : stepToward v target ≤ n := by
  unfold stepToward
  split
  · omega
  · split <;> omega

theorem effectiveTarget_le (s : State) : effectiveTarget s ≤ s.ttc.par.volTarget := by
  unfold effectiveTarget
  split
  · exact Nat.zero_le _
  · exact Nat.le_refl _

theorem quiet_volumeStep (s : State) : s.Quiet (volumeStep s) := by
  refine .setTtc s _ fun ⟨hcap, hrec, hsave, hcopies, hpanel, hlive, hsnap, hvol, hlen⟩ =>
    ⟨hcap, hrec, hsave, hcopies, hpanel, hlive, hsnap, ?_, hlen⟩
  obtain ⟨_, _, _, _, _, _, _, htarget⟩ := hcap
  exact stepToward_le hvol ((effectiveTarget_le s).trans htarget)

theorem quiet_i2sFrame (left right : Sample) (s : State) : s.Quiet (i2sFrame left right s) := .setTtc_same s _ rfl rfl

end Sys2Proof.Machine
end

section
/-!
The commands of the cue decoder and of the regenerator are moves (spec/06).
-/

namespace Sys2Proof.Machine

/-! ## A change of CUD in two steps

The framing and cue-out change in one rule, but not in one step of the model: what lies between is a move that no other
invariant notices, and the track's own invariant is shown of the end. -/

theorem State.Quiet.throughCud {s u : State} (x y : Cud) (h : (s.setCud x).Quiet u)
    (hc : CueInv s → CueInv (u.setCud y)) : s.Quiet (u.setCud y) :=
  ⟨⟨h.notice, h.mech, h.tray, h.ssq, h.queue, hc, h.shape⟩, h.lamp⟩

theorem State.Keeps.throughCud {s u t : State} (x y : Cud) (h : (s.setCud x).Quiet u) (k : (u.setCud y).Keeps t)
    (hc : CueInv s → CueInv t) : s.Keeps t where
  notice hi := k.notice (h.notice hi)
  lamp hi := k.lamp (h.lamp hi)
  mech hi := k.mech (h.mech hi)
  tray hm hs ht := k.tray (h.mech hm) (h.shape hs) (h.tray hm hs ht)
  seq hi := k.seq (h.keeps.seq hi)
  remembered hq hr := k.remembered (h.keeps.seq hq) (h.keeps.remembered hq hr)
  queue hq hu := k.queue (h.keeps.seq hq) (h.queue hu)
  cue := hc
  shape hi := k.shape (h.shape hi)

theorem Cud.sameTrack.trans {c x y : Cud} (h : c.sameTrack x) (k : x.sameTrack y) : c.sameTrack y := by
  obtain ⟨h1, h2, h3, h4, h5, h6, h7⟩ := h
  obtain ⟨k1, k2, k3, k4, k5, k6, k7⟩ := k
  exact ⟨k1.trans h1, k2.trans h2, k3.trans h3, k4.trans h4, k5.trans h5, k6.trans h6, k7.trans h7⟩

theorem Cud.sameTrack.of_eq {c x : Cud} (h : x = c) : c.sameTrack x := h ▸ ⟨rfl, rfl, rfl, rfl, rfl, rfl, rfl⟩

/-! ## Speed (R122, R123) -/

theorem quiet_clearSpeedOff (s : State) : s.Quiet s.clearSpeedOff :=
  .ite (fun _ => .after (quiet_condNotice ..) (.setCud_same s _ ⟨rfl, rfl, rfl, rfl, rfl, rfl, rfl⟩)) (fun _ => .refl s)

theorem quiet_evalSpeed (s : State) : s.Quiet s.evalSpeed :=
  .after (.setCud_same _ _ ⟨rfl, rfl, rfl, rfl, rfl, rfl, rfl⟩) (.ite (fun _ => .refl s) (fun _ => quiet_clearSpeedOff s))

theorem quiet_moveCell (s : State) (len : Nat) : s.Quiet (s.moveCell len) :=
  .after (quiet_evalSpeed _) (.setCud_same s _ ⟨rfl, rfl, rfl, rfl, rfl, rfl, rfl⟩)

/-! ## Cue-out (R136 to R138) -/

/-- R138: cue-out starts; what it needs is that the buffer is in bounds and that the framing agrees with CUE_SYNC. -/
theorem CueInv.startCueOut {s : State} (hbits : s.cud.bits.length ≤ 32) (hbuf : s.cud.buf.length ≤ 4)
    (hsync : s.cud.cueSync = decide (s.cud.framing = .SYNC)) (hcarrier : s.cud.carrier = false → s.cud.framing = .HUNT)
    (hsend : s.cud.sending = true → s.cud.par.relay = true ∧ s.cud.framing = .SYNC)
    (hidle : s.cud.sending = false → (s.cud.par.relay = true ∧ s.cud.framing = .SYNC) ∨ s.cud.buf = []) :
    CueInv s.startCueOut := by
  unfold State.startCueOut
  split
  · rename_i hstart
    obtain ⟨hrelay, hframing, _⟩ := hstart
    refine ⟨hbits, ?_, hsync, hcarrier, ?_, by simp [Cud.slot]⟩
    · simp [Cud.slot]
      omega
    · simp [Cud.slot, hrelay, hframing]
  · rename_i hstart
    have hout : s.cud.sending = (s.cud.par.relay && decide (s.cud.framing = .SYNC)) := by
      cases hs : s.cud.sending with
      | false => exact (by simpa using fun h hf => hstart ⟨h, hf, hs⟩)
      | true => simp [hsend hs]
    refine ⟨hbits, hbuf, hsync, hcarrier, hout, fun hs => (hidle hs).resolve_left fun h => hstart ⟨h.1, h.2, hs⟩⟩

theorem startCueOut_eq (s : State) : ∃ x, s.startCueOut = s.setCud x := by
  unfold State.startCueOut
  split
  · exact ⟨_, rfl⟩
  · exact ⟨s.cud, rfl⟩

theorem quiet_startCueOut (s : State) : s.Quiet s.startCueOut := by
  have hcue : CueInv s → CueInv s.startCueOut := fun ⟨hbits, hbuf, hsync, hcarrier, hsend, hidle⟩ =>
    .startCueOut hbits hbuf hsync hcarrier (fun h => by simpa [h] using hsend.symm) (fun h => .inr (hidle h))
  obtain ⟨x, hx⟩ := startCueOut_eq s
  rw [hx] at hcue ⊢
  exact .setCud s x hcue

theorem quiet_offerFrame (s : State) (kind : FrameKind) (payload : Nat) : s.Quiet (s.offerFrame kind payload) := by
  refine .ite (fun ⟨hrelay, hframing⟩ => .ite (fun hroom => .setCud s _ ?_) (fun _ => quiet_count ..)) (fun _ => .refl s)
  rintro ⟨hbits, _, hsync, hcarrier, hsend, _⟩
  refine ⟨hbits, by simpa [bufPlaces] using hroom, hsync, hcarrier, hsend, ?_⟩
  simp [hsend, hrelay, hframing]

/-! ## Leaving SYNC (R118, R128) -/

theorem CueInv.leaveSync {s : State} (h : CueInv s) : CueInv s.leaveSync := by
  obtain ⟨hbits, _⟩ := h
  simp only [CueInv, leaveSync_cud]
  exact ⟨hbits, by simp⟩

theorem quiet_leaveSync (s : State) : s.Quiet s.leaveSync :=
  .throughCud _ _ (.after (quiet_count ..) (.after (quiet_event ..) (quiet_condNotice ..))) fun h => h.leaveSync

theorem quiet_loseCarrier (s : State) : s.Quiet s.loseCarrier := by
  refine .after (quiet_evalSpeed _) (.after (.setCud _ _ ?_) (.ite (fun _ => quiet_leaveSync s) (fun _ => .refl s)))
  split
  · rintro ⟨_, hbuf, _⟩
    simp [CueInv, leaveSync_cud]
  · rename_i hframing
    rintro ⟨_, hbuf, hsync, _, hsend, hidle⟩
    simp_all [CueInv]

/-! ## Valid frames in SYNC (R129 to R135) -/

theorem quiet_checkCount (s : State) (count : Nat) : s.Quiet (s.checkCount count) := by
  refine .after (.setCud_same _ _ ⟨rfl, rfl, rfl, rfl, rfl, rfl, rfl⟩) ?_
  split
  · exact .ite (fun _ => .refl s) (fun _ => .after (quiet_count ..) (quiet_event ..))
  · exact .refl s

theorem quiet_judgeDegrade (s : State) (errors : Nat) : s.Quiet (s.judgeDegrade errors) := by
  have hset := State.Quiet.setCud_same s { s.cud with
    window := none, degraded := decide (s.cud.par.degThr ≤ errors) } ⟨rfl, rfl, rfl, rfl, rfl, rfl, rfl⟩
  exact .ite (fun _ => hset) (fun _ => .after (quiet_condNotice ..) hset)

theorem quiet_advanceWindow (s : State) (err : Bool) : s.Quiet (s.advanceWindow err) := by
  unfold State.advanceWindow
  split
  · exact .refl s
  · exact .ite (fun _ => quiet_judgeDegrade s _) (fun _ => .setCud_same s _ ⟨rfl, rfl, rfl, rfl, rfl, rfl, rfl⟩)

theorem quiet_windowValid (s : State) (count : Nat) : s.Quiet (s.windowValid count) :=
  .ite (fun _ => .setCud_same s _ ⟨rfl, rfl, rfl, rfl, rfl, rfl, rfl⟩) (fun _ => quiet_advanceWindow s false)

theorem keeps_cueFrameOf (s : State) (n : Nat) : s.Keeps (s.cueFrameOf n) := by
  have hcand := State.Quiet.setCud_same s { s.cud with cand := some (moveCandidate s.cud.cand n) }
    ⟨rfl, rfl, rfl, rfl, rfl, rfl, rfl⟩
  have hlock : s.Quiet ((s.setCud { s.cud with cand := some (moveCandidate s.cud.cand n) }).setCud
      { s.cud with cand := some (moveCandidate s.cud.cand n), lastCue := some n, lock := true }) :=
    .setCud_same s _ ⟨rfl, rfl, rfl, rfl, rfl, rfl, rfl⟩
  exact .ite (fun _ => .after (keeps_handCue _ n) (State.Quiet.after (quiet_count ..) hlock).keeps) (fun _ => hcand.keeps)

theorem quiet_dropCandidate (s : State) : s.Quiet s.dropCandidate := .setCud_same s _ ⟨rfl, rfl, rfl, rfl, rfl, rfl, rfl⟩

theorem keeps_frameKind (s : State) (kind : FrameKind) (payload : Nat) : s.Keeps (s.frameKind kind payload) := by
  cases kind with
  | CUE => exact keeps_cueFrameOf s payload
  | TIME =>
    have htime : s.Quiet (s.dropCandidate.setCud { s.dropCandidate.cud with tapeTime := some payload }) :=
      .setCud_same s _ ⟨rfl, rfl, rfl, rfl, rfl, rfl, rfl⟩
    exact .after (keeps_handTime _ payload) htime.keeps
  | STOP => exact (State.Quiet.after (quiet_stopFrame _) (quiet_dropCandidate s)).keeps
  | IDLE => exact (quiet_dropCandidate s).keeps

/-- The counts of a valid frame, before its kind is looked at. -/
def State.frameCounted (s : State) (count : Nat) : State :=
  let s1 := (s.count .cueValid).checkCount count
  State.windowValid (s1.setCud { s1.cud with errs := 0 }) count

theorem quiet_frameCounted (s : State) (count : Nat) : s.Quiet (s.frameCounted count) :=
  .after (quiet_windowValid _ _) (.after (.setCud_same _ _ ⟨rfl, rfl, rfl, rfl, rfl, rfl, rfl⟩)
    (.after (quiet_checkCount _ _) (quiet_count ..)))

theorem keeps_validFrame (s : State) (count : Nat) (kind : FrameKind) (payload : Nat) :
    s.Keeps (s.validFrame count kind payload) :=
  .after (quiet_offerFrame _ _ _).keeps (.after (keeps_frameKind _ _ _) (quiet_frameCounted s count).keeps)

theorem quiet_badFrame (s : State) (check : Bool) : s.Quiet (s.badFrame check) := by
  have hcount : s.Quiet (if check then s.count .cueCheck else s) := .ite (fun _ => quiet_count ..) (fun _ => .refl s)
  exact .after (.ite (fun _ => quiet_leaveSync _) (fun _ => quiet_advanceWindow _ _))
    (.after (.setCud_same _ _ ⟨rfl, rfl, rfl, rfl, rfl, rfl, rfl⟩) hcount)

/-! ## What a valid frame does to the track -/

theorem sameTrack_checkCount (s : State) (count : Nat) : s.cud.sameTrack (s.checkCount count).cud := by
  unfold State.checkCount
  dsimp only
  split
  · split <;> simp [Cud.sameTrack]
  · simp [Cud.sameTrack]

theorem sameTrack_judgeDegrade (s : State) (errors : Nat) : s.cud.sameTrack (s.judgeDegrade errors).cud := by
  unfold State.judgeDegrade
  dsimp only
  split <;> simp [Cud.sameTrack]

theorem sameTrack_windowValid (s : State) (count : Nat) : s.cud.sameTrack (s.windowValid count).cud := by
  unfold State.windowValid State.advanceWindow
  split
  · exact ⟨rfl, rfl, rfl, rfl, rfl, rfl, rfl⟩
  · split
    · exact .of_eq rfl
    · dsimp only
      split
      · exact sameTrack_judgeDegrade s _
      · exact ⟨rfl, rfl, rfl, rfl, rfl, rfl, rfl⟩

theorem sameTrack_frameCounted (s : State) (count : Nat) : s.cud.sameTrack (s.frameCounted count).cud :=
  .trans (.trans (.trans (.of_eq (by simp)) (sameTrack_checkCount (s.count .cueValid) count))
    (⟨rfl, rfl, rfl, rfl, rfl, rfl, rfl⟩ : Cud.sameTrack _ { ((s.count .cueValid).checkCount count).cud with errs := 0 }))
    (sameTrack_windowValid _ count)

theorem sameTrack_frameKind (s : State) (kind : FrameKind) (payload : Nat) : s.cud.sameTrack (s.frameKind kind payload).cud := by
  unfold State.frameKind State.cueFrameOf
  dsimp only
  cases kind with
  | CUE =>
    dsimp only
    split <;> simp [Cud.sameTrack]
  | TIME | STOP | IDLE => simp [Cud.sameTrack, State.dropCandidate]

/-! ## Framing (R125 to R127) -/

/-- R136: a frame offered to an empty buffer waits there while the part relays, and is not taken otherwise. -/
theorem offerFrame_track (s : State) (kind : FrameKind) (payload : Nat) (h : s.cud.buf = []) :
    ((s.offerFrame kind payload).cud.bits = s.cud.bits ∧ (s.offerFrame kind payload).cud.cueSync = s.cud.cueSync ∧
      (s.offerFrame kind payload).cud.framing = s.cud.framing ∧ (s.offerFrame kind payload).cud.carrier = s.cud.carrier ∧
      (s.offerFrame kind payload).cud.sending = s.cud.sending ∧
      (s.offerFrame kind payload).cud.par.relay = s.cud.par.relay) ∧
    (s.offerFrame kind payload).cud.buf.length ≤ 4 ∧
    (s.cud.par.relay = true ∨ (s.offerFrame kind payload).cud.buf = []) := by
  unfold State.offerFrame
  split
  · rename_i hrelay
    simp [h, bufPlaces, hrelay.1]
  · simp [h]

/-- R126: the track as SYNC is entered, before the confirming frame is taken: cue-out has not started yet. -/
def Cud.confirmed (c : Cud) : Cud :=
  { c with framing := .SYNC, align := c.candAlign, prevAlign := c.candAlign, errs := 0, expected := none, cueSync := true }

theorem enterSync_eq (s : State) (count : Nat) (kind : FrameKind) (payload : Nat) :
    ∃ u, (s.setCud { s.cud with framing := .SYNC, align := s.cud.candAlign }).Quiet u ∧ s.enterSync count kind payload =
      (((u.setCud s.cud.confirmed).condNotice .CUE_SYNC true none).validFrame count kind payload).startCueOut := by
  obtain ⟨x, hx⟩ : ∃ x : Cud, x = { s.cud with framing := .SYNC, align := s.cud.candAlign } := ⟨_, rfl⟩
  refine ⟨if (s.setCud x).cud.prevAlign.isSome && (s.setCud x).cud.prevAlign != (s.setCud x).cud.align then
      ((s.setCud x).event .ALIGN_SHIFT none).count .cueShifts else s.setCud x, ?_, ?_⟩
  · rw [hx]
    exact .ite (fun _ => .after (quiet_count ..) (quiet_event ..)) (fun _ => .refl _)
  · unfold State.enterSync
    dsimp only
    rw [← hx]
    congr 4
    split <;> simp [hx, Cud.confirmed]

theorem keeps_enterSync (s : State) (count : Nat) (kind : FrameKind) (payload : Nat) (hf : s.cud.framing = .CONFIRM) :
    s.Keeps (s.enterSync count kind payload) := by
  obtain ⟨u, hu, heq⟩ := enterSync_eq s count kind payload
  rw [heq]
  refine .throughCud _ _ hu (.after (quiet_startCueOut _).keeps (.after (keeps_validFrame _ _ _ _) (quiet_condNotice ..).keeps)) ?_
  rintro ⟨hbits, _, _, hcarrier, hsend, hidle⟩
  have hoff : s.cud.sending = false := by simpa [hf] using hsend
  have hon : s.cud.carrier ≠ false := fun h => by simpa [hf] using hcarrier h
  obtain ⟨v, hv⟩ : ∃ v, v = (((u.setCud s.cud.confirmed).condNotice .CUE_SYNC true none).frameCounted count).frameKind
    kind payload := ⟨_, rfl⟩
  have htrack : s.cud.confirmed.sameTrack v.cud := by
    rw [hv]
    exact .trans (.trans (.of_eq (by simp)) (sameTrack_frameCounted _ count)) (sameTrack_frameKind _ kind payload)
  obtain ⟨vbits, vbuf, vsync, vframing, vcarrier, vsending, _⟩ := htrack
  have hvalid : ((u.setCud s.cud.confirmed).condNotice .CUE_SYNC true none).validFrame count kind payload =
      v.offerFrame kind payload := by rw [hv]; rfl
  have hempty : v.cud.buf = [] := vbuf.trans (hidle hoff)
  rw [hvalid]
  obtain ⟨hsame, hbuf, hoffer⟩ := offerFrame_track v kind payload hempty
  obtain ⟨obits, osync, oframing, ocarrier, osending, orelay⟩ := hsame
  refine .startCueOut ?_ hbuf ?_ ?_ ?_ fun _ => ?_
  · rw [obits, vbits]
    exact hbits
  · rw [osync, oframing, vsync, vframing]
    rfl
  · rw [ocarrier, vcarrier]
    exact fun h => absurd h hon
  · rw [osending, vsending]
    exact fun h => absurd (h.symm.trans hoff) (by simp)
  · rw [oframing, orelay, vframing]
    exact hoffer.imp (fun h => ⟨h, rfl⟩) id

theorem keeps_frameBit (s : State) (hc : s.cud.carrier = true) : s.Keeps s.frameBit := by
  unfold State.frameBit
  split
  · rename_i hf
    refine .ite (fun _ => .refl s) (fun _ => ?_)
    split
    · refine (State.Quiet.setCud s _ ?_).keeps
      rintro ⟨hbits, hbuf, hsync, _, hsend, hidle⟩
      exact ⟨hbits, hbuf, by simpa [hf] using hsync, by simp [hc], by simpa [hf] using hsend, hidle⟩
    all_goals exact .refl s
  · rename_i hf
    refine .ite (fun _ => ?_) (fun _ => .refl s)
    split
    · exact keeps_enterSync s _ _ _ hf
    all_goals
      refine (State.Quiet.setCud s _ ?_).keeps
      rintro ⟨hbits, hbuf, hsync, _, hsend, hidle⟩
      exact ⟨hbits, hbuf, by simpa [hf] using hsync, by simp, by simpa [hf] using hsend, hidle⟩
  · refine .ite (fun _ => ?_) (fun _ => .refl s)
    split
    · exact keeps_validFrame s _ _ _
    all_goals exact (quiet_badFrame s _).keeps

/-! ## Bits and edges (R118 to R121) -/

theorem quiet_push (s : State) (b : Option Bool) : s.Quiet (s.setCud (s.cud.push b)) := by
  refine .setCud s _ fun ⟨hbits, hrest⟩ => ⟨?_, hrest⟩
  simp only [State.setCud_cud, Cud.push, List.length_append, List.length_singleton]
  split
  · omega
  · simp
    omega

theorem keeps_formBit (s : State) (b : Bool) (len : Nat) (hc : s.cud.carrier = true) : s.Keeps (s.formBit b len) :=
  .after (keeps_frameBit _ (by simp [hc])) (State.Quiet.after (quiet_moveCell _ _) (quiet_push s _)).keeps

theorem keeps_formVoid (s : State) (hc : s.cud.carrier = true) : s.Keeps s.formVoid :=
  .after (keeps_frameBit _ (by simp [hc])) (State.Quiet.after (quiet_count ..) (quiet_push s _)).keeps

theorem keeps_interval (s : State) (i : Nat) (hc : s.cud.carrier = true) : s.Keeps (s.interval i) := by
  have hhalf := fun h => State.Quiet.setCud_same s { s.cud with pendHalf := h } ⟨rfl, rfl, rfl, rfl, rfl, rfl, rfl⟩
  have hvoid : s.Keeps (s.setCud { s.cud with pendHalf := none }).formVoid := .after (keeps_formVoid _ hc) (hhalf none).keeps
  refine .ite (fun _ => ?_) (fun _ => .ite (fun _ => ?_) (fun _ => hvoid))
  · split
    · exact (hhalf _).keeps
    · exact .after (keeps_formBit _ _ _ hc) (hhalf none).keeps
  · split
    · exact .after (keeps_formBit _ _ _ hc) (hhalf none).keeps
    · exact hvoid

theorem keeps_edge (s : State) : s.Keeps s.edge := by
  have hedge := State.Quiet.setCud_same s { s.cud with lastEdge := some s.now } ⟨rfl, rfl, rfl, rfl, rfl, rfl, rfl⟩
  have htimer : s.Quiet (s.setCud { s.cud with lastEdge := some s.now, carrierTimer := some (s.now + carrierTime) }) :=
    .setCud_same s _ ⟨rfl, rfl, rfl, rfl, rfl, rfl, rfl⟩
  refine .ite (fun _ => .refl s) (fun _ => .ite (fun hc => .after (keeps_interval _ _ hc) htimer.keeps) (fun hc => ?_))
  split
  · refine (State.Quiet.ite (fun _ => ?_) (fun _ => hedge)).keeps
    refine .after (.setCud_same _ _ ⟨rfl, rfl, rfl, rfl, rfl, rfl, rfl⟩) (.after (.setCud _ _ ?_) hedge)
    rintro ⟨hbits, hbuf, hsync, _, hsend, hidle⟩
    exact ⟨hbits, hbuf, hsync, by simp, hsend, hidle⟩
  · exact hedge.keeps

theorem keeps_carrierDetect (gap : Nat) (s : State) : s.Keeps (carrierDetect gap s) :=
  .ite (fun _ => .refl s) (fun _ => .after (keeps_edge _) (.after (quiet_advance _ _).keeps (keeps_edge s)))

theorem quiet_carrierTimerExpiry (s : State) : s.Quiet (carrierTimerExpiry s) :=
  quiet_whenDue s _ _ fun _ _ => quiet_loseCarrier _

theorem keeps_takeCell (s : State) (c : CueCell) (hc : s.cud.carrier = true) : s.Keeps (s.takeCell c) := by
  cases c with
  | bit b len => exact keeps_formBit s b len hc
  | void => exact keeps_formVoid s hc

theorem keeps_takeCells (cells : List CueCell) (s : State) (hc : s.cud.carrier = true) :
    s.Keeps (cells.foldl State.takeCell s) := by
  induction cells generalizing s with
  | nil => exact .refl s
  | cons c l ih => exact .after (ih _ (by simp [hc])) (keeps_takeCell s c hc)

theorem keeps_cueFrame (cells : List CueCell) (s : State) : s.Keeps (cueFrame cells s) := by
  refine .ite (fun hc => .after (keeps_takeCells cells _ hc) ?_) (fun _ => .refl s)
  have hstretch : s.Quiet (s.setCud { s.cud with
      lastEdge := some s.now, pendHalf := none, carrierTimer := some (s.now + carrierTime) }) :=
    .setCud_same s _ ⟨rfl, rfl, rfl, rfl, rfl, rfl, rfl⟩
  exact hstretch.keeps

theorem keeps_degradeWindowClose (cells : List CueCell) (s : State) : s.Keeps (degradeWindowClose cells s) :=
  .ite (fun _ => keeps_cueFrame cells s) (fun _ => .refl s)

theorem quiet_speedOffTimerExpiry (s : State) : s.Quiet (speedOffTimerExpiry s) :=
  quiet_whenDue s _ _ fun _ _ => .after (quiet_condNotice ..) (.setCud_same _ _ ⟨rfl, rfl, rfl, rfl, rfl, rfl, rfl⟩)

/-! ## Slots, SET and the unit reset (R119, R137, R138, R142) -/

theorem quiet_slot (s : State) (t : Nat) : s.Quiet (s.setCud (s.cud.slot t)) := by
  refine .setCud s _ fun ⟨hbits, hbuf, hsync, hcarrier, hsend, hidle⟩ =>
    ⟨hbits, ?_, hsync, hcarrier, hsend, fun hs => ?_⟩
  · simp [Cud.slot]
    omega
  · simp [Cud.slot, hidle hs]

theorem quiet_regenSlot (s : State) : s.Quiet (regenSlot s) := by
  unfold regenSlot
  split
  · rename_i d _
    exact .after (quiet_slot (s.reach d) d) (quiet_reach s d)
  · exact .refl s

theorem quiet_setSource (s : State) (v : CueSource) : s.Quiet (s.setSource v) :=
  .ite (fun _ => .refl s) (fun _ => .after (quiet_loseCarrier _) (.setCud_same s _ ⟨rfl, rfl, rfl, rfl, rfl, rfl, rfl⟩))

theorem quiet_setRelay (s : State) (v : Bool) : s.Quiet (s.setRelay v) := by
  refine .ite (fun hv => ?_) (fun hv => .setCud s _ fun ⟨hbits, _, hsync, hcarrier, _, _⟩ => ?_)
  · have hcue : CueInv s → CueInv (s.setCud { s.cud with par := { s.cud.par with relay := v } }).startCueOut :=
      fun ⟨hbits, hbuf, hsync, hcarrier, hsend, hidle⟩ => by
        refine .startCueOut hbits hbuf hsync hcarrier (fun h => ⟨hv, ?_⟩) (fun h => .inr (hidle h))
        have hsending : s.cud.sending = true := h
        rw [hsending] at hsend
        exact of_decide_eq_true (Bool.and_eq_true_iff.mp hsend.symm).2
    obtain ⟨x, hx⟩ := startCueOut_eq (s.setCud { s.cud with par := { s.cud.par with relay := v } })
    rw [hx] at hcue ⊢
    exact .setCud s x hcue
  · have hoff : v = false := by simpa using hv
    exact ⟨hbits, by simp [Cud.silence], hsync, hcarrier, by simp [Cud.silence, hoff], fun _ => rfl⟩

theorem quiet_clearDegraded (s : State) : s.Quiet s.clearDegraded :=
  .ite (fun _ => .after (quiet_condNotice ..) (.setCud_same s _ ⟨rfl, rfl, rfl, rfl, rfl, rfl, rfl⟩)) (fun _ => .refl s)

theorem quiet_resetCue (s : State) : s.Quiet s.resetCue := by
  refine .after (.setCud _ _ fun _ => ?_) (.after (quiet_clearDegraded _) (.after (quiet_clearSpeedOff _)
    (.ite (fun _ => quiet_leaveSync s) (fun _ => .refl s))))
  simp [CueInv, Cud.silence]

end Sys2Proof.Machine
end

section
/-!
The commands of the lamp block, of the tray mechanism and of the queue's own timers are moves (spec/03, spec/02, spec/01).
-/

namespace Sys2Proof.Machine

/-! ## The lamp update (R51 to R75) -/

theorem failsNow_lit {s : State} {low : Bool} (h : s.failsNow low = true) : s.lmc.power = .LIT := by
  simp [State.failsNow, State.senseQualifies] at h
  exact h.1.2.1

theorem quiet_lampSense (s : State) (low : Bool) : s.Quiet (s.lampSense low) := by
  have hcount := fun n => State.Quiet.setLmc_same s { s.lmc with failCount := n } ⟨rfl, rfl, rfl, rfl, rfl, rfl⟩
  refine .ite (fun hf => .after (quiet_lampFail _ ?_) (hcount 0)) (fun _ => hcount _)
  simp [failsNow_lit hf]

/-- The active lamp of a part in which one may burn goes on where the changer's motion ends (R64). -/
theorem LampInv.mayBurn {s : State} (h : LampInv s) (hon : s.lmc.power ≠ .OFF) : s.lampMayBurn := h.1 hon

theorem quiet_motionEnds (s : State) (target : LampPos) : s.Quiet (s.motionEnds target) := by
  have hactive : s.Quiet (s.setLmc { s.lmc with motion := none, active := target }) :=
    .setLmc_same s _ ⟨rfl, rfl, rfl, rfl, rfl, rfl⟩
  have hevent := (quiet_event _ .LAMP_CHANGED (some target.num)).after hactive
  unfold State.motionEnds
  generalize (s.setLmc { s.lmc with motion := none, active := target }).event .LAMP_CHANGED (some target.num) = u at hevent
  dsimp only
  have hmoved : s.Quiet (u.setLmc { u.lmc with blanks := { u.lmc.blanks with changer := false } }).evalNoLamp :=
    .after (quiet_evalNoLamp _) (.after (.setLmc_same _ _ ⟨rfl, rfl, rfl, rfl, rfl, rfl⟩) hevent)
  refine .ite (fun hswap => .ite (fun _ => ?_) (fun _ => .after (quiet_setPower_off _ _) hmoved)) (fun _ => hmoved)
  exact .after (quiet_enterIgniting _ fun h => h.mayBurn (by rw [hswap]; simp)) hmoved

theorem quiet_lampMotion (s : State) (m : Option Motion) : s.Quiet (s.lampMotion m) := by
  unfold State.lampMotion
  split
  · exact .refl s
  · exact .ite (fun _ => quiet_motionEnds s _) (fun _ => .setLmc_same s _ ⟨rfl, rfl, rfl, rfl, rfl, rfl⟩)

theorem quiet_lampChanges (s : State) (low : Bool) : s.Quiet (s.lampChanges low) :=
  .after (quiet_lampMotion _ _) (quiet_lampSense s low)

theorem quiet_rampStep (s : State) : s.Quiet s.rampStep := by
  unfold State.rampStep
  split
  · exact .refl s
  · exact .setLmc_same s _ ⟨rfl, rfl, rfl, rfl, rfl, rfl⟩

/-- R70, R73: while a phase's timer runs MECH stands, and with it the output level is 0. -/
theorem quiet_formLevel (s : State) : s.Quiet s.formLevel := by
  refine .setLmc s _ id (fun ⟨hmech, hphase, _, hrest⟩ => ⟨hmech, hphase, fun ht => ?_, hrest⟩) id
  have hmov : s.tmc.st.moving = true := Tmc.inPhase_moving hphase (.inr ht)
  have hstands : s.lmc.blanks.mech = true := by
    rw [hmech]
    simp only [decide_eq_true_eq]
    rintro hi
    simp [hi, MechState.moving] at hmov
  simp [outputLevel, Blanks.some, hstands]

theorem quiet_formDrive (s : State) (fresh : Bool) : s.Quiet (s.formDrive fresh) := by
  unfold State.formDrive
  cases hp : s.lmc.power with
  | OFF | SWAPPING => exact .setLmc s _ (fun ⟨hon, hloss, _⟩ => ⟨hon, hloss, fun _ => rfl⟩) id id
  | LIT =>
    exact .setLmc s _ (fun ⟨hon, hloss, _⟩ => ⟨hon, hloss, fun h => by simp [hp] at h⟩) id id
  | IGNITING =>
    exact .setLmc s _ (fun ⟨hon, hloss, _⟩ => ⟨hon, hloss, fun h => by simp [hp] at h⟩) id id

theorem quiet_lampOutputs (s : State) (fresh : Bool) : s.Quiet (s.lampOutputs fresh) :=
  .after (quiet_formDrive _ _) (.after (quiet_formLevel _)
    (.after (.setLmc_same _ _ ⟨rfl, rfl, rfl, rfl, rfl, rfl⟩) (quiet_rampStep s)))

theorem quiet_accrue (s : State) : s.Quiet s.accrue :=
  .ite (fun _ => .ite (fun _ => .after (quiet_evalLife _ _) (quiet_setLamp s _ _)) (fun _ => quiet_setLamp s _ _))
    (fun _ => .refl s)

/-- R31: t_dark starts at the first output level of 0. -/
theorem quiet_darkReport (s : State) : s.Quiet s.darkReport := by
  refine .ite (fun ⟨hphase, htimer, hdark⟩ => .setTmc s _ ?_ (fun _ ht => ht) rfl) (fun _ => .refl s)
  rintro ⟨hmech, hin, _, hrest⟩
  refine ⟨hmech, ?_, fun _ => hdark, hrest⟩
  simpa [Tmc.inPhase, hphase, htimer] using hin

theorem quiet_litReport (s : State) : s.Quiet s.litReport := by
  refine .ite (fun ⟨hp, _⟩ => quiet_setPower s _ _ (fun ⟨hon, hloss, _⟩ => ?_) (fun _ h => by simp at h)) (fun _ => .refl s)
  refine ⟨fun _ => hon (by simp [hp]), fun hl h3 => ?_⟩
  exact absurd (hloss hl h3) (by simp [hp])

theorem quiet_lampUpdate (low : Bool) (s : State) : s.Quiet (lampUpdate low s) :=
  .after (quiet_litReport _) (.after (.setThc_same _ _ ⟨rfl, rfl, rfl, rfl, rfl⟩) (.after (quiet_darkReport _)
    (.after (quiet_accrue _) (.after (quiet_lampOutputs _ _) (quiet_lampChanges s low)))))

theorem quiet_lampFailure (s : State) : s.Quiet (lampFailure s) := .ite (fun _ => quiet_lampUpdate true s) (fun _ => .refl s)

theorem quiet_changerMotionEnd (low : Bool) (s : State) : s.Quiet (changerMotionEnd low s) := by
  unfold changerMotionEnd
  split
  · exact .ite (fun _ => quiet_lampUpdate low s) (fun _ => .refl s)
  · exact .refl s

theorem quiet_ignitionComplete (low : Bool) (s : State) : s.Quiet (ignitionComplete low s) :=
  .ite (fun _ => quiet_lampUpdate low s) (fun _ => .refl s)

theorem quiet_rampEnd (low : Bool) (s : State) : s.Quiet (rampEnd low s) := by
  unfold rampEnd
  split
  · exact .ite (fun _ => quiet_lampUpdate low s) (fun _ => .refl s)
  · exact .refl s

theorem quiet_litSecond (low : Bool) (s : State) : s.Quiet (litSecond low s) :=
  .ite (fun _ => quiet_lampUpdate low s) (fun _ => .refl s)

theorem quiet_lampPresentChange (pos : LampPos) (present : Bool) (s : State) : s.Quiet (lampPresentChange pos present s) := by
  have hpresent := State.Quiet.after (quiet_evalNoLamp _) (quiet_setLamp s pos { s.lmc.lamp pos with present := present })
  refine .ite (fun _ => .refl s) (fun _ => .ite (fun hb => .after (quiet_lampFail _ fun hoff => ?_) hpresent) (fun _ => hpresent))
  rw [hoff] at hb
  simp [Power.burns] at hb

/-! ## The tray (R24, R25) -/

theorem quiet_trayInsertion (s : State) : s.Quiet (trayInsertion s) := by
  refine .ite (fun _ => .refl s) (fun hp => .setTmc s _ ?_ (fun _ ht => ht) rfl)
  rintro ⟨hmech, hphase, hdark, _, hpres⟩
  have hparked : s.tmc.st = .PARKED := hpres (by simpa using hp)
  exact ⟨hmech, hphase, hdark, fun _ => ⟨hparked, rfl⟩, fun _ => hparked⟩

theorem quiet_trayQualifyExpiry (code : TrayCode) (s : State) : s.Quiet (trayQualifyExpiry code s) :=
  quiet_whenDue s _ _ fun d hd => quiet_qualify _ code (by simp [hd])

theorem keeps_trayRemoval (s : State) : s.Keeps (trayRemoval s) := by
  refine .ite (fun _ => .refl s) (fun _ => .ite (fun hq => State.Quiet.keeps ?_) (fun _ => keeps_enterParked s))
  refine .setTmc s _ ?_ (fun _ ht => ht) rfl
  rintro ⟨hmech, hphase, hdark, hqual, _⟩
  exact ⟨hmech, hphase, hdark, by simp, fun _ => (hqual hq).1⟩

/-! ## The phases (R31 to R37, R41, R45, R46) -/

theorem phaseDue_reach (s : State) (k : MechTimer) (d : Nat) : (s.reach d).phaseDue k = s.phaseDue k := rfl

theorem quiet_tDarkExpiry (m : MechSense) (s : State) : s.Quiet (tDarkExpiry m s) :=
  quiet_whenDue s _ _ fun _ hd => quiet_beginLift _ m .tDark (phaseDue_timer (s := s) hd) (by simp)

theorem phaseDue_isSome {s : State} {k : MechTimer} (h : (s.phaseDue k).isSome = true) : s.tmc.timer.map Prod.fst = some k := by
  obtain ⟨d, hd⟩ := Option.isSome_iff_exists.mp h
  exact phaseDue_timer hd

theorem quiet_lifterUpConfirm (m : MechSense) (s : State) : s.Quiet (lifterUpConfirm m s) :=
  .ite (fun h => quiet_liftEnds s m (phaseDue_isSome h)) (fun _ => .refl s)

theorem timer_isSome {s : State} {k : MechTimer} (h : s.tmc.timer.map Prod.fst = some k) : s.tmc.timer.isSome = true := by
  rw [← Option.isSome_map, h]
  rfl

theorem keeps_liftTimeout (s : State) (hk : s.tmc.timer.map Prod.fst = some .lift) : s.Keeps s.liftTimeout := by
  have hretried : s.Quiet (s.setTmc { s.tmc with retriedLift := true }) :=
    .setTmc_same s _ ⟨rfl, rfl, rfl, rfl, rfl, rfl, rfl, rfl, rfl, rfl, rfl⟩
  have hretry := quiet_retry (s.setTmc { s.tmc with retriedLift := true }) .mechLiftRetries .lift hk (.inl rfl)
  exact .ite (fun _ => keeps_enterJammed s _ (.inr (timer_isSome hk))) (fun _ => (hretry.after hretried).keeps)

theorem keeps_dropTimeout (s : State) (hk : s.tmc.timer.map Prod.fst = some .drop) : s.Keeps s.dropTimeout := by
  have hretried : s.Quiet (s.setTmc { s.tmc with retriedDrop := true }) :=
    .setTmc_same s _ ⟨rfl, rfl, rfl, rfl, rfl, rfl, rfl, rfl, rfl, rfl, rfl⟩
  have hretry := quiet_retry (s.setTmc { s.tmc with retriedDrop := true }) .mechDropRetries .drop hk (.inr rfl)
  exact .ite (fun _ => keeps_enterJammed s _ (.inr (timer_isSome hk))) (fun _ => (hretry.after hretried).keeps)

theorem keeps_liftTimerExpiry (s : State) : s.Keeps (liftTimerExpiry s) :=
  keeps_whenDue s _ _ fun _ hd => keeps_liftTimeout _ (phaseDue_timer (s := s) hd)

theorem keeps_dropTimerExpiry (s : State) : s.Keeps (dropTimerExpiry s) :=
  keeps_whenDue s _ _ fun _ hd => keeps_dropTimeout _ (phaseDue_timer (s := s) hd)

theorem quiet_retryPauseExpiry (m : MechSense) (s : State) : s.Quiet (retryPauseExpiry m s) :=
  quiet_whenDue s _ _ fun _ hd => quiet_retryPhase _ m (phaseDue_timer (s := s) hd)

theorem quiet_homeFound (s : State) (m : MechSense) (hp : s.tmc.phase = some .SEARCH) : s.Quiet (s.homeFound m) := by
  have hhome : s.Quiet (s.setTmc { s.tmc with pos := some 0 }) := by
    refine .setTmc s _ id (fun hm ht => ?_) rfl
    obtain ⟨_, hmov, _⟩ := hm.indexed (.inr (.inr hp))
    obtain ⟨hlen, hocc, hblank, hjams, hsize, hpark, _, _, hgate⟩ := ht
    refine ⟨hlen, hocc, hblank, hjams, hsize, hpark, fun h => ?_, fun p h => ?_, hgate⟩
    · exact absurd h (MechState.not_parked_of_moving hmov)
    · obtain rfl : p = 0 := by simpa using h.symm
      exact Nat.zero_le _
  refine .after (quiet_beginDrop _ m fun h => ?_) hhome
  obtain ⟨htimer, hmov, _⟩ := h.indexed (.inr (.inr hp))
  exact ⟨htimer, hmov⟩

theorem keeps_pulseSearch (s : State) (m : MechSense) (hp : s.tmc.phase = some .SEARCH) : s.Keeps (s.pulseSearch m) := by
  have hstep : s.Quiet (s.setTmc { s.tmc with steps := s.tmc.steps + 1 }) :=
    .setTmc_same s _ ⟨rfl, rfl, rfl, rfl, rfl, rfl, rfl, rfl, rfl, rfl, rfl⟩
  unfold State.pulseSearch
  dsimp only
  generalize hu : s.setTmc { s.tmc with steps := s.tmc.steps + 1 } = u at hstep
  have hup : u.tmc.phase = some .SEARCH := by rw [← hu]; exact hp
  refine .ite (fun _ => State.Quiet.keeps ?_) (fun _ => .ite (fun _ => ?_) (fun _ => State.Quiet.keeps ?_))
  · exact .after (quiet_homeFound u m hup) hstep
  · exact .after (keeps_enterJammed u _ (.inl (by simp [hup]))) hstep.keeps
  · refine .after (quiet_driveTray u _ _ fun h => ?_) hstep
    obtain ⟨htimer, _, hlift⟩ := h.indexed (.inr (.inr hup))
    exact ⟨htimer, hlift, .inr (.inr ⟨rfl, (Tmc.inPhase_indexWait h.2.1 (.inr (.inr hup))).2.2.2.2 hup⟩)⟩

theorem keeps_indexPulse (m : MechSense) (s : State) : s.Keeps (indexPulse m s) := by
  unfold indexPulse
  split
  · exact (quiet_pulseStep s m ‹_›).keeps
  · exact (quiet_pulseRotate s m ‹_›).keeps
  · exact keeps_pulseSearch s m ‹_›
  · exact .refl s

theorem keeps_indexWaitExpiry (s : State) : s.Keeps (indexWaitExpiry s) :=
  keeps_whenDue s _ _ fun _ hd => keeps_enterJammed _ _ (.inr (timer_isSome (phaseDue_timer (s := s) hd)))

theorem quiet_lifterDownConfirm (m : MechSense) (s : State) : s.Quiet (lifterDownConfirm m s) :=
  .ite (fun h => quiet_dropEnds s m fun hi => hi.phaseStill (phaseDue_isSome h) (by simp)) (fun _ => .refl s)

theorem keeps_settleExpiry (s : State) : s.Keeps (settleExpiry s) :=
  keeps_whenDue s _ _ fun _ hd => keeps_enterIdle _ (phaseDue_timer (s := s) hd)

/-! ## Timers of the queue (R14, R38) -/

theorem quiet_holdExpiry (s : State) : s.Quiet (holdExpiry s) :=
  quiet_whenDue s _ _ fun _ _ => .setAq _ _ fun ⟨hlen, htail, htag, _⟩ => ⟨hlen, htail, htag, by simp⟩

theorem quiet_pacingRunOut (s : State) : s.Quiet (pacingRunOut s) :=
  .ite (fun _ => .refl s) (fun _ => .after (quiet_evalPacing _) (quiet_reach s _))

end Sys2Proof.Machine
end

section
/-!
Saves, snapshots and the FOLLOW timer are moves, and so are the loss of power and its application (spec/07, spec/10,
spec/11).
-/

namespace Sys2Proof.Machine

/-! ## Saves (R201 to R203) -/

theorem quiet_fullSaved (s : State) : s.Quiet s.fullSaved :=
  .after (quiet_event ..) (.ite (fun _ => .after (quiet_condNotice ..) (.setSts_same s _ rfl rfl)) (fun _ => .refl s))

theorem quiet_pendingSave (s : State) : s.Quiet s.pendingSave :=
  .ite (fun _ => .after (quiet_beginSave _ _) (.setSts_same s _ rfl rfl)) (fun _ => .refl s)

/-- R201: a save that ends leaves its image as the record. -/
theorem quiet_saveEnd (s : State) : s.Quiet (saveEnd s) := by
  unfold saveEnd
  split
  · rename_i v hv
    have hwritten : s.Quiet (s.setSts { s.sts with
        record := v.image, marker := v.keepMarker, checkOk := true, save := none }) :=
      .setSts s _ fun ⟨_, _, hsave, _⟩ => ⟨hsave v hv, by simp⟩
    exact .after (quiet_pendingSave _) (.after (.ite (fun _ => quiet_fullSaved _) (fun _ => .refl _)) hwritten)
  · exact .refl s

theorem quiet_litTimerExpiry (s : State) : s.Quiet (litTimerExpiry s) :=
  quiet_whenDue s _ _ fun d _ => .after (quiet_autoSave _) (.setSts_same (s.reach d) _ rfl rfl)

/-! ## Snapshots (R194) -/

theorem quiet_snapshot (s : State) : s.Quiet s.snapshot := by
  refine .setCnt s _ (by simp) fun h => ?_
  obtain ⟨_, _, _, _, _, hlive, hsnap, _⟩ := h
  exact hlive.trans hsnap.symm

theorem quiet_snapshotTimerExpiry (s : State) : s.Quiet (snapshotTimerExpiry s) :=
  quiet_whenDue s _ _ fun _ _ => quiet_snapshot _

/-! ## FOLLOW (R151) -/

theorem SeqLoose.ptr_of_running {q : Ssq} (h : SeqLoose q) {d : Nat} (hf : q.follow = .running d) : q.st = .RUNNING := by
  obtain ⟨_, _, _, _, _, _, _, _, hfollow, _⟩ := h
  have hf' : Ssq.follow { q with remembered := none } = .running d := hf
  rw [hf'] at hfollow
  exact hfollow

theorem keeps_followFires (s : State) (hst : SeqLoose s.ssq → s.ssq.st = .RUNNING) (hf : s.ssq.follow ≠ .stopped) :
    s.Keeps s.followFires := by
  unfold State.followFires
  split
  · rename_i p hp
    refine .ite (fun _ => keeps_fire s p false fun h => by simp [hst h]) (fun _ => ?_)
    exact keeps_setFollow s _ (by simp [hp]) (fun _ => .inr hf) (fun h => .inl (hst h))
  · exact .refl s

theorem keeps_followExpiry (s : State) : s.Keeps (followExpiry s) := by
  refine keeps_whenDue s _ _ fun d hd => ?_
  have hf : s.ssq.follow = .running d := by
    cases hq : s.ssq.follow <;> simp_all [Follow.dueAt]
  exact keeps_followFires (s.reach d) (fun h => h.ptr_of_running hf) (by simp [State.reach, hf])

theorem keeps_followDueCheck (s : State) : s.Keeps (followDueCheck s) :=
  .ite (fun ⟨hf, hst⟩ => keeps_followFires s (fun _ => hst) (by simp [hf])) (fun _ => .refl s)

/-! ## The loss and the application of power (R49, R80, R164, R204) -/

theorem keeps_powerLoss (s : State) : s.Keeps (powerLoss s) :=
  ⟨id, id, id, fun _ _ h => h, id, fun _ h => h, fun _ h => h, id, id⟩

theorem Sts.loaded_ok {x : Sts} (h : x.record.ok) : x.loaded.ok := by
  unfold Sts.loaded
  split
  · exact factory_ok
  · exact h

theorem traySizeAt_cases (l : PowerOnLines) :
    traySizeAt l = none ∨ l.trayPresent = true ∧ (traySizeAt l = some 80 ∨ traySizeAt l = some 120) := by
  unfold traySizeAt
  split
  · rename_i hp
    cases l.trayCode <;> simp [hp]
  · exact .inl rfl

theorem powerOnBase_mech (l : PowerOnLines) (s : State) : MechInv (powerOnBase l s) := by
  obtain hs | ⟨hp, hs | hs⟩ := traySizeAt_cases l <;>
    simp [MechInv, powerOnBase, powerTmc, powerLmc, resetTmc, resetLmc, Tmc.inPhase, MechState.moving, *]

theorem powerOnBase_tray (l : PowerOnLines) (s : State) (h : s.sts.record.ok) : TrayInv (powerOnBase l s) := by
  obtain ⟨hflags, _⟩ := Sts.loaded_ok h
  obtain ⟨b, bs, hb⟩ : ∃ b bs, s.sts.loaded.flags = b :: bs := by
    cases hf : s.sts.loaded.flags with
    | nil => simp [hf] at hflags
    | cons b bs => exact ⟨b, bs, rfl⟩
  refine ⟨by simpa [powerOnBase, powerTmc] using hflags, by simp [powerOnBase, powerTmc, hb], by simp [powerOnBase, powerTmc, hb],
    ?_, ?_, ?_, by simp [powerOnBase, powerTmc, resetTmc], by simp [powerOnBase, powerTmc, resetTmc],
    by simp [gateOk, powerOnBase, powerTmc, resetTmc]⟩
  · intro r hr
    simp only [powerOnBase, powerTmc, List.mem_mapIdx] at hr
    obtain ⟨i, _, rfl⟩ := hr
    simp
  · obtain hs | ⟨_, hs | hs⟩ := traySizeAt_cases l <;> simp [powerOnBase, powerTmc, hs]
  · obtain hs | ⟨_, hs | hs⟩ := traySizeAt_cases l <;> simp [powerOnBase, powerTmc, hs]

/-- R164: at power-on the sequencer is armed at the stored head. -/
theorem powerSsq_armed (x : Settings) : powerSsq x = Ssq.armed { resetSsq with steps := x.steps, head := x.head } x.head := rfl

theorem powerSsq_loose (x : Settings) : SeqLoose (powerSsq x) := by
  rw [powerSsq_armed]
  exact Ssq.armed_loose _ _ rfl (Nat.zero_le _)

theorem powerSsq_remembered (x : Settings) : RememberedInv (powerSsq x) := by
  rw [powerSsq_armed]
  exact Ssq.armed_remembered _ _

theorem powerOnBase_cue (l : PowerOnLines) (s : State) : CueInv (powerOnBase l s) := by
  simp [CueInv, powerOnBase, resetCud]

theorem powerOnBase_shape (l : PowerOnLines) (s : State) (h : s.sts.record.ok) : ShapeInv (powerOnBase l s) := by
  obtain ⟨hflags, hsteps, henables, htable, hign, hlow, hhigh, hvol⟩ := Sts.loaded_ok h
  refine ⟨⟨by simpa [State.capture, powerOnBase, powerTmc] using hflags, hsteps, henables, htable, hign, hlow, hhigh, hvol⟩,
    h, by simp [powerOnBase], by simp [powerOnBase, resetLki], by simp [powerOnBase, powerRpd, panelKeys],
    by simp [powerOnBase, resetCnt], by simp [powerOnBase, resetCnt], by simp [powerOnBase, resetTtc],
    by simp [powerOnBase, powerLmc, resetLmc]⟩

theorem powerOnBase_notice (l : PowerOnLines) (s : State) : NoticeInv (powerOnBase l s) := by
  simp [NoticeInv, powerOnBase, resetLki]

theorem powerOnBase_lamp (l : PowerOnLines) (s : State) : LampInv (powerOnBase l s) := by
  simp [LampInv, powerOnBase, powerLmc, resetLmc, resetThc]

theorem powerOnBase_queue (l : PowerOnLines) (s : State) : QueueInv (powerOnBase l s) := by
  simp [QueueInv, powerOnBase, resetAq]

theorem keeps_powerOnBase (l : PowerOnLines) (s : State) : s.Keeps (powerOnBase l s) where
  notice _ := powerOnBase_notice l s
  lamp _ := powerOnBase_lamp l s
  mech _ := powerOnBase_mech l s
  tray _ hs _ := powerOnBase_tray l s hs.2.1
  seq _ := powerSsq_loose _
  remembered _ _ := powerSsq_remembered _
  queue _ _ := powerOnBase_queue l s
  cue _ := powerOnBase_cue l s
  shape hs := powerOnBase_shape l s hs.2.1

theorem quiet_refresh (s : State) : s.Quiet s.refresh :=
  .after (.setTtc_same _ _ rfl rfl) (.setThc_same s _ ⟨rfl, rfl, rfl, rfl, rfl⟩)

theorem keeps_powerOn (l : PowerOnLines) (s : State) : s.Keeps (powerOn l s) := by
  refine .after (State.Quiet.keeps ?_) (keeps_powerOnBase l s)
  exact .after (quiet_refresh _) (.after (quiet_evalLife _ _) (.after (quiet_evalLife _ _) (.after (quiet_evalNoLamp _)
    (.after (.ite (fun _ => quiet_event ..) (fun _ => .refl _)) (.ite (fun _ => quiet_condNotice ..) (fun _ => .refl _))))))

end Sys2Proof.Machine
end

section
/-!
The remote and the panel are moves (spec/08, spec/01).
-/

namespace Sys2Proof.Machine

/-! ## How AQ takes a key (R4 to R7, R9) -/

theorem quiet_refuseKey (s : State) (k : Key) : s.Quiet (s.refuseKey k) := .after (quiet_event ..) (quiet_count ..)

theorem quiet_offerKey (s : State) (o : Origin) (a : Action) (ho : o ≠ .SHOW) : s.Quiet (s.offerKey o a) :=
  .ite (fun h => quiet_enqueue s _ h (joinable_plainEntry o a ho)) (fun _ => quiet_count ..)

theorem keeps_acceptKey (s : State) (o : Origin) (k : Key) (ho : o ≠ .SHOW) : s.Keeps (s.acceptKey o k) := by
  have hoffer := fun a => (quiet_offerKey s o a ho).keeps
  unfold State.acceptKey
  cases k with
  | STOP => exact keeps_stopAll s
  | BLANK => exact (quiet_setManual s _).keeps
  | FWD => exact hoffer _
  | REV => exact hoffer _
  | DIM_UP => exact hoffer _
  | DIM_DOWN => exact hoffer _
  | LAMP => exact .ite (fun _ => (quiet_wake s).keeps) (fun _ => hoffer _)
  | PAUSE => exact .ite (fun _ => keeps_resumeSeq s) (fun _ => keeps_pauseSeq s)
  | ADVANCE => exact keeps_advanceSeq s
  | VOL_UP => exact (quiet_setVolume s _).keeps
  | VOL_DOWN => exact (quiet_setVolume s _).keeps
  | TAPE_PLAY => exact (quiet_tape s _).keeps
  | TAPE_STOP => exact (quiet_tape s _).keeps
  | MODE => exact .refl s
  | POWER => exact .refl s

theorem keeps_key (s : State) (o : Origin) (k : Key) (ho : o ≠ .SHOW) : s.Keeps (s.key o k) :=
  .ite (fun _ => .refl s) (fun _ => .ite (fun _ => (quiet_refuseKey s k).keeps) (fun _ => keeps_acceptKey s o k ho))

/-! ## Remote frames (R167 to R170) -/

theorem quiet_setDec (s : State) (line : RemoteLine) (d : RemoteDec) : s.Quiet (s.setDec line d) := by
  cases line <;> exact .setRpd s _ rfl

theorem keeps_remotePress (s : State) (line : RemoteLine) (k : Key) (seq : Nat) : s.Keeps (s.remotePress line k seq) :=
  .after (keeps_key _ _ _ (by simp)) (quiet_setDec s line _).keeps

theorem keeps_remoteHeld (s : State) (line : RemoteLine) (h : HeldPress) : s.Keeps (s.remoteHeld line h) :=
  .ite (fun _ => .after (keeps_key _ _ _ (by simp)) (quiet_setDec s line _).keeps) (fun _ => (quiet_setDec s line _).keeps)

theorem keeps_goodFrame (s : State) (line : RemoteLine) (k : Key) (seq : Nat) : s.Keeps (s.goodFrame line k seq) := by
  have hcount := (quiet_count s .remGood).keeps
  refine .ite (fun _ => .after (keeps_remotePress _ _ _ _) hcount) (fun _ => ?_)
  split
  · exact hcount
  · exact .ite (fun _ => .after (keeps_remoteHeld _ _ _) hcount) (fun _ => .after (quiet_count ..).keeps hcount)

theorem keeps_completeFrame (s : State) (line : RemoteLine) (bits : BitVec 12) : s.Keeps (s.completeFrame line bits) := by
  unfold State.completeFrame
  split
  · exact (quiet_count ..).keeps
  · exact .ite (fun _ => keeps_goodFrame s line _ _) (fun _ => .refl s)

theorem quiet_dropFrame (s : State) (line : RemoteLine) : s.Quiet (s.dropFrame line) := by
  unfold State.dropFrame
  split
  · exact .refl s
  · exact .after (quiet_count ..) (quiet_setDec s line _)
  · exact quiet_setDec s line _

theorem keeps_remoteFrame (line : RemoteLine) (bits : BitVec 12) (s : State) : s.Keeps (remoteFrame line bits s) :=
  .after (keeps_completeFrame _ _ _) (quiet_dropFrame s line).keeps

theorem keeps_lineTime (s : State) (line : RemoteLine) (t : LineTime) : s.Keeps (s.lineTime line t) := by
  have hdec := fun d => (quiet_setDec s line d).keeps
  unfold State.lineTime
  split
  · split
    · exact .ite (fun _ => hdec _) (fun _ => .refl s)
    · exact .refl s
  · exact hdec _
  · split
    · exact .after (quiet_count ..).keeps (hdec _)
    · exact hdec _
    · exact hdec _
    · exact .after (keeps_completeFrame _ _ _) (hdec _)

theorem keeps_remoteMalformed (line : RemoteLine) (times : List LineTime) (s : State) :
    s.Keeps (remoteMalformed line times s) := by
  unfold remoteMalformed
  induction times generalizing s with
  | nil => exact .refl s
  | cons t l ih => exact .after (ih _) (keeps_lineTime s line t)

theorem quiet_remoteReleaseExpiry (line : RemoteLine) (s : State) : s.Quiet (remoteReleaseExpiry line s) :=
  quiet_whenDue s _ _ fun _ _ => quiet_setDec _ _ _

/-! ## The panel (R171, R173 to R176) -/

theorem quiet_setPanel (s : State) (k : Key) (r : PanelRec) : s.Quiet (s.setPanel k r) := .setRpd s _ (by simp)

theorem quiet_panelLineChange (k : Key) (closed : Bool) (s : State) : s.Quiet (panelLineChange k closed s) :=
  .ite (fun _ => .refl s) (fun _ => quiet_setPanel s k _)

theorem keeps_panelEvent (s : State) (k : Key) : s.Keeps (s.panelEvent k) := by
  have hkey := fun k => keeps_key s .PANEL k (by simp)
  unfold State.panelEvent
  split
  · exact .refl s
  · exact .ite (fun _ => (quiet_wake s).keeps) (fun _ => .refl s)
  · exact .ite (fun _ => .refl s) (fun _ => hkey _)
  · exact hkey _

theorem keeps_debounced (s : State) (k : Key) : s.Keeps (s.debounced k) :=
  .ite (fun _ => (quiet_setPanel s k _).keeps) (fun _ => .ite
    (fun _ => .after (keeps_panelEvent _ k) (quiet_setPanel s k _).keeps) (fun _ => (quiet_setPanel s k _).keeps))

theorem keeps_panelDebounceExpiry (k : Key) (s : State) : s.Keeps (panelDebounceExpiry k s) :=
  keeps_whenDue s _ _ fun _ _ => keeps_debounced _ k

theorem keeps_panelRepeatStep (k : Key) (s : State) : s.Keeps (panelRepeatStep k s) :=
  keeps_whenDue s _ _ fun d _ => .after (keeps_key _ _ _ (by simp)) (quiet_setPanel (s.reach d) k _).keeps

theorem quiet_modeHold (s : State) : s.Quiet s.modeHold := by
  refine .ite (fun _ => .refl s) (fun _ => ?_)
  split
  · exact .setAq_same s _ rfl rfl
  · exact .setAq_same s _ rfl rfl
  · exact quiet_refuseKey s _

theorem quiet_panelModeHold (s : State) : s.Quiet (panelModeHold s) :=
  quiet_whenDue s _ _ fun _ _ => .after (quiet_modeHold _) (quiet_setPanel _ _ _)

/-- R44: a jam is cleared by homing. -/
theorem quiet_clearJam (s : State) (h : s.tmc.st = .JAMMED) : s.Quiet s.startHoming :=
  quiet_startHoming s (by rw [h]; rfl) (by simp [h])

theorem quiet_stopHold (s : State) : s.Quiet s.stopHold := by
  refine .ite (fun _ => .refl s) (fun h => .ite (fun _ => quiet_refuseKey s _) (fun _ => quiet_clearJam s ?_))
  simpa using (Bool.or_eq_false_iff.mp (Bool.eq_false_iff.mpr h)).2

theorem quiet_panelStopHold (s : State) : s.Quiet (panelStopHold s) :=
  quiet_whenDue s _ _ fun _ _ => .after (quiet_stopHold _) (quiet_setPanel _ _ _)

theorem keeps_panelPowerHold (s : State) : s.Keeps (panelPowerHold s) :=
  keeps_whenDue s _ _ fun _ _ => .after (.ite (fun _ => .refl _) (fun _ => keeps_standby _)) (quiet_setPanel _ _ _).keeps

end Sys2Proof.Machine
end

section
/-!
Every SET is a move (R189, section 11.4).
-/

namespace Sys2Proof.Machine

/-! ## The response table (R76) -/

theorem length_raiseFrom (low : Nat) (l : List Nat) : (raiseFrom low l).length = l.length := by
  induction l generalizing low with
  | nil => rfl
  | cons x xs ih => simp [raiseFrom, ih]

theorem le_of_mem_raiseFrom {low x : Nat} {l : List Nat} (h : x ∈ raiseFrom low l) : low ≤ x := by
  induction l generalizing low with
  | nil => simp [raiseFrom] at h
  | cons y ys ih =>
    rw [raiseFrom, List.mem_cons] at h
    obtain rfl | h := h
    · exact Nat.le_max_left _ _
    · exact (Nat.le_max_left low y).trans (ih h)

theorem pairwise_raiseFrom (low : Nat) (l : List Nat) : (raiseFrom low l).Pairwise (· ≤ ·) := by
  induction l generalizing low with
  | nil => exact .nil
  | cons x xs ih => exact .cons (fun y hy => le_of_mem_raiseFrom hy) (ih _)

/-- In a table that does not fall, what stands before a place is at most what stands right before it. -/
theorem le_getD_pred {l : List Nat} (h : l.Pairwise (· ≤ ·)) {i x : Nat} (hx : x ∈ l.take i) (hi : i ≤ l.length) :
    x ≤ l.getD (i - 1) 0 := by
  obtain ⟨j, hj, rfl⟩ := List.mem_iff_getElem.mp hx
  rw [List.length_take] at hj
  rw [List.getElem_take, List.getD_eq_getElem _ _ (by omega)]
  obtain hlt | heq := Nat.lt_or_eq_of_le (show j ≤ i - 1 by omega)
  · exact List.pairwise_iff_getElem.mp h _ _ _ _ hlt
  · simp [heq]

theorem tableOk_writeTable {t : List Nat} (h : tableOk t) (i v : Nat) (hi : i ≤ 32) : tableOk (writeTable t i v) := by
  obtain ⟨hlen, hsort⟩ := h
  constructor
  · simp only [writeTable, List.length_append, List.length_take, length_raiseFrom, List.length_cons, List.length_drop]
    omega
  · refine List.pairwise_append.mpr ⟨hsort.take, pairwise_raiseFrom _ _, fun x hx y hy => ?_⟩
    refine Nat.le_trans ?_ (le_of_mem_raiseFrom hy)
    split
    · rename_i hz
      simp [hz] at hx
    · exact le_getD_pred hsort hx (by omega)

/-! ## The parameters of a block -/

theorem quiet_setTmcPar (s : State) (p : TmcParams) : s.Quiet (s.setTmcPar p) :=
  .setTmc_same s _ ⟨rfl, rfl, rfl, rfl, rfl, rfl, rfl, rfl, rfl, rfl, rfl⟩

theorem quiet_setLmcPar (s : State) (p : LmcParams) (ht : tableOk s.lmc.par.table → tableOk p.table)
    (hi : 10 ≤ s.lmc.par.ignTime → 10 ≤ p.ignTime) : s.Quiet (s.setLmcPar p) :=
  .setLmc s _ id id fun ⟨⟨hflags, hsteps, henables, htable, hign, hrest⟩, hshape⟩ =>
    ⟨⟨hflags, hsteps, henables, ht htable, hi hign, hrest⟩, hshape⟩

theorem quiet_setThcPar (s : State) (p : ThcParams) : s.Quiet (s.setThcPar p) :=
  .setThc_same s _ ⟨rfl, rfl, rfl, rfl, rfl⟩

theorem quiet_setTtcPar (s : State) (p : TtcParams)
    (h : -60 ≤ s.ttc.par.trimT ∧ s.ttc.par.trimT ≤ 60 → -60 ≤ p.trimT ∧ p.trimT ≤ 60)
    (hv : p.volTarget = s.ttc.par.volTarget) : s.Quiet (s.setTtcPar p) :=
  .setTtc s _ fun ⟨⟨hflags, hsteps, henables, htable, hign, hlow, hhigh, hvol⟩, hshape⟩ =>
    ⟨⟨hflags, hsteps, henables, htable, hign, (h ⟨hlow, hhigh⟩).1, (h ⟨hlow, hhigh⟩).2, hv ▸ hvol⟩, hshape⟩

theorem quiet_setCudPar (s : State) (p : CudParams) (h : p.relay = s.cud.par.relay) : s.Quiet (s.setCudPar p) :=
  .setCud_same s _ ⟨rfl, rfl, rfl, rfl, rfl, rfl, h⟩

/-! ## SET (R189) -/

/-- What a SET leaves where it takes a value is a move. -/
def SetResult.quietFrom (s : State) : SetResult → Prop
  | .done t _ => s.Quiet t
  | .bad _ | .noValue | .unknown => True

theorem clampNat_bounds {lo hi : Nat} (h : lo ≤ hi) (v : Int) : lo ≤ clampNat lo hi v ∧ clampNat lo hi v ≤ hi := by
  unfold clampNat
  omega

theorem quietFrom_setNum {s : State} {lo hi : Nat} {v : Int} {f : Nat → State} (h : lo ≤ hi)
    (hf : ∀ n, lo ≤ n → n ≤ hi → s.Quiet (f n)) : (setNum lo hi v f).quietFrom s :=
  hf _ (clampNat_bounds h v).1 (clampNat_bounds h v).2

theorem quietFrom_setPair {s : State} {lo hi : Nat} {v : Int} {ok : Nat → Bool} {kept : Nat} {f : Nat → State}
    (hf : ∀ n, s.Quiet (f n)) : (setPair lo hi v ok kept f).quietFrom s := by
  unfold setPair
  split
  · exact hf _
  · trivial

theorem quietFrom_setFlag {s : State} {v : Int} {kept : Bool} {f : Bool → State} (hf : ∀ b, s.Quiet (f b)) :
    (setFlag v kept f).quietFrom s := by
  unfold setFlag
  split
  · exact hf _
  · split
    · exact hf _
    · trivial

theorem quietFrom_setEnum {α : Type} {s : State} {l : List α} {v : Int} {kept : Nat} {f : α → State}
    (hf : ∀ a, s.Quiet (f a)) : (setEnum l v kept f).quietFrom s := by
  unfold setEnum
  split
  · trivial
  · split
    · exact hf _
    · trivial

theorem quietFrom_setCompare (s : State) (v : Int) : (s.setCompare v).quietFrom s := by
  unfold State.setCompare
  split
  · have hclear : s.Quiet ((s.clearMatch s.tmc.comparePos).setTmc { (s.clearMatch s.tmc.comparePos).tmc with comparePos := none }) :=
      .after (.setTmc_same _ _ ⟨rfl, rfl, rfl, rfl, rfl, rfl, rfl, rfl, rfl, rfl, rfl⟩) (quiet_clearMatch s _)
    exact hclear
  · exact quietFrom_setNum (by omega) fun _ _ _ => .setTmc_same s _ ⟨rfl, rfl, rfl, rfl, rfl, rfl, rfl, rfl, rfl, rfl, rfl⟩

theorem quiet_lowerCeiling (s : State) : s.Quiet s.lowerCeiling :=
  .ite (fun _ => .setThc_same s _ ⟨rfl, rfl, rfl, rfl, rfl⟩) (fun _ => .refl s)

theorem quietFrom_setTable (s : State) (i : Nat) (v : Int) : (s.setTable i v).quietFrom s := by
  unfold State.setTable
  split
  · trivial
  · exact quiet_setLmcPar s _ (fun h => tableOk_writeTable h i _ (by omega)) id

theorem quietFrom_setTrim (s : State) (v : Int) : (s.setTrim v).quietFrom s :=
  quiet_setTtcPar s _ (fun _ => ⟨by dsimp only; omega, by dsimp only; omega⟩) rfl

theorem quiet_setChannel (s : State) (v : Nat) : s.Quiet (s.setChannel v) := .setRpd s _ rfl

theorem quiet_setInterval (s : State) (n : Nat) : s.Quiet (s.setInterval n) := .setCnt s _ rfl fun _ => rfl

theorem quietFrom_setParam (s : State) (id i : Nat) (v : Int) : (setParam s id i v).quietFrom s := by
  have htmc := quiet_setTmcPar s
  have hthc := quiet_setThcPar s
  unfold setParam
  split
  · exact quietFrom_setEnum fun _ => .setAq_same s _ rfl rfl
  · exact quietFrom_setNum (by omega) fun _ _ _ => htmc _
  · exact quietFrom_setNum (by omega) fun _ _ _ => htmc _
  · exact quietFrom_setNum (by omega) fun _ _ _ => .after (quiet_evalPacing _) (htmc _)
  · exact quietFrom_setFlag fun _ => htmc _
  · exact quietFrom_setFlag fun _ => htmc _
  · exact quietFrom_setCompare s v
  · exact quietFrom_setEnum fun _ => .setTmc_same s _ ⟨rfl, rfl, rfl, rfl, rfl, rfl, rfl, rfl, rfl, rfl, rfl⟩
  · exact quietFrom_setNum (by omega) fun _ _ _ => quiet_setLmcPar s _ (fun h => h) (fun h => h)
  · exact quietFrom_setNum (by omega) fun _ _ _ => quiet_setLmcPar s _ (fun h => h) (fun h => h)
  · exact quietFrom_setNum (by omega) fun _ hn _ => quiet_setLmcPar s _ (fun h => h) (fun _ => hn)
  · exact quietFrom_setNum (by omega) fun _ _ _ => .after (quiet_evalLife _ _) (.after (quiet_evalLife _ _)
      (quiet_setLmcPar s _ (fun h => h) (fun h => h)))
  · exact quietFrom_setFlag fun _ => .after (quiet_evalNoLamp _) (quiet_setLmcPar s _ (fun h => h) (fun h => h))
  · exact quietFrom_setFlag fun _ => quiet_setLmcPar s _ (fun h => h) (fun h => h)
  · exact quietFrom_setFlag fun _ => quiet_setLmcPar s _ (fun h => h) (fun h => h)
  · exact quietFrom_setTable s i v
  · exact quietFrom_setPair fun _ => hthc _
  · exact quietFrom_setPair fun _ => hthc _
  · exact quietFrom_setPair fun _ => hthc _
  · exact quietFrom_setPair fun _ => hthc _
  · exact quietFrom_setPair fun _ => hthc _
  · exact quietFrom_setPair fun _ => .after (quiet_cooldownTest _) (hthc _)
  · exact quietFrom_setNum (by omega) fun _ _ _ => .after (quiet_lowerCeiling _) (hthc _)
  · exact quietFrom_setNum (by omega) fun _ _ _ => .after (quiet_cooldownTest _) (hthc _)
  · exact quietFrom_setPair fun _ => .after (quiet_recomputeFan _) (hthc _)
  · exact quietFrom_setPair fun _ => .after (quiet_recomputeFan _) (hthc _)
  · exact quietFrom_setNum (by omega) fun _ _ _ => .after (quiet_recomputeFan _) (hthc _)
  · exact quietFrom_setNum (by omega) fun _ _ _ => hthc _
  · exact quietFrom_setFlag fun _ => quiet_setTtcPar s _ (fun h => h) rfl
  · exact quietFrom_setFlag fun _ => quiet_setTtcPar s _ (fun h => h) rfl
  · exact quietFrom_setFlag fun _ => quiet_setTtcPar s _ (fun h => h) rfl
  · exact quietFrom_setFlag fun _ => quiet_setTtcPar s _ (fun h => h) rfl
  · exact quietFrom_setTrim s v
  · exact quietFrom_setNum (by omega) fun _ _ _ => quiet_setVolume s _
  · exact quietFrom_setEnum fun _ => quiet_setSource s _
  · exact quietFrom_setFlag fun _ => quiet_setRelay s _
  · exact quietFrom_setEnum fun _ => quiet_setCudPar s _ rfl
  · exact quietFrom_setNum (by omega) fun _ _ _ => quiet_setCudPar s _ rfl
  · exact quietFrom_setNum (by omega) fun _ _ _ => quiet_setCudPar s _ rfl
  · exact quietFrom_setNum (by omega) fun _ _ _ => quiet_setChannel s _
  · exact quietFrom_setNum (by omega) fun _ _ _ => quiet_setInterval s _
  · trivial

end Sys2Proof.Machine
end

section
/-!
The link is a move (spec/09, spec/10), and with it every command and every step.
-/

namespace Sys2Proof.Machine

/-! ## Requests to AQ and by CONTROL (R2, R10, R188) -/

theorem quiet_actionOf (s : State) (a : Action) : s.Quiet (s.actionOf a).state := by
  unfold State.actionOf
  dsimp only
  split
  all_goals
    split
    · exact .refl s
    · split
      · exact quiet_enqueue s _ ‹_› (joinable_plainEntry .LINK _ (by simp))
      · exact .refl s

theorem quiet_reqAction (slot : SlotBytes) (s : State) : s.Quiet (reqAction slot s).state := by
  unfold reqAction
  split
  · exact quiet_actionOf s _
  · exact .refl s

theorem quiet_reqMode (arg : Byte) (s : State) : s.Quiet (reqMode arg s).state := by
  unfold reqMode
  split
  · exact .setAq_same s _ rfl rfl
  · exact .refl s

theorem keeps_reqPause (s : State) : s.Keeps (reqPause s).state := by
  unfold reqPause
  split
  · exact keeps_pauseSeq s
  · exact .refl s

theorem keeps_reqResume (s : State) : s.Keeps (reqResume s).state := by
  unfold reqResume
  split
  · exact keeps_resumeSeq s
  · exact .refl s

theorem keeps_reqAdvance (s : State) : s.Keeps (reqAdvance s).state := by
  unfold reqAdvance
  split
  · exact keeps_advanceSeq s
  · exact .refl s

theorem quiet_reqClearJam (s : State) : s.Quiet (reqClearJam s).state := by
  unfold reqClearJam
  split
  · exact quiet_clearJam s ‹_›
  · exact .refl s

theorem quiet_reqBlank (arg : Byte) (s : State) : s.Quiet (reqBlank arg s).state := by
  unfold reqBlank
  split
  · exact quiet_setManual s _
  · split
    · exact quiet_setManual s _
    · exact .refl s

theorem quiet_reqLamp (arg : Byte) (s : State) : s.Quiet (reqLamp arg s).state := by
  unfold reqLamp
  split
  · exact quiet_lampOff s _
  · split
    · exact quiet_ignite s
    · exact .refl s
  all_goals exact .refl s

theorem quiet_reqTape (arg : Byte) (s : State) : s.Quiet (reqTape arg s).state := by
  unfold reqTape
  split
  · split
    · exact .refl s
    · exact quiet_tape s _
  · exact .refl s

theorem quiet_reqSave (s : State) : s.Quiet (reqSave s).state := by
  unfold reqSave
  split
  · exact .refl s
  · exact quiet_beginSave s true

theorem keeps_reqControl (sub : Sub) (arg : Byte) (s : State) : s.Keeps (reqControl sub arg s).state := by
  cases sub with
  | STOP => exact keeps_stopAll s
  | PAUSE => exact keeps_reqPause s
  | RESUME => exact keeps_reqResume s
  | ADVANCE => exact keeps_reqAdvance s
  | MODE => exact (quiet_reqMode arg s).keeps
  | CLEAR_JAM => exact (quiet_reqClearJam s).keeps
  | CLEAR_MATCH => exact (quiet_clearMatch s _).keeps
  | BLANK => exact (quiet_reqBlank arg s).keeps
  | LAMP => exact (quiet_reqLamp arg s).keeps
  | STANDBY => exact keeps_standby s
  | WAKE => exact (quiet_wake s).keeps
  | TAPE => exact (quiet_reqTape arg s).keeps
  | SNAPSHOT => exact (quiet_snapshot s).keeps
  | SAVE => exact (quiet_reqSave s).keeps

/-! ## QUERY and SET (R186, R189) -/

theorem quiet_reqQuery (group page : Byte) (s : State) : s.Quiet (reqQuery group page s).state := by
  unfold reqQuery
  split
  · exact .refl s
  · split
    · exact .setLki_same s _ rfl rfl (by simp) rfl
    · split
      · exact .refl s
      · split <;> exact .refl s

theorem quiet_reqSet (param index : Byte) (value : BitVec 32) (s : State) : s.Quiet (reqSet param index value s).state := by
  have hset := quietFrom_setParam s param.toNat index.toNat value.toInt
  unfold reqSet
  cases hr : setParam s param.toNat index.toNat value.toInt with
  | done t v =>
    rw [hr] at hset
    exact hset
  | bad v => exact .refl s
  | noValue => exact .setFree s _
  | unknown => exact .refl s

/-! ## The show program (R143, R145 to R147) -/

/-- R146: WRITE into a sequencer that is not RUNNING or PAUSED; a head that ceases to be valid unloads the show. -/
theorem keeps_afterWrite (s : State) (i : Nat) (r : StepRec) (hrun : s.ssq.st ≠ .RUNNING) (hp : s.ssq.st ≠ .PAUSED) :
    s.Keeps (s.writeStep i r).afterWrite := by
  unfold State.afterWrite
  by_cases hun : (s.ssq.st = .READY ∨ s.ssq.st = .ENDED) ∧ ((s.writeStep i r).ssq.step s.ssq.head).valid = false
  · rw [if_pos (by exact hun)]
    refine .setSsq s _ (fun h => ?_) (fun h hr hs => absurd (hr hs) hp) (by simp [State.writeStep])
    obtain ⟨_, hptr, hready, _, hfrom, _, hend, hpend, _, hskip⟩ := h
    have hstop : s.ssq.follow = .stopped := by
      obtain hst | hst := hun.1
      · exact (hready (.inl hst)).2.2.2
      · exact hend (hptr (.inr hst))
    have hnone : s.ssq.pausedFrom = none := hfrom hp
    refine ⟨by simp, by simp, by simp [State.writeStep, hnone], by simp [State.writeStep, hnone],
      fun _ => hnone, by simp, fun _ => hstop, fun p h => ?_, by simp [State.writeStep, hstop], hskip⟩
    obtain hst | hst := (hpend p h).2
    · exact absurd hst hrun
    · exact absurd hst hp
  · rw [if_neg (by exact hun)]
    refine .setSsq s _ (fun h => ?_) (fun h hr => hr) (by simp)
    obtain ⟨_, hptr, hready, hpaused, hfrom, _, hend, hpend, hfollow, hskip⟩ := h
    refine ⟨fun hl => ?_, hptr, hready, hpaused, hfrom, by simp, hend, fun p h => ?_, hfollow, hskip⟩
    · have hst : s.ssq.st = .READY ∨ s.ssq.st = .ENDED := by
        cases hq : s.ssq.st <;> simp_all
      exact Bool.eq_true_of_not_eq_false (not_and.mp hun hst)
    · obtain hst | hst := (hpend p h).2
      · exact absurd hst hrun
      · exact absurd hst hp

theorem keeps_reqArm (head : Byte) (s : State) : s.Keeps (reqArm head s).state := keeps_armSeq s head.toNat

theorem keeps_reqStepWrite (index mode : Byte) (record : List Byte) (s : State) :
    s.Keeps (reqStepWrite index mode record s).state := by
  unfold reqStepWrite
  split
  · exact .refl s
  · rename_i hst
    obtain ⟨hrun, hpaused⟩ := not_or.mp hst
    split
    · exact .refl s
    · split
      · exact .refl s
      · rename_i r _
        split
        · exact keeps_afterWrite s _ r hrun hpaused
        · exact keeps_armSeqOf s _ index.toNat rfl (by simp)

/-! ## The tray, counters and notices (R28, R185, R195, R198, R199) -/

theorem getElem?_setFlags (l : List SlotRec) (first last : Nat) (v : Bool) (i : Nat) : (setFlags l first last v)[i]? =
    l[i]?.map (fun r => if first ≤ i ∧ i ≤ last ∧ i ≠ 0 then { r with blank := v } else r) := by
  simp [setFlags, List.getElem?_mapIdx]

theorem setFlags_occ (l : List SlotRec) (first last : Nat) (v : Bool) (i : Nat) :
    (setFlags l first last v)[i]?.map SlotRec.occ = l[i]?.map SlotRec.occ := by
  rw [getElem?_setFlags, Option.map_map]
  congr 1
  funext r
  dsimp only [Function.comp]
  split <;> rfl

theorem TrayInv.setFlags {s : State} (h : TrayInv s) (first last : Nat) (v : Bool) :
    TrayInv (s.setTmc { s.tmc with slots := setFlags s.tmc.slots first last v }) := by
  obtain ⟨hlen, hocc, hblank, hjams, hsize, hpark, hpos, hle, hgate⟩ := h
  refine ⟨by simpa [Machine.setFlags] using hlen, ?_, ?_, fun r hr => ?_, hsize, hpark, hpos, hle, ?_⟩
  · rw [← hocc]
    exact setFlags_occ _ _ _ _ _
  · rw [← hblank]
    simp [getElem?_setFlags]
  · simp only [State.setTmc_tmc, Machine.setFlags, List.mem_mapIdx] at hr
    obtain ⟨i, hi, rfl⟩ := hr
    have := hjams _ (List.getElem_mem hi)
    split <;> exact this
  · unfold gateOk at hgate ⊢
    dsimp only [State.setTmc_tmc]
    split
    · rename_i p hp
      rw [hp] at hgate
      rw [setFlags_occ]
      exact hgate
    all_goals trivial

theorem quiet_reqSlotFlags (first last flag : Byte) (s : State) : s.Quiet (reqSlotFlags first last flag s).state := by
  unfold reqSlotFlags
  split
  · exact .refl s
  · exact .setTmc s _ id (fun _ h => h.setFlags _ _ _) (by simp [setFlags])

theorem quiet_reqSlotRead (first count : Byte) (s : State) : s.Quiet (reqSlotRead first count s).state := by
  unfold reqSlotRead
  split <;> exact .refl s

theorem quiet_reqCountersRead (group : Byte) (s : State) : s.Quiet (reqCountersRead group s).state := by
  unfold reqCountersRead
  split <;> exact .refl s

theorem quiet_reqNoticePoll (s : State) : s.Quiet (reqNoticePoll s).state :=
  .setLki s _ (fun ⟨hlen, _⟩ => ⟨by simp; omega, rfl⟩) rfl rfl

theorem quiet_condNotices (k : NoticeKind) (l : List (Option Nat)) (s : State) :
    s.Quiet (l.foldl (fun t x => t.condNotice k true x) s) := by
  induction l generalizing s with
  | nil => exact .refl s
  | cons x l ih => exact .after (ih _) (quiet_condNotice ..)

theorem quiet_reqNoticeEnable (kind flag : Byte) (s : State) : s.Quiet (reqNoticeEnable kind flag s).state := by
  unfold reqNoticeEnable
  split
  · exact .refl s
  · rename_i k _
    split
    · exact .refl s
    · have hset : s.Quiet (s.setLki { s.lki with enables := s.lki.enables.set k.code (decide (flag = 1)) }) :=
        .setLki_same s _ rfl rfl rfl (by simp)
      exact .ite (fun _ => .after (quiet_condNotices k _ _) hset) (fun _ => hset)

/-! ## LAMP_RESET and ASSIGN (R56, R184) -/

theorem quiet_reqLampReset (pos : Byte) (s : State) : s.Quiet (reqLampReset pos s).state := by
  unfold reqLampReset
  split
  · exact .refl s
  · split
    · exact .refl s
    · exact .after (quiet_evalNoLamp _) (.after (quiet_evalLife _ _) (quiet_setLamp s _ _))

theorem quiet_reqAssign (serial : BitVec 32) (addr : Byte) (s : State) : s.Quiet (reqAssign serial addr s).state := by
  unfold reqAssign
  split
  · split
    · exact .refl s
    · split
      · exact .setLki_same s _ rfl rfl rfl rfl
      · exact .refl s
  · split <;> exact .refl s
  · exact .refl s

/-! ## UNIT_RESET (R190, R191) -/

theorem keeps_resetShow (s : State) : s.Keeps s.resetShow := by
  have harmed := Ssq.armed_loose { s.ssq with head := s.storedSettings.head, skipped := 0 } _ rfl (Nat.zero_le _)
  exact .setSsq s _ (fun _ => harmed) (fun _ _ hs => absurd hs (by simp)) rfl

theorem quiet_resetTape (s : State) : s.Quiet s.resetTape := by
  unfold State.resetTape
  cases s.ttc.st with
  | PLAY | PAUSE | FFWD | REWIND => exact quiet_setTransport s _
  | EMPTY | STOPPED => exact .refl s

theorem quiet_resetRemote (s : State) : s.Quiet s.resetRemote := .setRpd s _ (by simp)

theorem quiet_resetQueue (s : State) : s.Quiet s.resetQueue := by
  have hmode : s.Quiet (s.setAq { s.aq with mode := s.aq.startMode, stopPending := false }) := .setAq_same s _ rfl rfl
  exact .after (moves_flushReported _ coverAll false false) hmode

theorem quiet_resetMech (s : State) : s.Quiet s.resetMech := by
  have hclear : s.Quiet ((s.clearMatch s.tmc.comparePos).setTmc
      { (s.clearMatch s.tmc.comparePos).tmc with comparePos := none, clearMode := .AUTO }) :=
    .after (.setTmc_same _ _ ⟨rfl, rfl, rfl, rfl, rfl, rfl, rfl, rfl, rfl, rfl, rfl⟩) (quiet_clearMatch s _)
  exact .ite (fun hj => .after (quiet_clearJam _ hj) hclear) (fun _ => hclear)

theorem keeps_unitReset (s : State) : s.Keeps s.unitReset := by
  have hset : s.Quiet (s.setLki { s.lki with resetting := true, copies := s.lki.copies.map (fun _ => none) }) :=
    .setLki_same s _ rfl rfl (by simp) rfl
  have hlamp := State.Quiet.after (u := State.resetLampBlock _) (.setLmc_same _ _ ⟨rfl, rfl, rfl, rfl, rfl, rfl⟩) hset
  exact .after (quiet_resetEnd _).keeps (.after (keeps_runHead _) (.after (quiet_resetMech _).keeps
    (.after (quiet_resetQueue _).keeps (.after (quiet_resetRemote _).keeps (.after (quiet_resetCue _).keeps
      (.after (quiet_resetTape _).keeps (.after (keeps_resetShow _) hlamp.keeps)))))))

/-! ## Judging and answering (R180 to R182) -/

theorem keeps_applyReq (s : State) (r : Req) : s.Keeps (applyReq s r).state := by
  cases r with
  | query group page => exact (quiet_reqQuery group page s).keeps
  | set param index value => exact (quiet_reqSet param index value s).keeps
  | action slot => exact (quiet_reqAction slot s).keeps
  | control sub arg =>
    unfold applyReq
    dsimp only
    split
    · exact keeps_reqControl _ arg s
    · exact .refl s
  | stepWrite index mode record => exact keeps_reqStepWrite index mode record s
  | stepRead index => exact .refl s
  | arm head => exact keeps_reqArm head s
  | slotFlags first last flag => exact (quiet_reqSlotFlags first last flag s).keeps
  | slotRead first count => exact (quiet_reqSlotRead first count s).keeps
  | countersRead group => exact (quiet_reqCountersRead group s).keeps
  | noticePoll => exact (quiet_reqNoticePoll s).keeps
  | noticeEnable kind flag => exact (quiet_reqNoticeEnable kind flag s).keeps
  | lampReset pos => exact (quiet_reqLampReset pos s).keeps
  | unitReset => exact keeps_unitReset s
  | assign serial addr => exact (quiet_reqAssign serial addr s).keeps

theorem keeps_judge (s : State) (broadcast : Bool) (r : Option Req) : s.Keeps (judge s broadcast r).state := by
  unfold judge
  split
  · exact .refl s
  · split
    · exact .refl s
    · split
      · exact .refl s
      · split
        · exact .refl s
        · exact keeps_applyReq s _

theorem quiet_counted (a : Answer) : a.state.Quiet a.counted := by
  unfold Answer.counted
  split
  · exact .refl _
  · exact .refl _
  · exact quiet_count ..

theorem quiet_respond (s : State) (own kind dest : Byte) (a : Answer) : s.Quiet (s.respond own kind dest a) :=
  .setLki_same s _ rfl rfl rfl rfl

theorem keeps_takeRequest (s : State) (h : LinkHdr) (kind : Byte) (r : Option Req) : s.Keeps (s.takeRequest h kind r) := by
  unfold State.takeRequest
  split
  · exact .refl s
  · exact .after (quiet_counted _).keeps (keeps_judge s true r)
  · exact .after (quiet_respond _ _ _ _ _).keeps (.after (quiet_counted _).keeps (keeps_judge s false r))

theorem quiet_withhold (s : State) : s.Quiet s.withhold := by
  unfold State.withhold
  split
  · exact .setLki_same s _ rfl rfl rfl rfl
  all_goals exact .refl s

theorem keeps_request (h : LinkHdr) (r : Req) (s : State) : s.Keeps (request h r s) :=
  .ite (fun _ => .refl s) (fun _ => .after (keeps_takeRequest _ _ _ _) (quiet_withhold s).keeps)

theorem keeps_requestStepWrite (h : LinkHdr) (index mode : Byte) (record : List Byte) (s : State) :
    s.Keeps (requestStepWrite h index mode record s) :=
  .ite (fun _ => .refl s) (fun _ => .after (keeps_takeRequest _ _ _ _) (quiet_withhold s).keeps)

/-! ## Reception of bytes and responses (R179, R181) -/

theorem quiet_setRx (s : State) (x : Option LinkRx) : s.Quiet (s.setLki { s.lki with rx := x }) :=
  .setLki_same s _ rfl rfl rfl rfl

theorem quiet_abandon (s : State) : s.Quiet s.abandon := .after (quiet_count ..) (quiet_setRx s none)

theorem keeps_frameEnds (s : State) (l : List Byte) : s.Keeps (s.frameEnds l) :=
  .ite (fun _ => .after (keeps_takeRequest _ _ _ _) (State.Quiet.after (quiet_count ..) (quiet_setRx s none)).keeps)
    (fun _ => (quiet_abandon s).keeps)

theorem keeps_nextByte (s : State) (before : List Byte) (b : Byte) : s.Keeps (s.nextByte before b) :=
  .ite (fun _ => (quiet_abandon s).keeps) (fun _ => .ite (fun _ => keeps_frameEnds s _) (fun _ => (quiet_setRx s _).keeps))

theorem keeps_receive (s : State) (b : Byte) (damaged : Bool) : s.Keeps (s.receive b damaged) := by
  unfold State.receive
  split
  · exact .ite (fun _ => .refl s) (fun _ => (quiet_setRx s _).keeps)
  · exact .ite (fun _ => (quiet_abandon s).keeps) (fun _ => keeps_nextByte s _ b)

theorem keeps_linkByte (b : Byte) (damaged : Bool) (s : State) : s.Keeps (linkByte b damaged s) :=
  .ite (fun _ => .refl s) (fun _ => .ite
    (fun _ => .after (keeps_receive _ b damaged) (State.Quiet.after (quiet_abandon _) (quiet_withhold s)).keeps)
    (fun _ => .after (keeps_receive _ b damaged) (quiet_withhold s).keeps))

theorem quiet_linkByteGapExpiry (s : State) : s.Quiet (linkByteGapExpiry s) := quiet_whenDue s _ _ fun _ _ => quiet_abandon _

theorem quiet_responseStart (s : State) : s.Quiet (responseStart s) := by
  unfold responseStart
  split
  · rename_i r since _
    refine .ite (fun _ => .refl s) (fun _ => .after ?_ (quiet_reach s (since + responseTime)))
    exact .setLki_same (s.reach (since + responseTime)) _ rfl rfl rfl rfl
  all_goals exact .refl s

theorem quiet_responseEnd (s : State) : s.Quiet (responseEnd s) := by
  unfold responseEnd
  split
  · exact .setLki_same s _ rfl rfl rfl rfl
  all_goals exact .refl s

end Sys2Proof.Machine
end

section
/-!
Every command is a move, and so is every step: what the safety predicates say is kept (Safety.lean).
-/

namespace Sys2Proof.Machine

/-- What a command makes of `s`: power is applied or lost, or it does an operation that is a move and leaves the commands
that wait as they are. -/
inductive Commanded (s : State) : Instr → Host.Outcome State Fault Refusal → Prop
  | power (l : PowerOnLines) : Commanded s (.powerOn l) (.next (powerOn l s))
  | loss : Commanded s .powerLoss (.next (powerLoss s))
  | taken {c : Instr} (dt : Nat) (f : State → State) (hf : ∀ u, State.Keeps u (f u))
      (hp : ∀ u, (f u).pending = u.pending := by simp) : Commanded s c (.next (s.take dt f))

theorem exec_commanded (i : Instr) (s : State) : Commanded s i (exec i s) := by
  cases i with
  | powerOn lines => exact .power lines
  | powerLoss => exact .loss
  | linkByte dt b damaged => exact .taken dt _ (keeps_linkByte b damaged)
  | linkByteGapExpiry dt => exact .taken dt _ (fun u => (quiet_linkByteGapExpiry u).keeps)
  | responseStart dt => exact .taken dt _ (fun u => (quiet_responseStart u).keeps)
  | responseEnd dt => exact .taken dt _ (fun u => (quiet_responseEnd u).keeps)
  | query dt h group page => exact .taken dt _ (keeps_request h (.query group page))
  | set dt h param index value => exact .taken dt _ (keeps_request h (.set param index value))
  | action dt h slot => exact .taken dt _ (keeps_request h (.action slot))
  | controlStop dt h arg => exact .taken dt _ (keeps_request h (.control Sub.STOP.code arg))
  | controlPause dt h arg => exact .taken dt _ (keeps_request h (.control Sub.PAUSE.code arg))
  | controlResume dt h arg => exact .taken dt _ (keeps_request h (.control Sub.RESUME.code arg))
  | controlAdvance dt h arg => exact .taken dt _ (keeps_request h (.control Sub.ADVANCE.code arg))
  | controlMode dt h arg => exact .taken dt _ (keeps_request h (.control Sub.MODE.code arg))
  | controlClearJam dt h arg => exact .taken dt _ (keeps_request h (.control Sub.CLEAR_JAM.code arg))
  | controlClearMatch dt h arg => exact .taken dt _ (keeps_request h (.control Sub.CLEAR_MATCH.code arg))
  | controlBlank dt h arg => exact .taken dt _ (keeps_request h (.control Sub.BLANK.code arg))
  | controlLamp dt h arg => exact .taken dt _ (keeps_request h (.control Sub.LAMP.code arg))
  | controlStandby dt h arg => exact .taken dt _ (keeps_request h (.control Sub.STANDBY.code arg))
  | controlWake dt h arg => exact .taken dt _ (keeps_request h (.control Sub.WAKE.code arg))
  | controlTape dt h arg => exact .taken dt _ (keeps_request h (.control Sub.TAPE.code arg))
  | controlSnapshot dt h arg => exact .taken dt _ (keeps_request h (.control Sub.SNAPSHOT.code arg))
  | controlSave dt h arg => exact .taken dt _ (keeps_request h (.control Sub.SAVE.code arg))
  | stepWrite dt h index mode record => exact .taken dt _ (keeps_requestStepWrite h index mode record)
  | stepRead dt h index => exact .taken dt _ (keeps_request h (.stepRead index))
  | arm dt h head => exact .taken dt _ (keeps_request h (.arm head))
  | slotFlags dt h first last flag => exact .taken dt _ (keeps_request h (.slotFlags first last flag))
  | slotRead dt h first count => exact .taken dt _ (keeps_request h (.slotRead first count))
  | countersRead dt h group => exact .taken dt _ (keeps_request h (.countersRead group))
  | noticePoll dt h => exact .taken dt _ (keeps_request h .noticePoll)
  | noticeEnable dt h kind flag => exact .taken dt _ (keeps_request h (.noticeEnable kind flag))
  | lampReset dt h pos => exact .taken dt _ (keeps_request h (.lampReset pos))
  | unitReset dt h => exact .taken dt _ (keeps_request h .unitReset)
  | assign dt h serial addr => exact .taken dt _ (keeps_request h (.assign serial addr))
  | resettingEnd dt => exact .taken dt _ (fun u => (quiet_resetEnd u).keeps)
  | remoteFrame dt line bits => exact .taken dt _ (keeps_remoteFrame line bits)
  | remoteMalformed dt line times => exact .taken dt _ (keeps_remoteMalformed line times)
  | remoteReleaseExpiry dt line => exact .taken dt _ (fun u => (quiet_remoteReleaseExpiry line u).keeps)
  | panelLineChange dt key closed => exact .taken dt _ (fun u => (quiet_panelLineChange key closed u).keeps)
  | panelDebounceExpiry dt key => exact .taken dt _ (keeps_panelDebounceExpiry key)
  | panelRepeatStep dt key => exact .taken dt _ (keeps_panelRepeatStep key)
  | panelModeHold dt => exact .taken dt _ (fun u => (quiet_panelModeHold u).keeps)
  | panelStopHold dt => exact .taken dt _ (fun u => (quiet_panelStopHold u).keeps)
  | panelPowerHold dt => exact .taken dt _ keeps_panelPowerHold
  | holdExpiry dt => exact .taken dt _ (fun u => (quiet_holdExpiry u).keeps)
  | pacingRunOut dt => exact .taken dt _ (fun u => (quiet_pacingRunOut u).keeps)
  | trayInsertion dt => exact .taken dt _ (fun u => (quiet_trayInsertion u).keeps)
  | trayQualifyExpiry dt code => exact .taken dt _ (fun u => (quiet_trayQualifyExpiry code u).keeps)
  | trayRemoval dt => exact .taken dt _ keeps_trayRemoval
  | tDarkExpiry dt m => exact .taken dt _ (fun u => (quiet_tDarkExpiry m u).keeps)
  | lifterUpConfirm dt m => exact .taken dt _ (fun u => (quiet_lifterUpConfirm m u).keeps)
  | liftTimerExpiry dt => exact .taken dt _ keeps_liftTimerExpiry
  | dropTimerExpiry dt => exact .taken dt _ keeps_dropTimerExpiry
  | retryPauseExpiry dt m => exact .taken dt _ (fun u => (quiet_retryPauseExpiry m u).keeps)
  | indexPulse dt m => exact .taken dt _ (keeps_indexPulse m)
  | indexWaitExpiry dt => exact .taken dt _ keeps_indexWaitExpiry
  | lifterDownConfirm dt m => exact .taken dt _ (fun u => (quiet_lifterDownConfirm m u).keeps)
  | settleExpiry dt => exact .taken dt _ keeps_settleExpiry
  | lampUpdate dt low => exact .taken dt _ (fun u => (quiet_lampUpdate low u).keeps)
  | lampFailure dt => exact .taken dt _ (fun u => (quiet_lampFailure u).keeps)
  | changerMotionEnd dt low => exact .taken dt _ (fun u => (quiet_changerMotionEnd low u).keeps)
  | ignitionComplete dt low => exact .taken dt _ (fun u => (quiet_ignitionComplete low u).keeps)
  | rampEnd dt low => exact .taken dt _ (fun u => (quiet_rampEnd low u).keeps)
  | litSecond dt low => exact .taken dt _ (fun u => (quiet_litSecond low u).keeps)
  | lampPresentChange dt pos present => exact .taken dt _ (fun u => (quiet_lampPresentChange pos present u).keeps)
  | temperatureSample dt good reading => exact .taken dt _ (fun u => (quiet_temperatureSample good reading u).keeps)
  | sensorLossTimerExpiry dt => exact .taken dt _ (fun u => (quiet_sensorLossTimerExpiry u).keeps)
  | lossTime30s dt => exact .taken dt _ (fun u => (quiet_lossTime30s u).keeps)
  | tCoolExpiry dt => exact .taken dt _ (fun u => (quiet_tCoolExpiry u).keeps)
  | fanKickExpiry dt => exact .taken dt _ (fun u => (quiet_fanKickExpiry u).keeps)
  | fanTachPulse dt => exact .taken dt _ (fun u => (quiet_fanTachPulse u).keeps)
  | tachWindowEnd dt => exact .taken dt _ (fun u => (quiet_tachWindowEnd u).keeps)
  | cassettePresentChange dt present => exact .taken dt _ (fun u => (quiet_cassettePresentChange present u).keeps)
  | fgPulse dt => exact .taken dt _ (fun u => (quiet_fgPulse u).keeps)
  | fgTimerExpiry dt => exact .taken dt _ (fun u => (quiet_fgTimerExpiry u).keeps)
  | reelPulse dt reel => exact .taken dt _ (fun u => (quiet_reelPulse reel u).keeps)
  | takeUpReelTimerExpiry dt => exact .taken dt _ (fun u => (quiet_takeUpReelTimerExpiry u).keeps)
  | supplyReelTimerExpiry dt => exact .taken dt _ keeps_supplyReelTimerExpiry
  | unlockTimer300ms dt => exact .taken dt _ (fun u => (quiet_unlockTimer300ms u).keeps)
  | volumeStep dt => exact .taken dt _ (fun u => (quiet_volumeStep u).keeps)
  | i2sFrame dt left right => exact .taken dt _ (fun u => (quiet_i2sFrame left right u).keeps)
  | carrierDetect dt gap => exact .taken dt _ (keeps_carrierDetect gap)
  | carrierTimerExpiry dt => exact .taken dt _ (fun u => (quiet_carrierTimerExpiry u).keeps)
  | cueFrame dt cells => exact .taken dt _ (keeps_cueFrame cells)
  | degradeWindowClose dt cells => exact .taken dt _ (keeps_degradeWindowClose cells)
  | speedOffTimerExpiry dt => exact .taken dt _ (fun u => (quiet_speedOffTimerExpiry u).keeps)
  | regenSlot dt => exact .taken dt _ (fun u => (quiet_regenSlot u).keeps)
  | followExpiry dt => exact .taken dt _ keeps_followExpiry
  | followDueCheck dt => exact .taken dt _ keeps_followDueCheck
  | saveEnd dt => exact .taken dt _ (fun u => (quiet_saveEnd u).keeps)
  | litTimerExpiry dt => exact .taken dt _ (fun u => (quiet_litTimerExpiry u).keeps)
  | snapshotTimerExpiry dt => exact .taken dt _ (fun u => (quiet_snapshotTimerExpiry u).keeps)
  | cueInputEdge dt => exact .taken dt _ keeps_edge

theorem keeps_take (s : State) (dt : Nat) (f : State → State) (hf : ∀ u, State.Keeps u (f u)) : s.Keeps (s.take dt f) :=
  .ite (fun _ => .after (quiet_refresh _).keeps (.after (keeps_runHead _) (.after (hf _) (quiet_advance s dt).keeps)))
    (fun _ => .refl s)

theorem exec_keeps {i : Instr} {s t : State} (h : exec i s = .next t) : s.Keeps t := by
  have hc := exec_commanded i s
  rw [h] at hc
  cases hc with
  | power l => exact keeps_powerOn l s
  | loss => exact keeps_powerLoss s
  | taken dt f hf _ => exact keeps_take s dt f hf

/-- Every step is a move. -/
theorem step_keeps {s t : State} (h : step s = .next t) : s.Keeps t := by
  unfold step at h
  split at h
  · obtain rfl : s = t := by simpa using h
    exact .refl s
  · have hk := exec_keeps h
    exact ⟨hk.notice, hk.lamp, hk.mech, hk.tray, hk.seq, hk.remembered, hk.queue, hk.cue, hk.shape⟩

/-! ## Every command is answered (section 1) -/

theorem powerOn_pending (l : PowerOnLines) (s : State) : (powerOn l s).pending = s.pending := by
  unfold powerOn powerOnBase
  dsimp only
  split <;> split <;> simp

theorem take_pending (s : State) (dt : Nat) (f : State → State) (hf : ∀ u, (f u).pending = u.pending) :
    (s.take dt f).pending = s.pending := by
  unfold State.take
  split
  · simp [hf]
  · rfl

/-- Settles O2. -/
theorem everyCommandCompletesAndKeepsTheQueue : Obligations.EveryCommandCompletesAndKeepsTheQueue := by
  intro c s
  have hc := exec_commanded c s
  cases hr : exec c s with
  | next t =>
    rw [hr] at hc
    refine ⟨t, rfl, ?_⟩
    cases hc with
    | power l => exact powerOn_pending l s
    | loss => rfl
    | taken dt f _ hp => exact take_pending s dt f hp
  | fault r => cases r
  | refused r =>
    rw [hr] at hc
    cases hc

/-- Settles O1. -/
theorem stepTakesTheFrontCommand : Obligations.StepTakesTheFrontCommand := by
  refine ⟨fun _ _ _ => rfl, fun s h => ?_⟩
  unfold step
  rw [h]

/-- Settles O3. -/
theorem powerLossStopsThePart : Obligations.PowerLossStopsThePart := by
  refine ⟨fun _ => rfl, fun c s hp hc => ?_⟩
  have hr := exec_commanded c s
  generalize exec c s = r at hr ⊢
  cases hr with
  | power l => exact absurd rfl (hc l)
  | loss =>
    change Host.Outcome.next { s with powered := false } = _
    rw [← hp]
  | taken dt f => rw [take_unpowered s dt f hp]

/-! ## The outputs (R96, R112) -/

theorem refresh_output (s : State) : OutputInv s.refresh := ⟨rfl, rfl⟩

theorem take_output (s : State) (dt : Nat) (f : State → State) (h : OutputInv s) : OutputInv (s.take dt f) := by
  unfold State.take
  split
  · exact refresh_output _
  · exact h

theorem step_output {s t : State} (ho : OutputInv s) (h : step s = .next t) : OutputInv t := by
  unfold step at h
  split at h
  · obtain rfl : s = t := by simpa using h
    exact ho
  · rename_i c rest _
    have hc := exec_commanded c (s.setPending rest)
    rw [h] at hc
    cases hc with
    | power l => exact refresh_output _
    | loss => exact ho
    | taken dt f _ _ => exact take_output _ dt f ho

/-! ## What is kept -/

/-- Settles O53: every step is a move, and every command of a part with supply ends with the outputs refreshed. -/
theorem outputsAndNoticesAreKept : Obligations.OutputsAndNoticesAreKept :=
  ⟨fun _ _ hn h => (step_keeps h).notice hn, fun _ _ ho h => step_output ho h⟩

/-- Settles O54. -/
theorem lampSafetyIsKept : Obligations.LampSafetyIsKept := fun _ _ hl h => (step_keeps h).lamp hl

/-- Settles O55: a drive is on only while a timer runs in a cycle, from which the dark output level and MECH follow. -/
theorem noMotionInTheLight : Obligations.NoMotionInTheLight := by
  refine ⟨fun _ _ hm h => (step_keeps h).mech hm, fun s hm hd => ?_⟩
  obtain ⟨hmech, hphase, hdark, _⟩ := hm
  obtain ⟨htimer, hmov⟩ := Tmc.inPhase_driven hphase hd
  refine ⟨hdark htimer, hmov, ?_⟩
  rw [hmech]
  simp only [decide_eq_true_eq]
  intro hi
  simp [hi, MechState.moving] at hmov

/-- Settles O56. -/
theorem trayRecordsAreKept : Obligations.TrayRecordsAreKept := fun _ _ hm hs ht h => (step_keeps h).tray hm hs ht

/-- Settles O57: the invariant in two parts, the remembered cue apart from the rest. -/
theorem sequencerStatesAreKept : Obligations.SequencerStatesAreKept := by
  intro s t hq h
  obtain ⟨hl, hr⟩ := (seqInv_iff _).mp hq
  have hk := step_keeps h
  exact (seqInv_iff _).mpr ⟨hk.seq hl, hk.remembered hl hr⟩

/-- Settles O58. -/
theorem actionQueueIsKept : Obligations.ActionQueueIsKept :=
  fun _ _ hq hu h => (step_keeps h).queue ((seqInv_iff _).mp hq).1 hu

/-- Settles O59. -/
theorem cueTrackIsKept : Obligations.CueTrackIsKept := fun _ _ hc h => (step_keeps h).cue hc

/-- Settles O60. -/
theorem shapesAndRangesAreKept : Obligations.ShapesAndRangesAreKept := fun _ _ hs h => (step_keeps h).shape hs

end Sys2Proof.Machine
end

section
/-!
Power-on (R49, R80, R99, R116, R204), the state after reset, and what the runner leaves as it is (R11 to R17).
-/

namespace Sys2Proof.Machine

/-- Log 9: the lines with which the state after reset is made. -/
def resetLines : PowerOnLines :=
  { trayPresent := false, trayCode := .absent, lampA := true, lampB := true, cassette := false, panelClosed := [],
    straps := 1 }

/-- R27: the slot table of `n` positions above the gate's own, with no blank flag stored. -/
theorem slots_at_power (n : Nat) :
    (List.replicate (n + 1) false).mapIdx (fun i b =>
      ({ occ := if i = 0 then .EMPTY else .UNKNOWN, jams := 0, blank := b && i != 0 } : SlotRec)) =
    { occ := .EMPTY, jams := 0, blank := false } :: List.replicate n { occ := .UNKNOWN, jams := 0, blank := false } := by
  rw [List.replicate_succ, List.mapIdx_cons]
  refine congrArg₂ _ rfl (List.eq_replicate_iff.mpr ⟨by simp, fun r hr => ?_⟩)
  obtain ⟨i, hi, rfl⟩ := List.mem_mapIdx.mp hr
  simp

theorem powerTmc_slots (x : Settings) (l : PowerOnLines) : (powerTmc x l).slots = x.flags.mapIdx (fun i b =>
    { occ := if i = 0 then .EMPTY else .UNKNOWN, jams := 0, blank := b && i != 0 }) := rfl

theorem powerTmc_eq (x : Settings) (l : PowerOnLines) (slots : List SlotRec) (h : (powerTmc x l).slots = slots) :
    powerTmc x l = { resetTmc with
      st := if (traySizeAt l).isSome then .HOMING else .PARKED, phase := if (traySizeAt l).isSome then some .DARKEN else none
      trayPresent := l.trayPresent, size := traySizeAt l, slots := slots, par := x.tmc } := by
  rw [← h]
  rfl

theorem powerTmc_reset : powerTmc factory resetLines = resetTmc := by
  have hflags : factory.flags = List.replicate (120 + 1) false := rfl
  have hslots : (powerTmc factory resetLines).slots = resetSlots := by
    rw [powerTmc_slots, hflags]
    exact slots_at_power 120
  rw [powerTmc_eq _ _ _ hslots]
  rfl

theorem powerOnBase_reset : powerOnBase resetLines State.reset = State.reset := by
  have hloaded : State.reset.sts.loaded = factory := rfl
  have hlmc : powerLmc factory resetLines = resetLmc := rfl
  have hssq : powerSsq factory = resetSsq := rfl
  have hrpd : powerRpd factory resetLines = resetRpd := rfl
  unfold powerOnBase
  dsimp only
  rw [hloaded, powerTmc_reset, hlmc, hssq, hrpd]
  rfl

theorem powerOn_reset : powerOn resetLines State.reset = State.reset := by
  unfold powerOn
  rw [powerOnBase_reset]
  rfl

/-- Settles O4: the state after reset is the power-on with the record in factory defaults, which meets the invariants. -/
theorem resetIsAPowerOnAndMeetsTheInvariants : Obligations.ResetIsAPowerOnAndMeetsTheInvariants := by
  have hrecord : State.reset.sts.record.ok := factory_ok
  have hseq : SeqInv (powerOnBase resetLines State.reset).ssq :=
    (seqInv_iff _).mpr ⟨powerSsq_loose _, powerSsq_remembered _⟩
  have hout : OutputInv (powerOn resetLines State.reset) := refresh_output _
  have hqueue := powerOnBase_queue resetLines State.reset
  have hnotice := powerOnBase_notice resetLines State.reset
  have hlamp := powerOnBase_lamp resetLines State.reset
  have hmech := powerOnBase_mech resetLines State.reset
  have htray := powerOnBase_tray resetLines State.reset hrecord
  have hcue := powerOnBase_cue resetLines State.reset
  have hshape := powerOnBase_shape resetLines State.reset hrecord
  rw [powerOnBase_reset] at hqueue hnotice hlamp hmech htray hseq hcue hshape
  rw [powerOn_reset] at hout
  refine ⟨?_, hqueue, hnotice, hlamp, hmech, htray, hseq, hout, hcue, hshape⟩
  change Host.Outcome.next (powerOn resetLines State.reset) = _
  rw [powerOn_reset]

/-- Settles O7. -/
theorem runnerWaitsAndKeeps : Obligations.RunnerWaitsAndKeeps := by
  refine ⟨fun s r h => ?_, fun s => by simp⟩
  simp only [State.finish, State.runHead, runnerFuel, State.settle, h]

end Sys2Proof.Machine
end

section
/-!
How a command reaches its rule: a part with supply takes it, a timer that runs is taken when it is due, an addressed request
is answered by its owner (R180 to R182). Then the ACTION (R10), the slots (R28) and the jam (R44, R48).
-/

namespace Sys2Proof.Machine

/-! ## Commands -/

@[simp] theorem advance_now (s : State) (dt : Nat) : (s.advance dt).now = s.now + dt := rfl

@[simp] theorem reach_now (s : State) (due : Nat) : (s.reach due).now = max s.now due := rfl

/-- A part with supply does the command after the time that passed. -/
theorem next_take {s u : State} {dt : Nat} {f : State → State} (hp : s.powered = true) (h : f (s.advance dt) = u) :
    (Host.Outcome.next (s.take dt f) : Host.Outcome State Fault Refusal) = .next u.finish := by
  rw [take_powered s dt f hp, h]

/-! ## Requests (R180 to R182) -/

/-- R181: an addressed request as its owner finds it: the time has passed, and no response is pending. -/
def State.asked (s : State) (dt : Nat) : State := (s.advance dt).setLki { s.lki with resp := .NONE }

/-- R182: a request that its owner takes is answered with the status and the contents that it gives. -/
theorem next_request {s : State} {dt : Nat} {h : LinkHdr} {r : Req} (ha : s.addressed h)
    (hm : r.misaddressed false = false) (hl : (s.sts.save.isSome && r.locked) = false) {a : Answer}
    (hr : applyReq (s.asked dt) r = a) {k : Byte} (hk : r.code + 0x80 = k) :
    (Host.Outcome.next (s.take dt (request h r)) : Host.Outcome State Fault Refusal) =
      .next (a.counted.answered h k a.status a.body).finish := by
  refine next_take ha.1 ?_
  rw [request_addressed s h dt r ha hm hl, respond_answered _ _ _ _ _ k hk, ← hr]
  rfl

/-- R182: a request that its owner refuses is counted, and answered with the status alone. -/
theorem next_refused {s : State} {dt : Nat} {h : LinkHdr} {r : Req} {x : Status} (ha : s.addressed h)
    (hm : r.misaddressed false = false) (hl : (s.sts.save.isSome && r.locked) = false)
    (hr : applyReq (s.asked dt) r = deny (s.asked dt) x) {k : Byte} (hk : r.code + 0x80 = k) (hd : x ≠ .DONE)
    (hac : x ≠ .ACCEPTED) :
    (Host.Outcome.next (s.take dt (request h r)) : Host.Outcome State Fault Refusal) =
      .next (((s.advance dt).count .linkRefused).answered h k x []).finish := by
  rw [next_request ha hm hl hr hk, counted_deny _ _ hd hac]
  rfl

/-- R188: the answer to a CONTROL is that of its sub-operation. -/
theorem next_control {s : State} {dt : Nat} {h : LinkHdr} {x : Sub} {arg : Byte} (ha : s.addressed h) {a : Answer}
    (hr : reqControl x arg (s.asked dt) = a) :
    (Host.Outcome.next (s.take dt (request h (.control x.code arg))) : Host.Outcome State Fault Refusal) =
      .next (a.counted.answered h 0x84 a.status a.body).finish :=
  next_request ha rfl (by simp [Req.locked]) ((applyReq_control_code _ x arg).trans hr) rfl

theorem next_control_refused {s : State} {dt : Nat} {h : LinkHdr} {x : Sub} {arg : Byte} {y : Status}
    (ha : s.addressed h) (hr : reqControl x arg (s.asked dt) = deny (s.asked dt) y) (hd : y ≠ .DONE)
    (hac : y ≠ .ACCEPTED) :
    (Host.Outcome.next (s.take dt (request h (.control x.code arg))) : Host.Outcome State Fault Refusal) =
      .next (((s.advance dt).count .linkRefused).answered h 0x84 y []).finish :=
  next_refused ha rfl (by simp [Req.locked]) ((applyReq_control_code _ x arg).trans hr) rfl hd hac

/-! ## ACTION (R10) -/

theorem asked_room {s : State} (dt : Nat) (hr : s.lki.resetting = false) : (s.asked dt).room = 12 - s.aq.queue.length := by
  simp [State.asked, State.room, hr, queuePlaces]

theorem decodeSlot_unknown (slot : SlotBytes) (h : slot.kind.toNat = 0 ∨ 0x0B < slot.kind.toNat) : decodeSlot slot = none := by
  unfold decodeSlot
  split
  case h_12 => rfl
  all_goals omega

theorem word2_le (hi lo : Byte) : word2 hi lo ≤ 65535 := by
  have h1 := hi.isLt
  have h2 := lo.isLt
  unfold word2
  omega

/-- R10: what of an ACTION's parameters can be out of its range: the target of a FADE and of a VOLUME. -/
def Action.heldAction (a : Action) : Action :=
  match a with
  | .FADE target time curve wait => .FADE (min target 1000) time curve wait
  | .VOLUME v => .VOLUME (min v 63)
  | a => a

theorem hold_of_decodeSlot {slot : SlotBytes} {a : Action} (h : decodeSlot slot = some a) : a.hold = a.heldAction := by
  have hbyte := slot.b3.isLt
  have hword := word2_le slot.b1 slot.b2
  unfold decodeSlot at h
  split at h
  · obtain rfl := Option.some.inj h
    simp only [Action.hold, Action.heldAction]
    rw [Nat.min_eq_left (b := 255) (by omega)]
  case h_5 =>
    obtain rfl := Option.some.inj h
    simp only [Action.hold, Action.heldAction]
    rw [Nat.min_eq_left hword]
  all_goals simp_all [Action.hold]
  all_goals
    subst h
    rfl

/-- R10: the SEEK of an ACTION is within the tray. -/
def Action.seekIn (a : Action) (size : Nat) : Prop := ∀ p, a = .SEEK p → p ≤ size

theorem actionOf_taken {s : State} {a : Action} (ha : a.seekIn s.tmc.trayS) (hr : 1 ≤ s.room) :
    s.actionOf a = { state := s.enqueue [plainEntry .LINK a.hold], status := .ACCEPTED, body := [] } := by
  unfold State.actionOf
  cases a <;> simp [hr]
  exact fun hp => absurd (ha _ rfl) (by omega)

theorem actionOf_full {s : State} {a : Action} (ha : a.seekIn s.tmc.trayS) (hr : s.room = 0) :
    s.actionOf a = deny s .QUEUE_FULL := by
  unfold State.actionOf
  cases a <;> simp [hr]
  exact fun hp => absurd (ha _ rfl) (by omega)

theorem actionOf_outside {s : State} {p : Nat} (h : s.tmc.trayS < p) : s.actionOf (.SEEK p) = deny s .BAD_VALUE := by
  simp [State.actionOf, h]

/-- Settles O9: by what the slot decodes to, and by the room. -/
theorem actionIsQueuedOrRefused : Obligations.ActionIsQueuedOrRefused := by
  intro dt h slot s ha
  have hres : s.lki.resetting = false := ha.2.2.1
  have hroom := asked_room dt hres
  refine ⟨fun a hs hpos hq => ?taken, fun a hs hpos hq => ?full, fun p hs hp => ?outside, fun hk => ?unknown⟩
  case taken =>
    have hact : reqAction slot (s.asked dt) = (s.asked dt).actionOf a := by rw [reqAction, hs]
    rw [actionOf_taken (s := s.asked dt) hpos (by omega), hold_of_decodeSlot hs] at hact
    exact next_request (r := .action slot) ha rfl (by simp [Req.locked]) hact rfl
  all_goals refine next_refused ha rfl (by simp [Req.locked]) ?_ rfl (by simp) (by simp)
  case full =>
    change reqAction slot _ = _
    rw [reqAction, hs]
    exact actionOf_full hpos (by omega)
  case outside =>
    change reqAction slot _ = _
    rw [reqAction, hs]
    exact actionOf_outside hp
  case unknown =>
    change reqAction slot _ = _
    rw [reqAction, decodeSlot_unknown slot hk]

end Sys2Proof.Machine
end

section
/-!
The tray mechanism (spec/02): its phases by their timers and sensors, an index pulse, a jam cleared, the slots.
-/

namespace Sys2Proof.Machine

/-! ## Slot compare and the phases (R31 to R37, R47, R48) -/

/-- R48: SLOT_MATCH is off, whatever it was. -/
theorem clearMatch_tmc (s : State) (x : Option Nat) : (s.clearMatch x).tmc = { s.tmc with slotMatch := false } := by
  unfold State.clearMatch
  split
  · simp
  · rename_i h
    have hoff : s.tmc.slotMatch = false := by simpa using h
    rw [← hoff]

/-- R31, R48: what of the mechanism a LIFT that begins leaves: SLOT_MATCH is cleared in AUTO, the lifter is driven up. -/
def State.lifting (s : State) : Tmc :=
  { s.tmc with
    slotMatch := s.tmc.slotMatch && decide (s.tmc.clearMode ≠ .AUTO), phase := some .LIFT, lifter := .up
    timer := some (.lift, s.now + 400000) }

/-- R32: LIFT runs until its sensor confirms. -/
theorem beginLift_waits (s : State) (m : MechSense) (h : m.lifterUp = false) : (s.beginLift m).tmc = s.lifting := by
  unfold State.beginLift State.lifting
  by_cases hc : s.tmc.clearMode = .AUTO
  · simp [h, hc, clearMatch_tmc, liftTime, msec]
  · simp [h, hc, liftTime, msec]

/-- R32: a sensor that confirms already ends LIFT at once. -/
theorem beginLift_ends (s : State) (m : MechSense) (h : m.lifterUp = true) :
    ∃ u : State, u.tmc = s.lifting ∧ s.beginLift m = u.liftEnds m := by
  refine ⟨_, ?_, if_pos h⟩
  unfold State.lifting
  by_cases hc : s.tmc.clearMode = .AUTO
  · simp [hc, clearMatch_tmc, liftTime, msec]
  · simp [hc, liftTime, msec]

/-- R32: the registers as LIFT has ended and the cycle goes on in phase `p`, the tray driven. -/
def State.drivenOn (s : State) (p : Phase) (d : Dir) (t : Tmc) : State :=
  s.setTmc { t with gate := .EMPTY, steps := 0, phase := some p, trayDrive := some d
                    timer := some (.indexWait, s.now + 600000) }

theorem liftEnds_changing (s : State) (m : MechSense) (h : s.tmc.st = .CHANGING) :
    s.liftEnds m = s.drivenOn .STEP s.tmc.dir s.tmc := by
  simp [State.liftEnds, h, State.driveTray, State.drivenOn, indexTime, msec]

theorem liftEnds_seeking (s : State) (m : MechSense) (h : s.tmc.st = .SEEKING) (ht : s.tmc.truncated = false)
    (hd : 0 < s.tmc.distance) : s.liftEnds m = s.drivenOn .ROTATE s.tmc.dir s.tmc := by
  have hd' : s.tmc.distance ≠ 0 := by omega
  simp [State.liftEnds, h, ht, hd', State.driveTray, State.drivenOn, indexTime, msec]

theorem liftEnds_searching (s : State) (m : MechSense) (h : s.tmc.st = .HOMING) (hm : m.homeMark = false) :
    s.liftEnds m = s.drivenOn .SEARCH .forward { s.tmc with pos := none } := by
  simp [State.liftEnds, h, hm, State.driveTray, State.drivenOn, indexTime, msec]

/-- R36: the registers as DROP begins. -/
def State.dropping (s : State) (t : Tmc) : State :=
  s.setTmc { t with trayDrive := none, phase := some .DROP, lifter := .down, timer := some (.drop, s.now + 300000) }

theorem beginDrop_waits (s : State) (m : MechSense) (h : m.lifterDown = false) : s.beginDrop m = s.dropping s.tmc := by
  simp [State.beginDrop, h, State.dropping, dropTime, msec]

theorem liftEnds_truncated (s : State) (m : MechSense) (h : s.tmc.st = .SEEKING)
    (ht : s.tmc.truncated = true ∨ s.tmc.distance = 0) (hm : m.lifterDown = false) :
    s.liftEnds m = s.dropping { s.tmc with gate := .EMPTY, steps := 0 } := by
  have hend : (s.tmc.truncated || s.tmc.distance == 0) = true := by simpa using ht
  simp only [State.liftEnds, h, hend, State.setTmc_tmc, if_true]
  rw [beginDrop_waits _ _ hm]
  rfl

theorem liftEnds_home (s : State) (m : MechSense) (h : s.tmc.st = .HOMING) (hh : m.homeMark = true)
    (hm : m.lifterDown = false) :
    s.liftEnds m = s.dropping { s.tmc with gate := .EMPTY, steps := 0, pos := some 0 } := by
  simp only [State.liftEnds, h, hh, State.setTmc_tmc, if_true, State.homeFound]
  rw [beginDrop_waits _ _ hm]
  rfl

theorem beginDrop_leaves (s : State) (m : MechSense) :
    (m.lifterDown = false → (s.beginDrop m).tmc.gate = s.tmc.gate) ∧ (s.beginDrop m).tmc.phase ≠ some .DARKEN := by
  unfold State.beginDrop State.dropEnds
  split
  · rename_i h
    simp [h]
  · simp

/-- R32: what every end of LIFT has in common: the gate is empty where nothing is dropped at once, and DARKEN is over. -/
def State.liftOver (s : State) (m : MechSense) : Prop :=
  (m.lifterDown = false → s.tmc.gate = .EMPTY) ∧ s.tmc.phase ≠ some .DARKEN

theorem liftEnds_over (s : State) (m : MechSense) (hp : s.tmc.phase = some .LIFT) : (s.liftEnds m).liftOver m := by
  unfold State.liftEnds State.homeFound State.driveTray
  dsimp only
  split
  · simp [State.liftOver]
  · split
    · exact beginDrop_leaves _ m
    · simp [State.liftOver]
  · split
    · exact beginDrop_leaves _ m
    · simp [State.liftOver]
  all_goals simp [State.liftOver, hp]

/-- Settles O14. -/
theorem darkenAndLiftEnd : Obligations.DarkenAndLiftEnd := by
  refine ⟨fun dt due m s hp ht => ?_, fun dt due m s hp ht => ?_⟩
  · have hexec : exec (.tDarkExpiry dt m) s = .next (((s.advance dt).reach due).beginLift m).finish :=
      next_take hp (by simp [tDarkExpiry, State.phaseDue, ht, whenDue_some])
    refine ⟨fun hm => ⟨_, hexec, by simp [State.sameBut], by simp, beginLift_waits _ m hm⟩, fun hm => ?_⟩
    obtain ⟨u, hu, heq⟩ := beginLift_ends ((s.advance dt).reach due) m hm
    obtain ⟨hgate, hphase⟩ := liftEnds_over u m (by rw [hu]; rfl)
    refine ⟨_, hexec, by simp [State.sameBut], ?_, ?_, fun hst => ?_⟩
    · rw [heq]
      exact hgate
    · rw [heq]
      exact hphase
    · rw [heq, liftEnds_changing u m (by rw [hu]; exact hst), hu]
      exact ⟨rfl, rfl⟩
  · have hexec : exec (.lifterUpConfirm dt m) s = .next ((s.advance dt).liftEnds m).finish :=
      next_take hp (by simp [lifterUpConfirm, State.phaseDue, ht])
    rw [hexec]
    refine ⟨fun hst => ?_, fun hst htr hd => ?_, fun hst htr hm => ?_, fun hst hm => ?_, fun hst hh hm => ?_⟩
    · rw [liftEnds_changing (s.advance dt) m hst]
      rfl
    · rw [liftEnds_seeking (s.advance dt) m hst htr hd]
      rfl
    · rw [liftEnds_truncated (s.advance dt) m hst htr hm]
      rfl
    · rw [liftEnds_searching (s.advance dt) m hst hm]
      rfl
    · rw [liftEnds_home (s.advance dt) m hst hh hm]
      rfl

/-! ## Retries (R33) -/

/-- Settles O15. -/
theorem liftAndDropAreRetriedOnce : Obligations.LiftAndDropAreRetriedOnce := by
  intro dt due s hp
  refine ⟨fun ht hr => ?_, fun ht hr => ?_, fun m ht hph hm => ?_, fun m ht hph hm => ?_⟩
  · refine next_take hp ?_
    simp [liftTimerExpiry, State.phaseDue, ht, whenDue_some, State.liftTimeout, hr, State.retry, retryPause, msec]
    rfl
  · refine next_take hp ?_
    simp [dropTimerExpiry, State.phaseDue, ht, whenDue_some, State.dropTimeout, hr, State.retry, retryPause, msec]
    rfl
  · have hexec : exec (.retryPauseExpiry dt m) s = .next (((s.advance dt).reach due).beginLift m).finish :=
      next_take hp (by simp [retryPauseExpiry, State.phaseDue, ht, whenDue_some, State.retryPhase, hph])
    exact ⟨_, hexec, by simp [State.sameBut], beginLift_waits _ m hm⟩
  · have hexec : exec (.retryPauseExpiry dt m) s = .next (((s.advance dt).reach due).beginDrop m).finish :=
      next_take hp (by simp [retryPauseExpiry, State.phaseDue, ht, whenDue_some, State.retryPhase, hph])
    rw [hexec, beginDrop_waits _ m hm]
    rfl

/-! ## Index pulses (R34, R35, R41, R45) -/

theorem stepPos_eq (size pos : Nat) (d : Dir) : stepPos size d pos = (match d with
    | .forward => (pos + 1) % (size + 1)
    | .reverse => (pos + size) % (size + 1)) := by
  cases d <;> rfl

/-- R34: the tray has moved to `p`. -/
def State.movedTo (s : State) (p : Nat) : Tmc := { s.tmc with pos := some p, steps := s.tmc.steps + 1 }

theorem moveTray_eq (s : State) (pos : Nat) (h : s.tmc.pos = some pos) :
    s.moveTray = s.setTmc (s.movedTo (stepPos s.tmc.trayS s.tmc.dir pos)) := by
  simp [State.moveTray, State.movedTo, h]

/-- R35: the tray passes over position `p` and goes on. -/
def State.passesOver (s : State) (p : Nat) : Prop :=
  (p = 0 ∧ s.tmc.par.wrapGap = true ∨ s.tmc.par.skipEmpty = true ∧ s.tmc.slots[p]?.map SlotRec.occ = some .EMPTY) ∧
    s.tmc.steps + 1 < (if s.tmc.par.skipEmpty then s.tmc.trayS else 2)

theorem passOver_iff (s : State) (p : Nat) : ((s.movedTo p).passOver p &&
    decide ((s.movedTo p).steps < (s.movedTo p).stepLimit)) = true ↔ s.passesOver p := by
  rw [Bool.and_eq_true, decide_eq_true_iff]
  exact and_congr (by simp [Tmc.passOver, State.movedTo]) Iff.rfl

theorem pulseStep_on (s : State) (m : MechSense) (pos p : Nat) (h : s.tmc.pos = some pos)
    (hp : p = stepPos s.tmc.trayS s.tmc.dir pos) (hover : s.passesOver p) :
    s.pulseStep m = (s.setTmc (s.movedTo p)).driveTray .STEP s.tmc.dir := by
  subst hp
  unfold State.pulseStep
  rw [moveTray_eq s pos h]
  exact if_pos ((passOver_iff s _).mpr hover)

theorem pulseStep_ends (s : State) (m : MechSense) (pos p : Nat) (h : s.tmc.pos = some pos)
    (hp : p = stepPos s.tmc.trayS s.tmc.dir pos) (hover : ¬s.passesOver p) :
    s.pulseStep m = (s.setTmc (s.movedTo p)).beginDrop m := by
  subst hp
  unfold State.pulseStep
  rw [moveTray_eq s pos h]
  exact if_neg (fun hc => hover ((passOver_iff s _).mp hc))

theorem pulseRotate_on (s : State) (m : MechSense) (pos p : Nat) (h : s.tmc.pos = some pos)
    (hp : p = stepPos s.tmc.trayS s.tmc.dir pos) (ht : s.tmc.truncated = false) (hd : s.tmc.steps + 1 < s.tmc.distance) :
    s.pulseRotate m = (s.setTmc (s.movedTo p)).driveTray .ROTATE s.tmc.dir := by
  subst hp
  unfold State.pulseRotate
  rw [moveTray_eq s pos h]
  refine if_neg ?_
  simp [State.movedTo, ht]
  omega

theorem pulseRotate_ends (s : State) (m : MechSense) (pos p : Nat) (h : s.tmc.pos = some pos)
    (hp : p = stepPos s.tmc.trayS s.tmc.dir pos) (hd : s.tmc.truncated = true ∨ s.tmc.distance ≤ s.tmc.steps + 1) :
    s.pulseRotate m = (s.setTmc (s.movedTo p)).beginDrop m := by
  subst hp
  unfold State.pulseRotate
  rw [moveTray_eq s pos h]
  refine if_pos ?_
  simp only [State.setTmc_tmc, State.movedTo, Bool.or_eq_true]
  exact hd.imp_right decide_eq_true

/-- The runner starts nothing at a mechanism that is JAMMED: its registers stay. -/
theorem settle_tmc_of_jammed (n : Nat) (rep : Bool) (s : State) (h : s.tmc.st = .JAMMED) :
    (State.settle n rep s).tmc = s.tmc := by
  induction n generalizing s with
  | zero => rfl
  | succ n ih =>
    unfold State.settle
    split
    · rfl
    · rename_i e hm
      obtain ⟨-, -, -, hidle⟩ := headMove_start hm
      have hstart : (s.startHead e).tmc = s.tmc := by
        unfold State.startHead State.startEffect
        cases ha : e.action <;> simp [ha, Action.mech, h] at hidle ⊢
        all_goals (try split) <;> simp
      rw [ih _ (by rw [hstart]; exact h), hstart]
    · have hdepart : ∀ e d, (s.depart e d rep).tmc = s.tmc := fun e d => by simp
      rw [ih _ (by rw [hdepart]; exact h), hdepart]

theorem flushQueue_tmc_of_jammed (s : State) (cover : Entry → Bool) (jam : Bool) (h : s.tmc.st = .JAMMED) :
    (s.flushQueue cover jam).tmc = s.tmc := by
  unfold State.flushQueue State.endRunning State.truncate
  simp only [State.setAq_tmc]
  repeat' split
  all_goals simp_all

theorem flush_tmc_of_jammed (s : State) (cover : Entry → Bool) (jam rep : Bool) (h : s.tmc.st = .JAMMED) :
    (s.flush cover jam rep).tmc = s.tmc := by
  unfold State.flush State.flushReported
  split <;> simp [flushQueue_tmc_of_jammed s cover jam h]

theorem jamMech_tmc (s : State) (cause : JamCause) : (s.jamMech cause).tmc.st = .JAMMED ∧
    (s.jamMech cause).tmc.jam =
      some { cause := cause, phase := s.tmc.phase.getD .DARKEN, position := s.jamPosition } := by
  rw [jamMech_eq]
  exact ⟨rfl, rfl⟩

theorem enterJammed_tmc (s : State) (cause : JamCause) : (s.enterJammed cause).tmc = (s.jamMech cause).tmc := by
  unfold State.enterJammed
  have hnote : (s.jamMech cause).noteWaiting.tmc = (s.jamMech cause).tmc := by simp
  have hflush := flush_tmc_of_jammed (s.jamMech cause).noteWaiting coverAll true true
    (by rw [hnote]; exact (jamMech_tmc s cause).1)
  simp [hflush]

theorem finish_tmc_of_jammed (s : State) (h : s.tmc.st = .JAMMED) : s.finish.tmc = s.tmc := by
  unfold State.finish State.runHead
  rw [(refresh_frame _).2.2.2.2.1]
  exact settle_tmc_of_jammed _ _ s h

/-- R41: a SEARCH without the home mark. -/
theorem indexPulse_searching (s : State) (m : MechSense) (hph : s.tmc.phase = some .SEARCH) (hh : m.homeMark = false) :
    indexPulse m s =
      (if s.tmc.trayS + 2 ≤ s.tmc.steps + 1 then
        State.enterJammed (s.setTmc { s.tmc with steps := s.tmc.steps + 1 }) .HOME_NOT_FOUND
      else State.driveTray (s.setTmc { s.tmc with steps := s.tmc.steps + 1 }) .SEARCH .forward) := by
  simp only [indexPulse, hph, State.pulseSearch, hh]
  rfl

/-- Settles O17. -/
theorem indexPulsesMoveTheTray : Obligations.IndexPulsesMoveTheTray := by
  refine ⟨fun dt pos m s hp hpos hm p hdir => ?_, fun dt m s hp => ?_⟩
  · have hto : p = stepPos s.tmc.trayS s.tmc.dir pos := by rw [hdir, stepPos_eq] <;> rfl
    refine ⟨fun hph hover hlim => next_take hp ?_, fun hph hover => next_take hp ?_, fun hph ht hd => next_take hp ?_,
      fun hph hd => next_take hp ?_⟩
    · simp only [indexPulse, advance_frame, hph]
      rw [pulseStep_on (s.advance dt) m pos p hpos hto ⟨hover, hlim⟩]
      rfl
    · simp only [indexPulse, advance_frame, hph]
      rw [pulseStep_ends (s.advance dt) m pos p hpos hto hover, beginDrop_waits _ m hm]
      rfl
    · simp only [indexPulse, advance_frame, hph]
      rw [pulseRotate_on (s.advance dt) m pos p hpos hto ht hd]
      rfl
    · simp only [indexPulse, advance_frame, hph]
      rw [pulseRotate_ends (s.advance dt) m pos p hpos hto hd, beginDrop_waits _ m hm]
      rfl
  · refine ⟨fun hph hh hm => next_take hp ?_, fun hph hh hl => next_take hp ?_, fun hph hh hl => ?_,
      fun h1 h2 h3 => next_take hp ?_⟩
    · simp only [indexPulse, advance_frame, hph, State.pulseSearch, hh, if_true, State.homeFound]
      rw [beginDrop_waits _ m hm]
      rfl
    · rw [indexPulse_searching (s.advance dt) m hph hh, if_neg (by simpa using hl)]
      simp [State.driveTray, hph, indexTime, msec]
    · have hexec : exec (.indexPulse dt m) s =
          .next (State.enterJammed ((s.advance dt).setTmc { s.tmc with steps := s.tmc.steps + 1 }) .HOME_NOT_FOUND).finish := by
        refine next_take hp ?_
        rw [indexPulse_searching (s.advance dt) m hph hh, if_pos (by simpa using hl)]
        rfl
      obtain ⟨hst, hjam⟩ := jamMech_tmc ((s.advance dt).setTmc { s.tmc with steps := s.tmc.steps + 1 }) .HOME_NOT_FOUND
      refine ⟨_, hexec, ?_⟩
      rw [finish_tmc_of_jammed _ (by rw [enterJammed_tmc, hst]), enterJammed_tmc, hst, hjam]
      exact ⟨rfl, rfl⟩
    · simp [indexPulse]

end Sys2Proof.Machine
end

section
/-!
DROP and SETTLE (R36, R37), the jam cleared (R44, R48), the slots (R28, R185).
-/

namespace Sys2Proof.Machine

/-! ## DROP and SETTLE (R36, R37, R47) -/

/-- R47: SLOT_MATCH is set at the compare position; once set it stays. -/
theorem testMatch_tmc (s : State) : s.testMatch.tmc = { s.tmc with
    slotMatch := s.tmc.slotMatch || (s.tmc.comparePos.isSome && s.tmc.comparePos == s.tmc.pos) } := by
  unfold State.testMatch
  split
  · rename_i h
    simp only [Bool.and_eq_true] at h
    simp [State.condNotice, h]
  · rename_i h
    have hsame : (s.tmc.slotMatch || (s.tmc.comparePos.isSome && s.tmc.comparePos == s.tmc.pos)) = s.tmc.slotMatch := by
      cases hm : s.tmc.slotMatch <;> simp_all
    rw [hsame]

theorem dropEnds_tmc (s : State) (m : MechSense) : (s.dropEnds m).tmc = s.settled m
    (s.tmc.slotMatch || (s.tmc.comparePos.isSome && s.tmc.comparePos == s.tmc.pos)) := by
  obtain ⟨-, -, -, -, -, hpos, -, hcompare, -, hmatch⟩ := Tmc.seat_fields s.tmc m
  have hform : (s.dropEnds m).tmc =
      { (State.testMatch (s.setTmc { s.tmc.seat m with lifter := .released, timer := none })).tmc with
        phase := some .SETTLE
        timer := some (.settle, (State.testMatch (s.setTmc { s.tmc.seat m with lifter := .released, timer := none })).now +
          delayUnits (State.testMatch (s.setTmc { s.tmc.seat m with lifter := .released, timer := none })).tmc.par.tSettle) } :=
    rfl
  rw [hform, testMatch_tmc]
  simp [State.settled, hpos, hcompare, hmatch]

theorem Tmc.seat_loaded {t : Tmc} {m : MechSense} {p : Nat} (hp : t.pos = some p) (h0 : 0 < p) (hm : m.slide = true) :
    t.seat m = { t with gate := .LOADED p, slots := t.slots.modify p (fun r => { r with occ := .PRESENT }) } := by
  obtain ⟨q, rfl⟩ := Nat.exists_eq_succ_of_ne_zero h0.ne'
  simp [Tmc.seat, hp, hm]

theorem Tmc.seat_empty {t : Tmc} {m : MechSense} {p : Nat} (hp : t.pos = some p) (h0 : 0 < p) (hm : m.slide = false) :
    t.seat m = { t with gate := .EMPTY, slots := t.slots.modify p (fun r => { r with occ := .EMPTY }) } := by
  obtain ⟨q, rfl⟩ := Nat.exists_eq_succ_of_ne_zero h0.ne'
  simp [Tmc.seat, hp, hm]

theorem Tmc.seat_home {t : Tmc} {m : MechSense} (hp : t.pos = some 0) : t.seat m = { t with gate := .EMPTY } := by
  simp [Tmc.seat, hp]

/-- Settles O18. -/
theorem dropAndSettleEnd : Obligations.DropAndSettleEnd := by
  refine ⟨fun dt due m s hp ht => ?_, fun dt due s hp ht => ?_⟩
  · have htmc := dropEnds_tmc (s.advance dt) m
    obtain ⟨-, -, -, -, -, hpos, -, -, hpar, -⟩ := Tmc.seat_fields s.tmc m
    refine ⟨(s.advance dt).dropEnds m, next_take hp (by simp [lifterDownConfirm, State.phaseDue, ht]), by simp [State.sameBut],
      ?_⟩
    rw [htmc]
    refine ⟨rfl, rfl, ?_, hpos, fun p hq h0 hm => ?_, fun p hq h0 hm => ?_, fun hq => ?_, rfl⟩
    · simp [State.settled, hpar, delayUnits, msec]
      omega
    · simp [State.settled, Tmc.seat_loaded hq h0 hm]
    · simp [State.settled, Tmc.seat_empty hq h0 hm]
    · simp [State.settled, Tmc.seat_home hq]
  · refine next_take hp ?_
    simp [settleExpiry, State.phaseDue, ht, whenDue_some]
    rfl

/-! ## CLEAR_JAM and CLEAR_MATCH (R44, R45, R48) -/

theorem startHoming_eq (s : State) : s.startHoming = s.putMech
    { s.tmc with dir := .forward, st := .HOMING, phase := some .DARKEN, timer := none, retriedLift := false
                 retriedDrop := false, steps := 0 } := rfl

theorem notice_notices_congr (s t : State) (k : NoticeKind) (v : Bool) (x : Option Nat)
    (hl : t.lki.notices = s.lki.notices ∧ t.lki.enables = s.lki.enables) (hn : t.now = s.now) :
    (t.notice k v x).lki.notices = (s.notice k v x).lki.notices := by
  obtain ⟨hq, he⟩ := hl
  have hen : t.lki.enabled k = s.lki.enabled k := by simp [Lki.enabled, he]
  rw [notice_lki, notice_lki, hen, State.stamp, hn]
  split
  · simp only [Lki.join, hq]
    split <;> simp [State.stamp]
  · exact hq

/-- Settles O19. -/
theorem clearJamAndClearMatch : Obligations.ClearJamAndClearMatch := by
  refine ⟨fun dt s => ⟨fun h arg ha hst => ?_, fun h arg ha hst => ?_, fun hp hhold hres hst hmode => ?_⟩,
    fun dt h arg s ha => ⟨fun hm => ?_, fun hm => ?_⟩⟩
  · have hr : reqControl .CLEAR_JAM arg (s.asked dt) = done (s.asked dt).startHoming := if_pos hst
    exact next_control ha hr
  · exact next_control_refused (x := .CLEAR_JAM) ha (if_neg hst) (by simp) (by simp)
  · have hexec : exec (.panelStopHold dt) s = .next (State.finish (State.stopHold
        (((s.advance dt).reach ((s.panelKey .STOP).pressed + 2000000)).holdReported .STOP))) := by
      refine next_take hp ?_
      rw [panelStopHold, State.holdDue, if_pos (show ((s.advance dt).panelKey .STOP).hold = true from hhold), whenDue_some]
      rfl
    refine ⟨_, hexec, ?_⟩
    simp only [State.stopHold, State.holdReported, State.setPanel]
    simp [hres, hst, hmode, startHoming_eq, State.putMech, State.sameBut]
  · obtain ⟨v, hv⟩ : ∃ v, v = (s.asked dt).clearMatch s.tmc.comparePos := ⟨_, rfl⟩
    have hr : reqControl .CLEAR_MATCH arg (s.asked dt) = done v := by rw [hv]; rfl
    refine ⟨_, next_control ha hr, ?_⟩
    have hlki : v.lki = ((s.asked dt).condNotice .SLOT_MATCH false s.tmc.comparePos).lki := by
      rw [hv]
      rw [clearMatch_lki, if_pos (show (s.asked dt).tmc.slotMatch = true from hm)]
    rw [show (done v).counted = v from counted_doneWith v []]
    refine ⟨by simp [State.sameBut, State.answered, hv, State.asked], ?_, ?_, ?_⟩
    · simp [State.answers, State.answered, hv, State.asked]
      exact ⟨rfl, rfl⟩
    · simp [State.answered, hv, clearMatch_tmc, State.asked]
    · simp only [State.answered, State.setLki_lki, hlki]
      exact notice_notices_congr (s.advance dt) (s.asked dt) _ _ _ ⟨rfl, rfl⟩ rfl
  · have hr : reqControl .CLEAR_MATCH arg (s.asked dt) = done (s.asked dt) := by
      simp [reqControl, reqClearMatch, State.clearMatch, State.asked, hm]
    exact next_control ha hr

/-! ## The slots (R28, R185) -/

/-- Settles O20. -/
theorem slotFlagsAndSlotRead : Obligations.SlotFlagsAndSlotRead := by
  intro dt h s ha
  refine ⟨fun first last flag hu hl hf hv => ?_, fun first last flag hu hbad => ?_, fun first count h1 h8 h121 => ?_,
    fun first count hbad => ?_⟩
  · have hflag : flag.toNat ≤ 1 := by rcases hv with rfl | rfl <;> simp
    refine next_request (r := .slotFlags first last flag) ha rfl (by simp [show s.sts.save = none from hu]) (if_neg (by omega)) rfl
  · exact next_refused (r := .slotFlags first last flag) ha rfl (by simp [show s.sts.save = none from hu]) (if_pos hbad) rfl
      (by simp) (by simp)
  · have hne : count ≠ 0 := by
      rintro rfl
      simp at h1
    have hok : ¬(count = 0 ∨ 8 < count.toNat ∨ 121 < first.toNat + count.toNat) := by
      simp only [hne, false_or]
      omega
    have hr : applyReq (s.asked dt) (.slotRead first count) = _ := if_neg hok
    have hbytes : encSlotRec = fun r => [BitVec.ofNat 8 (match r.occ with
        | .UNKNOWN => 0
        | .PRESENT => 1
        | .EMPTY => 2), BitVec.ofNat 8 r.jams, if r.blank then 1 else 0] := by
      funext r
      cases hb : r.blank <;> cases ho : r.occ <;> simp [encSlotRec, hb, ho, enc1, encBool, Occ.code, byteOf]
    rw [hbytes] at hr
    exact next_request ha rfl (by simp [Req.locked]) hr rfl
  · exact next_refused (r := .slotRead first count) ha rfl (by simp [Req.locked]) (if_pos hbad) rfl (by simp) (by simp)

end Sys2Proof.Machine
end

section
/-!
The rule of a broadcast (R180, R182), and the link's own requests: counters (R193 to R195), notices (R197 to R199) and saves
(R201 to R203).
-/

namespace Sys2Proof.Machine

/-! ## Broadcasts (R180, R182) -/

/-- R182: a broadcast is judged, and not answered. -/
theorem request_broadcast {s : State} {dt : Nat} {h : LinkHdr} {r : Req} (hd : s.deaf = false)
    (hroute : route s.lki.addr h.dest r.code = .broadcast) :
    request h r (s.advance dt) = (judge (s.asked dt) true (some r)).counted := by
  unfold request
  rw [advance_deaf, hd, withhold_not_deaf _ (by simpa using hd)]
  simp [State.takeRequest, hroute, State.asked]

theorem route_broadcast {addr : AddrState} {dest : Byte} (r : Req) (h : dest = 31)
    (ha : addr = .LISTEN_ONLY ∨ ∃ a, addr = .ASSIGNED a ∧ a ≠ 31) : route addr dest r.code = .broadcast := by
  have hc : ¬(0x80 ≤ r.code.toNat) := by cases r <;> simp [Req.code]
  subst h
  rcases ha with rfl | ⟨a, rfl, hne⟩
  · simp [route, hc, broadcastDest]
  · simp [route, hc, broadcastDest, Ne.symm hne]

/-! ## The counters (R193 to R195) -/

theorem bitsVal_append_singleton (l : List Bool) (b : Bool) : bitsVal (l ++ [b]) = 2 * bitsVal l + b.toNat := by
  simp [bitsVal]

/-- Bit `i` of a number written from its bits, the least significant first. -/
theorem testBit_bitsVal_reverse (l : List Bool) (i : Nat) : (bitsVal l.reverse).testBit i = l.getD i false := by
  induction l generalizing i with
  | nil => simp [bitsVal]
  | cons b l ih =>
    rw [List.reverse_cons, bitsVal_append_singleton]
    cases i with
    | zero => cases b <;> simp [Nat.testBit_zero] <;> omega
    | succ i =>
      rw [Nat.testBit_succ, List.getD_cons_succ, ← ih i]
      congr 1
      cases b <;> simp <;> omega

theorem ovfBits_testBit (l : List Counter) (start n i : Nat) :
    (ovfBits ((l.drop start).take n)).testBit i = (decide (i < n) && ((l[start + i]?).map Counter.ovf).getD false) := by
  rw [ovfBits, testBit_bitsVal_reverse, List.getD_eq_getElem?_getD, List.getElem?_map, List.getElem?_take]
  by_cases h : i < n <;> simp [h]

theorem counterGroup_none {n : Nat} (h : n = 0 ∨ 5 < n) : counterGroup n = none := by
  rcases h with rfl | h
  · rfl
  · obtain ⟨m, rfl⟩ := Nat.exists_eq_add_of_lt h
    rw [show 5 + m + 1 = m + 6 by omega]
    rfl

/-- Settles O48. -/
theorem countersReadSendsTheSnapshot : Obligations.CountersReadSendsTheSnapshot := by
  intro dt h group s ha _
  refine ⟨fun start n hg => ⟨ovfBits ((s.cnt.snap.drop start).take n), fun i _ => ovfBits_testBit .., ?_⟩, fun hg => ?_⟩
  · have hgroup : counterGroup group.toNat = some (start, n) := by
      simp only [List.mem_cons, Prod.mk.injEq, List.not_mem_nil, or_false] at hg
      rcases hg with ⟨hn, rfl, rfl⟩ | ⟨hn, rfl, rfl⟩ | ⟨hn, rfl, rfl⟩ | ⟨hn, rfl, rfl⟩ | ⟨hn, rfl, rfl⟩ <;> rw [hn] <;> rfl
    have hr : applyReq (s.asked dt) (.countersRead group) = doneWith (s.asked dt) (group ::
        (enc2 s.cnt.number ++ enc4 s.cnt.snapMs ++ enc4 s.cnt.lenMs ++
          ((s.cnt.snap.drop start).take n).flatMap (fun c => enc2 c.val) ++ enc2 (ovfBits ((s.cnt.snap.drop start).take n)))) := by
      simp only [applyReq, reqCountersRead, hgroup]
      rfl
    exact next_request ha rfl (by simp [Req.locked]) hr rfl
  · have hgroup : counterGroup group.toNat = none := counterGroup_none (hg.imp_left fun (h0 : group = 0) => by simp [h0])
    have hr : applyReq (s.asked dt) (.countersRead group) = deny (s.asked dt) .BAD_VALUE := by
      simp only [applyReq, reqCountersRead, hgroup]
    exact next_refused ha rfl (by simp [Req.locked]) hr rfl (by simp) (by simp)

/-- Settles O49. -/
theorem snapshotsMoveTheCounters : Obligations.SnapshotsMoveTheCounters := by
  refine ⟨fun c hc => if_pos hc, fun c hc => ?_, fun dt t s x hx => ⟨fun due hp ht hnow => ?_, fun h arg ha hnow => ?_⟩⟩
  · obtain ⟨v, o⟩ := c
    obtain rfl : v = 65535 := hc
    rfl
  · subst hx hnow
    refine next_take hp ?_
    rw [snapshotTimerExpiry, show (s.advance dt).cnt.timer = some due from ht, whenDue_some]
    simp [State.snapshot, snapTimer, Counter.zero, State.stamp, sec, Nat.mul_comm]
    rfl
  · subst hx hnow
    have hr : reqControl .SNAPSHOT arg (s.asked dt) = done (s.asked dt).snapshot := rfl
    rw [show exec (.controlSnapshot dt h arg) s = .next (s.take dt (request h (.control Sub.SNAPSHOT.code arg))) from rfl,
      next_control ha hr]
    simp [State.snapshot, snapTimer, Counter.zero, State.stamp, sec, Nat.mul_comm, State.asked]
    rfl

/-! ## Notices (R197 to R199) -/

/-- Settles O50. -/
theorem noticePollTakesTheOldest : Obligations.NoticePollTakesTheOldest := by
  intro dt h s
  refine ⟨fun ha _ => ?_, fun hp hd hres hdest haddr => ?_⟩
  · have hr : applyReq (s.asked dt) .noticePoll = doneWith ((s.asked dt).setLki
        { (s.asked dt).lki with notices := s.lki.notices.drop 4, lost := 0, attn := !(s.lki.notices.drop 4).isEmpty })
        (byteOf (s.lki.notices.take 4).length :: (enc2 s.lki.lost ++ (s.lki.notices.take 4).flatMap encNotice)) := rfl
    have hattn : (!(s.lki.notices.drop 4).isEmpty) = decide (s.lki.notices.drop 4 ≠ []) := by
      cases s.lki.notices.drop 4 <;> rfl
    rw [hattn] at hr
    exact next_request ha rfl (by simp [Req.locked]) hr rfl
  · refine next_take hp ?_
    rw [request_broadcast hd (route_broadcast .noticePoll hdest haddr)]
    have hj : judge (s.asked dt) true (some .noticePoll) = deny (s.asked dt) .BAD_REQUEST := by
      simp [judge, State.asked, hres, Req.misaddressed]
    rw [hj]
    rfl

theorem ofCode_of_le {n : Nat} (h : n ≤ 33) : ∃ k, NoticeKind.ofCode n = some k ∧ k.code = n := by
  have hall : ∀ i : Fin 34, (NoticeKind.ofCode i).map NoticeKind.code = some i.val := by decide
  simpa using hall ⟨n, by omega⟩

theorem ofCode_of_gt {n : Nat} (h : 33 < n) : NoticeKind.ofCode n = none := by
  refine List.getElem?_eq_none_iff.mpr ?_
  change 34 ≤ n
  omega

/-- R198: an event is not set or clear. -/
theorem conditionsSet_event (s : State) (k : NoticeKind) (h : k.code ≤ 21) : s.conditionsSet k = [] := by
  cases k <;> simp [NoticeKind.code] at h <;> rfl

/-- R198: the enable as asked, and the notices of what is set now where a kind is switched on. -/
theorem reqNoticeEnable_taken (s : State) {kind flag : Byte} {k : NoticeKind} (hk : NoticeKind.ofCode kind.toNat = some k)
    (hf : flag = 0 ∨ flag = 1) : reqNoticeEnable kind flag s =
      doneWith ((if decide (flag = 1) && !s.lki.enabled k then s.conditionsSet k else []).foldl
        (fun t x => t.condNotice k true x) (s.setLki { s.lki with enables := s.lki.enables.set k.code (decide (flag = 1)) }))
        [kind, flag] := by
  have hle : ¬1 < flag.toNat := by rcases hf with rfl | rfl <;> simp
  simp only [reqNoticeEnable, hk, if_neg hle]
  split <;> rfl

/-- Settles O51. -/
theorem noticeEnableSwitchesAKind : Obligations.NoticeEnableSwitchesAKind := by
  refine ⟨fun s k clear subject hoff => ?_, fun dt h kind flag s ha => ⟨fun hbad => ?_, fun hk hf hno => ?_, fun k subjects hf hoff hk => ?_⟩⟩
  · exact if_neg (by rw [Lki.enabled, hoff]; simp)
  · have hr : applyReq (s.asked dt) (.noticeEnable kind flag) = deny (s.asked dt) .BAD_VALUE := by
      simp only [applyReq, reqNoticeEnable]
      by_cases hk : 33 < kind.toNat
      · rw [ofCode_of_gt hk]
      · obtain ⟨k, hk', -⟩ := ofCode_of_le (n := kind.toNat) (by omega)
        rw [hk']
        exact if_pos (by omega)
    exact next_refused ha rfl (by simp [Req.locked]) hr rfl (by simp) (by simp)
  · obtain ⟨k, hof, hcode⟩ := ofCode_of_le hk
    have hr := reqNoticeEnable_taken (s.asked dt) hof hf
    have hnone : (if decide (flag = 1) && !(s.asked dt).lki.enabled k then (s.asked dt).conditionsSet k else []) = [] := by
      rw [ite_eq_right_iff]
      intro hon
      simp only [Bool.and_eq_true, decide_eq_true_iff, Bool.not_eq_true', Lki.enabled, hcode] at hon
      obtain ⟨rfl, hen⟩ := hon
      rcases hno with h0 | hen' | hle
      · simp at h0
      · exact absurd (hen.symm.trans hen') (by simp)
      · exact conditionsSet_event _ k (by omega)
    rw [hnone, hcode] at hr
    exact next_request (r := .noticeEnable kind flag) ha rfl (by simp [Req.locked]) hr rfl
  · have hof : NoticeKind.ofCode kind.toNat = some k ∧ k.code = kind.toNat ∧ (s.asked dt).conditionsSet k = subjects := by
      rcases hk with ⟨rfl, rfl, rfl⟩ | ⟨rfl, rfl, rfl⟩ | ⟨rfl, rfl, rfl⟩ | ⟨rfl, rfl, rfl⟩ | ⟨rfl, rfl, rfl⟩ |
        ⟨rfl, rfl, rfl⟩ | ⟨rfl, rfl, rfl⟩ | ⟨rfl, rfl, rfl⟩ | ⟨rfl, rfl, rfl⟩ | ⟨rfl, rfl, rfl⟩ | ⟨rfl, rfl, rfl⟩ |
        ⟨rfl, rfl, rfl⟩
      all_goals exact ⟨rfl, rfl, rfl⟩
    obtain ⟨hof, hcode, hset⟩ := hof
    have hr := reqNoticeEnable_taken (s.asked dt) (flag := flag) hof (.inr hf)
    have hon : (decide (flag = 1) && !(s.asked dt).lki.enabled k) = true := by
      have hen : (s.asked dt).lki.enabled k = false := by
        rw [Lki.enabled, hcode]
        exact hoff
      simp [hf, hen]
    rw [hon, if_pos rfl, hset, hcode, decide_eq_true hf] at hr
    exact next_request (r := .noticeEnable kind flag) ha rfl (by simp [Req.locked]) hr rfl

/-! ## Saves (R201 to R203) -/

/-- R203: what an automatic save of the lamp records makes of the store. -/
def State.autoSaved (s : State) (x : Sts) : Sts :=
  match s.sts.save with
  | none => { x with
      marker := true
      save := some { full := false, keepMarker := s.sts.storeLost, image := { s.sts.record with
        lampA := s.lmc.recA.store, lampB := s.lmc.recB.store, active := s.lmc.active } } }
  | some _ => { x with autoPending := true }

/-- R203: a change of the lamp to OFF asks for a save and stops the lit timer. -/
theorem setPower_off_sts (s : State) (trip : Bool) (h : s.lmc.power ≠ .OFF) :
    (s.setPower .OFF trip).sts = s.autoSaved { s.sts with litTimer := none } := by
  unfold State.setPower State.autoSaved
  rw [if_neg h]
  simp only [State.storeReport, State.autoSave]
  cases hs : s.sts.save <;> simp [hs, State.beginSave, State.captureLamps]

theorem lampOff_off (s : State) (trip : Bool) (h : s.lmc.power = .OFF) : s.lampOff trip = s := if_pos h

theorem lampOff_sts (s : State) (trip : Bool) (h : s.lmc.power ≠ .OFF) :
    (s.lampOff trip).sts = s.autoSaved { s.sts with litTimer := none } := by
  unfold State.lampOff
  rw [if_neg h, setPower_off_sts _ trip (by simpa using h)]
  rfl

/-- R203: a change of the lamp from OFF starts the lit timer. -/
theorem setPower_from_off_sts (s : State) (p : Power) (h : s.lmc.power = .OFF) (hp : p = .IGNITING ∨ p = .SWAPPING) :
    (s.setPower p false).sts = { s.sts with litTimer := some (s.now + 900000000) } := by
  unfold State.setPower
  rcases hp with rfl | rfl <;> simp [h, State.storeReport, litTime, sec]

theorem ignite_sts (s : State) (h : s.lmc.power = .OFF) (ha : s.igniteAccepted = true)
    (hlost : s.thc.lost = false ∨ s.thc.loss30 = false) :
    s.ignite.sts = { s.sts with litTimer := some (s.now + 900000000) } := by
  have hacc : s.ignitionRefused = false := by simpa [State.igniteAccepted, h] using ha
  unfold State.ignite
  rw [if_neg (by simp [h, hacc])]
  split
  · exact setPower_from_off_sts s _ h (.inr rfl)
  · split
    · have hstay : ∀ u : State, u.thc.lost = s.thc.lost → u.thc.loss30 = s.thc.loss30 →
          (u.thc.lost && u.thc.loss30) = false := by
        intro u hl h30
        rcases hlost with h0 | h0 <;> simp [hl, h30, h0]
      unfold State.enterIgniting
      dsimp only
      rw [hstay _ (by simp) (by simp)]
      exact setPower_from_off_sts _ _ (by simpa using h) (.inl rfl)
    · exact setPower_from_off_sts _ _ h (.inr rfl)

theorem standby_sts (s : State) (h : s.thc.power = .ACTIVE) : s.standby.sts =
    if s.lmc.power = .OFF then s.sts else s.autoSaved { s.sts with litTimer := none } := by
  have hform : s.standby.sts = ((s.setThc { s.thc with power := .STANDBY }).lampOff false).sts := by
    unfold State.standby
    rw [if_neg (by simp [h])]
    simp
  rw [hform]
  split
  · rename_i hoff
    rw [lampOff_off _ _ (by simpa using hoff)]
    rfl
  · rename_i hon
    exact lampOff_sts _ _ (by simpa using hon)

/-- R201 to R203: the store after a save, before a pending automatic one. -/
def State.saved (s : State) (v : Save) : Sts :=
  { s.sts with
    record := v.image, marker := v.keepMarker, checkOk := true, save := none
    storeLost := s.sts.storeLost && !v.full }

theorem endSave_sts (s : State) (v : Save) : (s.endSave v).sts =
    if s.sts.autoPending then { s.saved v with
      autoPending := false, marker := true
      save := some { full := false, keepMarker := (s.saved v).storeLost
                     image := { v.image with lampA := s.lmc.recA.store, lampB := s.lmc.recB.store, active := s.lmc.active } } }
    else s.saved v := by
  have hsaved : ∀ u : State, u.sts = s.saved v → u.lmc = s.lmc → u.pendingSave.sts = if s.sts.autoPending then
      { s.saved v with
        autoPending := false, marker := true
        save := some { full := false, keepMarker := (s.saved v).storeLost
                       image := { v.image with lampA := s.lmc.recA.store, lampB := s.lmc.recB.store, active := s.lmc.active } } }
      else s.saved v := by
    intro u hu hl
    have ha : (s.saved v).autoPending = s.sts.autoPending := rfl
    unfold State.pendingSave
    rw [hu, ha]
    split
    · simp [State.beginSave, State.captureLamps, hu, hl, State.saved]
    · exact hu
  unfold State.endSave
  dsimp only
  split
  · rename_i hf
    refine hsaved _ ?_ ?_
    · unfold State.fullSaved
      by_cases hs : s.sts.storeLost = true <;> simp [hs, State.saved, hf]
    · simp
  · rename_i hf
    exact hsaved _ (by simp [State.saved, hf]) (by simp)

theorem endSave_lki (s : State) (v : Save) :
    (v.full = false → (s.endSave v).lki = s.lki) ∧
      (v.full = true → s.sts.storeLost = false → (s.endSave v).lki = (s.event .SAVE_DONE none).lki) := by
  have hpend : ∀ u : State, u.pendingSave.lki = u.lki := fun u => by
    unfold State.pendingSave
    split <;> simp [State.beginSave]
  refine ⟨fun hf => ?_, fun hf hl => ?_⟩
  · simp [State.endSave, hf, hpend]
  · unfold State.endSave State.fullSaved
    simp only [hf, if_true, State.setSts_sts, hl, hpend]
    exact notice_lki_congr s _ _ _ _ rfl rfl

/-- Settles O52. -/
theorem savesWriteTheRecord : Obligations.SavesWriteTheRecord := by
  refine ⟨fun dt s => ⟨fun h arg ha => ⟨fun hs => ?_, fun hs => ?_⟩, fun v hp hs => ?_, fun due hp ht => ⟨fun hs => ?_, fun hs => ?_⟩⟩,
    fun dt h s ha => ⟨fun c hc => ⟨fun hpow => ?_, fun hpow => ?_⟩, fun hpow htrip hfan hact hlamp hlost => ?_⟩⟩
  · have hr : reqControl .SAVE arg (s.asked dt) =
        { state := (s.asked dt).beginSave true, status := .ACCEPTED, body := [] } := if_neg (by simp [State.asked, hs])
    exact next_control ha hr
  · have hr : reqControl .SAVE arg (s.asked dt) = deny (s.asked dt) .BUSY :=
      if_pos (by simpa [State.asked, Option.isSome_iff_ne_none] using hs)
    exact next_control_refused ha hr (by simp) (by simp)
  · have hexec : exec (.saveEnd dt) s = .next ((s.advance dt).endSave v).finish :=
      next_take hp (by simp [saveEnd, hs])
    refine ⟨_, hexec, by simp [State.sameBut], ?_⟩
    obtain ⟨hauto, hfull⟩ := endSave_lki (s.advance dt) v
    have hsts := endSave_sts (s.advance dt) v
    by_cases ha : s.sts.autoPending = true
    · rw [show (s.advance dt).sts.autoPending = true from ha, if_pos rfl] at hsts
      rw [hsts]
      exact ⟨rfl, rfl, rfl, rfl, by simp [ha], fun _ => ⟨rfl, rfl⟩, hauto, hfull⟩
    · have ha' : s.sts.autoPending = false := by simpa using ha
      rw [show (s.advance dt).sts.autoPending = false from ha', if_neg (by simp)] at hsts
      rw [hsts]
      exact ⟨rfl, rfl, rfl, ha', fun _ => ⟨rfl, rfl⟩, by simp [ha'], hauto, hfull⟩
  · refine next_take hp ?_
    rw [litTimerExpiry, show (s.advance dt).sts.litTimer = some due from ht, whenDue_some]
    simp [State.litSave, State.autoSave, hs, State.beginSave, State.captureLamps, litTime, sec]
    rfl
  · refine next_take hp ?_
    rw [litTimerExpiry, show (s.advance dt).sts.litTimer = some due from ht, whenDue_some]
    simp [State.litSave, State.autoSave, Option.isSome_iff_ne_none, hs, litTime, sec]
    rfl
  · rcases hc with rfl | ⟨⟨arg, rfl⟩, hact⟩
    · have hr : reqControl .LAMP 0 (s.asked dt) = done ((s.asked dt).lampOff false) := rfl
      exact ⟨_, next_control ha hr, lampOff_sts (s.asked dt) false hpow⟩
    · have hr : reqControl .STANDBY arg (s.asked dt) = done (s.asked dt).standby := rfl
      refine ⟨_, next_control ha hr, ?_⟩
      exact (standby_sts (s.asked dt) hact).trans (if_neg hpow)
  · rcases hc with rfl | ⟨⟨arg, rfl⟩, hact⟩
    · have hr : reqControl .LAMP 0 (s.asked dt) = done (s.asked dt) := congrArg done (if_pos hpow)
      exact ⟨_, next_control ha hr, rfl⟩
    · have hr : reqControl .STANDBY arg (s.asked dt) = done (s.asked dt).standby := rfl
      refine ⟨_, next_control ha hr, ?_⟩
      exact (standby_sts (s.asked dt) hact).trans (if_pos hpow)
  · have hacc : (s.asked dt).igniteAccepted = true := by
      simp [State.igniteAccepted, State.ignitionRefused, State.asked, hpow, htrip, hfan, hact, hlamp]
    have hr : reqControl .LAMP 1 (s.asked dt) = done (s.asked dt).ignite := if_pos hacc
    exact ⟨_, next_control ha hr, ignite_sts (s.asked dt) hpow hacc hlost⟩


end Sys2Proof.Machine
end

section
/-!
The step records (R143 to R146, R192): what is written is read back, and how a STEP_WRITE is judged.
-/

namespace Sys2Proof.Machine

/-! ## What is sent is read back (R192) -/

theorem byteOf_toNat {n : Nat} (h : n < 256) : (byteOf n).toNat = n := by
  simp [byteOf, Nat.mod_eq_of_lt h]

theorem word2_byteOf {n : Nat} (h : n < 65536) : word2 (byteOf (n / 256)) (byteOf n) = n := by
  unfold word2
  rw [byteOf_toNat (by omega)]
  simp [byteOf]
  omega

theorem encodeSlot_length (a : Action) : (encodeSlot a).length = 5 := by
  cases a <;> rfl

/-- A slot that was taken is read back as it was taken. -/
theorem decodeSlot_encodeSlot {b : SlotBytes} {a : Action} (h : decodeSlot b = some a) :
    decodeSlot (slotOf (encodeSlot a.holdStep)) = some a.holdStep ∧ a.holdStep.holdStep = a.holdStep := by
  have hb1 := b.b1.isLt
  have hb3 := b.b3.isLt
  have hw := word2_le b.b1 b.b2
  unfold decodeSlot at h
  split at h
  case h_1 =>
    obtain rfl := Option.some.inj h
    have htarget : min (word2 b.b1 b.b2) 1000 < 65536 := by omega
    have htime : min b.b3.toNat 255 < 256 := by omega
    simp only [Action.holdStep, Action.hold, encodeSlot, slotOf, Action.code, enc2, List.cons_append, List.nil_append,
      List.getD_cons_zero, List.getD_cons_succ]
    refine ⟨?_, by simp⟩
    cases b.b4.getLsbD 0 <;> cases b.b4.getLsbD 1 <;>
      simp [decodeSlot, word2_byteOf htarget, byteOf_toNat htime] <;> decide
  case h_4 =>
    obtain rfl := Option.some.inj h
    have hp : min b.b1.toNat 120 < 256 := by omega
    simp [Action.holdStep, Action.hold, encodeSlot, slotOf, Action.code, decodeSlot, byteOf_toNat hp]
  case h_5 =>
    obtain rfl := Option.some.inj h
    have hms : min (word2 b.b1 b.b2) 65535 < 65536 := by omega
    simp [Action.holdStep, Action.hold, encodeSlot, slotOf, Action.code, enc2, decodeSlot, word2_byteOf hms]
  case h_8 =>
    obtain rfl := Option.some.inj h
    have hv : min b.b1.toNat 63 < 256 := by omega
    simp [Action.holdStep, Action.hold, encodeSlot, slotOf, Action.code, decodeSlot, byteOf_toNat hv]
  case h_12 => cases h
  all_goals
    obtain rfl := Option.some.inj h
    exact ⟨rfl, rfl⟩

/-- The actions that were taken are read back, whatever follows them. -/
theorem decodeActions_encode (n : Nat) (l rest : List Byte) (as : List Action) (h : decodeActions n l = some as) :
    as.length = n ∧ decodeActions n (as.flatMap encodeSlot ++ rest) = some as := by
  induction n generalizing l as with
  | zero =>
    obtain rfl := Option.some.inj h
    exact ⟨rfl, rfl⟩
  | succ n ih =>
    unfold decodeActions at h
    split at h
    · rename_i a as' ha has
      obtain rfl := Option.some.inj h
      obtain ⟨hlen, hrest⟩ := ih _ _ has
      obtain ⟨hslot, hheld⟩ := decodeSlot_encodeSlot ha
      have hl := encodeSlot_length a.holdStep
      refine ⟨by simp [hlen], ?_⟩
      have hdrop : (encodeSlot a.holdStep ++ (as'.flatMap encodeSlot ++ rest)).drop 5 = as'.flatMap encodeSlot ++ rest := by
        rw [← hl, List.drop_left]
      have htake : (encodeSlot a.holdStep ++ (as'.flatMap encodeSlot ++ rest)).take 5 = encodeSlot a.holdStep := by
        rw [← hl, List.take_left]
      rw [List.flatMap_cons, List.append_assoc]
      simp only [decodeActions, hdrop, htake, hslot, hrest, hheld]
    · cases h

theorem decodeTrigger_fields {k v : Nat} {t : Trigger} (hv : v < 65536) (h : decodeTrigger k v = some t) :
    decodeTrigger t.fields.1 t.fields.2 = some t ∧ t.fields.1 < 4 ∧ t.fields.2 < 65536 := by
  unfold decodeTrigger at h
  split at h
  · split at h
    · cases h
    · obtain rfl := Option.some.inj h
      exact ⟨if_neg ‹_›, by simp [Trigger.fields], hv⟩
  · split at h
    · cases h
    · obtain rfl := Option.some.inj h
      exact ⟨if_neg ‹_›, by simp [Trigger.fields], hv⟩
  · obtain rfl := Option.some.inj h
    exact ⟨rfl, by simp [Trigger.fields], hv⟩
  · obtain rfl := Option.some.inj h
    exact ⟨rfl, by simp [Trigger.fields], by simp [Trigger.fields]⟩
  · cases h

theorem decodeGateSlot_encode {b : Byte} {g : Option Nat} (h : decodeGateSlot b = some g) :
    decodeGateSlot (byteOf (g.getD 255)) = some g := by
  unfold decodeGateSlot at h
  split at h
  · obtain rfl := Option.some.inj h
    rfl
  · split at h
    · obtain rfl := Option.some.inj h
      unfold decodeGateSlot
      have hb : byteOf ((some b.toNat).getD 255) = b := by simp [byteOf]
      rw [hb, if_neg ‹_›, if_pos ‹_›]
    · cases h

/-- The first byte of a record: its flags and the trigger's code. -/
theorem encodeStep_flags (v n : Bool) (k : Nat) (hk : k < 4) :
    (byteOf ((if v then 128 else 0) + (if n then 64 else 0) + k)).toNat % 16 = k ∧
      (byteOf ((if v then 128 else 0) + (if n then 64 else 0) + k)).getLsbD 7 = v ∧
      (byteOf ((if v then 128 else 0) + (if n then 64 else 0) + k)).getLsbD 6 = n := by
  have hall : ∀ v n : Bool, ∀ k : Fin 4, (byteOf ((if v then 128 else 0) + (if n then 64 else 0) + k.val)).toNat % 16 = k ∧
      (byteOf ((if v then 128 else 0) + (if n then 64 else 0) + k.val)).getLsbD 7 = v ∧
      (byteOf ((if v then 128 else 0) + (if n then 64 else 0) + k.val)).getLsbD 6 = n := by decide
  exact hall v n ⟨k, hk⟩

theorem encodeStep_length {r : StepRec} (h : r.actions.length ≤ 4) : (encodeStep r).length = 26 := by
  have hslots : (r.actions.flatMap encodeSlot).length = 5 * r.actions.length := by
    rw [List.length_flatMap]
    simp [encodeSlot_length, Nat.mul_comm]
  simp [encodeStep, enc2, hslots]
  omega

theorem decodeStep_encodeStep {record : List Byte} {r : StepRec} (h : decodeStep record = some r) :
    decodeStep (encodeStep r) = some r ∧ (encodeStep r).length = 26 := by
  unfold decodeStep at h
  dsimp only at h
  split at h
  · cases h
  · rename_i hcount
    split at h
    · rename_i t g as ht hg has
      obtain rfl := Option.some.inj h
      obtain ⟨hlen, hactions⟩ := decodeActions_encode _ _ (List.replicate (5 * (4 - as.length)) 0) _ has
      obtain ⟨htrig, hk, hv⟩ := decodeTrigger_fields (Nat.lt_succ_of_le (word2_le ..)) ht
      have hgate := decodeGateSlot_encode hg
      refine ⟨?_, encodeStep_length (by simpa [hlen] using hcount)⟩
      obtain ⟨hcode, hvalid, hlast⟩ := encodeStep_flags ((record.getD 0 0).getLsbD 7)
        (if (record.getD 0 0).getLsbD 6 then none else some (record.getD 4 0).toNat : Option Nat).isNone t.fields.1 hk
      have hn : (byteOf as.length).toNat = (record.getD 5 0).toNat := by rw [byteOf_toNat (by omega), hlen]
      unfold decodeStep encodeStep
      simp only [enc2, List.cons_append, List.nil_append, List.getD_cons_zero, List.getD_cons_succ, List.drop_succ_cons,
        List.drop_zero, hn, if_neg hcount, hcode, word2_byteOf hv, htrig, hgate, hactions, hvalid, hlast]
      cases (record.getD 0 0).getLsbD 6 <;> simp [byteOf]
    · cases h

/-! ## STEP_WRITE (R145, R146) -/

theorem requestStepWrite_whole {h : LinkHdr} {index mode : Byte} {record : List Byte} (hl : record.length = 26) :
    requestStepWrite h index mode record = request h (.stepWrite index mode record) := by
  funext s
  simp [requestStepWrite, request, hl, Req.code]

theorem reqStepWrite_taken {s : State} {index mode : Byte} {record : List Byte} {r : StepRec}
    (hrun : s.ssq.st ≠ .RUNNING) (hpause : s.ssq.st ≠ .PAUSED) (hm : mode.toNat ≤ 1) (hr : decodeStep record = some r) :
    reqStepWrite index mode record s =
      if mode = 0 then done (s.writeStep index.toNat r).afterWrite else reqArm index (s.writeStep index.toNat r) := by
  unfold reqStepWrite
  rw [if_neg (by simp [hrun, hpause]), if_neg (by omega), hr]

theorem writeStep_at {s : State} {i : Nat} {r : StepRec} (h : i < s.ssq.steps.length) : (s.writeStep i r).ssq.step i = r := by
  simp [State.writeStep, Ssq.step, h]

/-- R146: a sequencer that stands is armed at a step. -/
theorem armSeq_standing {s : State} {i : Nat} (hrun : s.ssq.st ≠ .RUNNING) (hpause : s.ssq.st ≠ .PAUSED) :
    s.armSeq i = s.setSsq { s.ssq with
      head := i, pend := none, remembered := none, watched := none, pausedFrom := none, follow := .stopped
      ptr := if (s.ssq.step i).valid then some i else none
      st := if (s.ssq.step i).valid then .READY else .UNLOADED } := by
  unfold State.armSeq
  simp only [State.setSsq_ssq, hrun, hpause, or_self, if_false]
  rfl

/-- Settles O39. -/
theorem stepRecordsAreWrittenAndRead : Obligations.StepRecordsAreWrittenAndRead := by
  refine ⟨fun dt h index mode record s ha hu hlen => ?_, fun dt h index s ha => ?_, fun record r hr => decodeStep_encodeStep hr⟩
  · have hexec : exec (.stepWrite dt h index mode record) s =
        .next (s.take dt (request h (.stepWrite index mode record))) :=
      congrArg (fun f => Host.Outcome.next (s.take dt f)) (requestStepWrite_whole hlen)
    have hlock : (s.sts.save.isSome && (Req.stepWrite index mode record).locked) = false := by
      simp [show s.sts.save = none from hu]
    rw [hexec]
    refine ⟨fun hst => ?_, fun hrun hpause hbad => ?_, fun r hrun hpause hr => ⟨fun hkeep hm => ?_, fun hload hinv hi hl hm => ?_,
      fun hm hv hi => ?_, fun hm hv hi => ?_⟩⟩
    · exact next_refused ha rfl hlock (if_pos hst) rfl (by simp) (by simp)
    · have hr : applyReq (s.asked dt) (.stepWrite index mode record) = deny (s.asked dt) .BAD_VALUE := by
        change reqStepWrite .. = _
        unfold reqStepWrite
        rw [if_neg (by simp [State.asked, hrun, hpause])]
        rcases hbad with hmode | hnone
        · rw [if_pos hmode]
        · rw [hnone]
          exact ite_self _
      exact next_refused ha rfl hlock hr rfl (by simp) (by simp)
    · subst hm
      have hw := reqStepWrite_taken (s := s.asked dt) (index := index) (mode := 0) hrun hpause (by decide) hr
      have hafter : ((s.asked dt).writeStep index.toNat r).afterWrite = (s.asked dt).writeStep index.toNat r := by
        refine if_neg ?_
        rintro ⟨hst, hinv⟩
        have hst' : s.ssq.st = .READY ∨ s.ssq.st = .ENDED := hst
        rcases hkeep with hun | ⟨hne, hvalid⟩ | ⟨hvalid, heq, hlt⟩
        · simp [hun] at hst'
        · have hstep : ((s.asked dt).writeStep index.toNat r).ssq.step s.ssq.head = s.ssq.step s.ssq.head := by
            simp [State.writeStep, Ssq.step, State.asked, List.getElem?_set, hne]
          exact absurd (hinv.symm.trans ((congrArg StepRec.valid hstep).trans hvalid)) (by simp)
        · have hstep : ((s.asked dt).writeStep index.toNat r).ssq.step s.ssq.head = r := by
            rw [← heq]
            exact writeStep_at (by simpa [State.asked, heq] using hlt)
          exact absurd (hinv.symm.trans ((congrArg StepRec.valid hstep).trans hvalid)) (by simp)
      rw [hafter] at hw
      exact next_request ha rfl hlock hw rfl
    · subst hm
      have hw := reqStepWrite_taken (s := s.asked dt) (index := index) (mode := 0) hrun hpause (by decide) hr
      have hafter : ((s.asked dt).writeStep index.toNat r).afterWrite = ((s.asked dt).writeStep index.toNat r).setSsq
          { ((s.asked dt).writeStep index.toNat r).ssq with st := .UNLOADED, ptr := none } := by
        refine if_pos ⟨?_, ?_⟩
        · change s.ssq.st = .READY ∨ s.ssq.st = .ENDED
          cases hst : s.ssq.st <;> simp_all
        · have hstep : ((s.asked dt).writeStep index.toNat r).ssq.step s.ssq.head = r := by
            rw [← hi]
            exact writeStep_at (by simpa [State.asked, hi] using hl)
          exact (congrArg StepRec.valid hstep).trans hinv
      rw [hafter] at hw
      exact next_request ha rfl hlock hw rfl
    all_goals
      subst hm
      have hw := reqStepWrite_taken (s := s.asked dt) (index := index) (mode := 1) hrun hpause (by decide) hr
      have hstep : ((s.asked dt).writeStep index.toNat r).ssq.step index.toNat = r := writeStep_at hi
      rw [if_neg (by decide), reqArm, armSeq_standing (s := (s.asked dt).writeStep index.toNat r) hrun hpause, hstep, hv] at hw
      exact next_request ha rfl hlock hw rfl
  · exact next_request (r := .stepRead index) ha rfl (by simp [Req.locked]) rfl rfl

end Sys2Proof.Machine
end

section
/-!
The unit reset (R190, R191) and ASSIGN (R184): each block's part of it put together, the runner over what the flush leaves, and
the end of RESETTING.
-/

namespace Sys2Proof.Machine

/-! ## The blocks (R22, R50, R81, R117, R142, R165, R177) -/

/-- R190: RESETTING is set, and the query copies go. -/
def State.resetBegun (s : State) : State :=
  s.setLki { s.lki with resetting := true, copies := s.lki.copies.map (fun _ => none) }

/-- R190: what the blocks have made of the state before the runner tests the head. -/
def State.blocksReset (s : State) : State :=
  s.resetBegun.resetLampBlock.resetShow.resetTape.resetCue.resetRemote.resetQueue.resetMech

theorem unitReset_eq (s : State) : s.unitReset = s.blocksReset.runHead.resetEnd := rfl

theorem blocksReset_frame (s : State) :
    s.blocksReset.powered = s.powered ∧ s.blocksReset.now = s.now ∧ s.blocksReset.free = s.free ∧
      s.blocksReset.pending = s.pending ∧ s.blocksReset.thc = s.thc ∧ s.blocksReset.sts = s.sts := by
  simp [State.blocksReset, State.resetBegun]

theorem blocksReset_aq (s : State) :
    s.blocksReset.aq.mode = s.aq.startMode ∧ s.blocksReset.aq.startMode = s.aq.startMode ∧
      s.blocksReset.aq.stopPending = false ∧
      s.blocksReset.aq.queue = s.aq.queue.filter (fun e => e.running && e.action.mech) ∧
      s.blocksReset.aq.holdDue = if s.aq.queue.head?.any Entry.holds then none else s.aq.holdDue := by
  obtain ⟨hmode, hstop, hqueue, hhold⟩ := resetQueue_aq s.resetBegun.resetLampBlock.resetShow.resetTape.resetCue.resetRemote
  simp only [State.blocksReset, resetMech_frame, hmode, hstop, hqueue, hhold]
  simp [State.resetBegun]

theorem blocksReset_lmc (s : State) : s.blocksReset.lmc = { s.lmc with
    ramp := none
    level := 0
    blanks := { s.lmc.blanks with manual := false, mech := s.lmc.blanks.mech || decide (s.tmc.st = .JAMMED) } } := by
  simp only [State.blocksReset]
  rw [resetMech_lmc, resetQueue_lmc]
  · simp [resetLampBlock_lmc, State.resetBegun]
  · simp [resetLampBlock_lmc]

theorem blocksReset_tmc (s : State) (t : Tmc) (ht : t = { s.tmc with
      comparePos := none
      clearMode := .AUTO
      slotMatch := false
      truncated := s.tmc.truncated || (decide (s.tmc.st = .SEEKING) && s.aq.queue.head?.any Entry.seeks) }) :
    s.blocksReset.tmc = if s.tmc.st = .JAMMED then
        { t with st := .HOMING, phase := some .DARKEN, timer := none, dir := .forward, retriedLift := false
                 retriedDrop := false, steps := 0 }
      else t := by
  simp only [State.blocksReset]
  rw [resetMech_tmc _ t]
  · simp [State.resetBegun]
  · rw [ht, resetQueue_tmc]
    simp [State.resetBegun]

theorem resetShow_ssq (s : State) : s.resetShow.ssq =
    { steps := s.ssq.steps, head := s.storedSettings.head
      st := if (s.ssq.step s.storedSettings.head).valid then .READY else .UNLOADED
      ptr := if (s.ssq.step s.storedSettings.head).valid then some s.storedSettings.head else none
      pausedFrom := none, pend := none, watched := none, follow := .stopped, remembered := none, skipped := 0 } := rfl

/-- R165: the sequencer as the queue is flushed does not run. -/
theorem resetRemote_standing (s : State) :
    s.resetBegun.resetLampBlock.resetShow.resetTape.resetCue.resetRemote.ssq = s.resetShow.ssq ∧
      s.resetShow.ssq.st ≠ .RUNNING := by
  refine ⟨?_, ?_⟩
  · simp [resetShow_ssq, State.storedSettings, State.resetBegun]
    exact ⟨rfl, rfl⟩
  rw [resetShow_ssq]
  dsimp only
  split <;> simp

theorem blocksReset_ssq (s : State) : s.blocksReset.ssq = s.resetShow.ssq := by
  obtain ⟨hssq, hst⟩ := resetRemote_standing s
  simp only [State.blocksReset, resetMech_frame]
  rw [(resetQueue_quiet _ (by rw [hssq]; exact hst)).1, hssq]

theorem blocksReset_resetsShow (s : State) : s.resetsShow s.blocksReset := by
  refine ⟨?_, fun r hr => ⟨?_, ?_⟩⟩
  · simp only [State.blocksReset, resetMech_frame, resetQueue_frame, resetRemote_frame, resetCue_frame]
    rw [resetTape_ttc]
    simp [State.resetBegun]
  · obtain rfl : r = s.storedSettings := hr
    simp only [State.blocksReset, resetMech_frame, resetQueue_frame, resetRemote_frame]
    rw [resetCue_cud]
    simp [State.resetBegun, State.storedSettings]
  · obtain rfl : r = s.storedSettings := hr
    rw [blocksReset_ssq, resetShow_ssq]

theorem blocksReset_rpd (s : State) : s.blocksReset.rpd =
    { wired := { rx := none, lastSeq := none, held := none }, ir := { rx := none, lastSeq := none, held := none }
      panel := s.rpd.panel.map (fun r => { closed := r.closed, down := r.closed, debounce := none, pressed := r.pressed
                                           hold := false, nextRepeat := none })
      channel := s.rpd.channel } := by
  simp only [State.blocksReset, resetMech_frame, resetQueue_frame]
  simp [State.resetRemote, State.resetBegun, resetDecoder]
  exact fun _ _ => rfl

theorem blocksReset_cnt (s : State) :
    s.blocksReset.cnt = (if s.cud.framing = .SYNC then s.count .cueSyncLosses else s).cnt := by
  simp only [State.blocksReset, resetMech_frame, resetQueue_frame, resetRemote_frame]
  rw [resetCue_cnt]
  by_cases h : s.cud.framing = .SYNC <;> simp [h, State.resetBegun, State.count]

/-- R128, R142, R48: the link before RESETTING ends. -/
theorem blocksReset_lki (s : State) :
    s.blocksReset.lki.rx = s.lki.rx ∧ s.blocksReset.lki.addr = s.lki.addr ∧
      s.blocksReset.lki.assignTaken = s.lki.assignTaken ∧ s.blocksReset.lki.enables = s.lki.enables ∧
      s.blocksReset.lki.copies = s.lki.copies.map (fun _ => none) ∧ s.blocksReset.lki.resp = s.lki.resp ∧
      s.blocksReset.lki.resetting = true := by
  obtain ⟨hssq, hst⟩ := resetRemote_standing s
  simp only [State.blocksReset, resetMech_frame]
  rw [(resetQueue_quiet _ (by rw [hssq]; exact hst)).2]
  simp [State.resetBegun]

theorem blocksReset_notices (s : State) : s.resetNotices.lki.sameNotices s.blocksReset.lki := by
  obtain ⟨t, ht⟩ : ∃ t, t = s.resetBegun.resetLampBlock.resetShow.resetTape := ⟨_, rfl⟩
  obtain ⟨q, hq⟩ : ∃ q, q = t.resetCue.resetRemote.resetQueue := ⟨_, rfl⟩
  obtain ⟨c, hc⟩ : ∃ c, c = (
      let a := if t.cud.framing = .SYNC then (t.condNotice .CUE_SYNC false none).event .SYNC_LOSS none else t
      let b := if t.cud.speedOff then a.condNotice .TAPE_SPEED_OFF false none else a
      if t.cud.degraded then b.condNotice .CUE_DEGRADED false none else b) := ⟨_, rfl⟩
  have hqlki : q.lki = c.lki := by
    obtain ⟨hssq, hst⟩ := resetRemote_standing s
    rw [hq, (resetQueue_quiet _ (by rw [ht, hssq]; exact hst)).2, (resetRemote_frame _).2.2.2.2.2.2.2.2.2.2.1, resetCue_lki, hc]
  have hcnow : c.now = t.now := by
    rw [hc]
    dsimp only
    split <;> split <;> split <;> simp
  have hmech : s.blocksReset.lki = t.resetNotices.lki := by
    have hform : t.resetNotices = if t.tmc.slotMatch then c.condNotice .SLOT_MATCH false t.tmc.comparePos else c := by
      rw [hc]
      rfl
    have hblocks : s.blocksReset = q.resetMech := by rw [hq, ht]; rfl
    have hqt : q.tmc.slotMatch = t.tmc.slotMatch ∧ q.tmc.comparePos = t.tmc.comparePos ∧ q.now = t.now := by
      simp [hq, resetQueue_tmc]
    rw [hblocks, resetMech_lki, hform, hqt.1, hqt.2.1]
    split
    · exact notice_lki_congr _ _ _ _ _ hqlki (hqt.2.2.trans hcnow.symm)
    · exact hqlki
  rw [hmech]
  exact resetNotices_same s t (by simp [ht, Lki.sameNotices, State.resetBegun]) (by simp [ht, State.resetBegun])
    (by simp [ht, State.resetBegun]) (by simp [ht, State.resetBegun])

/-! ## The runner and the end of RESETTING (R11, R191) -/

theorem MechState.not_atRest_of_moving {x : MechState} (h : x.moving = true) : x ≠ .IDLE ∧ x ≠ .PARKED := by
  cases x <;> simp_all [MechState.moving]

theorem resetEnd_waits (s : State) (h : s.tmc.st ≠ .IDLE ∧ s.tmc.st ≠ .PARKED) : s.resetEnd = s := by
  simp [State.resetEnd, h]

theorem blocksReset_queue_works (s : State) : ∀ e ∈ s.blocksReset.aq.queue, e.running = true ∧ e.action.mech = true := by
  obtain ⟨-, -, -, hqueue, -⟩ := blocksReset_aq s
  intro e he
  rw [hqueue] at he
  simpa using (List.mem_filter.mp he).2

/-- R190: a mechanism in a cycle, or in a jam, which homes, goes on, and so does RESETTING. -/
theorem unitReset_moving (s : State) (h : s.tmc.st.moving = true ∨ s.tmc.st = .JAMMED) :
    s.unitReset = s.blocksReset.setAq { s.blocksReset.aq with
      runner := if s.blocksReset.aq.queue = [] then .EMPTY else .RUNNING } := by
  have hst : s.blocksReset.tmc.st.moving = true := by
    rw [blocksReset_tmc s _ rfl]
    rcases h with h | h
    · have hj : s.tmc.st ≠ .JAMMED := by
        intro hj
        simp [hj, MechState.moving] at h
      rw [if_neg hj]
      exact h
    · rw [if_pos h]
      rfl
  rw [unitReset_eq, runHead_waits_moving _ hst (blocksReset_queue_works s)]
  exact resetEnd_waits _ (MechState.not_atRest_of_moving hst)

/-- R165, R191: at rest, only AQ and the link change then. -/
theorem unitReset_atRest (s : State) (h : s.tmc.st = .IDLE ∨ s.tmc.st = .PARKED) :
    (∃ a l, s.unitReset = (s.blocksReset.setAq a).setLki l ∧ a.holdDue = s.blocksReset.aq.holdDue ∧
        a.stopPending = false) ∧
      (s.aq.queue.length ≤ 12 → ∃ x, s.unitReset = s.blocksReset.resetDone.setAq
        { s.blocksReset.aq with queue := [], runner := .EMPTY, lastReport := x }) := by
  have hst : s.blocksReset.tmc.st = .IDLE ∨ s.blocksReset.tmc.st = .PARKED := by
    have hj : s.tmc.st ≠ .JAMMED := by rcases h with h | h <;> simp [h]
    rw [blocksReset_tmc s _ rfl, if_neg hj]
    exact h
  obtain ⟨hssq, hrun⟩ := resetRemote_standing s
  rw [← blocksReset_ssq] at hssq hrun
  have hw : s.blocksReset.ssq.watched = none := by
    rw [blocksReset_ssq, resetShow_ssq]
  obtain ⟨-, -, hstop, hqueue, -⟩ := blocksReset_aq s
  have hworks := blocksReset_queue_works s
  rw [unitReset_eq]
  refine ⟨?_, fun hlen => ?_⟩
  · obtain ⟨a, l, hsettle, hhold, hpend⟩ := settle_atRest_frame runnerFuel s.blocksReset hst hrun hw hstop hworks
    obtain ⟨k, hk⟩ := resetEnd_touches_link s.blocksReset.runHead
    refine ⟨a, k, ?_, hhold, hpend⟩
    rw [hk, State.runHead, hsettle]
    rfl
  · have hfuel : s.blocksReset.aq.queue.length < runnerFuel := by
      have := List.length_filter_le (fun e : Entry => e.running && e.action.mech) s.aq.queue
      rw [hqueue]
      simp only [runnerFuel]
      omega
    exact settle_atRest runnerFuel s.blocksReset hfuel (blocksReset_lki s).2.2.2.2.2.2 hst hrun hw hstop hworks

theorem setAq_keeps_link (s : State) (a : Aq) : s.setAq a = (s.setAq a).setLki s.lki := rfl

/-- Whatever the mechanism is in, the runner and the end of RESETTING change AQ and the link alone. -/
theorem unitReset_form (s : State) : ∃ a l, s.unitReset = (s.blocksReset.setAq a).setLki l ∧
    a.holdDue = s.blocksReset.aq.holdDue ∧ a.stopPending = false := by
  by_cases h : s.tmc.st = .IDLE ∨ s.tmc.st = .PARKED
  · exact (unitReset_atRest s h).1
  · have hm : s.tmc.st.moving = true ∨ s.tmc.st = .JAMMED := by
      cases hst : s.tmc.st <;> simp_all [MechState.moving]
    obtain ⟨-, -, hstop, -⟩ := blocksReset_aq s
    exact ⟨_, s.blocksReset.lki, (unitReset_moving s hm).trans (setAq_keeps_link _ _), rfl, hstop⟩

theorem unitReset_resetsWork (s : State) : s.resetsWork s.unitReset := by
  obtain ⟨hmode, hstart, hstop, hqueue, hhold⟩ := blocksReset_aq s
  obtain ⟨a, l, hform, hdue, hpend⟩ := unitReset_form s
  have hlmc : s.unitReset.lmc = s.blocksReset.lmc := by rw [hform, State.setLki_lmc, State.setAq_lmc]
  have htmc : s.unitReset.tmc = s.blocksReset.tmc := by rw [hform, State.setLki_tmc, State.setAq_tmc]
  refine ⟨?_, ?_, ?_, ?_, fun hm => ?_, fun hm hlen => ?_, hlmc.trans (blocksReset_lmc s),
    fun t ht => htmc.trans (blocksReset_tmc s t ht)⟩
  · rw [unitReset_eq]
    simp [hmode]
  · rw [unitReset_eq]
    simp [hstart]
  · rw [hform, State.setLki_aq, State.setAq_aq]
    exact hpend
  · rw [hform, State.setLki_aq, State.setAq_aq]
    exact hdue.trans hhold
  · rw [unitReset_moving s hm, State.setAq_aq]
    exact ⟨hqueue, rfl⟩
  · obtain ⟨x, hx⟩ := (unitReset_atRest s hm).2 hlen
    rw [hx, State.setAq_aq]
    exact ⟨rfl, rfl⟩

theorem unitReset_resetsShow (s : State) : s.resetsShow s.unitReset := by
  obtain ⟨a, l, hform, -⟩ := unitReset_form s
  unfold State.resetsShow
  rw [hform, State.setLki_ttc, State.setAq_ttc, State.setLki_cud, State.setAq_cud, State.setLki_ssq, State.setAq_ssq]
  exact blocksReset_resetsShow s

theorem unitReset_resetsLink (s : State) : s.resetsLink s.unitReset := by
  obtain ⟨a, l, hform, -⟩ := unitReset_form s
  obtain ⟨hrx, haddr, hassign, henables, hcopies, -, hresetting⟩ := blocksReset_lki s
  obtain ⟨hnotices, hlost, hattn, -⟩ := blocksReset_notices s
  have hrpd : s.unitReset.rpd = s.blocksReset.rpd := by rw [hform, State.setLki_rpd, State.setAq_rpd]
  have hcnt : s.unitReset.cnt = s.blocksReset.cnt := by rw [hform, State.setLki_cnt, State.setAq_cnt]
  refine ⟨hrpd.trans (blocksReset_rpd s), ?_, ?_, ?_, ?_, ?_, hcnt.trans (blocksReset_cnt s), fun hm => ?_, fun hm hlen => ?_⟩
  · simp
  · simp
  · simp
  · simp
  · rw [unitReset_eq]
    simp [hcopies]
  · rw [unitReset_moving s hm, State.setAq_lki]
    exact ⟨hresetting, hnotices, hlost, hattn⟩
  · obtain ⟨x, hx⟩ := (unitReset_atRest s hm).2 hlen
    have hen : s.blocksReset.lki.enabled .UNIT_RESET_DONE = s.lki.enabled .UNIT_RESET_DONE := by simp [Lki.enabled, henables]
    have hstamp : s.blocksReset.stamp = s.stamp := by simp [State.stamp, (blocksReset_frame s).2.1]
    rw [hx, State.setAq_lki, resetDone_lki, hen, hstamp]
    exact ⟨rfl, rfl, rfl, rfl⟩

theorem unitReset_resets (s : State) : s.unitResets s.unitReset := by
  obtain ⟨a, l, hform, -⟩ := unitReset_form s
  obtain ⟨hpow, hnow, hfree, hpending, hthc, hsts⟩ := blocksReset_frame s
  refine ⟨by simp, ?_, unitReset_resetsWork s, unitReset_resetsShow s, unitReset_resetsLink s⟩
  rw [hform]
  simp [State.sameBut, hpow, hfree, hpending, hthc, hsts]

end Sys2Proof.Machine
end

section
/-!
UNIT_RESET and ASSIGN over the link (R184, R190, R191).
-/

namespace Sys2Proof.Machine

/-- R190: a unit reset reads and leaves the response as it is. -/
theorem unitResets_resp {s u : State} {x y : RespState} (h : (s.setLki { s.lki with resp := x }).unitResets u) :
    s.unitResets (u.setLki { u.lki with resp := y }) := by
  obtain ⟨hnow, hsame, hwork, hshow, hrpd, hrx, haddr, hassign, henables, hcopies, hcnt, hgoes, hends⟩ := h
  obtain ⟨hnotices, hlost, hattn, -⟩ := resetNotices_same s (s.setLki { s.lki with resp := x }) ⟨rfl, rfl, rfl, rfl⟩ rfl rfl rfl
  refine ⟨hnow, by simpa [State.sameBut] using hsame, hwork, hshow, hrpd, hrx, haddr, hassign, henables, hcopies, ?_, fun hm => ?_, hends⟩
  · rw [State.setLki_cnt, hcnt]
    by_cases hs : s.cud.framing = .SYNC <;> simp [hs, State.count]
  · obtain ⟨hres, hn, hl, ha⟩ := hgoes hm
    exact ⟨hres, hn.trans hnotices, hl.trans hlost, ha.trans hattn⟩

theorem route_assign {addr : AddrState} {dest : Byte} (serial : BitVec 32) (a : Byte) (h : dest = 31)
    (ha : addr = .UNASSIGNED) : route addr dest (Req.assign serial a).code = .broadcast := by
  subst h ha
  simp [route, Req.code, broadcastDest, assignKind]

/-- R182: an addressed request is judged, and answered. -/
theorem request_judged {s : State} {dt : Nat} {h : LinkHdr} {r : Req} (ha : s.addressed h) :
    request h r (s.advance dt) = (judge (s.asked dt) false (some r)).counted.respond h.dest r.code h.src
      (judge (s.asked dt) false (some r)) := by
  obtain ⟨-, hd, -, haddr⟩ := ha
  have hroute : route s.lki.addr h.dest r.code = .addressed h.dest := route_own_address _ _ _ haddr
  unfold request
  rw [advance_deaf, hd, withhold_not_deaf _ (by simpa using hd)]
  simp [State.takeRequest, hroute, State.asked]

/-- R182: a broadcast that its owner takes. -/
theorem judge_broadcast {s : State} {dt : Nat} {r : Req} (hres : s.lki.resetting = false) (hm : r.misaddressed true = false)
    (hl : (s.sts.save.isSome && r.locked) = false) : judge (s.asked dt) true (some r) = applyReq (s.asked dt) r := by
  have hres' : (s.asked dt).lki.resetting = false := hres
  have hl' : ((s.asked dt).sts.save.isSome && r.locked) = false := hl
  simp only [judge, hres', hm, hl', Bool.false_eq_true, if_false]

theorem next_broadcast {s : State} {dt : Nat} {h : LinkHdr} {r : Req} (hp : s.powered = true) (hd : s.deaf = false)
    (hres : s.lki.resetting = false) (hroute : route s.lki.addr h.dest r.code = .broadcast)
    (hm : r.misaddressed true = false) (hl : (s.sts.save.isSome && r.locked) = false) {a : Answer}
    (hr : applyReq (s.asked dt) r = a) :
    (Host.Outcome.next (s.take dt (request h r)) : Host.Outcome State Fault Refusal) = .next a.counted.finish := by
  refine next_take hp ?_
  rw [request_broadcast hd hroute, judge_broadcast hres hm hl, hr]

/-- Settles O47. -/
theorem unitResetAndAssign : Obligations.UnitResetAndAssign := by
  intro dt s
  refine ⟨fun h ha => ?_, fun h hp hd hres hdest haddr => ?_, fun hp => ⟨fun hres hst hq => ?_, fun hno => ?_⟩,
    fun h serial addr => ⟨fun ha _ => ?_, fun hp hd hres hdest haddr => ⟨fun hs h1 h30 => ?_, fun hs hbad => ?_, fun hs => ?_⟩,
      fun hp hd hres hdest haddr => ?_, fun a hp hd hres hdest haddr hne => ⟨fun hno => ?_, fun hassign hs => ?_⟩⟩⟩
  · have hr : applyReq (s.asked dt) .unitReset = { state := (s.asked dt).unitReset, status := .ACCEPTED, body := [] } := rfl
    have hreset : (s.advance dt).unitResets (((s.asked dt).unitReset).answered h 0x8E .ACCEPTED []) :=
      unitResets_resp (unitReset_resets (s.asked dt))
    refine ⟨_, next_request ha rfl (by simp [Req.locked]) hr rfl, hreset, ?_⟩
    have hnow : (s.asked dt).unitReset.now = (s.advance dt).now := by simp [State.asked]
    simp only [State.answers, State.answered, State.setLki_lki, ← hnow]
    rfl
  · have hr : applyReq (s.asked dt) .unitReset = { state := (s.asked dt).unitReset, status := .ACCEPTED, body := [] } := rfl
    have hresp : (s.asked dt).unitReset.lki.resp = .NONE := by simp [State.asked]
    have hreset : (s.advance dt).unitResets (s.asked dt).unitReset := by
      have := unitResets_resp (s := s.advance dt) (y := .NONE) (unitReset_resets (s.asked dt))
      rwa [← hresp] at this
    exact ⟨_, next_broadcast hp hd hres (route_broadcast .unitReset hdest haddr.symm) rfl (by simp [Req.locked]) hr,
      hreset, hresp⟩
  · exact next_take hp (resetEnd_atRest (s.advance dt) hres hst hq)
  · refine next_take hp (if_neg ?_)
    rintro ⟨hres, hst, hq⟩
    rcases hno with h0 | h0 | h0 | h0
    · exact absurd (h0.symm.trans hres) (by simp)
    · obtain ⟨hidle, hparked⟩ := MechState.not_atRest_of_moving h0
      exact hst.elim hidle hparked
    · rcases hst with h1 | h1 <;> exact absurd (h0.symm.trans h1) (by simp)
    · exact h0 hq
  · have hj : judge (s.asked dt) false (some (.assign serial addr)) = deny (s.asked dt) .BAD_REQUEST := by
      simp [judge, State.asked, ha.2.2.1, Req.misaddressed]
    refine next_take ha.1 ?_
    rw [request_judged ha, hj, counted_deny _ _ (by simp) (by simp), respond_answered _ _ _ _ _ 0x8F rfl]
    rfl
  · have hr : applyReq (s.asked dt) (.assign serial addr) = done ((s.asked dt).setLki
        { (s.asked dt).lki with addr := .ASSIGNED addr.toNat, assignTaken := true }) := by
      simp [applyReq, reqAssign, State.asked, haddr, hs, h1, h30]
    exact next_broadcast hp hd hres (route_assign serial addr hdest haddr) rfl (by simp [Req.locked]) hr
  · have hr : applyReq (s.asked dt) (.assign serial addr) = deny (s.asked dt) .BAD_VALUE := by
      have h0 : ¬(1 ≤ addr.toNat ∧ addr.toNat ≤ 30) := by
        rcases hbad with rfl | hgt
        · simp
        · omega
      simp only [applyReq, reqAssign, State.asked, State.setLki_lki, haddr]
      rw [if_neg (by simp [hs]), if_neg h0]
    exact next_broadcast hp hd hres (route_assign serial addr hdest haddr) rfl (by simp [Req.locked]) hr
  · have hr : applyReq (s.asked dt) (.assign serial addr) = done (s.asked dt) := by
      simp [applyReq, reqAssign, State.asked, haddr, hs]
    exact next_broadcast hp hd hres (route_assign serial addr hdest haddr) rfl (by simp [Req.locked]) hr
  · have hr : applyReq (s.asked dt) (.assign serial addr) = deny (s.asked dt) .REFUSED_STATE := by
      simp [applyReq, reqAssign, State.asked, haddr]
    exact next_broadcast hp hd hres (route_broadcast _ hdest (.inl haddr)) rfl (by simp [Req.locked]) hr
  · have hr : applyReq (s.asked dt) (.assign serial addr) = deny (s.asked dt) .REFUSED_STATE := by
      simp only [applyReq, reqAssign, State.asked, State.setLki_lki, haddr]
      refine if_neg ?_
      rintro ⟨hassign, hs⟩
      rcases hno with h0 | h0
      · exact absurd (h0.symm.trans hassign) (by simp)
      · exact hs h0
    exact next_broadcast hp hd hres (route_broadcast _ hdest (.inr ⟨a, haddr, hne⟩)) rfl (by simp [Req.locked]) hr
  · have hr : applyReq (s.asked dt) (.assign serial addr) = done (s.asked dt) := by
      simp [applyReq, reqAssign, State.asked, haddr, hassign, hs]
    exact next_broadcast hp hd hres (route_broadcast _ hdest (.inr ⟨a, haddr, hne⟩)) rfl (by simp [Req.locked]) hr

end Sys2Proof.Machine
end

section
/-!
The reports of QUERY, item by item, and their pages (R186).
-/

namespace Sys2Proof.Machine

/-! ## Codes by the order in which their chapters list the values (R186) -/

theorem MechState.idxOf_code (x : MechState) : [MechState.PARKED, .HOMING, .IDLE, .CHANGING, .SEEKING, .JAMMED].idxOf x = x.code := by
  cases x <;> rfl

theorem ClearMode.idxOf_code (x : ClearMode) : [ClearMode.AUTO, .HELD].idxOf x = x.code := by
  cases x <;> rfl

theorem JamCause.idxOf_code (x : JamCause) :
    [JamCause.LIFT_TIMEOUT, .DROP_TIMEOUT, .STEP_TIMEOUT, .HOME_NOT_FOUND].idxOf x = x.code := by
  cases x <;> rfl

theorem Power.idxOf_code (x : Power) : [Power.OFF, .IGNITING, .LIT, .SWAPPING].idxOf x = x.code := by
  cases x <;> rfl

theorem LampPos.idxOf_num (x : LampPos) : [LampPos.A, .B].idxOf x = x.num := by
  cases x <;> rfl

theorem Curve.idxOf_code (x : Curve) : [Curve.LINEAR, .CROSS].idxOf x = x.code := by
  cases x <;> rfl

theorem Thermal.idxOf_code (x : Thermal) : [Thermal.NORMAL, .WARM, .HOT].idxOf x = x.code := by
  cases x <;> rfl

theorem PowerState.idxOf_code (x : PowerState) : [PowerState.ACTIVE, .STANDBY].idxOf x = x.code := by
  cases x <;> rfl

theorem CueSource.idxOf_code (x : CueSource) : [CueSource.LOCAL_TAPE, .CUE_IN, .NONE].idxOf x = x.code := by
  cases x <;> rfl

theorem Framing.idxOf_code (x : Framing) : [Framing.HUNT, .CONFIRM, .SYNC].idxOf x = x.code := by
  cases x <;> rfl

theorem LossCrit.idxOf_code (x : LossCrit) : [LossCrit.SYNC_ONLY, .SYNC_OR_CHECK].idxOf x = x.code := by
  cases x <;> rfl

theorem Transport.idxOf_code (x : Transport) : [Transport.EMPTY, .STOPPED, .PLAY, .PAUSE, .FFWD, .REWIND].idxOf x = x.code := by
  cases x <;> rfl

theorem SeqState.idxOf_code (x : SeqState) : [SeqState.UNLOADED, .READY, .RUNNING, .PAUSED, .ENDED].idxOf x = x.code := by
  cases x <;> rfl

theorem RunnerStatus.idxOf_code (x : RunnerStatus) : [RunnerStatus.EMPTY, .WAIT_MECH, .WAIT_PACING, .RUNNING].idxOf x = x.code := by
  cases x <;> rfl

theorem Origin.idxOf_code (x : Origin) : [Origin.LINK, .REMOTE, .PANEL, .SHOW].idxOf x = x.code := by
  cases x <;> rfl

theorem getD_phase (x : Option Phase) : (x.map Phase.code).getD 255 = (match x with
    | none => 255
    | some .DARKEN => 0
    | some .LIFT => 1
    | some .STEP | some .ROTATE | some .SEARCH => 2
    | some .DROP => 3
    | some .SETTLE => 4) := by
  rcases x with _ | x
  · rfl
  · cases x <;> rfl

/-- R79: the reasons that are present, by their number. -/
theorem encList_present_five (a b c d e : Bool) : encList (present [a, b, c, d, e]) =
    enc1 (([a, b, c, d, e].filter id).length) ++ (if a then [0] else []) ++ (if b then [1] else []) ++
      (if c then [2] else []) ++ (if d then [3] else []) ++ (if e then [4] else []) := by
  revert a b c d e
  decide

theorem encList_present_three (a b c : Bool) : encList (present [a, b, c]) =
    enc1 (([a, b, c].filter id).length) ++ (if a then [0] else []) ++ (if b then [1] else []) ++
      (if c then [2] else []) := by
  revert a b c
  decide

theorem encRecord_map {α : Type} (o : Option α) (f : α → List Byte) : encRecord (o.map f) = (match o with
    | none => [0xFF]
    | some x => 1 :: f x) := by
  cases o <;> rfl

/-- R30: the gate record. -/
theorem encRecord_gate (g : Gate) (l : List Byte) : encRecord (some (encGate g ++ l)) = (match g with
    | .EMPTY => ([1, 0, 255] : List Byte)
    | .LOADED p => 1 :: 1 :: enc1 p
    | .UNKNOWN => [1, 255, 255]) ++ l := by
  cases g <;> rfl

/-- R166: whether the watched step has work outstanding. -/
theorem watched_outstanding (s : State) : (s.ssq.watched.map s.outstanding).getD false = (match s.ssq.watched with
    | none => false
    | some w => decide (s.ssq.pend.map PendFire.index = some w) || s.aq.queue.any (fun e => e.tag == some w)) := by
  unfold State.outstanding
  rcases s.ssq.watched with _ | w
  · rfl
  · rcases s.ssq.pend with _ | p
    · simp
    · by_cases h : p.index = w <;> simp [h]

theorem encFollow_eq (now : Nat) (f : Follow) : encFollow now f = (match f with
    | .stopped => [255]
    | .running d => 1 :: 1 :: enc4 ((d - now) / 1000)
    | .frozen left => 1 :: 2 :: enc4 (left / 1000)
    | .due => [1, 3, 0, 0, 0, 0]) := by
  cases f <;> rfl

/-- R115: the reel timer: the time it has left, and what it waits for. -/
theorem reelItem (o : Option Nat) (now c : Nat) (l : List Byte) :
    encOpt4 (o.map (fun d => toMs (d - now))) ++ (encOpt1 (if o.isSome then some c else none) ++ l) = (match o with
      | none => [255, 255, 255, 255, 255]
      | some d => enc4 ((d - now) / 1000) ++ enc1 c) ++ l := by
  rcases o with _ | d
  · have htime : encOpt4 none = [255, 255, 255, 255] := by decide
    have hcode : encOpt1 none = [255] := by decide
    rw [Option.map_none, htime, if_neg (by simp), hcode]
    rfl
  · rw [List.append_assoc]
    rfl

theorem Transport.bne_decide (x y : Transport) : (x != y) = decide (x ≠ y) := by
  by_cases h : x = y <;> simp [h]

/-! ## The pages (R186) -/

theorem report_asked (s : State) (dt n : Nat) : report (s.asked dt) n = report (s.advance dt) n := rfl

theorem report_group (s : State) {n : Nat} (h1 : 1 ≤ n) (h10 : n ≤ 10) : ∃ rep, report s n = some rep := by
  interval_cases n <;> exact ⟨_, rfl⟩

theorem report_none (s : State) {n : Nat} (h : n = 0 ∨ 10 < n) : report s n = none := by
  rcases h with rfl | h
  · rfl
  · obtain ⟨m, rfl⟩ := Nat.exists_eq_add_of_lt h
    rw [show 10 + m + 1 = m + 11 by omega]
    rfl

/-- R186: a later page is that of the group's copy. -/
theorem reqQuery_later {s : State} {dt : Nat} {group page : Byte} {rep : List Byte} (hpage : page ≠ 0) (h1 : 1 ≤ group.toNat)
    (h10 : group.toNat ≤ 10) (hcopy : s.lki.copies[group.toNat - 1]? = some (some rep)) :
    applyReq (s.asked dt) (.query group page) = if page.toNat < (rep.length + 27) / 28 then
      doneWith (s.asked dt) (pageBody group page rep) else deny (s.asked dt) .BAD_VALUE := by
  obtain ⟨l, hl⟩ := report_group (s.asked dt) h1 h10
  have hget : (s.asked dt).lki.copies.getD (group.toNat - 1) none = some rep := by
    rw [List.getD_eq_getElem?_getD, show (s.asked dt).lki.copies[group.toNat - 1]? = some (some rep) from hcopy]
    rfl
  simp only [applyReq, reqQuery, hl, if_neg hpage, hget]
  rfl

/-- Settles O45. -/
theorem queryReportsAGroup : Obligations.QueryReportsAGroup := by
  refine ⟨⟨fun s => ?_, fun dt h group page s ha => ⟨fun rep hrep hpage => ?_, fun h1 h10 => report_group _ h1 h10,
    fun rep h1 h10 hpage hcopy => ⟨fun hlt => ?_, fun hge => ?_⟩, fun h1 h10 hpage hcopy => ?_, fun hg => ?_⟩⟩,
    fun n => ⟨rfl, rfl, rfl, rfl, rfl⟩, fun s => ⟨?mech, ?lamp, rfl, ?thermal, ?cue, ?tape, ?seq, ?queue, rfl⟩⟩
  case mech =>
    refine congrArg some (a₁ := mechReport s) ?_
    unfold mechReport
    simp only [MechState.idxOf_code, ClearMode.idxOf_code, JamCause.idxOf_code, encRecord_map,
      encRecord_gate, encOpt1, getD_phase, List.append_assoc, List.cons_append]
    rcases s.tmc.jam with _ | j <;> rfl
  case lamp =>
    refine congrArg some (a₁ := lampReport s) ?_
    unfold lampReport
    simp only [Power.idxOf_code, LampPos.idxOf_num, Curve.idxOf_code, encList_present_five, encRecord_map,
      encLamp, List.flatMap_cons, List.flatMap_nil, List.append_nil, List.append_assoc, List.cons_append]
    rcases s.lmc.motion with _ | m <;> rcases s.lmc.ramp with _ | r <;> rfl
  case thermal =>
    refine congrArg some (a₁ := thermalReport s) ?_
    unfold thermalReport
    simp only [Thermal.idxOf_code, PowerState.idxOf_code, fanCooldown, encRecord_map, encOpt2, encOpt4, toMs, sec,
      Nat.mul_comm _ 1000000, List.append_assoc, List.cons_append]
    rcases s.thc.cooldown with _ | c <;> rcases s.thc.lossStart with _ | t <;> cases s.thc.lost <;> rfl
  case cue =>
    refine congrArg some (a₁ := cueReport s) ?_
    unfold cueReport
    simp only [CueSource.idxOf_code, Framing.idxOf_code, LossCrit.idxOf_code, Cud.confirmNow, encRecord_map, encOpt1, encOpt2,
      List.append_assoc, List.cons_append]
    rcases s.cud.window with _ | w <;> rcases s.cud.cand with _ | k <;> rfl
  case tape =>
    refine congrArg some (a₁ := tapeReport s) ?_
    unfold tapeReport
    simp only [Transport.idxOf_code, encList_present_three, State.muteNotPlaying, State.muteSpeedOff,
      State.muteUnlocked, fgTarget, encInt1, Transport.bne_decide, beq_eq_decide, List.append_assoc, reelItem]
    rcases s.ttc.reelTimer with _ | d <;> rfl
  case seq =>
    refine congrArg some (a₁ := showReport s) ?_
    unfold showReport
    simp only [SeqState.idxOf_code, watched_outstanding, encRecord_map, encFollow_eq, encOpt1, encOpt2, List.append_assoc,
      List.cons_append]
    rcases s.ssq.pend with _ | p <;> rcases s.ssq.watched with _ | w <;> cases s.ssq.follow <;> rfl
  case queue =>
    refine congrArg some (a₁ := queueReport s) ?_
    unfold queueReport
    simp only [RunnerStatus.idxOf_code, Origin.idxOf_code, List.append_assoc]
    refine congrArg (fun l => enc1 s.aq.runner.code ++ (encBool s.aq.stopPending ++ (enc1 s.aq.queue.length ++ l)))
      (congrArg (fun f => s.aq.queue.flatMap f) (funext fun e => ?_))
    unfold encEntry
    cases e.action <;> simp [Action.kindCode, encOpt1]
  · rfl
  · have hr : applyReq (s.asked dt) (.query group page) = doneWith ((s.asked dt).setLki
        { (s.asked dt).lki with copies := s.lki.copies.set (group.toNat - 1) (some rep) }) (pageBody group page rep) := by
      simp only [applyReq, reqQuery, report_asked, hrep]
      exact if_pos hpage
    subst hpage
    exact next_request ha rfl (by simp [Req.locked]) hr rfl
  · exact next_request ha rfl (by simp [Req.locked]) ((reqQuery_later hpage h1 h10 hcopy).trans (if_pos hlt)) rfl
  · exact next_refused ha rfl (by simp [Req.locked]) ((reqQuery_later hpage h1 h10 hcopy).trans (if_neg (Nat.not_lt.mpr hge))) rfl
      (by simp) (by simp)
  · have hr : applyReq (s.asked dt) (.query group page) = deny (s.asked dt) .REFUSED_STATE := by
      obtain ⟨rep, hrep⟩ := report_group (s.asked dt) h1 h10
      have hget : (s.asked dt).lki.copies.getD (group.toNat - 1) none = none := by
        rw [List.getD_eq_getElem?_getD, show (s.asked dt).lki.copies[group.toNat - 1]? = some none from hcopy]
        rfl
      simp only [applyReq, reqQuery, hrep, if_neg hpage, hget]
    exact next_refused ha rfl (by simp [Req.locked]) hr rfl (by simp) (by simp)
  · have hr : applyReq (s.asked dt) (.query group page) = deny (s.asked dt) .BAD_VALUE := by
      have hnone : report (s.asked dt) group.toNat = none := report_none _ (hg.imp_left fun h0 => by simp [h0])
      simp only [applyReq, reqQuery, hnone]
    exact next_refused ha rfl (by simp [Req.locked]) hr rfl (by simp) (by simp)

end Sys2Proof.Machine
end

section
/-!
What the evaluations leave (R53 to R55, R85, R86, R93), and how a SET is answered (R189).
-/

namespace Sys2Proof.Machine

/-! ## The lamp records (R53 to R55) -/

theorem evalNoLamp_lmc (s : State) : s.evalNoLamp.lmc = { s.lmc with noLamp := !s.lmc.available } := by
  unfold State.evalNoLamp
  split
  · rename_i h
    rw [← h]
  · simp

theorem Lmc.setLamp_lamp (l : Lmc) (p : LampPos) : l.setLamp p (l.lamp p) = l := by
  cases p <;> rfl

theorem evalLife_lmc (s : State) (p : LampPos) :
    (s.evalLife p).lmc = s.lmc.setLamp p { s.lmc.lamp p with life := s.lmc.lifeOver p } := by
  unfold State.evalLife
  split
  · rename_i h
    rw [← h]
    exact (Lmc.setLamp_lamp s.lmc p).symm
  · simp [State.condNotice]

/-! ## The fan (R85, R86) -/

theorem setFan_fan (t : Thc) (now f : Nat) : (t.setFan now f).fan = f := by
  unfold Thc.setFan
  split
  · rename_i h
    exact h.symm
  · split
    · rfl
    · split <;> rfl

/-- R86: a kick touches of the fan its duty, its command and its timers alone. -/
theorem setFan_demands (t : Thc) (now f : Nat) :
    (t.setFan now f).fLamp = t.fLamp ∧ (t.setFan now f).fTemp = t.fTemp ∧ (t.setFan now f).cooldown = t.cooldown ∧
      (t.setFan now f).par = t.par ∧ (t.setFan now f).lost = t.lost ∧ (t.setFan now f).fanFault = t.fanFault ∧
      (t.setFan now f).hq = t.hq := by
  unfold Thc.setFan Thc.setDuty
  split
  · simp
  · split
    · simp
    · split <;> simp

theorem fanCommand_setFan (t : Thc) (now f : Nat) : fanCommand (t.setFan now f) = fanCommand t := by
  obtain ⟨hl, ht, hc, hp, hlost, hfault, -⟩ := setFan_demands t now f
  simp [fanCommand, fanCooldown, hl, ht, hc, hp, hlost, hfault]

/-- R85: the fan command is that of the demands as they stand. -/
theorem recomputeFan_follows (s : State) : s.recomputeFan.thc.fLamp = fanLamp s.thc s.lmc.power ∧
    s.recomputeFan.thc.fan = fanCommand s.recomputeFan.thc := by
  unfold State.recomputeFan
  simp only [State.setThc_thc, setFan_fan, fanCommand_setFan, (setFan_demands _ _ _).1, and_self]

/-! ## The end test of a cooldown (R93) -/

theorem recomputeFan_cooldown (s : State) : s.recomputeFan.thc.cooldown = s.thc.cooldown :=
  (setFan_demands _ _ _).2.2.1

theorem cooldownOff_cooldown (s : State) : s.cooldownOff.thc.cooldown = none := by
  unfold State.cooldownOff
  split
  · simp
  · rename_i h
    simpa using h

theorem cooldownTest_cooldown (s : State) :
    s.cooldownTest.thc.cooldown = if s.cooldownMet then none else s.thc.cooldown := by
  unfold State.cooldownTest
  split
  · rw [recomputeFan_cooldown, cooldownOff_cooldown]
  · rfl

theorem cooldownMet_iff {s : State} {c : Cooldown} (h : s.thc.cooldown = some c) : s.cooldownMet = true ↔
    s.thc.lost = false ∧ c.start + 1000000 * s.thc.par.tCool ≤ s.now ∧
      s.thc.tm.any (fun x => decide (x ≤ s.thc.par.tSafe)) = true := by
  unfold State.cooldownMet
  rw [h]
  rcases s.thc.tm with _ | v
  · simp
  · simp only [Bool.and_eq_true, Bool.not_eq_true', decide_eq_true_iff, Option.any_some, sec, Nat.mul_comm _ 1000000, and_assoc]

/-! ## Answers to a SET (R189) -/

theorem encInt4_small {n : Nat} (h : n < 65536) : encInt4 (n : Int) = [0, 0, BitVec.ofNat 8 (n / 256), BitVec.ofNat 8 n] := by
  have hn : (BitVec.ofInt 32 (n : Int)).toNat = n := by
    simp only [BitVec.ofInt_natCast, BitVec.toNat_ofNat]
    omega
  have h3 : n / 16777216 = 0 := by omega
  have h2 : n / 65536 = 0 := by omega
  simp only [encInt4, hn, enc4, byteOf, h3, h2]
  rfl

theorem encInt4_byte {n : Nat} (h : n < 256) : encInt4 (n : Int) = [0, 0, 0, BitVec.ofNat 8 n] := by
  rw [encInt4_small (by omega), show n / 256 = 0 by omega]
  rfl

theorem encInt4_toInt (v : BitVec 32) : encInt4 v.toInt = enc4 v.toNat := by
  rw [encInt4, BitVec.ofInt_toInt]

theorem clampNat_eq {lo hi v : Nat} {x : Int} (h : (v : Int) = min (hi : Int) (max (lo : Int) x)) : clampNat lo hi x = v := by
  unfold clampNat
  omega

theorem reqSet_done {s t : State} {param index : Byte} {value : BitVec 32} {v : Int}
    (h : setParam s param.toNat index.toNat value.toInt = .done t v) :
    reqSet param index value s = doneWith t (setBody param index v) := by
  rw [reqSet, h]

theorem reqSet_bad {s : State} {param index : Byte} {value : BitVec 32} {v : Int}
    (h : setParam s param.toNat index.toNat value.toInt = .bad v) :
    reqSet param index value s = { state := s, status := .BAD_VALUE, body := setBody param index v } := by
  rw [reqSet, h]

/-- R182: a SET that is not locked. -/
def State.settable (s : State) (param : Byte) : Prop := s.unlocked ∨ persistent param.toNat = false

theorem State.settable.not_locked {s : State} {param index : Byte} {value : BitVec 32} (h : s.settable param) :
    (s.sts.save.isSome && (Req.set param index value).locked) = false := by
  rcases h with h | h
  · rw [show s.sts.save = none from h]
    rfl
  · simp [Req.locked, h]

/-- R189: a SET that is taken is answered with the value taken. -/
theorem next_set {s t : State} {dt id : Nat} {h : LinkHdr} {param index : Byte} {value : BitVec 32} {v : Int}
    (ha : s.addressed h) (hl : s.settable param) (hid : param.toNat = id)
    (hs : setParam (s.asked dt) id index.toNat value.toInt = .done t v) :
    exec (.set dt h param index value) s = .next (t.answered h 0x82 .DONE (setBody param index v)).finish := by
  subst hid
  exact next_request ha rfl hl.not_locked (reqSet_done hs) rfl

/-- R189: a SET that is not taken is counted, and answered with the value kept. -/
theorem next_set_bad {s : State} {dt id : Nat} {h : LinkHdr} {param index : Byte} {value : BitVec 32} {v : Int}
    (ha : s.addressed h) (hl : s.settable param) (hid : param.toNat = id)
    (hs : setParam (s.asked dt) id index.toNat value.toInt = .bad v) :
    exec (.set dt h param index value) s =
      .next (((s.advance dt).count .linkRefused).answered h 0x82 .BAD_VALUE (setBody param index v)).finish := by
  subst hid
  exact next_request ha rfl hl.not_locked (reqSet_bad hs) rfl

/-! ## Flags and enumerated values (R189) -/

theorem setFlag_on {kept on : Bool} {f : Bool → State} {value : BitVec 32} (h : value = (if on then 1 else 0)) :
    setFlag value.toInt kept f = .done (f on) (on.toNat : Nat) := by
  subst h
  cases on <;> rfl

theorem word_eq_one_of_toInt {v : BitVec 32} (h : v.toInt = 1) : v = 1 := by
  apply BitVec.eq_of_toInt_eq
  rw [h]
  rfl

theorem word_eq_zero_of_toInt {v : BitVec 32} (h : v.toInt = 0) : v = 0 := by
  apply BitVec.eq_of_toInt_eq
  rw [h]
  rfl

theorem setFlag_kept {kept : Bool} {f : Bool → State} {value : BitVec 32} (h0 : value ≠ 0) (h1 : value ≠ 1) :
    setFlag value.toInt kept f = .bad kept.toNat := by
  unfold setFlag
  rw [if_neg (fun h => h0 (word_eq_zero_of_toInt h)), if_neg (fun h => h1 (word_eq_one_of_toInt h))]

theorem setBody_flag (param index : Byte) (on : Bool) :
    setBody param index (on.toNat : Nat) = [param, index, 0, 0, 0, if on then 1 else 0] := by
  cases on <;> rfl

theorem setEnum_named {α : Type} {l : List α} {value : BitVec 32} {kept : Nat} {f : α → State} {a : α} {n : Nat}
    (hv : value.toInt = n) (ha : l[n]? = some a) : setEnum l value.toInt kept f = .done (f a) value.toInt := by
  unfold setEnum
  rw [if_neg (by omega), hv]
  simp [ha]

theorem setEnum_unnamed {α : Type} {l : List α} {v : Int} {kept n : Nat} {f : α → State} (hl : l.length = n)
    (hv : v < 0 ∨ (n : Int) ≤ v) : setEnum l v kept f = .bad kept := by
  unfold setEnum
  split
  · rfl
  · rw [List.getElem?_eq_none (by omega)]

end Sys2Proof.Machine
end

section
/-!
SET, parameter by parameter (R189): the numbers.
-/

namespace Sys2Proof.Machine

/-! ## The numbers without a pair -/

/-- R189: what a number that is taken makes of the state, for the parameters whose numbers are held within a range alone. -/
def State.takeNum (s : State) (id n : Nat) : State :=
  match id with
  | 2 => s.setTmcPar { s.tmc.par with tDark := n }
  | 3 => s.setTmcPar { s.tmc.par with tSettle := n }
  | 4 => (s.setTmcPar { s.tmc.par with pacing := n }).evalPacing
  | 9 => s.setLmcPar { s.lmc.par with trim := n }
  | 10 => s.setLmcPar { s.lmc.par with glow := n }
  | 11 => s.setLmcPar { s.lmc.par with ignTime := n }
  | 12 => ((s.setLmcPar { s.lmc.par with life := n }).evalLife .A).evalLife .B
  | 23 => (s.setThcPar { s.thc.par with cMin := n }).lowerCeiling
  | 24 => (s.setThcPar { s.thc.par with tCool := n }).cooldownTest
  | 27 => (s.setThcPar { s.thc.par with cdDuty := n }).recomputeFan
  | 28 => s.setThcPar { s.thc.par with stallThr := n }
  | 34 => s.setVolume n
  | 38 => s.setCudPar { s.cud.par with degThr := n }
  | 39 => s.setCudPar { s.cud.par with confirm := n }
  | 40 => s.setChannel n
  | 41 => s.setInterval n
  | _ => s

/-- The parameters of `takeNum` with their ranges. -/
def numRanges : List (Nat × Nat × Nat) :=
  [(2, 0, 255), (3, 0, 255), (4, 0, 255), (9, 0, 1000), (10, 0, 255), (11, 10, 255), (12, 1, 65535), (23, 0, 1000),
    (24, 10, 600), (27, 0, 100), (28, 1, 255), (34, 0, 63), (38, 1, 16), (39, 1, 2), (40, 0, 14), (41, 0, 60)]

theorem setParam_num {s : State} {id lo hi i : Nat} {v : Int} (h : (id, lo, hi) ∈ numRanges) :
    setParam s id i v = .done (s.takeNum id (clampNat lo hi v)) (clampNat lo hi v) := by
  simp only [numRanges, List.mem_cons, Prod.mk.injEq, List.not_mem_nil, or_false] at h
  rcases h with ⟨rfl, rfl, rfl⟩ | ⟨rfl, rfl, rfl⟩ | ⟨rfl, rfl, rfl⟩ | ⟨rfl, rfl, rfl⟩ | ⟨rfl, rfl, rfl⟩ | ⟨rfl, rfl, rfl⟩ |
    ⟨rfl, rfl, rfl⟩ | ⟨rfl, rfl, rfl⟩ | ⟨rfl, rfl, rfl⟩ | ⟨rfl, rfl, rfl⟩ | ⟨rfl, rfl, rfl⟩ | ⟨rfl, rfl, rfl⟩ |
    ⟨rfl, rfl, rfl⟩ | ⟨rfl, rfl, rfl⟩ | ⟨rfl, rfl, rfl⟩ | ⟨rfl, rfl, rfl⟩
  all_goals rfl

theorem numRanges_bound {id lo hi : Nat} (h : (id, lo, hi) ∈ numRanges) : hi < 65536 ∧ persistent id = true := by
  have hall : ∀ x ∈ numRanges, x.2.2 < 65536 ∧ persistent x.1 = true := by decide
  exact hall _ h

theorem takeNum_frame (s : State) (id n : Nat) : (s.takeNum id n).now = s.now ∧ (s.takeNum id n).powered = s.powered ∧
    (s.takeNum id n).free = s.free ∧ (s.takeNum id n).pending = s.pending ∧ (s.takeNum id n).ssq = s.ssq ∧
    (s.takeNum id n).sts = s.sts := by
  unfold State.takeNum
  split <;> simp [State.setTmcPar, State.setLmcPar, State.setThcPar, State.setCudPar, State.setChannel, State.setInterval,
    State.setVolume]

theorem evalPacing_tmc (s : State) :
    s.evalPacing.tmc = { s.tmc with pacingOut := s.tmc.pacingOut || decide (s.tmc.pacingDue ≤ s.now) } := rfl

theorem takeNum_life (s : State) (n : Nat) : (s.takeNum 12 n).lmc = { s.lmc with
    par := { s.lmc.par with life := n }
    recA := { s.lmc.recA with life := decide (n * 3600 ≤ s.lmc.recA.lit) }
    recB := { s.lmc.recB with life := decide (n * 3600 ≤ s.lmc.recB.lit) } } := by
  simp only [State.takeNum, evalLife_lmc]
  rfl

theorem takeNum_ceiling (s : State) (n : Nat) : (s.takeNum 23 n).thc = { s.thc with
    par := { s.thc.par with cMin := n }
    cTarget := if s.thc.lost then min s.thc.cTarget n else s.thc.cTarget
    cEff := if s.thc.lost then min s.thc.cEff (min s.thc.cTarget n) else s.thc.cEff } := by
  by_cases h : s.thc.lost = true <;> simp [State.takeNum, State.lowerCeiling, State.setThcPar, h]

theorem cooldownTest_par (s : State) (p : ThcParams) : (s.setThcPar p).cooldownTest.thc.par = p ∧
    ∀ c, s.thc.cooldown = some c → (s.setThcPar p).cooldownTest.thc.cooldown =
      (if s.thc.lost = false ∧ c.start + 1000000 * p.tCool ≤ s.now ∧
        s.thc.tm.any (fun x => decide (x ≤ p.tSafe)) = true then none else some c) := by
  refine ⟨by simp [State.setThcPar], fun c hc => ?_⟩
  have hmet : (s.setThcPar p).cooldownMet = true ↔ s.thc.lost = false ∧ c.start + 1000000 * p.tCool ≤ s.now ∧
      s.thc.tm.any (fun x => decide (x ≤ p.tSafe)) = true := cooldownMet_iff (s := s.setThcPar p) hc
  rw [cooldownTest_cooldown]
  by_cases h : (s.setThcPar p).cooldownMet = true
  · rw [if_pos h, if_pos (hmet.mp h)]
  · rw [if_neg h, if_neg (fun hend => h (hmet.mpr hend))]
    exact hc

@[simp] theorem asked_frame (s : State) (dt : Nat) : (s.asked dt).powered = s.powered ∧ (s.asked dt).now = s.now + dt ∧
    (s.asked dt).free = s.free ∧ (s.asked dt).aq = s.aq ∧ (s.asked dt).tmc = s.tmc ∧ (s.asked dt).lmc = s.lmc ∧
    (s.asked dt).thc = s.thc ∧ (s.asked dt).ttc = s.ttc ∧ (s.asked dt).cud = s.cud ∧ (s.asked dt).ssq = s.ssq ∧
    (s.asked dt).rpd = s.rpd ∧ (s.asked dt).cnt = s.cnt ∧ (s.asked dt).sts = s.sts ∧ (s.asked dt).pending = s.pending := by
  simp [State.asked]

/-- R189: what a SET leaves: the state that the parameter's owner makes, and the answer with the value. -/
def State.setTo (s : State) (dt : Nat) (h : LinkHdr) (param index : Byte) (n : Nat) : State :=
  ((s.asked dt).takeNum param.toNat n).answered h 0x82 .DONE (setBody param index n)

theorem setTo_sameBut (s : State) (dt : Nat) (h : LinkHdr) (param index : Byte) (n : Nat) :
    s.sameBut (s.setTo dt h param index n) [.aq, .tmc, .lmc, .thc, .ttc, .cud, .rpd, .lki, .cnt] := by
  obtain ⟨-, hpow, hfree, hpend, hssq, hsts⟩ := takeNum_frame (s.asked dt) param.toNat n
  refine ⟨hpow, hfree, hpend, ?_⟩
  simp [State.setTo, State.answered, hssq, hsts]

theorem setTo_answers (s : State) (dt : Nat) (h : LinkHdr) (param index : Byte) {n : Nat} (hn : n < 65536) :
    (s.setTo dt h param index n).answers (s.advance dt) h 0x82 .DONE
      ([param, index, 0, 0, BitVec.ofNat 8 (n / 256), BitVec.ofNat 8 n]) := by
  obtain ⟨hnow, -⟩ := takeNum_frame (s.asked dt) param.toNat n
  simp only [State.answers, State.setTo, State.answered, State.setLki_lki, hnow, setBody, encInt4_small hn]
  rfl

/-- R189: the blocks that a number concerns. -/
theorem setTo_blocks (s : State) (dt : Nat) (h : LinkHdr) (param index : Byte) (v : Nat) :
    (param = 2 ∨ param = 3 ∨ param = 4 → s.sameBut (s.setTo dt h param index v) [.tmc, .lki]) ∧
      (param = 9 ∨ param = 10 ∨ param = 11 ∨ param = 12 → s.sameBut (s.setTo dt h param index v) [.lmc, .lki]) ∧
      (param = 23 ∨ param = 24 ∨ param = 27 ∨ param = 28 → s.sameBut (s.setTo dt h param index v) [.thc, .lki]) ∧
      (param = 34 → s.sameBut (s.setTo dt h param index v) [.ttc, .lki]) ∧
      (param = 38 ∨ param = 39 → s.sameBut (s.setTo dt h param index v) [.cud, .lki]) := by
  refine ⟨?_, ?_, ?_, ?_, ?_⟩
  · rintro (rfl | rfl | rfl) <;> simp [State.sameBut, State.setTo, State.answered, State.takeNum, State.setTmcPar]
  · rintro (rfl | rfl | rfl | rfl) <;>
      simp [State.sameBut, State.setTo, State.answered, State.takeNum, State.setLmcPar]
  · rintro (rfl | rfl | rfl | rfl) <;>
      simp [State.sameBut, State.setTo, State.answered, State.takeNum, State.setThcPar]
  · rintro rfl
    simp [State.sameBut, State.setTo, State.answered, State.takeNum, State.setVolume]
  · rintro (rfl | rfl) <;> simp [State.sameBut, State.setTo, State.answered, State.takeNum, State.setCudPar]

/-! ## Pairs (R97) -/

theorem setPair_taken {lo hi n kept : Nat} {v : Int} {ok : Nat → Bool} {f : Nat → State}
    (hv : (n : Int) = min (hi : Int) (max (lo : Int) v)) (hok : ok n = true) : setPair lo hi v ok kept f = .done (f n) n := by
  rw [setPair, setNum, clampNat_eq hv, if_pos hok]

theorem setPair_kept {lo hi n kept : Nat} {v : Int} {ok : Nat → Bool} {f : Nat → State}
    (hv : (n : Int) = min (hi : Int) (max (lo : Int) v)) (hok : ok n = false) : setPair lo hi v ok kept f = .bad kept := by
  rw [setPair, clampNat_eq hv, hok, if_neg (by simp)]

/-! ## The response table (R76) -/

/-- R76: raising a table that does not fall raises each entry to the same height. -/
theorem raiseFrom_pairwise (low : Nat) (l : List Nat) (h : l.Pairwise (· ≤ ·)) :
    raiseFrom low l = l.map (fun x => max x low) := by
  induction l generalizing low with
  | nil => rfl
  | cons x xs ih =>
    obtain ⟨hx, hxs⟩ := List.pairwise_cons.mp h
    simp only [raiseFrom, ih _ hxs, List.map_cons, List.cons.injEq]
    refine ⟨Nat.max_comm low x, List.map_congr_left fun y hy => ?_⟩
    have := hx y hy
    omega

theorem writeTable_eq {t : List Nat} {i v low : Nat} (hi : i < t.length) (hp : t.Pairwise (· ≤ ·))
    (hlow : low = max v (if i = 0 then 0 else t.getD (i - 1) 0)) :
    writeTable t i v = t.mapIdx (fun j x => if j < i then x else if j = i then low else max x low) := by
  have hraise : writeTable t i v = t.take i ++ low :: (t.drop (i + 1)).map (fun x => max x low) := by
    unfold writeTable
    rw [raiseFrom, raiseFrom_pairwise _ _ (hp.sublist (List.drop_sublist _ _)), Nat.max_comm _ v, ← hlow]
  rw [hraise]
  apply List.ext_getElem
  · simp
    omega
  · intro j hj hj'
    rw [List.getElem_mapIdx, List.getElem_append]
    have hj2 : j < t.length := by simpa using hj'
    rcases Nat.lt_trichotomy j i with h | h | h
    · simp [h, hj2]
    · subst h
      simp [Nat.min_eq_left (Nat.le_of_lt hi)]
    · obtain ⟨k, rfl⟩ := Nat.exists_eq_add_of_lt h
      have hk : i + k + 1 - i = k + 1 := by omega
      have hk2 : ¬i + k + 1 < i := by omega
      have hk3 : i + 1 + k = i + k + 1 := by omega
      simp [Nat.min_eq_left (Nat.le_of_lt hi), hk, hk2, hk3]
      omega

/-! ## Flags -/

/-- R189: what a flag that is taken makes of the state. -/
def State.takeFlag (s : State) (id : Nat) (on : Bool) : State :=
  match id with
  | 5 => s.setTmcPar { s.tmc.par with wrapGap := on }
  | 6 => s.setTmcPar { s.tmc.par with skipEmpty := on }
  | 13 => (s.setLmcPar { s.lmc.par with changer := on }).evalNoLamp
  | 14 => s.setLmcPar { s.lmc.par with darkOnEmpty := on }
  | 15 => s.setLmcPar { s.lmc.par with powerOnLamp := on }
  | 29 => s.setTtcPar { s.ttc.par with loop := on }
  | 30 => s.setTtcPar { s.ttc.par with autoRewind := on }
  | 31 => s.setTtcPar { s.ttc.par with stopRewind := on }
  | 32 => s.setTtcPar { s.ttc.par with autoMute := on }
  | 36 => s.setRelay on
  | _ => s

/-- R189: the flag that stands. -/
def State.flagKept (s : State) (id : Nat) : Bool :=
  match id with
  | 5 => s.tmc.par.wrapGap
  | 6 => s.tmc.par.skipEmpty
  | 13 => s.lmc.par.changer
  | 14 => s.lmc.par.darkOnEmpty
  | 15 => s.lmc.par.powerOnLamp
  | 29 => s.ttc.par.loop
  | 30 => s.ttc.par.autoRewind
  | 31 => s.ttc.par.stopRewind
  | 32 => s.ttc.par.autoMute
  | 36 => s.cud.par.relay
  | _ => false

theorem setParam_flag {s : State} {id i : Nat} {v : Int} (h : id ∈ [5, 6, 13, 14, 15, 29, 30, 31, 32, 36]) :
    setParam s id i v = setFlag v (s.flagKept id) (s.takeFlag id) := by
  simp only [List.mem_cons, List.not_mem_nil, or_false] at h
  rcases h with rfl | rfl | rfl | rfl | rfl | rfl | rfl | rfl | rfl | rfl
  all_goals rfl

theorem takeFlag_frame (s : State) (id : Nat) (on : Bool) : (s.takeFlag id on).now = s.now ∧
    (s.takeFlag id on).powered = s.powered ∧ (s.takeFlag id on).free = s.free ∧ (s.takeFlag id on).pending = s.pending ∧
    (s.takeFlag id on).aq = s.aq ∧ (s.takeFlag id on).thc = s.thc ∧ (s.takeFlag id on).ssq = s.ssq ∧
    (s.takeFlag id on).rpd = s.rpd ∧ (s.takeFlag id on).cnt = s.cnt ∧ (s.takeFlag id on).sts = s.sts := by
  unfold State.takeFlag
  split <;> simp [State.setTmcPar, State.setLmcPar, State.setTtcPar]

theorem setRelay_off (s : State) : (s.setRelay false).cud = { s.cud with
    par := { s.cud.par with relay := false }, sending := false, cueOut := none, slotDue := none, buf := [] } := rfl

theorem setRelay_idle (s : State) (h : s.cud.framing ≠ .SYNC ∨ s.cud.sending = true) :
    (s.setRelay true).cud = { s.cud with par := { s.cud.par with relay := true } } := by
  simp only [State.setRelay, if_true, State.startCueOut]
  rw [if_neg]
  · rfl
  · rintro ⟨-, hsync, hsend⟩
    rcases h with h | h
    · exact h hsync
    · exact absurd (h.symm.trans hsend) (by simp)

theorem setRelay_starts (s : State) (hf : s.cud.framing = .SYNC) (hs : s.cud.sending = false) :
    (s.setRelay true).cud = Cud.slot { s.cud with par := { s.cud.par with relay := true }, sending := true } s.now := by
  simp only [State.setRelay, if_true, State.startCueOut]
  rw [if_pos ⟨rfl, hf, hs⟩]
  rfl

/-! ## The cue source (R119) -/

/-- R123: at the nominal speed, without a carrier, nothing is timed. -/
theorem evalSpeed_rest (s : State) (hs : s.cud.speed = restSpeed) (hc : s.cud.carrier = false) :
    s.evalSpeed.cud = { s.cud with speedOff := false, speedOffTimer := none } := by
  have hfar : speedFar restSpeed = false := by decide
  unfold State.evalSpeed State.evalSpeedTimer
  rw [hs, hfar, if_neg (by simp)]
  simp [clearSpeedOff_cud, Cud.speedTimed, hc]

theorem loseCarrier_cud (s : State) : s.loseCarrier.cud.carrier = false ∧ s.loseCarrier.cud.carrierTimer = none ∧
    s.loseCarrier.cud.framing = .HUNT ∧ s.loseCarrier.cud.pendHalf = none ∧ s.loseCarrier.cud.bits = [] ∧
    s.loseCarrier.cud.bitIndex = 0 ∧ s.loseCarrier.cud.prevAlign = none ∧ s.loseCarrier.cud.cellE = 3125 ∧
    s.loseCarrier.cud.speed = 1000 ∧ s.loseCarrier.cud.speedOff = false ∧ s.loseCarrier.cud.speedOffTimer = none ∧
    s.loseCarrier.cud.tapeTime = s.cud.tapeTime ∧ s.loseCarrier.cud.lastCue = s.cud.lastCue ∧
    s.loseCarrier.cud.par = s.cud.par ∧
    (s.cud.framing = .SYNC → s.loseCarrier.cud.cueSync = false ∧ s.loseCarrier.cud.sending = false ∧
      s.loseCarrier.cud.buf = []) := by
  obtain ⟨u, hu⟩ : ∃ u, u = if s.cud.framing = .SYNC then s.leaveSync else s := ⟨_, rfl⟩
  have hform : s.loseCarrier = State.evalSpeed (u.setCud { u.cud with
      carrier := false, carrierTimer := none, framing := .HUNT, pendHalf := none, bits := [], bitIndex := 0
      prevAlign := none, cellE := restCell, speed := restSpeed }) := by rw [hu]; rfl
  have hcud := evalSpeed_rest (u.setCud { u.cud with
      carrier := false, carrierTimer := none, framing := .HUNT, pendHalf := none, bits := [], bitIndex := 0
      prevAlign := none, cellE := restCell, speed := restSpeed }) rfl rfl
  rw [hform, hcud]
  have hkept : u.cud.tapeTime = s.cud.tapeTime ∧ u.cud.lastCue = s.cud.lastCue ∧ u.cud.par = s.cud.par := by
    rw [hu]
    split <;> simp [leaveSync_cud]
  refine ⟨rfl, rfl, rfl, rfl, rfl, rfl, rfl, rfl, rfl, rfl, rfl, hkept.1, hkept.2.1, hkept.2.2, fun hsync => ?_⟩
  rw [hu, if_pos hsync, leaveSync_cud]
  exact ⟨rfl, rfl, rfl⟩

end Sys2Proof.Machine
end

section
/-!
SET, parameter by parameter (R189): the pairs, the flags, the enumerated values and the table (R47, R48, R76, R97, R119, R138).
-/

namespace Sys2Proof.Machine

theorem setParam_unknown (s : State) {id : Nat} (i : Nat) (v : Int) (h : id = 0 ∨ 41 < id) : setParam s id i v = .unknown := by
  rcases h with rfl | h
  · rfl
  · obtain ⟨m, rfl⟩ := Nat.exists_eq_add_of_lt h
    rw [show 41 + m + 1 = m + 42 by omega]
    rfl

theorem takeFlag_no_lamp (s : State) (on : Bool) : (s.takeFlag 13 on).lmc.par = { s.lmc.par with changer := on } ∧
    (s.takeFlag 13 on).lmc.noLamp = !(s.takeFlag 13 on).lmc.available ∧ (s.takeFlag 13 on).lmc.recA = s.lmc.recA ∧
    (s.takeFlag 13 on).lmc.recB = s.lmc.recB ∧ (s.takeFlag 13 on).lmc.power = s.lmc.power := by
  simp only [State.takeFlag, evalNoLamp_lmc]
  exact ⟨rfl, rfl, rfl, rfl, rfl⟩

theorem takeFlag_others (s : State) (id : Nat) (on : Bool) (h5 : id ≠ 5) :
    (id = 6 → (s.takeFlag id on).tmc = { s.tmc with par := { s.tmc.par with skipEmpty := on } }) ∧
      (id ≠ 6 → (s.takeFlag id on).tmc = s.tmc) ∧ (id ∉ [13, 14, 15] → (s.takeFlag id on).lmc = s.lmc) ∧
      (id ∉ [29, 30, 31, 32] → (s.takeFlag id on).ttc = s.ttc) ∧ (id ≠ 36 → (s.takeFlag id on).cud = s.cud) := by
  refine ⟨by rintro rfl; rfl, ?_⟩
  unfold State.takeFlag
  split <;> simp_all [State.setTmcPar, State.setLmcPar, State.setTtcPar]

/-- R189: an enumerated parameter: the value kept, and what a value that is named makes of the state. -/
theorem setParam_startMode (s : State) (i : Nat) (v : Int) : setParam s 1 i v =
    setEnum [Mode.LOCAL, .SHOW, .CONSOLE] v s.aq.startMode.code (fun m => s.setAq { s.aq with startMode := m }) := rfl

theorem setParam_clearMode (s : State) (i : Nat) (v : Int) : setParam s 8 i v =
    setEnum [ClearMode.AUTO, .HELD] v s.tmc.clearMode.code (fun m => s.setTmc { s.tmc with clearMode := m }) := rfl

theorem setParam_source (s : State) (i : Nat) (v : Int) : setParam s 35 i v =
    setEnum [CueSource.LOCAL_TAPE, .CUE_IN, .NONE] v s.cud.par.source.code (fun x => s.setSource x) := rfl

theorem setParam_loss (s : State) (i : Nat) (v : Int) : setParam s 37 i v =
    setEnum [LossCrit.SYNC_ONLY, .SYNC_OR_CHECK] v s.cud.par.loss.code (fun x => s.setCudPar { s.cud.par with loss := x }) := rfl

theorem setBody_word (param index : Byte) (value : BitVec 32) :
    setBody param index value.toInt = [param, index] ++ enc4 value.toNat := by
  rw [setBody, encInt4_toInt]
  rfl

theorem Mode.idxOf_code (x : Mode) : [Mode.LOCAL, .SHOW, .CONSOLE].idxOf x = x.code := by
  cases x <;> rfl

theorem setSource_cud (s : State) {m : CueSource} (h : m ≠ s.cud.par.source) :
    s.setSource m = State.loseCarrier (s.setCud { s.cud with par := { s.cud.par with source := m }, lastEdge := none }) :=
  if_neg (fun hc => h hc.symm)

/-! ## The pairs of the cooling parameters (R97) -/

theorem setParam_tLo (s : State) (i : Nat) (v : Int) : setParam s 17 i v =
    setPair 0 400 v (fun n => decide (n < s.thc.par.tHi)) s.thc.par.tLo (fun n => s.setThcPar { s.thc.par with tLo := n }) := rfl

/-- R97: what a number with a consistency pair makes of the state, once it is taken. -/
def State.takePair (s : State) (id n : Nat) : State :=
  match id with
  | 18 => s.setThcPar { s.thc.par with tHi := n }
  | 19 => s.setThcPar { s.thc.par with tWarn := n }
  | 20 => s.setThcPar { s.thc.par with tTrip := n }
  | 21 => s.setThcPar { s.thc.par with tResume := n }
  | 22 => (s.setThcPar { s.thc.par with tSafe := n }).cooldownTest
  | 25 => (s.setThcPar { s.thc.par with fMinLit := n }).recomputeFan
  | 26 => (s.setThcPar { s.thc.par with fMax := n }).recomputeFan
  | _ => s

/-- R97: whether a number is consistent with its pair. -/
def State.pairOk (s : State) (id n : Nat) : Bool :=
  match id with
  | 18 => decide (s.thc.par.tLo < n)
  | 19 => decide (n < s.thc.par.tTrip)
  | 20 => decide (s.thc.par.tWarn < n) && decide (s.thc.par.tResume < n) && decide (s.thc.par.tSafe < n)
  | 21 => decide (n < s.thc.par.tTrip)
  | 22 => decide (n < s.thc.par.tTrip)
  | 25 => decide (n ≤ s.thc.par.fMax)
  | 26 => decide (s.thc.par.fMinLit ≤ n)
  | _ => false

/-- R97: the parameters of `takePair`, the upper bounds of their ranges, and their values. -/
def State.pairs (s : State) : List (Nat × Nat × Nat) :=
  [(18, 400, s.thc.par.tHi), (19, 400, s.thc.par.tWarn), (20, 400, s.thc.par.tTrip), (21, 400, s.thc.par.tResume),
    (22, 400, s.thc.par.tSafe), (25, 100, s.thc.par.fMinLit), (26, 100, s.thc.par.fMax)]

theorem setParam_pair {s : State} {id hi kept i : Nat} {v : Int} (h : (id, hi, kept) ∈ s.pairs) :
    setParam s id i v = setPair 0 hi v (s.pairOk id) kept (s.takePair id) := by
  simp only [State.pairs, List.mem_cons, Prod.mk.injEq, List.not_mem_nil, or_false] at h
  rcases h with ⟨rfl, rfl, rfl⟩ | ⟨rfl, rfl, rfl⟩ | ⟨rfl, rfl, rfl⟩ | ⟨rfl, rfl, rfl⟩ | ⟨rfl, rfl, rfl⟩ | ⟨rfl, rfl, rfl⟩ |
    ⟨rfl, rfl, rfl⟩
  all_goals rfl

theorem takePair_frame (s : State) (id n : Nat) : (s.takePair id n).now = s.now ∧ (s.takePair id n).powered = s.powered ∧
    (s.takePair id n).free = s.free ∧ (s.takePair id n).pending = s.pending ∧ (s.takePair id n).aq = s.aq ∧
    (s.takePair id n).tmc = s.tmc ∧ (s.takePair id n).lmc = s.lmc ∧ (s.takePair id n).ttc = s.ttc ∧
    (s.takePair id n).cud = s.cud ∧ (s.takePair id n).ssq = s.ssq ∧ (s.takePair id n).rpd = s.rpd ∧
    (s.takePair id n).cnt = s.cnt ∧ (s.takePair id n).sts = s.sts := by
  unfold State.takePair
  split <;> simp [State.setThcPar]

/-- R97: a number that is not consistent with its pair is answered with the number that stands. -/
theorem next_pair_kept {s : State} {dt hi kept v : Nat} {h : LinkHdr} {param index : Byte} {value : BitVec 32}
    (ha : s.addressed h) (hu : s.unlocked) (hp : (param.toNat, hi, kept) ∈ s.pairs)
    (hv : (v : Int) = min (hi : Int) (max 0 value.toInt)) (hno : s.pairOk param.toNat v = false) :
    exec (.set dt h param index value) s = .next (State.finish (((s.advance dt).count .linkRefused).answered h 0x82
      .BAD_VALUE ([param, index] ++ encInt4 kept))) :=
  next_set_bad ha (.inl hu) rfl ((setParam_pair (s := s.asked dt) hp).trans (setPair_kept (ok := s.pairOk param.toNat) hv hno))

/-- R97: a number that is consistent with its pair is taken. -/
theorem next_pair_taken {s : State} {dt hi kept v : Nat} {h : LinkHdr} {param index : Byte} {value : BitVec 32}
    (ha : s.addressed h) (hu : s.unlocked) (hp : (param.toNat, hi, kept) ∈ s.pairs)
    (hv : (v : Int) = min (hi : Int) (max 0 value.toInt)) (hyes : s.pairOk param.toNat v = true) :
    ∃ u : State, exec (.set dt h param index value) s = .next u.finish ∧ s.sameBut u [.thc, .lki] ∧
      u.answers (s.advance dt) h 0x82 .DONE (setBody param index v) ∧
      u.thc = ((s.asked dt).takePair param.toNat v).thc := by
  have hnext := next_set (index := index) (dt := dt) ha (.inl hu) rfl
    ((setParam_pair (s := s.asked dt) hp).trans (setPair_taken (ok := s.pairOk param.toNat) hv hyes))
  obtain ⟨hnow, hpow, hfree, hpend, haq, htmc, hlmc, httc, hcud, hssq, hrpd, hcnt, hsts⟩ :=
    takePair_frame (s.asked dt) param.toNat v
  refine ⟨_, hnext, ?_, ?_, by simp [State.answered]⟩
  · simp [State.sameBut, State.answered, hpow, hfree, hpend, haq, htmc, hlmc, httc, hcud, hssq, hrpd, hcnt, hsts]
  · simp only [State.answers, State.answered, State.setLki_lki, hnow]
    rfl

theorem pair_cases {s : State} {param : Byte} {v kept : Nat} (hp : (param.toNat, kept) ∈ [(18, s.thc.par.tHi),
    (19, s.thc.par.tWarn), (20, s.thc.par.tTrip), (21, s.thc.par.tResume), (22, s.thc.par.tSafe)]) :
    (param.toNat, 400, kept) ∈ s.pairs ∧
      (param = 18 ∧ v ≤ s.thc.par.tLo ∨ param = 19 ∧ s.thc.par.tTrip ≤ v ∨
        param = 20 ∧ (v ≤ s.thc.par.tWarn ∨ v ≤ s.thc.par.tResume ∨ v ≤ s.thc.par.tSafe) ∨
        param = 21 ∧ s.thc.par.tTrip ≤ v ∨ param = 22 ∧ s.thc.par.tTrip ≤ v → s.pairOk param.toNat v = false) ∧
      (param = 18 ∧ s.thc.par.tLo < v ∨ param = 19 ∧ v < s.thc.par.tTrip ∨
        param = 20 ∧ s.thc.par.tWarn < v ∧ s.thc.par.tResume < v ∧ s.thc.par.tSafe < v ∨
        param = 21 ∧ v < s.thc.par.tTrip ∨ param = 22 ∧ v < s.thc.par.tTrip → s.pairOk param.toNat v = true) := by
  simp only [List.mem_cons, Prod.mk.injEq, List.not_mem_nil, or_false] at hp
  refine ⟨?_, ?_, ?_⟩
  · rcases hp with ⟨hid, rfl⟩ | ⟨hid, rfl⟩ | ⟨hid, rfl⟩ | ⟨hid, rfl⟩ | ⟨hid, rfl⟩ <;> simp [State.pairs, hid]
  · rintro (⟨rfl, h⟩ | ⟨rfl, h⟩ | ⟨rfl, h⟩ | ⟨rfl, h⟩ | ⟨rfl, h⟩) <;> simp [State.pairOk] <;> omega
  · rintro (⟨rfl, h⟩ | ⟨rfl, h⟩ | ⟨rfl, h⟩ | ⟨rfl, h⟩ | ⟨rfl, h⟩) <;> simp [State.pairOk] <;> omega

theorem fanPair_cases {s : State} {param : Byte} {v kept : Nat}
    (hp : (param.toNat, kept) ∈ [(25, s.thc.par.fMinLit), (26, s.thc.par.fMax)]) : (param.toNat, 100, kept) ∈ s.pairs ∧
      (param = 25 ∧ s.thc.par.fMax < v ∨ param = 26 ∧ v < s.thc.par.fMinLit → s.pairOk param.toNat v = false) ∧
      (param = 25 ∧ v ≤ s.thc.par.fMax ∨ param = 26 ∧ s.thc.par.fMinLit ≤ v → s.pairOk param.toNat v = true) := by
  simp only [List.mem_cons, Prod.mk.injEq, List.not_mem_nil, or_false] at hp
  refine ⟨?_, ?_, ?_⟩
  · rcases hp with ⟨hid, rfl⟩ | ⟨hid, rfl⟩ <;> simp [State.pairs, hid]
  · rintro (⟨rfl, h⟩ | ⟨rfl, h⟩) <;> simp [State.pairOk] <;> omega
  · rintro (⟨rfl, h⟩ | ⟨rfl, h⟩) <;> simp [State.pairOk] <;> omega

/-- R85: a new bound of the fan takes effect at once. -/
theorem setThcPar_recomputeFan (s : State) (p : ThcParams) : (s.setThcPar p).recomputeFan.thc.par = p ∧
    (s.setThcPar p).recomputeFan.thc.fLamp = fanLamp (s.setThcPar p).recomputeFan.thc s.lmc.power ∧
    (s.setThcPar p).recomputeFan.thc.fan = fanCommand (s.setThcPar p).recomputeFan.thc := by
  obtain ⟨hlamp, hfan⟩ := recomputeFan_follows (s.setThcPar p)
  have hpar : (s.setThcPar p).recomputeFan.thc.par = p := by simp [State.setThcPar]
  have hhq : (s.setThcPar p).recomputeFan.thc.hq = s.thc.hq := by simp [State.setThcPar]
  refine ⟨hpar, hlamp.trans ?_, hfan⟩
  unfold fanLamp
  rw [hpar, hhq]
  rfl

/-! ## The enumerated parameters -/

theorem setParam_enum_kept (s : State) (i : Nat) {id n kept : Nat} {v : Int} (h : (id, n, kept) ∈
    [(1, 3, [Mode.LOCAL, .SHOW, .CONSOLE].idxOf s.aq.startMode), (8, 2, [ClearMode.AUTO, .HELD].idxOf s.tmc.clearMode),
      (35, 3, [CueSource.LOCAL_TAPE, .CUE_IN, .NONE].idxOf s.cud.par.source),
      (37, 2, [LossCrit.SYNC_ONLY, .SYNC_OR_CHECK].idxOf s.cud.par.loss)]) (hv : v < 0 ∨ (n : Int) ≤ v) :
    setParam s id i v = .bad kept ∧ kept < 256 := by
  simp only [List.mem_cons, Prod.mk.injEq, List.not_mem_nil, or_false, Mode.idxOf_code, ClearMode.idxOf_code,
    CueSource.idxOf_code, LossCrit.idxOf_code] at h
  rcases h with ⟨rfl, rfl, rfl⟩ | ⟨rfl, rfl, rfl⟩ | ⟨rfl, rfl, rfl⟩ | ⟨rfl, rfl, rfl⟩
  · exact ⟨(setParam_startMode ..).trans (setEnum_unnamed rfl hv), by cases s.aq.startMode <;> decide⟩
  · exact ⟨(setParam_clearMode ..).trans (setEnum_unnamed rfl hv), by cases s.tmc.clearMode <;> decide⟩
  · exact ⟨(setParam_source ..).trans (setEnum_unnamed rfl hv), by cases s.cud.par.source <;> decide⟩
  · exact ⟨(setParam_loss ..).trans (setEnum_unnamed rfl hv), by cases s.cud.par.loss <;> decide⟩

/-! ## The compare position (R47, R48) -/

theorem setParam_compare (s : State) (i : Nat) (v : Int) : setParam s 7 i v = s.setCompare v := rfl

theorem setCompare_off (s : State) {v : Int} (h : v < 0) : s.setCompare v =
    .done ((s.clearMatch s.tmc.comparePos).setTmc { (s.clearMatch s.tmc.comparePos).tmc with comparePos := none }) (-1) :=
  if_pos h

theorem setCompare_at (s : State) {v : Int} {n : Nat} (h : 0 ≤ v) (hn : (n : Int) = min 120 v) :
    s.setCompare v = .done (s.setTmc { s.tmc with comparePos := some n }) n := by
  rw [State.setCompare, if_neg (by omega), setNum, clampNat_eq (v := n) (by omega)]

/-- Settles O46. -/
theorem setHoldsValuesInRange : Obligations.SetHoldsValuesInRange := by
  refine ⟨fun dt h param index value s ha => ⟨fun lo hi hu hr => ?number, fun v hu hp hv => ?lowPair, fun hu hp => ?wrapGap,
    fun v low table hu hp hi hok hv hlow htable => ?table, fun hu hp hi => ?outsideTable, fun hu hp => ?trim,
    fun hp => ?unknown, fun hsave h1 h41 h7 h8 => ?locked⟩,
    fun dt h param index value s ha => ⟨fun on hu hv hp => ?flag, fun kept hu h0 h1 hp => ?flagKept, fun m hu hp hv => ?startMode,
      fun m hp hv => ?clearMode, fun m hu hp hv => ?loss, fun m hu hp hv => ?source, fun n kept hu hv hp => ?enumKept,
      fun hp hv => ?compareOff, fun v hp h0 hv => ?compare, fun v kept hu hv hp => ?pair, fun v kept hu hv hp => ?fanPair⟩⟩
  case number =>
    have hr : (param.toNat, lo, hi) ∈ numRanges := hr
    refine ⟨_, next_set ha (.inl hu) rfl (setParam_num hr), setTo_sameBut .., fun v hv => ?_⟩
    rw [clampNat_eq hv]
    obtain ⟨hhi, -⟩ := numRanges_bound hr
    obtain ⟨b2, b9, b23, b34, b38⟩ := setTo_blocks s dt h param index v
    refine ⟨setTo_answers s dt h param index (by omega), b2, b9, b23, b34, b38, ?_, ?_, ?_, ?_, ?_, ?_, ?_, ?_, ?_, ?_, ?_, ?_,
      ?_, ?_, ?_, ?_⟩
    case refine_3 =>
      rintro rfl
      have hdue : s.tmc.idleSince + msec (10 * v) = s.tmc.idleSince + 10000 * v := by
        simp only [msec]
        omega
      rw [← hdue]
      rfl
    case refine_6 =>
      rintro rfl
      exact takeNum_life (s.asked dt) v
    case refine_7 =>
      rintro rfl
      exact takeNum_ceiling (s.asked dt) v
    case refine_8 =>
      rintro rfl
      exact cooldownTest_par (s.asked dt) _
    case refine_9 =>
      rintro rfl
      obtain ⟨hlamp, hfan⟩ := recomputeFan_follows ((s.asked dt).setThcPar { s.thc.par with cdDuty := v })
      exact ⟨(setFan_demands _ _ _).2.2.2.1, hlamp, hfan⟩
    case refine_14 =>
      rintro rfl
      have hv63 : min v 63 = v := by
        have : (34, lo, hi) ∈ numRanges → hi ≤ 63 := by
          simp only [numRanges, List.mem_cons, Prod.mk.injEq, List.not_mem_nil, or_false]
          omega
        have := this hr
        omega
      have hvol : ((s.asked dt).takeNum 34 v).ttc = { s.ttc with par := { s.ttc.par with volTarget := min v 63 } } := rfl
      rw [hv63] at hvol
      exact hvol
    case refine_16 =>
      rintro rfl
      refine ⟨rfl, ?_⟩
      have htimer : ((s.asked dt).takeNum 41 v).cnt.timer = snapTimer (s.now + dt) v := rfl
      rw [snapTimer, sec, Nat.mul_comm] at htimer
      exact htimer
    case refine_15 =>
      rintro rfl
      exact ⟨rfl, rfl, rfl⟩
    all_goals
      rintro rfl
      rfl
  case lowPair =>
    have hid : param.toNat = 17 := congrArg BitVec.toNat hp
    refine ⟨fun hlt => ?_, fun hge => ?_⟩
    · have hnext := next_set (index := index) ha (.inl hu) hid ((setParam_tLo (s.asked dt) ..).trans (setPair_taken hv (decide_eq_true hlt)))
      rw [setBody, encInt4_small (by omega)] at hnext
      exact hnext
    · exact ⟨_, next_set_bad ha (.inl hu) hid ((setParam_tLo (s.asked dt) ..).trans
        (setPair_kept hv (decide_eq_false (Nat.not_lt.mpr hge)))), by simp [State.sameBut, State.answered], rfl, rfl⟩
  case wrapGap =>
    have hid : param.toNat = 5 := congrArg BitVec.toNat hp
    refine ⟨fun on hv => ?_, fun h0 h1 => ?_⟩
    · have hnext := next_set (index := index) ha (.inl hu) hid ((setParam_flag (s := s.asked dt) (by simp)).trans (setFlag_on hv))
      rw [setBody_flag] at hnext
      exact hnext
    · have hnext := next_set_bad (index := index) ha (.inl hu) hid ((setParam_flag (s := s.asked dt) (by simp)).trans (setFlag_kept h0 h1))
      rw [setBody_flag] at hnext
      exact hnext
  case table =>
    have hid : param.toNat = 16 := congrArg BitVec.toNat hp
    obtain ⟨hlen, hsorted⟩ := hok
    have hi0 : (index.toNat = 0) ↔ (index = 0) := by simp [← BitVec.toNat_inj]
    have ht : writeTable s.lmc.par.table index.toNat v = table := by
      rw [writeTable_eq (low := low) (by omega) hsorted (by rw [hlow]; simp only [hi0]), htable]
    have hs : setParam (s.asked dt) 16 index.toNat value.toInt =
        .done ((s.asked dt).setLmcPar { s.lmc.par with table := table }) (table.getD index.toNat 0 : Nat) := by
      change State.setTable (s.asked dt) index.toNat value.toInt = _
      unfold State.setTable
      rw [if_neg (by omega), clampNat_eq hv, show (s.asked dt).lmc.par.table = s.lmc.par.table from rfl, ht]
      rfl
    have hnext := next_set (index := index) ha (.inl hu) hid hs
    exact hnext
  case outsideTable =>
    have hid : param.toNat = 16 := congrArg BitVec.toNat hp
    have hr : reqSet param index value (s.asked dt) =
        { state := (s.asked dt).setFree (s.free + 1), status := .BAD_VALUE
          body := param :: index :: enc4 (Config.freeWord s.free).toNat } := by
      have hs : setParam (s.asked dt) 16 index.toNat value.toInt = .noValue := if_pos hi
      unfold reqSet
      rw [hid, hs]
      rfl
    exact ⟨Config.freeWord s.free, next_request (r := .set param index value) ha rfl
      (State.settable.not_locked (.inl hu)) hr rfl⟩
  case trim =>
    have hid : param.toNat = 33 := congrArg BitVec.toNat hp
    have hs : setParam (s.asked dt) 33 index.toNat value.toInt = (s.asked dt).setTrim value.toInt := rfl
    have hnext := next_set (index := index) ha (.inl hu) hid hs
    exact hnext
  case unknown =>
    have hid : param.toNat = 0 ∨ 41 < param.toNat := hp.imp_left fun h0 : param = 0 => congrArg BitVec.toNat h0
    have hpers : persistent param.toNat = false := by
      simp only [persistent, Bool.and_eq_false_iff, decide_eq_false_iff_not]
      omega
    have hr : reqSet param index value (s.asked dt) = deny (s.asked dt) .BAD_REQUEST := by
      unfold reqSet
      rw [setParam_unknown _ _ _ hid]
    exact next_refused (r := .set param index value) ha rfl (State.settable.not_locked (.inr hpers)) hr rfl (by simp) (by simp)
  case locked =>
    have hne : param.toNat ≠ 7 ∧ param.toNat ≠ 8 :=
      ⟨fun h => h7 (BitVec.eq_of_toNat_eq h), fun h => h8 (BitVec.eq_of_toNat_eq h)⟩
    have hpers : persistent param.toNat = true := by simp [persistent, h1, h41, hne]
    have hj : judge (s.asked dt) false (some (.set param index value)) = deny (s.asked dt) .LOCKED := by
      have hres : (s.asked dt).lki.resetting = false := ha.2.2.1
      have hlock : ((s.asked dt).sts.save.isSome && (Req.set param index value).locked) = true := by
        simp [hsave, Req.locked, hpers]
      simp only [judge, hres, Req.misaddressed, hlock, Bool.false_eq_true, if_false, if_true]
    refine next_take ha.1 ?_
    rw [request_judged ha, hj, counted_deny _ _ (by simp) (by simp), respond_answered _ _ _ _ _ 0x82 rfl]
    rfl
  case flag =>
    have hmem : param.toNat ∈ [5, 6, 13, 14, 15, 29, 30, 31, 32, 36] := List.mem_cons_of_mem _ hp
    have hnext := next_set (index := index) ha (.inl hu) rfl ((setParam_flag (s := s.asked dt) hmem).trans (setFlag_on hv))
    rw [setBody_flag] at hnext
    obtain ⟨hnow, hpow, hfree, hpend, haq, hthc, hssq, hrpd, hcnt, hsts⟩ := takeFlag_frame (s.asked dt) param.toNat on
    have h5 : param.toNat ≠ 5 := by
      intro h5
      simp [h5] at hp
    obtain ⟨hskip, htmc, hlmc, httc, hcud⟩ := takeFlag_others (s.asked dt) param.toNat on h5
    refine ⟨_, hnext, ?_, ?_, ?_, ?_, ?_, ?_, ?_, ?_, ?_, ?_, ?_, ?_, ?_, ?_, ?_, ?_⟩
    · simp [State.sameBut, State.answered, hpow, hfree, hpend, haq, hthc, hssq, hrpd, hcnt, hsts]
    · simp only [State.answers, State.answered, State.setLki_lki, hnow]
      rfl
    · change ((s.asked dt).takeFlag param.toNat on).tmc = _
      by_cases h6 : param = 6
      · rw [if_pos h6]
        exact hskip (congrArg BitVec.toNat h6)
      · rw [if_neg h6]
        exact htmc (fun h => h6 (BitVec.eq_of_toNat_eq (y := 6) h))
    · rintro rfl
      exact takeFlag_no_lamp (s.asked dt) on
    · rintro rfl
      rfl
    · rintro rfl
      rfl
    · rintro rfl
      rfl
    · rintro rfl
      rfl
    · rintro rfl
      rfl
    · rintro rfl
      rfl
    · rintro rfl rfl
      exact setRelay_off (s.asked dt)
    · rintro rfl rfl hidle
      exact setRelay_idle (s.asked dt) hidle
    · rintro f rfl rfl hf hs rfl
      refine (setRelay_starts (s.asked dt) hf hs).trans ?_
      simp [Cud.slot, slotTime, msec]
    · exact hlmc
    · exact httc
    · exact fun h36 => hcud (fun h => h36 (BitVec.eq_of_toNat_eq h))
  case flagKept =>
    have hmem : param.toNat ∈ [5, 6, 13, 14, 15, 29, 30, 31, 32, 36] ∧ (s.asked dt).flagKept param.toNat = kept := by
      simp only [List.mem_cons, Prod.mk.injEq, List.not_mem_nil, or_false] at hp
      rcases hp with ⟨h, rfl⟩ | ⟨h, rfl⟩ | ⟨h, rfl⟩ | ⟨h, rfl⟩ | ⟨h, rfl⟩ | ⟨h, rfl⟩ | ⟨h, rfl⟩ | ⟨h, rfl⟩ | ⟨h, rfl⟩ <;>
        (rw [h]; exact ⟨by simp, rfl⟩)
    have hnext := next_set_bad (index := index) ha (.inl hu) rfl
      ((setParam_flag (s := s.asked dt) hmem.1).trans (setFlag_kept h0 h1))
    rw [setBody_flag, hmem.2] at hnext
    exact hnext
  case startMode =>
    have hid : param.toNat = 1 := congrArg BitVec.toNat hp
    have hs : setParam (s.asked dt) 1 index.toNat value.toInt =
        .done ((s.asked dt).setAq { s.aq with startMode := m }) value.toInt := by
      rw [setParam_startMode]
      rcases hv with ⟨rfl, rfl⟩ | ⟨rfl, rfl⟩ | ⟨rfl, rfl⟩ <;> rfl
    have hnext := next_set (index := index) ha (.inl hu) hid hs
    rw [setBody_word] at hnext
    exact hnext
  case clearMode =>
    have hid : param.toNat = 8 := congrArg BitVec.toNat hp
    have hs : setParam (s.asked dt) 8 index.toNat value.toInt =
        .done ((s.asked dt).setTmc { s.tmc with clearMode := m }) value.toInt := by
      rw [setParam_clearMode]
      rcases hv with ⟨rfl, rfl⟩ | ⟨rfl, rfl⟩ <;> rfl
    have hnext := next_set (index := index) ha (.inr (by rw [hid]; rfl)) hid hs
    rw [setBody_word] at hnext
    exact hnext
  case loss =>
    have hid : param.toNat = 37 := congrArg BitVec.toNat hp
    have hs : setParam (s.asked dt) 37 index.toNat value.toInt =
        .done ((s.asked dt).setCudPar { s.cud.par with loss := m }) value.toInt := by
      rw [setParam_loss]
      rcases hv with ⟨rfl, rfl⟩ | ⟨rfl, rfl⟩ <;> rfl
    have hnext := next_set (index := index) ha (.inl hu) hid hs
    rw [setBody_word] at hnext
    exact hnext
  case source =>
    have hid : param.toNat = 35 := congrArg BitVec.toNat hp
    have hs : setParam (s.asked dt) 35 index.toNat value.toInt = .done ((s.asked dt).setSource m) value.toInt := by
      rw [setParam_source]
      rcases hv with ⟨rfl, rfl⟩ | ⟨rfl, rfl⟩ | ⟨rfl, rfl⟩ <;> rfl
    have hnext := next_set (index := index) ha (.inl hu) hid hs
    rw [setBody_word] at hnext
    refine ⟨fun hm => ?_, fun hm => ?_⟩
    · have hsame : (s.asked dt).setSource m = s.asked dt := if_pos hm.symm
      rw [hsame] at hnext
      exact hnext
    · obtain ⟨w, hw⟩ : ∃ w, w = (s.asked dt).setCud { s.cud with par := { s.cud.par with source := m }, lastEdge := none } := ⟨_, rfl⟩
      have hsource : (s.asked dt).setSource m = w.loseCarrier := by
        rw [hw]
        exact setSource_cud _ hm
      rw [hsource] at hnext
      obtain ⟨h1, h2, h3, h4, h5, h6, h7, h8, h9, h10, h11, h12, h13, h14, h15⟩ := loseCarrier_cud w
      refine ⟨_, hnext, by simp [State.sameBut, State.answered, hw], ?_, ?_, h1, h2, h3, h4, h5, h6, h7, h8, h9, h10, h11, ?_, ?_, ?_⟩
      · simp only [State.answers, State.answered, State.setLki_lki, loseCarrier_frame, hw]
        rfl
      · exact h14.trans (by rw [hw]; rfl)
      · exact h12.trans (by rw [hw]; rfl)
      · exact h13.trans (by rw [hw]; rfl)
      · exact fun hsync => h15 (by rw [hw]; exact hsync)
  case enumKept =>
    obtain ⟨hset, hlt⟩ := setParam_enum_kept (s.asked dt) index.toNat hp hv
    have hnext := next_set_bad (index := index) ha (hu.imp_right fun h8 => by rw [h8]; rfl) rfl hset
    rw [setBody, encInt4_byte hlt] at hnext
    exact hnext
  case compareOff =>
    have hid : param.toNat = 7 := congrArg BitVec.toNat hp
    have hnext := next_set (index := index) ha (.inr (by rw [hid]; rfl)) hid
      ((setParam_compare (s.asked dt) ..).trans (setCompare_off _ hv))
    refine ⟨_, hnext, by simp [State.sameBut, State.answered], by simp [State.answered, clearMatch_tmc], ?_, ?_⟩
    · simp only [State.answers, State.answered, State.setLki_lki, State.setTmc_now, clearMatch_frame]
      rfl
    · simp only [State.answered, State.setLki_lki, State.setTmc_lki, clearMatch_lki]
      by_cases hm : s.tmc.slotMatch = true
      · simp only [asked_frame, hm, if_true]
        exact notice_notices_congr _ _ _ _ _ ⟨rfl, rfl⟩ rfl
      · simp only [asked_frame, hm]
        rfl
  case compare =>
    have hid : param.toNat = 7 := congrArg BitVec.toNat hp
    have hnext := next_set (index := index) ha (.inr (by rw [hid]; rfl)) hid
      ((setParam_compare (s.asked dt) ..).trans (setCompare_at _ h0 hv))
    rw [setBody, encInt4_byte (by omega)] at hnext
    exact hnext
  case pair =>
    obtain ⟨hmem, hno, hyes⟩ := pair_cases (v := v) hp
    refine ⟨fun h => next_pair_kept ha hu hmem hv (hno h), fun h => ?_⟩
    obtain ⟨u, hnext, hsame, hans, hthc⟩ := next_pair_taken (dt := dt) (index := index) ha hu hmem hv (hyes h)
    rw [setBody, encInt4_small (by omega)] at hans
    refine ⟨u, hnext, hsame, hans, ?_, ?_, ?_, ?_, ?_⟩
    case refine_5 =>
      rintro rfl
      rw [hthc]
      exact cooldownTest_par (s.asked dt) _
    all_goals
      rintro rfl
      exact hthc
  case fanPair =>
    obtain ⟨hmem, hno, hyes⟩ := fanPair_cases (v := v) hp
    refine ⟨fun h => next_pair_kept ha hu hmem hv (hno h), fun h => ?_⟩
    obtain ⟨u, hnext, hsame, hans, hthc⟩ := next_pair_taken (dt := dt) (index := index) ha hu hmem hv (hyes h)
    rw [setBody, encInt4_byte (by omega)] at hans
    refine ⟨u, hnext, hsame, hans, ?_⟩
    rw [hthc]
    simp only [List.mem_cons, Prod.mk.injEq, List.not_mem_nil, or_false] at hp
    rcases hp with ⟨hid, -⟩ | ⟨hid, -⟩
    · obtain rfl : param = 25 := BitVec.eq_of_toNat_eq hid
      exact setThcPar_recomputeFan (s.asked dt) { s.thc.par with fMinLit := v }
    · obtain rfl : param = 26 := BitVec.eq_of_toNat_eq hid
      exact setThcPar_recomputeFan (s.asked dt) { s.thc.par with fMax := v }

end Sys2Proof.Machine
end

section
/-!
What power-on makes of the blocks (R49, R80, R99, R116, R141, R164, R177, R183, R193, R194, R204), and the notices it asks for (log 23).
-/

namespace Sys2Proof.Machine

/-! ## The notices of the conditions found set -/

/-- A condition found at power-on: its kind, its subject, and whether it is set. -/
abbrev Found := NoticeKind × Option Nat × Bool

/-- R196, R198: the notices of the conditions that are set, of the kinds that are on. -/
def Found.notices (enables : List Bool) (found : List Found) : List Notice :=
  (found.filter (fun x => x.2.2 && enables.getD x.1.code false)).map
    (fun x => { kind := x.1, clear := false, subject := x.2.1, stamp := 0 })

/-- R196: the link after it has heard of `found`. -/
def Lki.hearing (l : Lki) (found : List Found) : Lki :=
  { l with notices := Found.notices l.enables found, attn := !(Found.notices l.enables found).isEmpty }

theorem Found.notices_length (enables : List Bool) (found : List Found) :
    (Found.notices enables found).length ≤ found.length := by
  rw [Found.notices, List.length_map]
  exact List.length_filter_le ..

theorem Found.notices_concat (enables : List Bool) (found : List Found) (k : NoticeKind) (x : Option Nat) (on : Bool) :
    Found.notices enables (found ++ [(k, x, on)]) = Found.notices enables found ++
      if on && enables.getD k.code false then [{ kind := k, clear := false, subject := x, stamp := 0 }] else [] := by
  simp only [Found.notices, List.filter_append, List.map_append, List.filter_cons, List.filter_nil]
  congr 1
  split <;> simp_all

/-- R197: the next condition is heard of when it is set. -/
theorem hearing_next {s : State} {l : Lki} {found : List Found} (hs : s.lki = l.hearing found) (hnow : s.now = 0)
    (hlen : found.length < 16) (k : NoticeKind) (x : Option Nat) (on : Bool) :
    (if on then s.notice k false x else s).lki = l.hearing (found ++ [(k, x, on)]) := by
  have hroom : (Found.notices l.enables found).length < 16 := Nat.lt_of_le_of_lt (Found.notices_length ..) hlen
  have hstamp : s.stamp = 0 := by rw [State.stamp, hnow]
  have hen : s.lki.enabled k = l.enables.getD k.code false := by rw [hs]; rfl
  unfold Lki.hearing
  rw [Found.notices_concat]
  by_cases hon : (on && l.enables.getD k.code false) = true
  · obtain ⟨hset, hk⟩ := Bool.and_eq_true_iff.mp hon
    rw [if_pos hon, if_pos hset, notice_lki, hen, hk, if_pos rfl, hs, hstamp, Lki.join,
      if_pos (show (l.hearing found).notices.length < noticePlaces from hroom)]
    simp [Lki.hearing]
  · rw [if_neg hon, List.append_nil]
    have hsame : (if on then s.notice k false x else s).lki = s.lki := by
      by_cases hset : on = true
      · rw [if_pos hset, notice_lki, hen, if_neg (by simpa [hset] using hon)]
      · rw [if_neg hset]
    rw [hsame, hs]
    rfl

theorem evalNoLamp_lki {s : State} (h : s.lmc.noLamp = false) :
    s.evalNoLamp.lki = (if !s.lmc.available then s.notice .NO_LAMP false none else s).lki := by
  unfold State.evalNoLamp
  rw [h]
  cases s.lmc.available
  · exact notice_lki_congr _ _ _ _ _ rfl rfl
  · rfl

theorem evalLife_lki {s : State} {p : LampPos} (h : (s.lmc.lamp p).life = false) :
    (s.evalLife p).lki = (if s.lmc.lifeOver p then s.notice .LAMP_LIFE false (some p.num) else s).lki := by
  unfold State.evalLife
  rw [h]
  cases s.lmc.lifeOver p
  · rfl
  · exact notice_lki_congr _ _ _ _ _ rfl rfl

/-! ## Power-on, block by block -/

/-- Log 23: the first two conditions of power-on. -/
def powerOnFound (l : PowerOnLines) (s : State) : State :=
  let s1 := powerOnBase l s
  let s2 := if s1.sts.storeLost then s1.notice .STORE_LOST false none else s1
  if l.trayPresent && (traySizeAt l).isNone then s2.notice .TRAY_INVALID false none else s2

theorem powerOn_eq (l : PowerOnLines) (s : State) :
    powerOn l s = (((powerOnFound l s).evalNoLamp.evalLife .A).evalLife .B).refresh := rfl

/-- A notice changes the link's block alone. -/
theorem powerOnFound_frame (l : PowerOnLines) (s : State) :
    powerOnFound l s = (powerOnBase l s).setLki (powerOnFound l s).lki := by
  have hask : ∀ (u : State) (k : NoticeKind) (on : Bool), ∃ x, (if on then u.notice k false none else u) = u.setLki x := by
    intro u k on
    unfold State.notice
    split
    · split
      · exact ⟨_, rfl⟩
      · exact ⟨u.lki, rfl⟩
    · exact ⟨u.lki, rfl⟩
  obtain ⟨x, hx⟩ := hask (powerOnBase l s) .STORE_LOST (powerOnBase l s).sts.storeLost
  obtain ⟨y, hy⟩ := hask ((powerOnBase l s).setLki x) .TRAY_INVALID (l.trayPresent && (traySizeAt l).isNone)
  have hform : powerOnFound l s = (powerOnBase l s).setLki y := by
    unfold powerOnFound
    dsimp only
    rw [hx, hy]
    rfl
  rw [hform]
  rfl

theorem powerOn_lmc (l : PowerOnLines) (s : State) : (powerOn l s).lmc = { powerLmc s.sts.loaded l with
    noLamp := !(powerLmc s.sts.loaded l).available
    recA := { powerLamp s.sts.loaded.lampA l.lampA with life := (powerLmc s.sts.loaded l).lifeOver .A }
    recB := { powerLamp s.sts.loaded.lampB l.lampB with life := (powerLmc s.sts.loaded l).lifeOver .B } } := by
  simp only [powerOn_eq, refresh_frame, evalLife_lmc, evalNoLamp_lmc]
  rw [powerOnFound_frame]
  rfl

/-- R54: of the lamp conditions, LAMP_LIFE does not bear on NO_LAMP. -/
theorem available_of_life (l : Lmc) (a b n : Bool) : Lmc.available { l with
    noLamp := n, recA := { l.recA with life := a }, recB := { l.recB with life := b } } = l.available := by
  unfold Lmc.available Lmc.lamp
  cases l.active <;> rfl

theorem powerOn_available (l : PowerOnLines) (s : State) : (powerOn l s).lmc.available = (powerLmc s.sts.loaded l).available := by
  rw [powerOn_lmc]
  exact available_of_life (powerLmc s.sts.loaded l) _ _ _

theorem powerOn_blocks (l : PowerOnLines) (s : State) : (powerOn l s).powered = true ∧ (powerOn l s).now = 0 ∧
    (powerOn l s).aq = (powerOnBase l s).aq ∧ (powerOn l s).tmc = powerTmc s.sts.loaded l ∧
    (powerOn l s).cud = (powerOnBase l s).cud ∧ (powerOn l s).ssq = powerSsq s.sts.loaded ∧
    (powerOn l s).rpd = powerRpd s.sts.loaded l ∧ (powerOn l s).cnt = (powerOnBase l s).cnt ∧
    (powerOn l s).sts = (powerOnBase l s).sts := by
  rw [powerOn_eq, powerOnFound_frame]
  simp
  exact ⟨rfl, rfl, rfl, rfl, rfl⟩

theorem powerOn_thc (l : PowerOnLines) (s : State) : (powerOn l s).thc = { resetThc with par := s.sts.loaded.thc } := by
  rw [powerOn_eq, powerOnFound_frame]
  have hhold : holdLine (((State.evalNoLamp ((powerOnBase l s).setLki (powerOnFound l s).lki)).evalLife .A).evalLife .B) = true := by
    simp only [holdLine, evalLife_frame, evalNoLamp_frame]
    rfl
  simp only [State.refresh, hhold, State.setTtc_thc, State.setThc_thc, evalLife_frame, evalNoLamp_frame]
  rfl

theorem powerOn_ttc (l : PowerOnLines) (s : State) : (powerOn l s).ttc = { resetTtc with
    st := if l.cassette then .STOPPED else .EMPTY, cassette := l.cassette, par := s.sts.loaded.ttc
    effTarget := if s.sts.loaded.ttc.autoMute then 0 else s.sts.loaded.ttc.volTarget } := by
  rw [powerOn_eq, powerOnFound_frame]
  have hmute : effectiveTarget (((State.evalNoLamp ((powerOnBase l s).setLki (powerOnFound l s).lki)).evalLife .A).evalLife .B) =
      if s.sts.loaded.ttc.autoMute then 0 else s.sts.loaded.ttc.volTarget := by
    have hstill : ((powerOnBase l s).setLki (powerOnFound l s).lki).ttc.st ≠ .PLAY := by
      change (if l.cassette then Transport.STOPPED else .EMPTY) ≠ .PLAY
      cases l.cassette <;> decide
    simp only [effectiveTarget, State.muteNotPlaying, evalLife_frame, evalNoLamp_frame, bne_iff_ne.mpr hstill,
      Bool.true_or, Bool.and_true]
    rfl
  simp only [State.refresh, hmute, State.setTtc_ttc, evalLife_frame, evalNoLamp_frame]
  rfl

theorem powerOn_lki (l : PowerOnLines) (s : State) : (powerOn l s).lki = (powerOnBase l s).lki.hearing
    [(.STORE_LOST, none, s.sts.lost), (.TRAY_INVALID, none, l.trayPresent && (traySizeAt l).isNone),
      (.NO_LAMP, none, !(powerLmc s.sts.loaded l).available), (.LAMP_LIFE, some 0, (powerLmc s.sts.loaded l).lifeOver .A),
      (.LAMP_LIFE, some 1, (powerLmc s.sts.loaded l).lifeOver .B)] := by
  have hfirst : (if (powerOnBase l s).sts.storeLost then (powerOnBase l s).notice .STORE_LOST false none
      else powerOnBase l s).lki = (powerOnBase l s).lki.hearing [(.STORE_LOST, none, s.sts.lost)] :=
    hearing_next (found := []) rfl rfl (by decide) ..
  have hfirstNow : (if (powerOnBase l s).sts.storeLost then (powerOnBase l s).notice .STORE_LOST false none
      else powerOnBase l s).now = 0 := by
    split
    · exact (notice_frame ..).2.1
    · rfl
  have hfound : (powerOnFound l s).lki = _ := hearing_next hfirst hfirstNow (by simp) ..
  obtain ⟨u, hu⟩ : ∃ u, u = powerOnFound l s := ⟨_, rfl⟩
  have hform := powerOnFound_frame l s
  rw [← hu] at hfound hform
  have hlmc : u.lmc = powerLmc s.sts.loaded l := by rw [hform]; rfl
  have hnow : u.now = 0 := by rw [hform]; rfl
  have hlamp := hearing_next hfound hnow (by simp) .NO_LAMP none (!u.lmc.available)
  rw [← evalNoLamp_lki (by rw [hlmc]; rfl), hlmc] at hlamp
  have hA := hearing_next hlamp (by simp [hnow]) (by simp) .LAMP_LIFE (some LampPos.A.num) (u.evalNoLamp.lmc.lifeOver .A)
  rw [← evalLife_lki (p := .A) (by rw [evalNoLamp_lmc, hlmc]; rfl)] at hA
  have hB := hearing_next hA (by simp [hnow]) (by simp) .LAMP_LIFE (some LampPos.B.num) ((u.evalNoLamp.evalLife .A).lmc.lifeOver .B)
  rw [← evalLife_lki (p := .B) (by rw [evalLife_lmc, evalNoLamp_lmc, hlmc]; rfl)] at hB
  rw [powerOn_eq, ← hu, (refresh_frame _).2.2.2.2.2.2.2.2.2.1, hB, evalLife_lmc, evalNoLamp_lmc, hlmc]
  rfl

/-- R49: the slot table of power-on. -/
theorem powerTmc_slot {x : Settings} {l : PowerOnLines} {i : Nat} {r : SlotRec} (h : (powerTmc x l).slots[i]? = some r) :
    r.occ = (if i = 0 then Occ.EMPTY else Occ.UNKNOWN) ∧ r.jams = 0 ∧ r.blank = (x.flags.getD i false && i != 0) := by
  rw [powerTmc_slots, List.getElem?_mapIdx] at h
  obtain ⟨b, hb, rfl⟩ := Option.map_eq_some_iff.mp h
  simp [List.getD, hb]

/-- Settles O5: power-on in closed form, block by block. -/
theorem powerOnSetsTheMechanismTheLampAndTheTape : Obligations.PowerOnSetsTheMechanismTheLampAndTheTape := by
  refine ⟨fun l s hflags => ⟨powerOn l s, rfl, ?_⟩, fun l s => ⟨powerOn l s, rfl, ?_⟩⟩
  · obtain ⟨-, -, -, htmc, -⟩ := powerOn_blocks l s
    rw [htmc, powerOn_lmc]
    refine ⟨fun ⟨hp, hc⟩ => ?_, fun ⟨hp, hc⟩ => ?_, fun h => ?_, rfl, rfl, ?_, fun i r hr => powerTmc_slot hr, rfl, rfl, rfl, rfl,
      rfl, rfl, rfl, rfl⟩
    · simp [powerTmc, traySizeAt, hp, hc]
    · simp [powerTmc, traySizeAt, hp, hc]
    · have hnone : traySizeAt l = none := by
        unfold traySizeAt
        rcases h with h | h | h <;> simp [h]
      simp [powerTmc, hnone]
    · rw [powerTmc_slots, List.length_mapIdx, hflags]
  · rw [powerOn_available, powerOn_lmc, powerOn_thc, powerOn_ttc]
    exact ⟨rfl, rfl, rfl, rfl, rfl, rfl, rfl, rfl, rfl, rfl, rfl, rfl, rfl, rfl, rfl, rfl, rfl, rfl, rfl, rfl, rfl, rfl, rfl,
      rfl, rfl, rfl, rfl, rfl, rfl, rfl, rfl, rfl, rfl, rfl⟩

theorem traySizeAt_isNone (l : PowerOnLines) : (l.trayPresent && (traySizeAt l).isNone) =
    (l.trayPresent && (l.trayCode == .absent || l.trayCode == .invalid)) := by
  unfold traySizeAt
  cases l.trayPresent <;> cases l.trayCode <;> rfl

/-- R177: a panel key at power-on. -/
theorem powerRpd_key (x : Settings) (l : PowerOnLines) (k : Key) : ((powerRpd x l).panel.getD (keyIdx k) resetPanelKey) =
    { resetPanelKey with closed := l.panelClosed.contains k, down := l.panelClosed.contains k } := by
  cases k <;> rfl

/-- Settles O6. -/
theorem powerOnSetsTheOtherBlocks : Obligations.PowerOnSetsTheOtherBlocks := by
  refine ⟨fun l s => ⟨powerOn l s, rfl, ?_⟩, fun l s => ⟨powerOn l s, rfl, ?_⟩⟩
  · obtain ⟨hp, -, haq, -, hcud, hssq, hrpd, hcnt, hsts⟩ := powerOn_blocks l s
    rw [hp, haq, hcud, hssq, hrpd, hcnt, hsts, powerOn_lki]
    refine ⟨rfl, rfl, rfl, rfl, rfl, rfl, rfl, rfl, rfl, fun hv => ?_, fun hv => ?_, rfl, rfl, rfl, rfl, rfl, rfl, rfl, rfl, rfl,
      rfl, rfl, rfl, rfl, fun c hc => List.eq_of_mem_replicate hc, rfl, rfl, fun hs => ?_, fun hs => ?_, fun h0 h31 => ?_,
      fun c hc => ?_, rfl, rfl, rfl, rfl, rfl, rfl, rfl, rfl, rfl⟩
    · have hst : (s.sts.loaded.steps.getD s.sts.loaded.head defaultStep).valid = true := hv
      rw [powerSsq, hst]
      exact ⟨rfl, rfl⟩
    · have hst : (s.sts.loaded.steps.getD s.sts.loaded.head defaultStep).valid = false := hv
      rw [powerSsq, hst]
      exact ⟨rfl, rfl⟩
    · change strapAddr l.straps.toNat = _
      rw [hs]
      rfl
    · change strapAddr l.straps.toNat = _
      rw [hs]
      rfl
    · change strapAddr l.straps.toNat = _
      have hn0 : l.straps.toNat ≠ 0 := fun h => h0 (BitVec.eq_of_toNat_eq h)
      have hn31 : l.straps.toNat ≠ 31 := fun h => h31 (BitVec.eq_of_toNat_eq h)
      rw [strapAddr, if_neg hn0, if_neg hn31]
    · have hcounters : (powerOnBase l s).cnt.live ++ (powerOnBase l s).cnt.snap =
          List.replicate (24 + 24) { val := 0, ovf := false } := List.replicate_append_replicate
      rw [hcounters] at hc
      rw [List.eq_of_mem_replicate hc]
      exact ⟨rfl, rfl⟩
  · obtain ⟨-, -, -, -, -, -, hrpd, hcnt, -⟩ := powerOn_blocks l s
    have hlife : ∀ p, (powerOn l s).lmc.lifeOver p = (powerLmc s.sts.loaded l).lifeOver p := by
      intro p
      rw [powerOn_lmc]
      cases p <;> rfl
    refine ⟨by rw [hrpd]; rfl, fun k => ?_, ?_, ?_, ?_⟩
    · have hkey : (powerOn l s).panelKey k = _ := (congrArg (fun r : Rpd => r.panel.getD (keyIdx k) resetPanelKey) hrpd).trans
        (powerRpd_key s.sts.loaded l k)
      rw [hkey]
      exact ⟨rfl, rfl, rfl, rfl, rfl⟩
    · rw [hcnt]
      change snapTimer 0 s.sts.loaded.interval = _
      rw [snapTimer, sec, Nat.zero_add, Nat.mul_comm]
    · rw [powerOn_lki, powerOn_available, hlife, hlife, ← traySizeAt_isNone]
      rfl
    · rw [powerOn_lki]
      rfl

end Sys2Proof.Machine
end

section
/-!
The ramp's curve and the response table (R67, R74), and the cue frame that is formed (R124, R136).
-/

namespace Sys2Proof.Machine

/-! ## The curve of a ramp (R67) -/

theorem curveFraction_le {r : Ramp} {p : Nat} (h : p ≤ 4096) : curveFraction r p ≤ 4096 := by
  unfold curveFraction
  split
  · exact h
  · have hsq : p * p ≤ 4096 * 4096 := Nat.mul_le_mul h h
    have hcross : p * (8192 - p) ≤ 4096 * 4096 := by
      obtain ⟨q, hq⟩ := Nat.exists_eq_add_of_le h
      rw [show 8192 - p = p + 2 * q by omega, hq]
      nlinarith
    split
    · omega
    · split
      · omega
      · exact h

theorem curveFraction_full (r : Ramp) : curveFraction r 4096 = 4096 := by
  unfold curveFraction
  split
  · rfl
  · split
    · rfl
    · split <;> rfl

/-- A part of a distance, by a fraction of at most one. -/
theorem part_le {d f : Nat} (h : f ≤ 4096) : d * f / 4096 ≤ d :=
  Nat.div_le_of_le_mul (by rw [Nat.mul_comm 4096]; exact Nat.mul_le_mul_left d h)

theorem rampLevel_up {r : Ramp} {k : Nat} (h : r.start ≤ r.stop) : rampLevel r k =
    r.start + (r.stop - r.start) * curveFraction r (4096 * k / r.n) / 4096 := if_pos h

theorem rampLevel_down {r : Ramp} {k : Nat} (h : r.stop < r.start) : rampLevel r k =
    r.start - (r.start - r.stop) * curveFraction r (4096 * k / r.n) / 4096 := if_neg (by omega)

theorem rampLevel_end {r : Ramp} (h : 1 ≤ r.n) : rampLevel r r.n = r.stop := by
  have hp : 4096 * r.n / r.n = 4096 := Nat.mul_div_cancel _ h
  rcases Nat.lt_or_ge r.stop r.start with hdown | hup
  · rw [rampLevel_down hdown, hp, curveFraction_full, Nat.mul_div_cancel _ (by omega)]
    omega
  · rw [rampLevel_up hup, hp, curveFraction_full, Nat.mul_div_cancel _ (by omega)]
    omega

theorem rampLevel_between {r : Ramp} {k : Nat} (h : 1 ≤ r.n) (hk : k ≤ r.n) :
    min r.start r.stop ≤ rampLevel r k ∧ rampLevel r k ≤ max r.start r.stop := by
  have hp : 4096 * k / r.n ≤ 4096 := Nat.div_le_of_le_mul (by rw [Nat.mul_comm]; exact Nat.mul_le_mul_right _ hk)
  rcases Nat.lt_or_ge r.stop r.start with hdown | hup
  · have := part_le (d := r.start - r.stop) (curveFraction_le (r := r) hp)
    rw [rampLevel_down hdown]
    omega
  · have := part_le (d := r.stop - r.start) (curveFraction_le (r := r) hp)
    rw [rampLevel_up hup]
    omega

/-! ## The response table (R74) -/

/-- R74: the drive of a level below full output. -/
theorem interpolate_inside {table : List Nat} {level : Nat} (h : level < 1000) : interpolate table level =
    table.getD (level * 32 / 1000) 0 + (table.getD (level * 32 / 1000 + 1) 0 - table.getD (level * 32 / 1000) 0) *
      (level * 32 - level * 32 / 1000 * 1000) / 1000 := if_neg (by omega)

theorem interpolate_full (table : List Nat) : interpolate table 1000 = table.getD 32 0 := rfl

theorem getD_le_getD {l : List Nat} (h : l.Pairwise (· ≤ ·)) {i j : Nat} (hij : i < j) (hj : j < l.length) :
    l.getD i 0 ≤ l.getD j 0 := by
  have hi : i < l.length := Nat.lt_trans hij hj
  rw [List.getD_eq_getElem _ _ hi, List.getD_eq_getElem _ _ hj]
  exact List.pairwise_iff_getElem.mp h i j hi hj hij

theorem interpolate_between {table : List Nat} {level : Nat} (hlen : table.length = 33) (hsorted : table.Pairwise (· ≤ ·))
    (h : level ≤ 1000) : table.getD (level * 32 / 1000) 0 ≤ interpolate table level ∧
      interpolate table level ≤ table.getD (min 32 (level * 32 / 1000 + 1)) 0 := by
  rcases Nat.lt_or_ge level 1000 with hlt | hge
  · have hstep := getD_le_getD hsorted (Nat.lt_add_one (level * 32 / 1000)) (by omega)
    have hpart : (table.getD (level * 32 / 1000 + 1) 0 - table.getD (level * 32 / 1000) 0) *
        (level * 32 - level * 32 / 1000 * 1000) / 1000 ≤
          table.getD (level * 32 / 1000 + 1) 0 - table.getD (level * 32 / 1000) 0 :=
      Nat.div_le_of_le_mul (by rw [Nat.mul_comm 1000]; exact Nat.mul_le_mul_left _ (by omega))
    rw [interpolate_inside hlt, Nat.min_eq_right (by omega)]
    omega
  · obtain rfl : level = 1000 := Nat.le_antisymm h hge
    rw [interpolate_full]
    exact ⟨Nat.le_refl _, Nat.le_refl _⟩

/-- Settles O22. -/
theorem rampAndTableStayInTheirIntervals : Obligations.RampAndTableStayInTheirIntervals := by
  refine ⟨fun r k hn hk => ?_, fun table level hlen hsorted hl => ?_⟩
  · obtain ⟨hlow, hhigh⟩ := rampLevel_between hn hk
    refine ⟨hlow, hhigh, rampLevel_end hn, fun hup hc => ?_, fun hdown hc => ?_, fun hup hc => ?_, fun hdown hc => ?_⟩
    · rw [rampLevel_up (Nat.le_of_lt hup), curveFraction, hc]
      simp only [hup, if_true]
    · rw [rampLevel_down hdown, curveFraction, hc]
      simp only [hdown, if_true, Nat.not_lt_of_gt hdown, if_false]
    · rw [rampLevel_up hup, curveFraction, hc]
    · rw [rampLevel_down hdown, curveFraction, hc]
  · obtain ⟨hlow, hhigh⟩ := interpolate_between hlen hsorted hl
    exact ⟨interpolate_inside, interpolate_full table, hlow, hhigh⟩

/-! ## The cue frame (R124, R136) -/

theorem frameKindOf_code (k : FrameKind) : frameKindOf k.code = k := by
  cases k <;> rfl

theorem FrameKind.code_lt (k : FrameKind) : k.code < 4 := by
  cases k <;> decide

theorem bitsOf_length (w n : Nat) : (bitsOf w n).length = w := by
  simp [bitsOf]

theorem bitsVal_bitsOf {w n : Nat} (h : n < 2 ^ w) : bitsVal (bitsOf w n) = n := by
  rw [← Nat.mod_eq_of_lt h]
  refine Nat.eq_of_testBit_eq fun i => ?_
  rw [bitsOf, testBit_bitsVal_reverse, Nat.testBit_mod_two_pow]
  by_cases hi : i < w <;> simp [hi, Nat.mod_eq_of_lt h]

theorem crcStep_lt {r : Nat} (h : r < 16) (b : Bool) : crcStep r b < 16 := by
  have hall : ∀ r < 16, ∀ b : Bool, crcStep r b < 16 := by decide
  exact hall r h b

/-- R124: the check has four bits. -/
theorem crc4_lt (l : List Bool) : crc4 l < 16 := by
  have hfold : ∀ (bits : List Bool) (r : Nat), r < 16 → bits.foldl crcStep r < 16 := by
    intro bits
    induction bits with
    | nil => exact fun r h => h
    | cons b bits ih => exact fun r h => ih _ (crcStep_lt h b)
  exact hfold _ 0 (by decide)

/-- Section 9.7: the fields of a cue frame between its sync pattern and its check. -/
def frameBody (count : Nat) (kind : FrameKind) (payload : Nat) : List Bool :=
  bitsOf 4 count ++ (bitsOf 2 kind.code ++ bitsOf 14 payload)

theorem frameBody_length (count : Nat) (kind : FrameKind) (payload : Nat) : (frameBody count kind payload).length = 20 := by
  simp [frameBody, bitsOf_length]

theorem frameBits_eq (count : Nat) (kind : FrameKind) (payload : Nat) : frameBits count kind payload =
    syncBits ++ (frameBody count kind payload ++ bitsOf 4 (crc4 (frameBody count kind payload))) := by
  simp [frameBits, frameBody]

theorem frameBits_length (count : Nat) (kind : FrameKind) (payload : Nat) : (frameBits count kind payload).length = 32 := by
  simp [frameBits_eq, frameBody_length, bitsOf_length, syncBits]

/-- R124: a frame that is formed is judged valid with its own fields. -/
theorem judgeBits_frameBits {count payload : Nat} {kind : FrameKind} (hc : count < 16) (hp : payload < 16384)
    (hcue : kind = .CUE → payload ≠ 0) : judgeBits (frameBits count kind payload) = .valid count kind payload := by
  obtain ⟨body, hbody⟩ : ∃ body, body = frameBody count kind payload := ⟨_, rfl⟩
  have hlen : body.length = 20 := by rw [hbody, frameBody_length]
  have hsync : syncBits.length = 8 := rfl
  have hframe : frameBits count kind payload = syncBits ++ (body ++ bitsOf 4 (crc4 body)) := by rw [hbody, frameBits_eq]
  have htail : (frameBits count kind payload).drop 8 = body ++ bitsOf 4 (crc4 body) := by rw [hframe, List.drop_left' hsync]
  have hfields : ((frameBits count kind payload).drop 8).take 20 = body := by rw [htail, List.take_left' hlen]
  have hcheck : ((frameBits count kind payload).drop 28).take 4 = bitsOf 4 (crc4 body) := by
    rw [show 28 = 8 + 20 from rfl, ← List.drop_drop, htail, List.drop_left' hlen, List.take_of_length_le (by rw [bitsOf_length])]
  have hcount : body.take 4 = bitsOf 4 count := by rw [hbody, frameBody, List.take_left' (bitsOf_length ..)]
  have hkind : (body.drop 4).take 2 = bitsOf 2 kind.code := by
    rw [hbody, frameBody, List.drop_left' (bitsOf_length ..), List.take_left' (bitsOf_length ..)]
  have hpay : body.drop 6 = bitsOf 14 payload := by
    rw [show 6 = 4 + 2 from rfl, ← List.drop_drop, hbody, frameBody, List.drop_left' (bitsOf_length ..),
      List.drop_left' (bitsOf_length ..)]
  unfold judgeBits
  rw [if_neg (by rw [hframe, List.take_left' hsync]; simp)]
  dsimp only
  rw [hfields, hcheck, hcount, hkind, hpay, bitsVal_bitsOf (w := 4) (crc4_lt body), bitsVal_bitsOf (w := 4) (n := count) hc,
    bitsVal_bitsOf (w := 14) (n := payload) hp, bitsVal_bitsOf (w := 2) kind.code_lt, frameKindOf_code, if_neg]
  rintro (h | ⟨hk, h0⟩)
  · exact h rfl
  · exact hcue hk h0

theorem judgeWindow_some (l : List Bool) : judgeWindow (l.map some) = judgeBits l := by
  simp [judgeWindow, Function.comp_def]

/-- Section 9.7: the frame as a word, its first bit the topmost. -/
theorem frameWord_bits (count : Nat) (kind : FrameKind) (payload : Nat) :
    (List.range 32).map (fun i => (frameWord count kind payload).getLsbD (31 - i)) = frameBits count kind payload := by
  have hlen := frameBits_length count kind payload
  apply List.ext_getElem (by simp [hlen])
  intro i hi hi'
  have hi32 : i < 32 := by simpa using hi
  have hbit := testBit_bitsVal_reverse (frameBits count kind payload).reverse (31 - i)
  rw [List.reverse_reverse, List.getD_eq_getElem _ _ (by rw [List.length_reverse]; omega), List.getElem_reverse] at hbit
  simp only [List.getElem_map, List.getElem_range, frameWord, BitVec.getLsbD_ofNat, hbit,
    show 31 - i < 32 by omega, decide_true, Bool.true_and]
  congr 1
  omega

/-- Settles O38. -/
theorem regeneratorSendsValidFrames : Obligations.RegeneratorSendsValidFrames := by
  refine ⟨fun dt due f s hp hdue hf => ?_, fun count payload kind hc hpay hcue => ?_⟩
  · refine next_take hp ?_
    have hslot : (s.advance dt).cud.slotDue = some due := hdue
    rw [regenSlot, hslot, hf]
    simp only [Cud.slot, slotTime, msec]
    rfl
  · exact ⟨(judgeWindow_some _).trans (judgeBits_frameBits hc hpay hcue), frameWord_bits count kind payload⟩

end Sys2Proof.Machine
end

section
/-!
The tape transport and the programme sound (R100 to R114).
-/

namespace Sys2Proof.Machine

/-! ## Transport requests (R101, R102) -/

/-- R102: the table of the refusals. -/
theorem tapeRefused_eq (s : State) (op : TapeOp) :
    s.tapeRefused op = tapeRefusal op s.ttc.st s.ttc.atEnd (s.thc.power == .STANDBY) := by
  unfold State.tapeRefused
  cases op <;> cases s.ttc.st <;> cases s.thc.power <;> cases s.ttc.atEnd <;> rfl

theorem setTransport_same (s : State) {t : Transport} (h : s.ttc.st = t) : s.setTransport t = s := if_pos h

/-- R101, R108: what a change of the transport state resets. -/
theorem setTransport_change (s : State) {t : Transport} (h : t ≠ s.ttc.st) : (s.setTransport t).ttc.st = t ∧
    (s.setTransport t).ttc.servo = s.ttc.servo ∧ (s.setTransport t).ttc.par = s.ttc.par ∧
    (s.setTransport t).ttc.curVol = s.ttc.curVol ∧ (s.setTransport t).ttc.seqHold = false ∧
    (s.setTransport t).ttc.reelTimer = (if t = .PLAY ∨ t = .FFWD ∨ t = .REWIND then some (s.now + 1500000) else none) ∧
    (s.setTransport t).ttc.fgTimer = (if t = .PLAY then some (s.now + 200000) else none) ∧
    (s.setTransport t).ttc.atEnd = (if t = .REWIND then false else s.ttc.atEnd) ∧
    (t = .PLAY → (s.setTransport t).ttc.locked = false ∧ (s.setTransport t).ttc.inLock = 0 ∧
      (s.setTransport t).ttc.fgPeriod = none ∧ (s.setTransport t).ttc.lastFg = none) := by
  unfold State.setTransport
  rw [if_neg (fun hst => h hst.symm)]
  cases t <;> simp [reelTime, fgTime, msec]

/-- R104 to R107, R114: a transport that leaves its state and does not go to PLAY watches neither the capstan nor the lock. -/
theorem setTransport_halt (s : State) {t : Transport} (h : t ≠ s.ttc.st) (hp : t ≠ .PLAY) :
    (s.setTransport t).ttc.fgTimer = none ∧ (s.setTransport t).ttc.unlockStart = none ∧
      (s.setTransport t).ttc.cassetteDue = s.ttc.cassetteDue := by
  unfold State.setTransport
  rw [if_neg (fun hst => h hst.symm)]
  cases t <;> simp_all

theorem setTransport_st (s : State) (t : Transport) : (s.setTransport t).ttc.st = t := by
  by_cases h : t = s.ttc.st
  · rw [setTransport_same s h.symm, h]
  · exact (setTransport_change s h).1

theorem tape_taken {s : State} {op : TapeOp} (h : s.tapeRefused op = false) :
    s.tape op = s.setTransport (tapeTarget op s.ttc.st) := if_neg (by simp [h])

/-- R102: the operation and its target, by the argument. -/
theorem tapeOp_of_arg {arg : Byte} {op : TapeOp} {x st : Transport}
    (h : (arg = 0 ∧ op = TapeOp.PLAY ∧ x = Transport.PLAY) ∨ (arg = 1 ∧ op = .PAUSE ∧ x = .PAUSE) ∨
      (arg = 2 ∧ op = .STOP ∧ x = (if st = .EMPTY then .EMPTY else .STOPPED)) ∨
      (arg = 3 ∧ op = .FFWD ∧ x = .FFWD) ∨ (arg = 4 ∧ op = .REWIND ∧ x = .REWIND)) :
    [TapeOp.PLAY, .PAUSE, .STOP, .FFWD, .REWIND][arg.toNat]? = some op ∧ x = tapeTarget op st := by
  rcases h with ⟨rfl, rfl, rfl⟩ | ⟨rfl, rfl, rfl⟩ | ⟨rfl, rfl, rfl⟩ | ⟨rfl, rfl, rfl⟩ | ⟨rfl, rfl, rfl⟩
  all_goals exact ⟨rfl, rfl⟩

theorem reqTape_op {s : State} {arg : Byte} {op : TapeOp}
    (h : [TapeOp.PLAY, .PAUSE, .STOP, .FFWD, .REWIND][arg.toNat]? = some op) :
    reqTape arg s = if s.tapeRefused op then deny s .REFUSED_STATE else done (s.tape op) := by
  rw [reqTape, h]

/-- Settles O32. -/
theorem tapeOperationByTheTable : Obligations.TapeOperationByTheTable := by
  refine ⟨fun dt h arg s ha => ⟨fun op x hop => ⟨fun hrefused => ?refused, fun htaken => ?taken⟩, fun harg => ?unknown⟩,
    fun t => ?drives⟩
  case refused =>
    obtain ⟨hlookup, -⟩ := tapeOp_of_arg hop
    refine next_control_refused (x := .TAPE) ha ?_ (by decide) (by decide)
    exact (reqTape_op hlookup).trans (if_pos ((tapeRefused_eq (s.asked dt) op).trans hrefused))
  case taken =>
    obtain ⟨hlookup, hx⟩ := tapeOp_of_arg hop
    have hok : (s.asked dt).tapeRefused op = false := (tapeRefused_eq (s.asked dt) op).trans htaken
    have hr : reqTape arg (s.asked dt) = done ((s.asked dt).setTransport x) := by
      rw [reqTape_op hlookup, hok, tape_taken hok, hx]
      rfl
    refine ⟨_, next_control (x := .TAPE) ha hr, ?_, ?_, setTransport_st _ x, ?_⟩
    · simp [State.sameBut, State.answered, done, Answer.counted]
    · simp only [State.answers, State.answered, done, Answer.counted, State.setLki_lki, setTransport_frame]
      rfl
    · change ((s.asked dt).setTransport x).ttc.servo = _ ∧ ((s.asked dt).setTransport x).ttc.par = _ ∧ _
      by_cases hsame : x = s.ttc.st
      · have hkept : (s.asked dt).setTransport x = s.asked dt := setTransport_same _ hsame.symm
        rw [hkept]
        exact ⟨rfl, rfl, rfl, fun _ => rfl, fun h => absurd hsame h⟩
      · obtain ⟨-, hservo, hpar, hvol, hhold, hreel, hfg, hend, hplay⟩ := setTransport_change (s.asked dt) hsame
        exact ⟨hservo, hpar, hvol, fun h => absurd h hsame, fun _ => ⟨hhold, hreel, hfg, hend, hplay⟩⟩
  case unknown =>
    refine next_control_refused (x := .TAPE) ha ?_ (by decide) (by decide)
    change reqTape arg (s.asked dt) = _
    rw [reqTape, List.getElem?_eq_none (by simp; omega)]
  case drives =>
    unfold capstanDrive solenoidEngaged reelDrive
    cases t.st <;> simp

/-! ## The capstan (R104 to R106) -/

theorem fgTarget_eq {p : TtcParams} {target : Int} (h : target = 1666667 / (1000 + p.trimT)) (hpos : 0 < 1000 + p.trimT) :
    (fgTarget p : Int) = target := by
  rw [fgTarget, Int.toNat_of_nonneg (Int.ediv_nonneg (by omega) (by omega)), h]

theorem judgeLock_inLock (t : Ttc) (good : Bool) (now : Nat) : (t.judgeLock good now).inLock = (if good then min (t.inLock + 1) 8 else 0) ∧
    (t.judgeLock good now).locked = (good && (t.locked || decide (8 ≤ t.inLock + 1))) ∧
    (t.judgeLock good now).fgPeriod = t.fgPeriod ∧ (t.judgeLock good now).servo = t.servo ∧
    (t.judgeLock good now).st = t.st := by
  unfold Ttc.judgeLock
  cases good
  · cases t.locked <;> simp
  · by_cases h8 : min (t.inLock + 1) 8 = 8
    · cases t.locked <;> simp [h8]
      omega
    · cases t.locked <;> simp [h8]
      omega

/-- R105: the step of the servo, by the deviation of the period. -/
theorem servoStep_cases {servo period target : Nat} {d : Int} (hd : d = (period : Int) - target) :
    (50 * d > target → servoStep servo period target = min (servo + 4) 1023) ∧
      (400 * d > target → ¬50 * d > target → servoStep servo period target = min (servo + 1) 1023) ∧
      (50 * d < -target → servoStep servo period target = servo - 4) ∧
      (400 * d < -target → ¬50 * d < -target → servoStep servo period target = servo - 1) ∧
      (¬400 * d > target → ¬400 * d < -target → servoStep servo period target = servo) := by
  unfold servoStep
  simp only [← hd]
  refine ⟨fun h => ?_, fun h h' => ?_, fun h => ?_, fun h h' => ?_, fun h h' => ?_⟩
  · rw [if_pos h]
  · rw [if_neg h', if_pos h]
  · rw [if_neg (by omega), if_neg (by omega), if_pos h]
  · rw [if_neg (by omega), if_neg (by omega), if_neg h', if_pos h]
  · rw [if_neg (by omega), if_neg h, if_neg (by omega), if_neg h']

/-- Settles O33. -/
theorem fgReelVolumeAndUnlock : Obligations.FgReelVolumeAndUnlock := by
  refine ⟨fun dt s hp => ⟨fun hst => ?idle, fun hst hfirst => ?first, fun before d target hst hlast hb ht hpos hd => ?period⟩,
    fun dt s hp => ⟨fun hst => ?takeUp, fun hst => ?supply, fun start hs hpass => ?unlock⟩, fun dt target s hp ht => ?volume⟩
  case idle => exact next_take hp (if_neg hst)
  case first =>
    refine next_take hp ((if_pos hst).trans ?_)
    have hfg : Ttc.fg s.ttc (s.now + dt) = { s.ttc with lastFg := some (s.now + dt), fgTimer := some (s.now + dt + 200000) } := by
      simp only [Ttc.fg, hfirst]
      rfl
    exact congrArg (s.advance dt).setTtc hfg
  case period =>
    have htarget : (fgTarget s.ttc.par : Int) = target := fgTarget_eq ht hpos
    obtain ⟨m, hm⟩ : ∃ m : Ttc, m = { s.ttc with
      fgPeriod := some (s.now + dt - before)
      servo := servoStep s.ttc.servo (s.now + dt - before) (fgTarget s.ttc.par) } := ⟨_, rfl⟩
    obtain ⟨good, hgood⟩ : ∃ good, good = inOnePercent (s.now + dt - before) (fgTarget s.ttc.par) := ⟨_, rfl⟩
    have hfg : s.ttc.fg (s.now + dt) = { m.judgeLock good (s.now + dt) with
        lastFg := some (s.now + dt), fgTimer := some (s.now + dt + 200000) } := by
      simp only [Ttc.fg, hlast, hm, hgood]
      rfl
    obtain ⟨hin, hlock, hperiod, hservo, hplay⟩ := judgeLock_inLock m good (s.now + dt)
    refine ⟨_, next_take hp ((if_pos hst).trans (congrArg (s.advance dt).setTtc hfg)), by simp [State.sameBut], ?_, rfl, rfl, ?_, ?_⟩
    · exact hperiod.trans (by rw [hm])
    · exact hplay.trans (by rw [hm]; exact hst)
    · have hservo' : (m.judgeLock good (s.now + dt)).servo = servoStep s.ttc.servo (s.now + dt - before) (fgTarget s.ttc.par) :=
        hservo.trans (by rw [hm])
      obtain ⟨hup4, hup1, hdown4, hdown1, hstay⟩ := servoStep_cases (servo := s.ttc.servo) (target := fgTarget s.ttc.par)
        (period := s.now + dt - before) (hd.trans (by rw [htarget]))
      rw [← hservo', htarget] at hup4 hup1 hdown4 hdown1 hstay
      have hgood' : good = decide (100 * d.natAbs ≤ target) := by
        rw [hgood, inOnePercent, decide_eq_decide, htarget, ← hd, ← htarget]
        exact Int.ofNat_le.symm
      have hm' : m.inLock = s.ttc.inLock ∧ m.locked = s.ttc.locked := by rw [hm]; exact ⟨rfl, rfl⟩
      rw [hm'.1] at hin
      rw [hm'.1, hm'.2] at hlock
      refine ⟨hup4, hup1, hdown4, hdown1, hstay, fun h => ?_, fun h => ?_⟩
      · have hg : good = true := hgood'.trans (decide_eq_true h)
        exact ⟨hin.trans (if_pos hg), hlock.trans (by rw [hg, Bool.true_and])⟩
      · have hg : good = false := hgood'.trans (decide_eq_false (by omega))
        exact ⟨hin.trans (if_neg (by simp [hg])), hlock.trans (by rw [hg, Bool.false_and])⟩
  case takeUp =>
    refine next_take hp (if_pos ?_)
    rcases hst with h | h <;> exact congrArg watchedReel h
  case supply => exact next_take hp (if_pos (congrArg watchedReel hst))
  case unlock =>
    refine next_take hp ?_
    unfold unlockTimer300ms
    rw [if_neg (by simp [hpass])]
    have hdue : ((s.advance dt).ttc.unlockStart.map (· + unlockTime)) = some (start + 300000) := by
      simp [hs, unlockTime, msec]
    rw [hdue]
    rfl
  case volume =>
    refine next_take hp ?_
    have heff : effectiveTarget (s.advance dt) = target := by
      rw [ht]
      change (if (s.ttc.par.autoMute && (s.ttc.st != .PLAY || s.cud.speedOff || (s.ttc.st == .PLAY && s.ttc.unlockPassed))) = true
        then 0 else s.ttc.par.volTarget) = _
      cases s.ttc.st <;> rfl
    rw [volumeStep, heff]
    rfl

end Sys2Proof.Machine
end

section
/-!
The cassette and the ends of the tape (R100, R107 to R109), and the restart of the show with it (R163).
-/

namespace Sys2Proof.Machine

/-! ## A flush that covers the queue (R18) -/

theorem report_quiet_queue (s : State) (tag : Option Nat) (m : Manner) : (s.report false tag m).aq.queue = s.aq.queue := by
  simp [State.report]

theorem reportAll_quiet_queue (l : List (Option Nat × Manner)) (s : State) : (s.reportAll false l).aq.queue = s.aq.queue := by
  induction l generalizing s with
  | nil => rfl
  | cons d l ih => exact (ih (s.report false d.1 d.2)).trans (report_quiet_queue ..)

theorem flushQueue_queue (s : State) (cover : Entry → Bool) (jam : Bool) :
    (s.flushQueue cover jam).aq.queue = s.aq.queue.filter (staysThrough cover jam) := by
  unfold State.flushQueue
  simp only [State.setAq_aq]
  rcases hq : s.aq.queue with _ | ⟨e, l⟩
  · simp [hq]
  · dsimp only
    split
    · rename_i hrun
      have hr : e.running = true := by simp_all
      rw [(endRunning_running s e hr).1, hq]
    · rw [hq]

/-- R18: a flush inside a rule of SSQ, of a queue that it covers, while the show does not run. -/
theorem flush_covered {s : State} {cover : Entry → Bool} (hc : ∀ e ∈ s.aq.queue, staysThrough cover false e = false)
    (hs : s.ssq.st ≠ .RUNNING) (hr : s.lki.resetting = false) : (s.flush cover false false).aq.queue = [] ∧
      (s.flush cover false false).lki = s.lki ∧ (s.flush cover false false).ssq = s.ssq := by
  have hempty : s.aq.queue.filter (staysThrough cover false) = [] := by
    rw [List.filter_eq_nil_iff]
    intro e he
    simp [hc e he]
  unfold State.flush
  split
  · exact ⟨(flushQueue_queue ..).trans hempty, by simp, by simp⟩
  · obtain ⟨hssq, hlki⟩ := reportAll_quiet (flushReports false (s.aq.queue.filter (fun e => !staysThrough cover false e)))
      (s.flushQueue cover false) (by simpa using hs)
    obtain ⟨u, hu⟩ : ∃ u, u = s.flushReported cover false false := ⟨_, rfl⟩
    have huq : u.aq.queue = [] := by
      rw [hu]
      exact (reportAll_quiet_queue ..).trans ((flushQueue_queue ..).trans hempty)
    have hul : u.lki = s.lki := by
      rw [hu]
      exact hlki.trans (by simp)
    have hus : u.ssq = s.ssq := by
      rw [hu]
      exact hssq.trans (by simp)
    have hend : u.resetEnd = u := if_neg (by simp [hul, hr])
    rw [← hu, hend]
    exact ⟨huq, hul, hus⟩

theorem runHeadQuiet_empty {s : State} (h : s.aq.queue = []) : s.runHeadQuiet = s.setAq { s.aq with runner := .EMPTY } :=
  settle_empty _ _ _ h

/-! ## The restart of the tape (R163) -/

/-- R163: the sequencer at its head, before the flush. -/
def Ssq.rewound (q : Ssq) : Ssq :=
  { q with pend := none, remembered := none, follow := .stopped, watched := none, ptr := some q.head, st := .READY
           pausedFrom := none }

theorem restartSeq_ssq {s : State} (h : s.ssq.st ≠ .UNLOADED) : s.restartSeq.ssq = s.ssq.rewound := by
  have hform : s.restartSeq = ((s.setSsq s.ssq.rewound).flush coverTagged false false).runHeadQuiet := if_neg h
  rw [hform]
  rcases (quiet_flushTagged (s.setSsq s.ssq.rewound)).ssq with hq | ⟨hrun, -⟩
  · exact hq
  · exact absurd hrun (by simp [Ssq.rewound])

theorem restartSeq_covered {s : State} (h : s.ssq.st ≠ .UNLOADED) (hr : s.lki.resetting = false)
    (hc : ∀ e ∈ s.aq.queue, e.tag.isSome = true ∧ (e.running = true → e.action.mech = false)) :
    s.restartSeq.aq.queue = [] ∧ s.restartSeq.lki = s.lki := by
  have hform : s.restartSeq = ((s.setSsq s.ssq.rewound).flush coverTagged false false).runHeadQuiet := if_neg h
  have hcover : ∀ e ∈ (s.setSsq s.ssq.rewound).aq.queue, staysThrough coverTagged false e = false := by
    intro e he
    obtain ⟨htag, hmech⟩ := hc e he
    cases hrun : e.running <;> simp_all [staysThrough, coverTagged]
  obtain ⟨hq, hl, -⟩ := flush_covered hcover (by simp [Ssq.rewound]) hr
  rw [hform, runHeadQuiet_empty hq]
  exact ⟨hq, hl⟩

/-! ## The ends of the tape -/

theorem tapeEnd_lki (s : State) : s.tapeEnd.lki = (s.event .TAPE_END none).lki := by
  have hlki : (State.event ((s.setTransport .STOPPED).setTtc { (s.setTransport .STOPPED).ttc with atEnd := true })
      .TAPE_END none).lki = (s.event .TAPE_END none).lki := notice_lki_congr _ _ _ _ _ (by simp) (by simp)
  unfold State.tapeEnd
  dsimp only
  split
  · rw [(setTransport_frame ..).2.2.2.2.2.2.2.2.2.2.1, hlki]
  · exact hlki

theorem tapeEnd_ttc (s : State) :
    (s.ttc.par.autoRewind = false → s.tapeEnd.ttc.st = .STOPPED ∧ s.tapeEnd.ttc.atEnd = true) ∧
      (s.ttc.par.autoRewind = true → s.tapeEnd.ttc.st = .REWIND ∧ s.tapeEnd.ttc.atEnd = false ∧
        s.tapeEnd.ttc.reelTimer = some (s.now + 1500000)) := by
  obtain ⟨u, hu⟩ : ∃ u, u = State.event ((s.setTransport .STOPPED).setTtc { (s.setTransport .STOPPED).ttc with atEnd := true })
    .TAPE_END none := ⟨_, rfl⟩
  have hst : u.ttc.st = .STOPPED := by
    rw [hu]
    exact (congrArg Ttc.st (event_frame ..).2.2.2.2.2.2.2.1).trans (setTransport_st _ _)
  have hpar : u.ttc.par = s.ttc.par := by
    rw [hu]
    exact (congrArg Ttc.par (event_frame ..).2.2.2.2.2.2.2.1).trans (setTransport_par _ _)
  have hform : s.tapeEnd = if u.ttc.par.autoRewind then u.setTransport .REWIND else u := by
    rw [hu]
    rfl
  rw [hform, hpar]
  refine ⟨fun h => ?_, fun h => ?_⟩
  · rw [if_neg (by simp [h])]
    exact ⟨hst, by rw [hu]; simp⟩
  · rw [if_pos h]
    obtain ⟨hrew, -, -, -, -, hreel, -, hend, -⟩ := setTransport_change u (t := .REWIND) (by simp [hst])
    exact ⟨hrew, hend, hreel.trans (by rw [hu]; simp)⟩

theorem tapeRewound_taken {s : State} {dt due : Nat} (hr : s.ttc.reelTimer = some due) (hst : s.ttc.st = .REWIND) :
    supplyReelTimerExpiry (s.advance dt) = ((s.advance dt).reach due).tapeRewound := by
  have hdue : (s.advance dt).ttc.reelTimer = some due := hr
  refine (if_pos hst).trans ?_
  rw [hdue]
  rfl

/-- R109: a tape that loops plays again, and the show restarts with it. -/
theorem tapeRewound_restarts {s : State} {dt due : Nat} (hl : s.ttc.par.loop = true) :
    ∃ v, ((s.advance dt).reach due).tapeRewound = v.restartSeq ∧ v.ssq = s.ssq ∧
      v.lki = (((s.advance dt).reach due).event .TAPE_REWOUND none).lki ∧ v.aq.queue = s.aq.queue ∧
      s.sameBut v [.ttc, .lki] ∧ v.ttc.st = .PLAY := by
  obtain ⟨v, hv⟩ : ∃ v, v = State.event ((s.advance dt).reach due) .TAPE_REWOUND none := ⟨_, rfl⟩
  refine ⟨v.setTransport .PLAY, ?_, by simp [hv], by simp [hv], by simp [hv], by simp [State.sameBut, hv], setTransport_st _ _⟩
  rw [State.tapeRewound, ← hv]
  exact if_pos (by simp [hv, hl])

/-- R100: a cassette that is found, or found absent. -/
theorem takeCassette_ttc (v : State) :
    (v.ttc.cassette = true → (v.ttc.st = .EMPTY → v.takeCassette.ttc.st = .STOPPED ∧ v.takeCassette.ttc.atEnd = false) ∧
        (v.ttc.st ≠ .EMPTY → v.takeCassette.ttc = v.ttc)) ∧
      (v.ttc.cassette = false → v.takeCassette.ttc.st = .EMPTY ∧ v.takeCassette.ttc.atEnd = false ∧
        v.takeCassette.ttc.seqHold = false ∧ v.takeCassette.ttc.locked = false ∧ v.takeCassette.ttc.inLock = 0 ∧
        (v.ttc.st ≠ .EMPTY → v.takeCassette.ttc.fgTimer = none ∧ v.takeCassette.ttc.reelTimer = none ∧
          v.takeCassette.ttc.unlockStart = none)) ∧
      v.takeCassette.ttc.servo = v.ttc.servo ∧ v.takeCassette.ttc.par = v.ttc.par ∧
      v.takeCassette.ttc.curVol = v.ttc.curVol ∧ v.takeCassette.ttc.cassetteDue = v.ttc.cassetteDue := by
  by_cases hc : v.ttc.cassette = true
  · by_cases he : v.ttc.st = .EMPTY
    · have hform : v.takeCassette = (v.setTransport .STOPPED).setTtc { (v.setTransport .STOPPED).ttc with atEnd := false } :=
        (if_pos hc).trans (if_pos he)
      have hne : Transport.STOPPED ≠ v.ttc.st := by simp [he]
      obtain ⟨hst, hservo, hpar, hvol, -⟩ := setTransport_change v hne
      obtain ⟨-, -, hdue⟩ := setTransport_halt v hne (by decide)
      rw [hform]
      exact ⟨fun _ => ⟨fun _ => ⟨hst, rfl⟩, fun h => absurd he h⟩, fun h => absurd hc (by simp [h]), hservo, hpar, hvol, hdue⟩
    · have hform : v.takeCassette = v := (if_pos hc).trans (if_neg he)
      rw [hform]
      exact ⟨fun _ => ⟨fun h => absurd h he, fun _ => rfl⟩, fun h => absurd hc (by simp [h]), rfl, rfl, rfl, rfl⟩
  · have hform : v.takeCassette = (v.setTransport .EMPTY).setTtc { (v.setTransport .EMPTY).ttc with
        atEnd := false, seqHold := false, locked := false, inLock := 0 } := if_neg hc
    rw [hform]
    refine ⟨fun h => absurd h hc, fun _ => ⟨setTransport_st v _, rfl, rfl, rfl, rfl, fun hne => ?_⟩, ?_⟩
    · obtain ⟨hfg, hunlock, -⟩ := setTransport_halt v (t := .EMPTY) (fun h => hne h.symm) (by decide)
      obtain ⟨-, -, -, -, -, hreel, -⟩ := setTransport_change v (t := .EMPTY) (fun h => hne h.symm)
      exact ⟨hfg, hreel, hunlock⟩
    · change (v.setTransport .EMPTY).ttc.servo = _ ∧ (v.setTransport .EMPTY).ttc.par = _ ∧ (v.setTransport .EMPTY).ttc.curVol = _ ∧
        (v.setTransport .EMPTY).ttc.cassetteDue = _
      by_cases he : v.ttc.st = .EMPTY
      · rw [setTransport_same v he]
        exact ⟨rfl, rfl, rfl, rfl⟩
      · obtain ⟨-, hservo, hpar, hvol, -⟩ := setTransport_change v (t := .EMPTY) (fun h => he h.symm)
        obtain ⟨-, -, hdue⟩ := setTransport_halt v (t := .EMPTY) (fun h => he h.symm) (by decide)
        exact ⟨hservo, hpar, hvol, hdue⟩

/-- Settles O31. -/
theorem cassetteAndTapeEnds : Obligations.CassetteAndTapeEnds := by
  refine ⟨fun dt present s hp => ⟨fun hc => ?starts, fun hc hd => ?nothing, fun due hc hd => ?settles⟩,
    fun dt due s hp => ⟨fun hf hst => ?stall, fun hr hst => ?takeUp, fun hr hst hl => ?rewound, fun hr hst hl hs => ?restart⟩,
    fun dt due s hp hr hst hl hs hres hcover => ?quiet⟩
  case starts => exact next_take hp (if_neg (by simp [hc]))
  case nothing =>
    refine next_take hp ((if_pos hc).trans ?_)
    have hdue : (s.advance dt).ttc.cassetteDue = none := hd
    rw [hdue]
    rfl
  case settles =>
    obtain ⟨v, hv⟩ : ∃ v, v = ((s.advance dt).reach due).setTtc { s.ttc with cassetteDue := none } := ⟨_, rfl⟩
    have hform : cassettePresentChange present (s.advance dt) = v.takeCassette := by
      have hdue : (s.advance dt).ttc.cassetteDue = some due := hd
      refine (if_pos hc).trans ?_
      rw [hdue, hv]
      rfl
    refine ⟨_, next_take hp hform, ?_⟩
    have hvt : v.ttc = { s.ttc with cassetteDue := none } := by rw [hv]; rfl
    have hsame : s.sameBut v.takeCassette [.ttc] := by
      unfold State.takeCassette
      split
      · split <;> simp [State.sameBut, hv]
      · simp [State.sameBut, hv]
    refine ⟨hsame, ?_, ?_⟩
    · unfold State.takeCassette
      split
      · split <;> simp [hv]
      · simp [hv]
    · obtain ⟨hfound, hlost, hservo, hpar, hvol, hset⟩ := takeCassette_ttc v
      have hvc : v.ttc.cassette = present := by rw [hvt]; exact hc
      have hvst : v.ttc.st = s.ttc.st := by rw [hvt]
      rw [hvc, hvst] at hfound hlost
      refine ⟨hset.trans (by rw [hvt]), hservo.trans (by rw [hvt]), hpar.trans (by rw [hvt]), hvol.trans (by rw [hvt]),
        fun hpres => (hfound hpres).1, fun hpres hne => ((hfound hpres).2 hne).trans hvt, hlost⟩
  case stall =>
    have hform : fgTimerExpiry (s.advance dt) = ((s.advance dt).reach due).transportFault := by
      have hdue : (s.advance dt).ttc.fgTimer = some due := hf
      rw [fgTimerExpiry, hdue]
      rfl
    obtain ⟨v, hv⟩ : ∃ v, v = State.event ((s.advance dt).reach due) .TRANSPORT_FAULT none := ⟨_, rfl⟩
    have hvt : v.ttc = s.ttc := by simp [hv]
    have hne : Transport.STOPPED ≠ v.ttc.st := by simp [hvt, hst]
    obtain ⟨hstop, -, -, -, -, hreel, -, hend, -⟩ := setTransport_change v hne
    have hu : ((s.advance dt).reach due).transportFault = v.setTransport .STOPPED := by rw [hv]; rfl
    rw [hu] at hform
    refine ⟨_, next_take hp hform, by simp [State.sameBut, hv], hstop, hend.trans (by simp [hvt]), hreel, by simp [hv], by simp [hv]⟩
  case takeUp =>
    have hform : takeUpReelTimerExpiry (s.advance dt) = ((s.advance dt).reach due).tapeEnd := by
      have hdue : (s.advance dt).ttc.reelTimer = some due := hr
      have hw : (s.advance dt).ttc.st.takesUp = true := by
        rcases hst with h | h <;> exact congrArg Transport.takesUp h
      rw [takeUpReelTimerExpiry, if_pos hw, hdue]
      rfl
    obtain ⟨hstop, hrewind⟩ := tapeEnd_ttc ((s.advance dt).reach due)
    exact ⟨_, next_take hp hform, by simp [State.sameBut], tapeEnd_lki _, hstop, hrewind⟩
  case rewound =>
    have hform := tapeRewound_taken (s := s) (dt := dt) hr hst
    obtain ⟨v, hv⟩ : ∃ v, v = State.event ((s.advance dt).reach due) .TAPE_REWOUND none := ⟨_, rfl⟩
    have hvt : v.ttc = s.ttc := by simp [hv]
    have hu : ((s.advance dt).reach due).tapeRewound = v.setTransport .STOPPED := by
      rw [State.tapeRewound, ← hv]
      exact if_neg (by simp [hvt, hl])
    rw [hu] at hform
    exact ⟨_, next_take hp hform, by simp [State.sameBut, hv], setTransport_st _ _, by simp [hv], by simp [hv]⟩
  case restart =>
    obtain ⟨v, hu, hvs, hvl, hvq, hsame, hplay⟩ := tapeRewound_restarts (s := s) (dt := dt) (due := due) hl
    have hform := (tapeRewound_taken (s := s) (dt := dt) hr hst).trans hu
    have hssq := restartSeq_ssq (s := v) (by rw [hvs]; exact hs)
    obtain ⟨hpow, hfree, hpend, -, -, -, -, -, hcud, -, hrpd, -, -, -⟩ := hsame
    refine ⟨_, next_take hp hform, ?_, ?_, ?_⟩
    · simp [State.sameBut, hpow, hfree, hpend, hcud, hrpd]
    · simpa using hplay
    · rw [hssq, hvs]
      exact ⟨rfl, rfl, rfl, rfl, rfl, rfl⟩
  case quiet =>
    obtain ⟨v, hu, hvs, hvl, hvq, -, -⟩ := tapeRewound_restarts (s := s) (dt := dt) (due := due) hl
    have hform := (tapeRewound_taken (s := s) (dt := dt) hr hst).trans hu
    have hload : v.ssq.st ≠ .UNLOADED := by rw [hvs]; exact hs
    obtain ⟨hq, hlki⟩ := restartSeq_covered hload (by simp [hvl, hres]) (by rw [hvq]; exact hcover)
    have hssq := restartSeq_ssq hload
    refine ⟨_, next_take hp hform, hq, ?_, ?_, hlki.trans hvl⟩
    · rw [hssq]
      rfl
    · rw [hssq, hvs]
      rfl

end Sys2Proof.Machine
end

section
/-!
The cooling layer: what a new fan command makes of the fan (R85, R86), what starts and ends a cooldown (R92, R93), and what a change
of the lamp power state makes of it; then the fan's kick and its watch (R86, R87).
-/

namespace Sys2Proof.Machine

/-! ## The fan command (R85, R86) -/

/-- R86: at a fan command of 0 the fan stands; a rise from 0 kicks it. -/
def Thc.kicks (t u : Thc) (now : Nat) : Prop :=
  (u.fan = 0 → u.duty = 0 ∧ u.kick = none) ∧ (t.fan = 0 → 0 < u.fan → u.duty = 100 ∧ u.kick = some (now + 1000000))

/-- R86: a fan that goes on follows its command, but within a kick. -/
def Thc.goesOn (t u : Thc) : Prop :=
  0 < t.fan → 0 < u.fan → (t.kick = none → u.duty = u.fan ∧ u.kick = none) ∧
    (t.kick.isSome = true → u.duty = t.duty ∧ u.kick = t.kick)

theorem setFan_moves (t : Thc) (now f : Nat) : t.kicks (t.setFan now f) now ∧ t.goesOn (t.setFan now f) := by
  unfold Thc.kicks Thc.goesOn
  rw [setFan_fan]
  unfold Thc.setFan Thc.setDuty
  by_cases hf : f = 0
  · simp [hf]
  · by_cases ht : t.fan = 0
    · simp [hf, ht, sec]
    · by_cases hk : t.kick.isSome = true
      · have hnone : t.kick ≠ none := by
          rintro h
          simp [h] at hk
        simp [hf, ht, hk, hnone]
      · have hnone : t.kick = none := by simpa using hk
        simp [hf, ht, hnone]

/-- R86: a new fan command changes the fan, its kick and the window that is watched alone. -/
theorem setFan_form (t : Thc) (now f : Nat) :
    ∃ d k q, t.setFan now f = { t with fan := f, duty := d, kick := k, tachQual := q } := by
  unfold Thc.setFan Thc.setDuty
  split
  · rename_i h
    subst h
    exact ⟨_, _, _, rfl⟩
  · split
    · exact ⟨_, _, _, rfl⟩
    · split
      · exact ⟨_, _, _, rfl⟩
      · exact ⟨_, _, _, rfl⟩

/-- R85: the cooling at its demands. -/
def Thc.commanded (t : Thc) (p : Power) : Thc :=
  { t with fLamp := fanLamp t p, fan := fanCommand { t with fLamp := fanLamp t p } }

theorem recomputeFan_form (s : State) : ∃ d k q,
    s.recomputeFan.thc = { s.thc.commanded s.lmc.power with duty := d, kick := k, tachQual := q } :=
  setFan_form { s.thc with fLamp := fanLamp s.thc s.lmc.power } s.now
    (fanCommand { s.thc with fLamp := fanLamp s.thc s.lmc.power })

theorem recomputeFan_moves (s : State) : s.thc.kicks s.recomputeFan.thc s.now ∧ s.thc.goesOn s.recomputeFan.thc :=
  setFan_moves { s.thc with fLamp := fanLamp s.thc s.lmc.power } s.now _

/-- A second command at the same time: a kick of the first still runs. -/
theorem Thc.kicks.then {t u v : Thc} {now : Nat} (h : t.kicks u now) (hk : u.kicks v now) (hg : u.goesOn v) : t.kicks v now := by
  refine ⟨hk.1, fun ht hv => ?_⟩
  rcases Nat.eq_zero_or_pos u.fan with hu | hu
  · exact hk.2 hu hv
  · obtain ⟨hduty, hkick⟩ := h.2 ht hu
    obtain ⟨-, hsame⟩ := hg hu hv
    obtain ⟨hd, hk'⟩ := hsame (by simp [hkick])
    exact ⟨hd.trans hduty, hk'.trans hkick⟩

/-- A second command that is not above the first. -/
theorem Thc.goesOn.then {t u v : Thc} (h : t.goesOn u) (hg : u.goesOn v) (hle : v.fan ≤ u.fan) : t.goesOn v := by
  intro ht hv
  have hu : 0 < u.fan := Nat.lt_of_lt_of_le hv hle
  obtain ⟨hsteady, hkicked⟩ := h ht hu
  obtain ⟨hsteady', hkicked'⟩ := hg hu hv
  refine ⟨fun hk => hsteady' (hsteady hk).2, fun hk => ?_⟩
  obtain ⟨hd, hk1⟩ := hkicked hk
  obtain ⟨hd', hk2⟩ := hkicked' (by rw [hk1]; exact hk)
  exact ⟨hd'.trans hd, hk2.trans hk1⟩

/-! ## A cooldown begins or ends (R92, R93) -/

theorem cooldownOn_thc (s : State) (trip : Bool) : (s.cooldownOn trip).thc = { s.thc with
    cooldown := some { start := s.now, trip := (s.thc.cooldown.map Cooldown.trip).getD false || trip } } := by
  unfold State.cooldownOn
  cases h : s.thc.cooldown <;> simp

theorem cooldownOff_thc (s : State) : s.cooldownOff.thc = { s.thc with cooldown := none } := by
  unfold State.cooldownOff
  split
  · simp
  · rename_i h
    have hnone : s.thc.cooldown = none := by simpa using h
    rw [← hnone]

/-! ## The lamp power state (R52, R60) -/

theorem setPower_same (s : State) {p : Power} (trip : Bool) (h : s.lmc.power = p) : s.setPower p trip = s := if_pos h

/-- R51, R52: a change of the power state, and what is reported of it. -/
theorem setPower_change (s : State) {p : Power} (trip : Bool) (h : s.lmc.power ≠ p) : ∃ u : State, u.thc = s.thc ∧ u.now = s.now ∧
    u.lmc = { s.lmc with power := p, outDrive := if p = .OFF ∨ p = .SWAPPING then 0 else s.lmc.outDrive } ∧
    s.setPower p trip = u.coolReport p trip := by
  refine ⟨(s.setLmc { s.lmc with
    power := p, outDrive := if p = .OFF ∨ p = .SWAPPING then 0 else s.lmc.outDrive }).storeReport s.lmc.power p,
    by simp, by simp, by simp, ?_⟩
  unfold State.setPower
  rw [if_neg h]
  cases p <;> rfl

theorem setPower_lmc (s : State) {p : Power} (trip : Bool) (h : s.lmc.power ≠ p) : (s.setPower p trip).lmc =
    { s.lmc with power := p, outDrive := if p = .OFF ∨ p = .SWAPPING then 0 else s.lmc.outDrive } := by
  obtain ⟨u, -, -, hlmc, heq⟩ := setPower_change s trip h
  rw [heq, (coolReport_frame ..).2.2.2.2.2.1, hlmc]

theorem lampOff_lmc (s : State) (trip : Bool) (h : s.lmc.power ≠ .OFF) :
    (s.lampOff trip).lmc = { s.lmc with ignJ := 0, failCount := 0, power := .OFF, outDrive := 0 } := by
  unfold State.lampOff
  rw [if_neg h, setPower_lmc _ trip (by simpa using h)]
  rfl

/-- R92: a lamp that goes off starts the cooldown. -/
theorem lampOff_cools (s : State) (trip : Bool) (h : s.lmc.power ≠ .OFF) : ∃ u : State, u.thc = { s.thc with
      cooldown := some { start := s.now, trip := (s.thc.cooldown.map Cooldown.trip).getD false || trip } } ∧
    u.now = s.now ∧ u.lmc.power = .OFF ∧ (s.lampOff trip).thc = u.recomputeFan.thc := by
  obtain ⟨w, hthc, hnow, hlmc, heq⟩ := setPower_change (s.setLmc { s.lmc with ignJ := 0, failCount := 0 }) trip
    (p := .OFF) (by simpa using h)
  refine ⟨w.cooldownOn trip, ?_, by simp [hnow], by simp [hlmc], ?_⟩
  · rw [cooldownOn_thc, hthc, hnow]
    rfl
  · unfold State.lampOff
    rw [if_neg h, heq]
    rfl

/-! ## The fan's kick and its watch (R86, R87) -/

theorem fanFaultOn_thc (s : State) : s.fanFaultOn.thc.stall = 0 ∧ s.fanFaultOn.thc.fanFault = true ∧ s.fanFaultOn.thc.fan = 100 ∧
    s.fanFaultOn.lmc.power = .OFF := by
  obtain ⟨v, hv⟩ : ∃ v, v = (s.setThc { s.thc with fanFault := true, stall := 0 }).condNotice .FAN_FAULT true none := ⟨_, rfl⟩
  have hvt : v.thc = { s.thc with fanFault := true, stall := 0 } := by simp [hv]
  have hform : s.fanFaultOn = (v.lampOff false).recomputeFan := by rw [hv]; rfl
  have hstall : (v.lampOff false).thc.stall = 0 := by
    by_cases hoff : v.lmc.power = .OFF
    · rw [lampOff_off v false hoff, hvt]
    · obtain ⟨w, hw, -, -, heq⟩ := lampOff_cools v false hoff
      obtain ⟨d, k, q, hrec⟩ := recomputeFan_form w
      rw [heq, hrec]
      exact (congrArg Thc.stall hw).trans (by rw [hvt])
  have hfault : (v.lampOff false).thc.fanFault = true := by simp [hvt]
  obtain ⟨d, k, q, hrec⟩ := recomputeFan_form (v.lampOff false)
  rw [hform, (recomputeFan_frame _).2.2.2.2.2.1, hrec]
  refine ⟨hstall, hfault, ?_, lampOff_lmc_power v false⟩
  exact if_pos (by rw [hfault, Bool.or_true])

theorem fanFaultOff_thc (s : State) : s.fanFaultOff.thc.stall = 0 ∧ s.fanFaultOff.thc.fanFault = false := by
  obtain ⟨d, k, q, hrec⟩ := recomputeFan_form
    ((s.setThc { s.thc with fanFault := false, stall := 0 }).condNotice .FAN_FAULT false none)
  rw [State.fanFaultOff, hrec]
  exact ⟨by simp [Thc.commanded], by simp [Thc.commanded]⟩

theorem judgeTach_cases (s : State) :
    (s.thc.tachQual = true → s.thc.tachCount < s.thc.par.stallThr → s.thc.fanFault = false → s.thc.stall = 0 →
      s.judgeTach = s.setThc { s.thc with stall := 1 }) ∧
    (s.thc.tachQual = true → s.thc.tachCount < s.thc.par.stallThr → s.thc.fanFault = false → 1 ≤ s.thc.stall →
      s.judgeTach = s.fanFaultOn) ∧
    (s.thc.tachQual = true → s.thc.tachCount < s.thc.par.stallThr → s.thc.fanFault = true → s.judgeTach = s) ∧
    (s.thc.tachQual = true → s.thc.par.stallThr ≤ s.thc.tachCount →
      s.judgeTach = if s.thc.fanFault then s.fanFaultOff else s.setThc { s.thc with stall := 0 }) ∧
    (s.thc.tachQual = false → s.judgeTach = if s.thc.fanFault then s else s.setThc { s.thc with stall := 0 }) := by
  unfold State.judgeTach
  refine ⟨fun hq hc hf h0 => ?_, fun hq hc hf h1 => ?_, fun hq hc hf => ?_, fun hq hc => ?_, fun hq => ?_⟩
  · simp [hq, hc, hf, h0]
  · simp [hq, hc, hf, show 2 ≤ s.thc.stall + 1 by omega]
  · simp [hq, hc, hf]
  · simp [hq, Nat.not_lt_of_ge hc]
  · simp [hq]

/-- Settles O29. -/
theorem fanIsKickedAndWatched : Obligations.FanIsKickedAndWatched := by
  refine fun dt s hp => ⟨fun due hk => ?kick, next_take hp rfl, ?window⟩
  case kick =>
    have hform : fanKickExpiry (s.advance dt) = ((s.advance dt).reach due).kickEnds := by
      have hdue : (s.advance dt).thc.kick = some due := hk
      rw [fanKickExpiry, hdue]
      rfl
    exact ⟨_, next_take hp hform, by simp [State.sameBut], rfl, rfl, rfl, rfl⟩
  case window =>
    obtain ⟨v, hv⟩ : ∃ v, v = (s.advance dt).reach s.thc.tachDue := ⟨_, rfl⟩
    have hvt : v.thc = s.thc := by rw [hv]; rfl
    have hform : tachWindowEnd (s.advance dt) = v.tachWindow := by rw [hv]; rfl
    obtain ⟨hfirst, hsecond, hfault, hgood, hidle⟩ := judgeTach_cases v
    rw [hvt] at hfirst hsecond hfault hgood hidle
    have hjudged : v.tachWindow.thc.stall = v.judgeTach.thc.stall ∧ v.tachWindow.thc.fanFault = v.judgeTach.thc.fanFault ∧
        v.tachWindow.thc.fan = v.judgeTach.thc.fan ∧ v.tachWindow.lmc = v.judgeTach.lmc := ⟨rfl, rfl, rfl, rfl⟩
    obtain ⟨hstall, hff, hfan, hlmc⟩ := hjudged
    refine ⟨_, next_take hp hform, ?_, rfl, ?_, ?_, rfl, ?_, ?_, ?_, ?_, ?_⟩
    · simp [State.sameBut, State.tachWindow, hv]
    · exact congrArg Thc.tachCount hvt
    · exact congrArg (fun t : Thc => t.tachDue + 1000000) hvt
    · intro hq hc hf h0
      rw [hstall, hff, hlmc, hfirst hq hc hf h0]
      exact ⟨rfl, hf, by rw [hv]; rfl⟩
    · intro hq hc hf h1
      rw [hstall, hff, hfan, hlmc, hsecond hq hc hf h1]
      exact fanFaultOn_thc v
    · intro hq hc hf
      rw [hstall, hff, hfault hq hc hf, hvt]
      exact ⟨hf, rfl⟩
    · intro hq hc
      rw [hstall, hff, hgood hq hc]
      by_cases hf : s.thc.fanFault = true
      · rw [if_pos hf]
        obtain ⟨h0, hoff⟩ := fanFaultOff_thc v
        exact ⟨hoff, h0⟩
      · rw [if_neg hf]
        exact ⟨by simpa using hf, rfl⟩
    · intro hq
      rw [hstall, hff, hidle hq]
      by_cases hf : s.thc.fanFault = true
      · rw [if_pos hf, hvt]
        exact ⟨rfl, fun h => absurd hf (by simp [h])⟩
      · rw [if_neg hf]
        exact ⟨rfl, fun _ => rfl⟩

end Sys2Proof.Machine
end

section
/-!
The sensor's silence and the end of a cooldown (R83, R93), and the samples of the temperature (R82, R88 to R92).
-/

namespace Sys2Proof.Machine

/-! ## The sensor's silence (R83) -/

/-- R83, R89, R90: the cooling when the sensor is found lost. -/
def Thc.silent (t : Thc) (now : Nat) : Thc :=
  { t with lossTimer := none, lost := true, lossStart := some now, loss30 := false
           cTarget := min t.cTarget t.par.cMin, cEff := min t.cEff (min t.cTarget t.par.cMin) }

theorem sensorLost_thc (s : State) : s.sensorLost.thc.fan = 100 ∧ s.thc.kicks s.sensorLost.thc s.now ∧
    s.thc.goesOn s.sensorLost.thc ∧ ∃ l d k q, s.sensorLost.thc =
      { s.thc.silent s.now with fLamp := l, fan := 100, duty := d, kick := k, tachQual := q } := by
  obtain ⟨v, hv⟩ : ∃ v, v = (s.setThc (s.thc.silent s.now)).condNotice .SENSOR_LOST true none := ⟨_, rfl⟩
  have hvt : v.thc = s.thc.silent s.now := by simp [hv]
  have hvn : v.now = s.now := by simp [hv]
  have hform : s.sensorLost = v.recomputeFan := by rw [hv]; rfl
  obtain ⟨d, k, q, hrec⟩ := recomputeFan_form v
  obtain ⟨hkicks, hgoes⟩ := recomputeFan_moves v
  have hfan : (v.thc.commanded v.lmc.power).fan = 100 := by
    rw [hvt]
    rfl
  rw [hvn] at hkicks
  rw [hvt] at hkicks hgoes
  rw [hform]
  refine ⟨(congrArg Thc.fan hrec).trans hfan, hkicks, hgoes, fanLamp v.thc v.lmc.power, d, k, q, ?_⟩
  rw [hrec, ← hfan, hvt]
  rfl

theorem sensorLossTimerExpiry_due {s : State} {dt due : Nat} (h : s.thc.lossTimer = some due) :
    sensorLossTimerExpiry (s.advance dt) = ((s.advance dt).reach due).sensorLost := by
  have hdue : (s.advance dt).thc.lossTimer = some due := h
  rw [sensorLossTimerExpiry, hdue]
  rfl

theorem lossTime30s_due {s : State} {dt start : Nat} (hl : s.thc.lost = true) (h30 : s.thc.loss30 = false)
    (hs : s.thc.lossStart = some start) :
    lossTime30s (s.advance dt) = ((s.advance dt).reach (start + 30000000)).longLost := by
  have hcond : ((s.advance dt).thc.lost && !(s.advance dt).thc.loss30) = true := by
    change (s.thc.lost && !s.thc.loss30) = true
    rw [hl, h30]
    rfl
  have hdue : ((s.advance dt).thc.lossStart.map (· + longLoss)) = some (start + 30000000) := by
    change s.thc.lossStart.map (· + longLoss) = _
    rw [hs]
    rfl
  rw [lossTime30s, if_pos hcond, hdue]
  rfl

/-- R83: a loss of 30 s forces a lamp that burns off. -/
theorem longLost_burning {s : State} (h : s.lmc.power = .IGNITING ∨ s.lmc.power = .LIT) :
    s.longLost = (s.setThc { s.thc with loss30 := true }).lampOff false := by
  unfold State.longLost
  rcases h with h | h <;> simp [h]

theorem longLost_dark {s : State} (h : s.lmc.power = .OFF ∨ s.lmc.power = .SWAPPING) :
    s.longLost = s.setThc { s.thc with loss30 := true } := by
  unfold State.longLost
  rcases h with h | h <;> simp [h]

theorem longLost_loss30 (s : State) : s.longLost.thc.loss30 = true := by
  unfold State.longLost
  dsimp only
  split <;> simp

theorem longLost_forces {s : State} (h : s.lmc.power = .IGNITING ∨ s.lmc.power = .LIT) : s.longLost.lmc.power = .OFF ∧
    s.longLost.lmc.outDrive = 0 ∧ s.longLost.thc.cooldown.isSome = true ∧ s.longLost.thc.fLamp = 0 ∧
    (s.thc.lost = true → s.longLost.thc.fan = 100) := by
  obtain ⟨v, hv⟩ : ∃ v, v = s.setThc { s.thc with loss30 := true } := ⟨_, rfl⟩
  have hburn : v.lmc.power ≠ .OFF := by
    rw [hv]
    rcases h with h | h <;> simp [h]
  obtain ⟨u, hu, -, hoff, heq⟩ := lampOff_cools v false hburn
  obtain ⟨hlamp, hfan⟩ := recomputeFan_follows u
  rw [longLost_burning h, ← hv, lampOff_lmc v false hburn, heq, recomputeFan_cooldown, hu, hlamp, hoff, hfan]
  refine ⟨rfl, rfl, rfl, rfl, fun hl => if_pos ?_⟩
  rw [(recomputeFan_frame u).2.2.2.2.2.2.2.2.2.2.2.2.2.2.2.2.2.1, hu, hv]
  exact Bool.or_eq_true_iff.mpr (.inl hl)

/-! ## The end of a cooldown (R93) -/

theorem tCoolExpiry_due {s : State} {dt : Nat} {c : Cooldown} (h : s.thc.cooldown = some c) :
    tCoolExpiry (s.advance dt) = ((s.advance dt).reach (c.start + 1000000 * s.thc.par.tCool)).cooldownTest := by
  have hdue : ((s.advance dt).thc.cooldown.map (fun c => c.start + sec (s.advance dt).thc.par.tCool)) =
      some (c.start + 1000000 * s.thc.par.tCool) := by
    change s.thc.cooldown.map _ = _
    rw [h]
    simp [sec, Nat.mul_comm]
  rw [tCoolExpiry, hdue]
  rfl

/-- R93: a cooldown that ends. -/
theorem cooldownTest_ends {s : State} (h : s.cooldownMet = true) : s.cooldownTest = s.cooldownOff.recomputeFan := if_pos h

/-! ## The fan at an ignition (R93) -/

/-- R57: a lamp that is off, with nothing that refuses it. -/
theorem ignite_usable {s : State} (hoff : s.lmc.power = .OFF) (hr : s.ignitionRefused = false) (hm : s.lmc.motion = none)
    (hus : (s.lmc.lamp s.lmc.active).usable = true) (hl : s.thc.lost = false) :
    s.ignite = s.ignitionSet.setPower .IGNITING false := by
  unfold State.ignite
  rw [if_neg (by simp [hoff, hr]), if_neg (by simp [hm]), if_pos hus, enterIgniting_eq, if_neg (by simp [hl])]

theorem Thc.with_cooldown {t : Thc} {x : Option Cooldown} (h : t.cooldown = x) : { t with cooldown := x } = t := by
  rw [← h]

theorem coolReport_igniting_thc (s : State) : ∃ w : State, (s.coolReport .IGNITING false) = w.recomputeFan ∧ w.now = s.now ∧
    w.lmc = s.lmc ∧
    w.thc = { s.thc with cooldown := if (s.thc.cooldown.map Cooldown.trip).getD false then s.thc.cooldown else none } := by
  unfold State.coolReport
  rcases hc : s.thc.cooldown with _ | c
  · exact ⟨s, rfl, rfl, rfl, (Thc.with_cooldown hc).symm⟩
  · cases ht : c.trip
    · refine ⟨s.cooldownOff, by simp [ht], by simp, by simp, ?_⟩
      rw [cooldownOff_thc]
      simp [ht]
    · exact ⟨s, by simp [ht], rfl, rfl, by simpa [ht] using (Thc.with_cooldown hc).symm⟩

/-- R85, R93: the fan when an ignition begins. -/
theorem ignite_cools {s : State} {f : Nat} (hoff : s.lmc.power = .OFF) (hr : s.ignitionRefused = false) (hm : s.lmc.motion = none)
    (hus : (s.lmc.lamp s.lmc.active).usable = true) (hl : s.thc.lost = false) (hfault : s.thc.fanFault = false)
    (hf : f = max (s.thc.par.fMinLit + (s.thc.par.fMax - s.thc.par.fMinLit) * (s.thc.hq / 64) / 1023) (max s.thc.fTemp
      (if (s.thc.cooldown.map Cooldown.trip).getD false then s.thc.par.cdDuty else 0))) :
    s.ignite.thc.cooldown = (if (s.thc.cooldown.map Cooldown.trip).getD false then s.thc.cooldown else none) ∧
      s.ignite.thc.fan = f ∧ s.thc.kicks s.ignite.thc s.now ∧ s.thc.goesOn s.ignite.thc := by
  obtain ⟨u, hu, hun, hul, heq⟩ := setPower_change s.ignitionSet (p := .IGNITING) false (by simp [State.ignitionSet, hoff])
  obtain ⟨w, hw, hwn, hwl, hwt⟩ := coolReport_igniting_thc u
  have hut : u.thc = s.thc := hu.trans (by simp [State.ignitionSet])
  have hnow : w.now = s.now := hwn.trans (hun.trans (by simp [State.ignitionSet]))
  have hlit : w.lmc.power = .IGNITING := by rw [hwl, hul]
  rw [hut] at hwt
  obtain ⟨d, k, q, hrec⟩ := recomputeFan_form w
  obtain ⟨hkicks, hgoes⟩ := recomputeFan_moves w
  rw [hnow] at hkicks
  rw [hwt] at hkicks hgoes
  rw [ignite_usable hoff hr hm hus hl, heq, hw]
  refine ⟨?_, ?_, hkicks, hgoes⟩
  · rw [recomputeFan_cooldown, hwt]
  · rw [hrec, hwt, hlit, hf]
    change fanCommand _ = _
    cases hc : s.thc.cooldown <;> simp [fanCommand, fanCooldown, hl, hfault, fanLamp]

/-- Settles O28. -/
theorem sensorLossAndCooldownEnd : Obligations.SensorLossAndCooldownEnd := by
  refine ⟨fun dt s hp => ⟨fun due hd => ?lost, fun start hl h30 hs => ?long⟩,
    fun dt s c hp hc => ⟨fun v hv hsafe hl => ?ends, fun v hv hgo => ?goesOn⟩,
    fun dt s hp => ⟨fun due hd => ?lostFan, fun start hl h30 hs hb => ?longFan, fun c v hc hv hsafe hl => ?endsFan,
      fun h f ha hoff htrip hfault hact hlamp hl hm hus hf => ?ignites⟩⟩
  case lost =>
    obtain ⟨-, -, -, l, d, k, q, hthc⟩ := sensorLost_thc ((s.advance dt).reach due)
    refine ⟨_, next_take hp (sensorLossTimerExpiry_due hd), by simp [State.sameBut], ?_⟩
    rw [hthc]
    exact ⟨rfl, rfl, rfl, rfl, rfl, rfl, rfl, rfl, by simp⟩
  case long =>
    have hform := lossTime30s_due (dt := dt) hl h30 hs
    obtain ⟨v, hv⟩ : ∃ v, v = (s.advance dt).reach (start + 30000000) := ⟨_, rfl⟩
    have hvl : v.lmc = s.lmc := by rw [hv]; rfl
    rw [← hv] at hform
    refine ⟨_, next_take hp hform, ?_, by rw [(longLost_frame _).2.1, hv]; rfl, longLost_loss30 v, fun hb => ?_, fun hoff => ?_⟩
    · simp [State.sameBut, hv]
    · rw [← hvl] at hb
      obtain ⟨hpow, hdrive, hcool, -, -⟩ := longLost_forces hb
      exact ⟨hpow, hdrive, hcool⟩
    · rw [← hvl] at hoff
      rw [longLost_dark hoff]
      exact hvl
  case ends =>
    obtain ⟨w, hw⟩ : ∃ w, w = (s.advance dt).reach (c.start + 1000000 * s.thc.par.tCool) := ⟨_, rfl⟩
    have hwt : w.thc = s.thc := by rw [hw]; rfl
    have hmet : w.cooldownMet = true := by
      rw [cooldownMet_iff (hwt ▸ hc), hwt, hv]
      exact ⟨hl, by rw [hw]; exact Nat.le_max_right .., by simpa using hsafe⟩
    have hform := (tCoolExpiry_due (dt := dt) hc).trans (by rw [← hw])
    obtain ⟨hlamp, hfan⟩ := recomputeFan_follows w.cooldownOff
    refine ⟨_, next_take hp hform, by simp [State.sameBut, hw], ?_, by simp [hw], ?_, ?_⟩
    · rw [cooldownTest_cooldown, if_pos hmet]
    · rw [cooldownTest_ends hmet, hlamp, cooldownOff_thc, (cooldownOff_frame w).2.2.2.2.2.1, hwt, hw]
      rfl
    · rw [cooldownTest_ends hmet]
      exact hfan
  case goesOn =>
    refine next_take hp ((tCoolExpiry_due hc).trans (if_neg ?_))
    have hmet : State.cooldownMet ((s.advance dt).reach (c.start + 1000000 * s.thc.par.tCool)) = true ↔ _ := cooldownMet_iff hc
    rw [hmet]
    rintro ⟨hl, -, hany⟩
    have hv' : s.thc.tm.any (fun x => decide (x ≤ s.thc.par.tSafe)) = true := hany
    have hlost : s.thc.lost = false := hl
    rw [hv] at hv'
    rcases hgo with h | h
    · exact absurd hv' (by simpa using h)
    · exact absurd hlost (by simp [h])
  case lostFan =>
    obtain ⟨hfan, ⟨-, hrise⟩, hgoes, -⟩ := sensorLost_thc ((s.advance dt).reach due)
    refine ⟨_, next_take hp (sensorLossTimerExpiry_due hd), hfan, fun h => hrise h (by rw [hfan]; omega), fun h hk => ?_, fun h hk => ?_⟩
    · obtain ⟨hsteady, -⟩ := hgoes (Nat.pos_of_ne_zero h) (by rw [hfan]; omega)
      rw [hfan] at hsteady
      exact hsteady hk
    · exact (hgoes (Nat.pos_of_ne_zero h) (by rw [hfan]; omega)).2 hk
  case longFan =>
    obtain ⟨-, -, -, hlamp, hfan⟩ := longLost_forces (s := (s.advance dt).reach (start + 30000000)) hb
    exact ⟨_, next_take hp (lossTime30s_due hl h30 hs), hlamp, hfan hl⟩
  case endsFan =>
    obtain ⟨w, hw⟩ : ∃ w, w = (s.advance dt).reach (c.start + 1000000 * s.thc.par.tCool) := ⟨_, rfl⟩
    have hwt : w.thc = s.thc := by rw [hw]; rfl
    have hwl : w.lmc = s.lmc := by rw [hw]; rfl
    have hmet : w.cooldownMet = true := by
      rw [cooldownMet_iff (hwt ▸ hc), hwt, hv]
      exact ⟨hl, by rw [hw]; exact Nat.le_max_right .., by simpa using hsafe⟩
    have hform := (tCoolExpiry_due (dt := dt) hc).trans (by rw [← hw, cooldownTest_ends hmet])
    obtain ⟨d, k, q, hrec⟩ := recomputeFan_form w.cooldownOff
    obtain ⟨hkicks, hgoes⟩ := recomputeFan_moves w.cooldownOff
    rw [cooldownOff_thc, hwt] at hkicks hgoes
    rw [cooldownOff_thc, (cooldownOff_frame w).2.2.2.2.2.1, hwt, hwl] at hrec
    refine ⟨_, next_take hp hform, ?_, ?_, hkicks.1, fun hu hs hk => ?_⟩
    · rw [hrec]
      change fanLamp _ _ = _
      unfold fanLamp
      cases s.lmc.power <;> rfl
    · rw [hrec]
      change fanCommand _ = _
      simp [fanCommand, fanCooldown, hl, Thc.commanded]
    · exact (hgoes (Nat.pos_of_ne_zero hs) (Nat.pos_of_ne_zero hu)).1 hk
  case ignites =>
    have hr : (s.asked dt).ignitionRefused = false := by
      change (s.thc.trip || s.thc.fanFault || s.thc.power == .STANDBY || s.lmc.noLamp) = false
      rw [htrip, hfault, hact, hlamp]
      rfl
    obtain ⟨hcool, hfan, ⟨-, hrise⟩, hgoes⟩ := ignite_cools (s := s.asked dt) hoff hr hm hus hl hfault hf
    have hans : reqControl .LAMP 1 (s.asked dt) = done (s.asked dt).ignite := if_pos (by simp [State.igniteAccepted, hr])
    refine ⟨_, next_control (x := .LAMP) ha hans, hcool, hfan, fun h0 hpos => ?_, fun h0 hpos hk => ?_⟩
    · exact hrise h0 (by rw [hfan]; exact hpos)
    · obtain ⟨hduty, hkick⟩ := (hgoes (Nat.pos_of_ne_zero h0) (by rw [hfan]; exact hpos)).1 hk
      exact ⟨hduty.trans hfan, hkick⟩

end Sys2Proof.Machine
end

section
/-!
The samples of the temperature (R82, R88 to R93).
-/

namespace Sys2Proof.Machine

/-! ## What the fan and the cooldown leave -/

/-- `u` is `t` but for the cooldown and the fan. -/
def Thc.cools (t u : Thc) : Prop :=
  ∃ c l f d k q, u = { t with cooldown := c, fLamp := l, fan := f, duty := d, kick := k, tachQual := q }

theorem Thc.cools.refl (t : Thc) : t.cools t := ⟨_, _, _, _, _, _, rfl⟩

theorem Thc.cools.trans {t u v : Thc} (h : t.cools u) (k : u.cools v) : t.cools v := by
  obtain ⟨_, _, _, _, _, _, rfl⟩ := h
  obtain ⟨_, _, _, _, _, _, rfl⟩ := k
  exact ⟨_, _, _, _, _, _, rfl⟩

theorem recomputeFan_cools (s : State) : s.thc.cools s.recomputeFan.thc := by
  obtain ⟨d, k, q, hrec⟩ := recomputeFan_form s
  exact ⟨_, _, _, _, _, _, hrec⟩

theorem cooldownOn_cools (s : State) (trip : Bool) : s.thc.cools (s.cooldownOn trip).thc :=
  ⟨_, _, _, _, _, _, cooldownOn_thc s trip⟩

theorem cooldownOff_cools (s : State) : s.thc.cools s.cooldownOff.thc := ⟨_, _, _, _, _, _, cooldownOff_thc s⟩

theorem cooldownTest_cools (s : State) : s.thc.cools s.cooldownTest.thc := by
  unfold State.cooldownTest
  split
  · exact (cooldownOff_cools s).trans (recomputeFan_cools _)
  · exact .refl _

theorem sampleFirst_cools (s : State) (first : Bool) (v : Nat) : s.thc.cools (s.sampleFirst first v).thc := by
  unfold State.sampleFirst
  split
  · exact (cooldownOn_cools s false).trans (recomputeFan_cools _)
  · exact .refl _

/-! ## The fan follows its demands (R85) -/

/-- R85: the fan command is that of the demands. -/
def State.fanFollows (s : State) : Prop := s.thc.fLamp = fanLamp s.thc s.lmc.power ∧ s.thc.fan = fanCommand s.thc

theorem fanLamp_congr {t u : Thc} (p : Power) (hq : u.hq = t.hq) (hp : u.par = t.par) : fanLamp u p = fanLamp t p := by
  unfold fanLamp
  rw [hq, hp]

theorem fanFollows_recomputeFan (s : State) : s.recomputeFan.fanFollows := by
  obtain ⟨hlamp, hfan⟩ := recomputeFan_follows s
  refine ⟨hlamp.trans ?_, hfan⟩
  rw [(recomputeFan_frame s).2.2.2.2.2.1]
  exact (fanLamp_congr _ (by simp) (by simp)).symm

theorem State.fanFollows.cooldownTest {s : State} (h : s.fanFollows) : s.cooldownTest.fanFollows := by
  unfold State.cooldownTest
  split
  · exact fanFollows_recomputeFan _
  · exact h

theorem State.fanFollows.sampleFirst {s : State} (h : s.fanFollows) (first : Bool) (v : Nat) : (s.sampleFirst first v).fanFollows := by
  unfold State.sampleFirst
  split
  · exact fanFollows_recomputeFan _
  · exact h

theorem State.fanFollows.sampleCeiling {s : State} (h : s.fanFollows) (v : Nat) : (s.sampleCeiling v).fanFollows := h

/-- R85: a command that follows its demands already stays. -/
theorem State.fanFollows.recomputeFan_fan {s : State} (h : s.fanFollows) : s.recomputeFan.thc.fan = s.thc.fan := by
  obtain ⟨hlamp, hfan⟩ := h
  obtain ⟨d, k, q, hrec⟩ := recomputeFan_form s
  rw [hrec, hfan]
  change fanCommand { s.thc with fLamp := fanLamp s.thc s.lmc.power } = _
  rw [← hlamp]

/-- R93: the end of a cooldown takes its demand away. -/
theorem State.fanFollows.cooldownTest_fan_le {s : State} (h : s.fanFollows) : s.cooldownTest.thc.fan ≤ s.thc.fan := by
  unfold State.cooldownTest
  split
  · obtain ⟨hlamp, hfan⟩ := h
    obtain ⟨d, k, q, hrec⟩ := recomputeFan_form s.cooldownOff
    rw [hrec, hfan, cooldownOff_thc, (cooldownOff_frame s).2.2.2.2.2.1]
    change fanCommand { s.thc with cooldown := none, fLamp := fanLamp s.thc s.lmc.power } ≤ _
    rw [← hlamp]
    unfold fanCommand fanCooldown
    dsimp only
    split
    · exact Nat.le_refl _
    · exact max_le_max (Nat.le_refl _) (max_le_max (Nat.le_refl _) (Nat.zero_le _))
  · exact Nat.le_refl _

/-! ## The steps of a sample -/

theorem Thc.with_trip {t : Thc} {x : Bool} (h : t.trip = x) : { t with trip := x } = t := by
  rw [← h]

/-- Steps 1 and 2 (R82, R83, R88). -/
def Thc.measured (t : Thc) (now v : Nat) : Thc :=
  { t with
    tm := some v, lastSample := some now, lossTimer := some (now + 1000000), fTemp := fanTemp t.par (some v)
    lost := false, lossStart := if t.lost then none else t.lossStart, loss30 := if t.lost then false else t.loss30
    tstate := thermalOf t.par v, warm := decide (t.par.tWarn < v) }

theorem sampleTemp_thc (s : State) (v : Nat) : (s.sampleTemp v).thc = { s.thc with
    tm := some v, lastSample := some s.now, lossTimer := some (s.now + 1000000), fTemp := fanTemp s.thc.par (some v)
    lost := false, lossStart := if s.thc.lost then none else s.thc.lossStart
    loss30 := if s.thc.lost then false else s.thc.loss30 } := by
  unfold State.sampleTemp
  by_cases hl : s.thc.lost = true
  · simp [hl, lossTime, sec]
  · have hf : s.thc.lost = false := by simpa using hl
    simp [hf, lossTime, sec]

theorem sampleState_thc (s : State) (v : Nat) : (s.sampleState v).thc = { s.thc with
    tstate := thermalOf s.thc.par v, warm := decide (s.thc.par.tWarn < v) } := by
  unfold State.sampleState
  dsimp only
  split <;> simp

theorem measured_thc (s : State) (v : Nat) : ((s.sampleTemp v).sampleState v).thc = s.thc.measured s.now v := by
  rw [sampleState_thc, sampleTemp_thc]
  rfl

theorem sampleCeiling_thc (s : State) (v : Nat) : (s.sampleCeiling v).thc = { s.thc with
    cTarget := ceilTarget s.thc.par s.thc.tstate v
    cEff := ceilStep s.thc.cEff (ceilTarget s.thc.par s.thc.tstate v) } := rfl

/-- R91: without a trip only the latch changes. -/
theorem sampleTrip_calm {s : State} {v : Nat} (h : s.thc.trip = true ∨ v < s.thc.par.tTrip) :
    (s.sampleTrip v).thc = { s.thc with trip := s.thc.trip && decide (s.thc.par.tResume < v) } ∧
      (s.sampleTrip v).lmc = s.lmc := by
  unfold State.sampleTrip
  by_cases ht : s.thc.trip = true
  · rw [if_pos ht]
    by_cases hr : v ≤ s.thc.par.tResume
    · rw [if_pos hr, ht, decide_eq_false (by omega)]
      simp
    · rw [if_neg hr, ht, decide_eq_true (by omega)]
      exact ⟨(Thc.with_trip ht).symm, rfl⟩
  · have hf : s.thc.trip = false := by simpa using ht
    have hv : ¬s.thc.par.tTrip ≤ v := by
      rcases h with h | h
      · exact absurd h ht
      · omega
    rw [if_neg ht, if_neg hv, hf]
    exact ⟨(Thc.with_trip hf).symm, rfl⟩

/-- R91, R92: at a trip the lamp is off and a cooldown of the trip begins. -/
theorem sampleTrip_trips {s : State} {v : Nat} (h : s.thc.trip = false) (hv : s.thc.par.tTrip ≤ v) :
    ({ s.thc with trip := true } : Thc).cools (s.sampleTrip v).thc ∧ (s.sampleTrip v).lmc.power = .OFF ∧
      (s.sampleTrip v).thc.cooldown = some { start := s.now, trip := true } ∧
      ((s.sampleTrip v).thc.fan = s.thc.fan ∧ (s.sampleTrip v).thc.duty = s.thc.duty ∧ (s.sampleTrip v).thc.kick = s.thc.kick ∨
        (s.sampleTrip v).fanFollows ∧ s.thc.kicks (s.sampleTrip v).thc s.now ∧ s.thc.goesOn (s.sampleTrip v).thc) := by
  obtain ⟨w, hw⟩ : ∃ w, w = (s.setThc { s.thc with trip := true }).condNotice .THERMAL_TRIP true none := ⟨_, rfl⟩
  have hwt : w.thc = { s.thc with trip := true } := by simp [hw]
  have hwn : w.now = s.now := by simp [hw]
  have hform : s.sampleTrip v = if w.lmc.power = .OFF then w.cooldownOn true else w.lampOff true := by
    rw [State.sampleTrip, if_neg (by simp [h]), if_pos hv, hw]
    rfl
  rw [hform]
  by_cases hoff : w.lmc.power = .OFF
  · rw [if_pos hoff, ← hwt]
    refine ⟨cooldownOn_cools w true, by simpa using hoff, ?_, .inl ?_⟩
    · rw [cooldownOn_thc, hwn]
      simp
    · rw [cooldownOn_thc, hwt]
      exact ⟨rfl, rfl, rfl⟩
  · rw [if_neg hoff, ← hwt]
    obtain ⟨u, hu, hun, huoff, heq⟩ := lampOff_cools w true hoff
    obtain ⟨hkicks, hgoes⟩ := recomputeFan_moves u
    have hcools : w.thc.cools u.thc := ⟨_, _, _, _, _, _, hu⟩
    have hoff' := lampOff_lmc_power w true
    refine ⟨heq ▸ hcools.trans (recomputeFan_cools u), hoff', ?_, .inr ⟨?_, ?_, ?_⟩⟩
    · rw [heq, recomputeFan_cooldown, hu, hwn]
      simp
    · have hf := fanFollows_recomputeFan u
      rw [State.fanFollows, (recomputeFan_frame u).2.2.2.2.2.1, huoff, ← heq] at hf
      rw [State.fanFollows, hoff']
      exact hf
    · rw [heq, ← hwn, ← hun]
      rw [hu, hwt] at hkicks
      exact hkicks
    · rw [heq]
      rw [hu, hwt] at hgoes
      exact hgoes

/-! ## A valid sample -/

/-- Steps 1 to 4 (R82, R88 to R91): what a sample says of the temperature itself. -/
def Thc.sampled (t : Thc) (now v : Nat) : Thc :=
  { t.measured now v with
    trip := if t.trip then decide (t.par.tResume < v) else decide (t.par.tTrip ≤ v)
    cTarget := ceilTarget t.par (thermalOf t.par v) v
    cEff := ceilStep t.cEff (ceilTarget t.par (thermalOf t.par v) v) }

/-- The state after steps 1 to 4. -/
def State.judged (s : State) (v : Nat) : State := (((s.sampleTemp v).sampleState v).sampleTrip v).sampleCeiling v

theorem sample_eq (s : State) (v : Nat) :
    s.sample v = ((s.judged v).recomputeFan.cooldownTest).sampleFirst s.thc.tm.isNone v := rfl

/-- Steps 1 to 4 at a temperature that does not trip. -/
theorem judged_calm {s : State} {v : Nat} (h : s.thc.trip = true ∨ v < s.thc.par.tTrip) :
    (s.judged v).thc = s.thc.sampled s.now v ∧ (s.judged v).lmc = s.lmc := by
  have hm := measured_thc s v
  obtain ⟨hthc, hlmc⟩ := sampleTrip_calm (s := (s.sampleTemp v).sampleState v) (v := v) (by rw [hm]; exact h)
  rw [hm] at hthc
  have hlatch : (s.thc.trip && decide (s.thc.par.tResume < v)) =
      if s.thc.trip then decide (s.thc.par.tResume < v) else decide (s.thc.par.tTrip ≤ v) := by
    cases ht : s.thc.trip
    · have hv : ¬s.thc.par.tTrip ≤ v := by
        rcases h with h | h
        · exact absurd (ht.symm.trans h) (by simp)
        · omega
      rw [decide_eq_false hv]
      rfl
    · rfl
  refine ⟨?_, hlmc.trans (by simp)⟩
  rw [State.judged, sampleCeiling_thc, hthc, Thc.sampled, ← hlatch]
  rfl

/-- Steps 1 to 4 at a trip. -/
theorem judged_trips {s : State} {v : Nat} (h : s.thc.trip = false) (hv : s.thc.par.tTrip ≤ v) :
    (s.thc.sampled s.now v).cools (s.judged v).thc ∧ (s.judged v).lmc.power = .OFF ∧
      (s.judged v).thc.cooldown = some { start := s.now, trip := true } ∧
      ((s.judged v).thc.fan = s.thc.fan ∧ (s.judged v).thc.duty = s.thc.duty ∧ (s.judged v).thc.kick = s.thc.kick ∨
        (s.judged v).fanFollows ∧ s.thc.kicks (s.judged v).thc s.now ∧ s.thc.goesOn (s.judged v).thc) := by
  obtain ⟨w, hw⟩ : ∃ w, w = (s.sampleTemp v).sampleState v := ⟨_, rfl⟩
  have hwt : w.thc = s.thc.measured s.now v := by rw [hw, measured_thc]
  have hwn : w.now = s.now := by simp [hw]
  obtain ⟨⟨c, l, f, d, k, q, hthc⟩, hoff, hcool, hfan⟩ := sampleTrip_trips (s := w) (v := v) (by rw [hwt]; exact h)
    (by rw [hwt]; exact hv)
  have hform : s.judged v = (w.sampleTrip v).sampleCeiling v := by rw [hw]; rfl
  rw [hwt, hwn] at hfan
  rw [hform]
  refine ⟨⟨c, l, f, d, k, q, ?_⟩, hoff, hcool.trans (by rw [hwn]), hfan⟩
  rw [sampleCeiling_thc, hthc, hwt, Thc.sampled, h, decide_eq_true hv]
  rfl

theorem judged_cools (s : State) (v : Nat) : (s.thc.sampled s.now v).cools (s.judged v).thc := by
  by_cases h : s.thc.trip = true ∨ v < s.thc.par.tTrip
  · rw [(judged_calm h).1]
    exact .refl _
  · obtain ⟨ht, hv⟩ := not_or.mp h
    exact (judged_trips (by simpa using ht) (Nat.le_of_not_lt hv)).1

theorem sample_cools (s : State) (v : Nat) : (s.thc.sampled s.now v).cools (s.sample v).thc :=
  (judged_cools s v).trans ((recomputeFan_cools _).trans ((cooldownTest_cools _).trans (sampleFirst_cools _ _ v)))

theorem sample_lmc (s : State) (v : Nat) : (s.sample v).lmc = (s.judged v).lmc := by
  rw [sample_eq]
  simp

theorem sample_fanFollows (s : State) (v : Nat) : (s.sample v).fanFollows :=
  ((fanFollows_recomputeFan _).cooldownTest).sampleFirst _ v

theorem judged_now (s : State) (v : Nat) : (s.judged v).now = s.now := by
  simp [State.judged]

/-- R86: the fan over steps 1 to 5. -/
theorem judged_fan (s : State) (v : Nat) : s.thc.kicks (s.judged v).recomputeFan.thc s.now ∧
    s.thc.goesOn (s.judged v).recomputeFan.thc := by
  obtain ⟨hkicks, hgoes⟩ := recomputeFan_moves (s.judged v)
  rw [judged_now] at hkicks
  have hsame : (s.judged v).thc.fan = s.thc.fan ∧ (s.judged v).thc.duty = s.thc.duty ∧ (s.judged v).thc.kick = s.thc.kick →
      s.thc.kicks (s.judged v).recomputeFan.thc s.now ∧ s.thc.goesOn (s.judged v).recomputeFan.thc := by
    rintro ⟨hfan, hduty, hkick⟩
    rw [Thc.kicks, hfan] at hkicks
    rw [Thc.goesOn, hfan, hduty, hkick] at hgoes
    exact ⟨hkicks, hgoes⟩
  by_cases h : s.thc.trip = true ∨ v < s.thc.par.tTrip
  · exact hsame (by rw [(judged_calm h).1]; exact ⟨rfl, rfl, rfl⟩)
  · obtain ⟨ht, hv⟩ := not_or.mp h
    obtain ⟨-, -, -, hfan | ⟨hfollows, hk, hg⟩⟩ := judged_trips (s := s) (v := v) (by simpa using ht) (Nat.le_of_not_lt hv)
    · exact hsame hfan
    · exact ⟨hk.then hkicks hgoes, hg.then hgoes (Nat.le_of_eq hfollows.recomputeFan_fan)⟩

theorem cooldownTest_moves (s : State) (hf : s.fanFollows) : s.cooldownTest = s ∨
    s.thc.kicks s.cooldownTest.thc s.now ∧ s.thc.goesOn s.cooldownTest.thc ∧ s.cooldownTest.thc.fan ≤ s.thc.fan := by
  by_cases h : s.cooldownMet = true
  · have hle := hf.cooldownTest_fan_le
    obtain ⟨hkicks, hgoes⟩ := recomputeFan_moves s.cooldownOff
    rw [cooldownOff_thc, (cooldownOff_frame s).2.1] at hkicks
    rw [cooldownOff_thc] at hgoes
    rw [cooldownTest_ends h] at hle ⊢
    exact .inr ⟨hkicks, hgoes, hle⟩
  · exact .inl (if_neg h)

theorem sample_fan (s : State) (v : Nat) : s.thc.kicks (s.sample v).thc s.now ∧
    (s.thc.tm.isSome = true → s.thc.goesOn (s.sample v).thc) := by
  obtain ⟨e, he⟩ : ∃ e, e = (s.judged v).recomputeFan := ⟨_, rfl⟩
  obtain ⟨hk, hg⟩ := judged_fan s v
  rw [← he] at hk hg
  have hnow : e.now = s.now := by simp [he, judged_now]
  have hf : e.fanFollows := by
    rw [he]
    exact fanFollows_recomputeFan _
  have htest : s.thc.kicks e.cooldownTest.thc s.now ∧ s.thc.goesOn e.cooldownTest.thc := by
    rcases cooldownTest_moves e hf with hsame | ⟨hkicks, hgoes, hle⟩
    · rw [hsame]
      exact ⟨hk, hg⟩
    · rw [hnow] at hkicks
      exact ⟨hk.then hkicks hgoes, hg.then hgoes hle⟩
  obtain ⟨hk', hg'⟩ := htest
  rw [sample_eq, ← he]
  refine ⟨?_, fun htm => ?_⟩
  · unfold State.sampleFirst
    split
    · obtain ⟨hkicks, hgoes⟩ := recomputeFan_moves (e.cooldownTest.cooldownOn false)
      rw [cooldownOn_thc, (cooldownOn_frame _ _).2.1, (cooldownTest_frame e).2.1, hnow] at hkicks
      rw [cooldownOn_thc] at hgoes
      exact hk'.then hkicks hgoes
    · exact hk'
  · have hfirst : e.cooldownTest.sampleFirst s.thc.tm.isNone v = e.cooldownTest := by
      have hnone : s.thc.tm.isNone = false := by
        cases h : s.thc.tm
        · simp [h] at htm
        · rfl
      rw [hnone]
      rfl
    rw [hfirst]
    exact hg'

/-- R92, R93: the cooldown over steps 5 to 7, from that of steps 1 to 4. -/
theorem sample_cooldown (s : State) (v : Nat) :
    (v ≤ s.thc.par.tSafe → (s.sample v).thc.cooldown = (match (s.judged v).thc.cooldown with
      | some c => if c.start + 1000000 * s.thc.par.tCool ≤ s.now then none else some c
      | none => none)) ∧
    (s.thc.par.tSafe < v → (s.sample v).thc.cooldown = if s.thc.tm.isNone then
      some { start := s.now, trip := ((s.judged v).thc.cooldown.map Cooldown.trip).getD false }
      else (s.judged v).thc.cooldown) := by
  obtain ⟨e, he⟩ : ∃ e, e = (s.judged v).recomputeFan := ⟨_, rfl⟩
  have hcool : e.thc.cooldown = (s.judged v).thc.cooldown := by rw [he, recomputeFan_cooldown]
  have hnow : e.now = s.now := by simp [he, judged_now]
  obtain ⟨c, l, f, d, k, q, hthc⟩ := (judged_cools s v).trans (recomputeFan_cools _)
  rw [← he] at hthc
  have hlost : e.thc.lost = false := by rw [hthc]; rfl
  have htm : e.thc.tm = some v := by rw [hthc]; rfl
  have hpar : e.thc.par = s.thc.par := by rw [hthc]; rfl
  have htest := cooldownTest_cooldown e
  rw [sample_eq, ← he, ← hcool]
  refine ⟨fun hsafe => ?_, fun hsafe => ?_⟩
  · have hkept : e.cooldownTest.sampleFirst s.thc.tm.isNone v = e.cooldownTest := by
      refine if_neg ?_
      have hpar' : e.cooldownTest.thc.par = s.thc.par := by simp [hpar]
      rw [hpar', decide_eq_false (Nat.not_lt_of_ge hsafe), Bool.and_false]
      simp
    rw [hkept, htest]
    rcases hc : e.thc.cooldown with _ | c
    · simp
    · have hmet : e.cooldownMet = true ↔ c.start + 1000000 * s.thc.par.tCool ≤ s.now := by
        rw [cooldownMet_iff hc, hlost, htm, hpar, hnow]
        simp [hsafe]
      dsimp only
      by_cases h : c.start + 1000000 * s.thc.par.tCool ≤ s.now
      · rw [if_pos h, if_pos (hmet.mpr h)]
      · rw [if_neg h, if_neg (fun hm => h (hmet.mp hm))]
  · have hnot : e.cooldownTest = e := by
      refine if_neg (fun hm => ?_)
      rcases hc : e.thc.cooldown with _ | c
      · simp [State.cooldownMet, hc] at hm
      · rw [cooldownMet_iff hc, htm, hpar] at hm
        obtain ⟨-, -, hany⟩ := hm
        have : v ≤ s.thc.par.tSafe := by simpa using hany
        omega
    rw [hnot]
    cases hfirst : s.thc.tm.isNone
    · rfl
    · have hform : e.sampleFirst true v = (e.cooldownOn false).recomputeFan :=
        if_pos (by rw [hpar, decide_eq_true hsafe]; rfl)
      rw [hform, recomputeFan_cooldown, cooldownOn_thc, hnow, Bool.or_false]
      rfl

theorem temperatureSample_invalid {good : Bool} {reading : Int} (s : State) (h : good = false ∨ reading < 0 ∨ 400 < reading) :
    temperatureSample good reading s = s := by
  refine if_neg ?_
  rcases h with h | h | h
  · simp [sampleValid, h]
  · simp [sampleValid, Int.not_le.mpr h]
  · simp [sampleValid, Int.not_le.mpr h]

theorem temperatureSample_valid {v : Nat} (s : State) (h : v ≤ 400) : temperatureSample true v s = s.sample v := by
  refine if_pos ?_
  simp [sampleValid]
  omega

theorem ceilTarget_thermal (p : ThcParams) (v : Nat) : ceilTarget p (thermalOf p v) v =
    if v ≤ p.tWarn then 1000
    else if v < p.tTrip then 1000 - (1000 - p.cMin) * (v - p.tWarn) / (p.tTrip - p.tWarn) else p.cMin := by
  unfold thermalOf
  split
  · rfl
  · split <;> rfl

/-- Settles O27. -/
theorem temperatureSampleIsTaken : Obligations.TemperatureSampleIsTaken := by
  refine ⟨fun dt good reading s hp => ⟨fun h => ?invalid, fun v hg hr hv => ?taken⟩, ⟨fun t p => ?demands, fun dt v s hp hv => ?fan⟩⟩
  case invalid => exact next_take hp (temperatureSample_invalid _ h)
  case taken =>
    subst hg hr
    obtain ⟨w, hw⟩ : ∃ w, w = s.advance dt := ⟨_, rfl⟩
    have hform : temperatureSample true v (s.advance dt) = w.sample v := by rw [hw, temperatureSample_valid _ hv]
    have hwt : w.thc = s.thc := by rw [hw]; rfl
    have hwn : w.now = s.now + dt := by rw [hw]; rfl
    have hwl : w.lmc = s.lmc := by rw [hw]; rfl
    obtain ⟨c, l, f, d, k, q, hthc⟩ := sample_cools w v
    rw [hwt, hwn] at hthc
    refine ⟨_, next_take hp hform, by simp [State.sameBut, hw, State.sample], ?_, ?_, ?_, ?_, ?_, ?_, ?_, ?_, ?_, fun ht htrip => ?_, fun hcalm => ?_⟩
    case refine_10 =>
      obtain ⟨-, hoff, hcool, -⟩ := judged_trips (s := w) (v := v) (by rw [hwt]; exact ht) (by rw [hwt]; exact htrip)
      refine ⟨by rw [sample_lmc]; exact hoff, fun hsafe => ?_⟩
      rw [(sample_cooldown w v).2 (by rw [hwt]; exact hsafe), hcool, hwn]
      split <;> rfl
    case refine_11 =>
      rw [sample_lmc, (judged_calm (by rw [hwt]; exact hcalm)).2, hwl]
    all_goals rw [hthc]
    case refine_7 => exact ceilTarget_thermal s.thc.par v
    all_goals rfl
  case demands =>
    unfold fanCommand fanCooldown
    refine ⟨?_, ?_⟩
    · cases p <;> simp [fanLamp]
    · simp only [Bool.or_eq_true]
  case fan =>
    obtain ⟨w, hw⟩ : ∃ w, w = s.advance dt := ⟨_, rfl⟩
    have hform : temperatureSample true v (s.advance dt) = w.sample v := by rw [hw, temperatureSample_valid _ hv]
    have hwt : w.thc = s.thc := by rw [hw]; rfl
    have hwn : w.now = s.now + dt := by rw [hw]; rfl
    obtain ⟨c, l, f, d, k, q, hthc⟩ := sample_cools w v
    obtain ⟨hlamp, hfan⟩ := sample_fanFollows w v
    obtain ⟨⟨hstop, hrise⟩, hgoes⟩ := sample_fan w v
    obtain ⟨hsafe, hunsafe⟩ := sample_cooldown w v
    rw [hwt] at hrise hgoes hsafe hunsafe hthc
    rw [hwn] at hrise hsafe hunsafe hthc
    refine ⟨_, next_take hp hform, by rw [hthc]; rfl, by rw [hthc]; rfl, by rw [hthc]; rfl, ?_, by rw [hthc]; rfl, hfan, hstop, hrise,
      hgoes, fun hcalm => ?_⟩
    · rw [hlamp]
      exact fanLamp_congr _ (by rw [hthc]; rfl) (by rw [hthc]; rfl)
    · have hcool : (w.judged v).thc.cooldown = s.thc.cooldown := by
        rw [(judged_calm (by rw [hwt]; exact hcalm)).1, hwt]
        rfl
      rw [hcool] at hsafe hunsafe
      refine ⟨hsafe, fun h htm => ?_, fun h htm => ?_⟩
      · rw [hunsafe h, if_neg (by simpa [Option.isSome_iff_ne_none] using htm)]
      · rw [hunsafe h, htm]
        rfl

end Sys2Proof.Machine
end

section
/-!
STANDBY and WAKE (R94, R95), and the records of the panel keys (R171 to R176).
-/

namespace Sys2Proof.Machine

/-! ## A pause of the sequencer (R160) -/

theorem seqPause_ttc_st {s : State} (h : s.ttc.st ≠ .PLAY) : s.seqPause = s := if_neg h

/-- R160: the sequencer paused at `now`. -/
def Ssq.pausedAt (q : Ssq) (now : Nat) : Ssq := { q with st := .PAUSED, pausedFrom := some q.st, follow := q.follow.paused now }

theorem pauseSeq_eq (s : State) : s.pauseSeq = if s.ssq.st = .READY ∨ s.ssq.st = .RUNNING then
    (if s.cud.par.source = .LOCAL_TAPE then (s.setSsq (s.ssq.pausedAt s.now)).seqPause else s.setSsq (s.ssq.pausedAt s.now))
    else s := rfl

theorem pauseSeq_ssq (s : State) : s.pauseSeq.ssq =
    if s.ssq.st = .READY ∨ s.ssq.st = .RUNNING then s.ssq.pausedAt s.now else s.ssq := by
  rw [pauseSeq_eq]
  split
  · split <;> simp
  · rfl

theorem pauseSeq_ssq_st (s : State) : s.pauseSeq.ssq.st ≠ .READY ∧ s.pauseSeq.ssq.st ≠ .RUNNING := by
  rw [pauseSeq_ssq]
  split
  · simp [Ssq.pausedAt]
  · rename_i h
    exact not_or.mp h

/-- R103: without PLAY a pause has nothing to stop. -/
theorem pauseSeq_ttc {s : State} (h : s.ttc.st ≠ .PLAY) : s.pauseSeq.ttc = s.ttc := by
  rw [pauseSeq_eq]
  split
  · split
    · rw [seqPause_ttc_st (by simpa using h)]
      rfl
    · rfl
  · rfl

theorem tapeStop_st (s : State) : (s.tape .STOP).ttc.st = .STOPPED ∨ (s.tape .STOP).ttc.st = .EMPTY := by
  rw [tape_taken rfl, setTransport_st]
  by_cases h : s.ttc.st = .EMPTY <;> simp [tapeTarget, h]

/-! ## STANDBY (R94) -/

theorem standby_stops {s : State} (h : s.thc.power = .ACTIVE) : s.standby.thc.power = .STANDBY ∧ s.standby.lmc.power = .OFF ∧
    (s.standby.ttc.st = .STOPPED ∨ s.standby.ttc.st = .EMPTY) ∧ s.standby.ssq.st ≠ .READY ∧ s.standby.ssq.st ≠ .RUNNING := by
  obtain ⟨v, hv⟩ : ∃ v, v = (State.lampOff (s.setThc { s.thc with power := .STANDBY }) false).tape .STOP := ⟨_, rfl⟩
  have hform : s.standby = v.pauseSeq := by
    rw [hv]
    exact if_neg (by simp [h])
  have hst : v.ttc.st = .STOPPED ∨ v.ttc.st = .EMPTY := by
    rw [hv]
    exact tapeStop_st _
  obtain ⟨hready, hrun⟩ := pauseSeq_ssq_st v
  have hhalt : v.pauseSeq.ttc = v.ttc := pauseSeq_ttc (by rcases hst with h | h <;> simp [h])
  rw [hform, hhalt]
  refine ⟨by simp [hv], ?_, hst, hready, hrun⟩
  rw [(pauseSeq_frame v).2.2.2.2.2.1, hv, (tape_frame _ _).2.2.2.2.2.1]
  exact lampOff_lmc_power _ false

/-! ## WAKE (R95) -/

theorem wake_active {s : State} (h : s.thc.power = .ACTIVE) : s.wake = s := if_pos h

theorem wake_standby {s : State} (h : s.thc.power = .STANDBY) : s.wake =
    if s.tmc.st = .IDLE then (s.setThc { s.thc with power := .ACTIVE }).startHoming
    else s.setThc { s.thc with power := .ACTIVE } := if_neg (by simp [h])

/-! ## The records of the panel keys -/

theorem setPanel_hold {s : State} {k : Key} {r : PanelRec} (h : r.hold = false) : ((s.setPanel k r).panelKey k).hold = false := by
  unfold State.panelKey State.setPanel
  simp only [State.setRpd_rpd, List.getD]
  rw [List.getElem?_set]
  by_cases hlen : keyIdx k < s.rpd.panel.length
  · simp [hlen, h]
  · simp [hlen]
    rfl

/-- Settles O30. -/
theorem standbyAndWake : Obligations.StandbyAndWake := by
  refine ⟨fun dt s hact => ⟨fun h arg ha => ?link, fun hp hhold hres => ?panel⟩,
    fun dt h arg s ha => ⟨fun hst => ?wakes, fun hact => ?awake⟩⟩
  case link =>
    have hr : reqControl .STANDBY arg (s.asked dt) = done (s.asked dt).standby := rfl
    obtain ⟨hpow, hoff, htape, hready, hrun⟩ := standby_stops (s := s.asked dt) hact
    refine ⟨_, next_control (x := .STANDBY) ha hr, ?_, ?_, hpow, hoff, htape, hready, hrun, ?_, ?_⟩
    · simp [State.sameBut, State.answered, done, Answer.counted]
    · simp [State.answers, State.answered, done, Answer.counted]
    · simp [State.answered, done, Answer.counted]
    · simp [State.answered, done, Answer.counted]
  case panel =>
    obtain ⟨v, hv⟩ : ∃ v, v = ((s.advance dt).reach ((s.panelKey .POWER).pressed + 1000000)).holdReported .POWER := ⟨_, rfl⟩
    have hform : panelPowerHold (s.advance dt) = v.standby := by
      have hdue : (s.advance dt).holdDue .POWER (sec 1) = some ((s.panelKey .POWER).pressed + 1000000) := if_pos hhold
      rw [panelPowerHold, hdue, whenDue_some, ← hv]
      exact if_neg (by simp [hv, hres])
    obtain ⟨hpow, hoff, htape, hready, hrun⟩ := standby_stops (s := v) (by simp [hv, hact])
    refine ⟨_, next_take hp hform, by simp [State.sameBut, hv], by simp [hv], ?_, hpow, hoff, htape, hready, hrun, by simp [hv],
      by simp [hv]⟩
    have hrpd : v.standby.rpd = v.rpd := by simp
    rw [State.panelKey, hrpd, hv]
    exact setPanel_hold rfl
  case wakes =>
    have hr : reqControl .WAKE arg (s.asked dt) = done (s.asked dt).wake := rfl
    refine ⟨_, next_control (x := .WAKE) ha hr, ?_, ?_, ?_, ?_, ?_, ?_, ?_, fun hidle => ?_, fun hbusy => ?_⟩
    · simp [State.sameBut, State.answered, done, Answer.counted]
    · simp [State.answers, State.answered, done, Answer.counted]
    · change (s.asked dt).wake.thc = _
      rw [wake_standby (s := s.asked dt) hst]
      split
      · simp
      · rfl
    · simp [State.answered, done, Answer.counted]
    · simp [State.answered, done, Answer.counted]
    · simp [State.answered, done, Answer.counted]
    · simp [State.answered, done, Answer.counted]
    · change (s.asked dt).wake.tmc.st = _ ∧ (s.asked dt).wake.tmc.phase = _ ∧ (s.asked dt).wake.lmc.blanks.mech = _
      have hform : (s.asked dt).wake = State.startHoming ((s.asked dt).setThc { s.thc with power := .ACTIVE }) :=
        (wake_standby (s := s.asked dt) hst).trans (if_pos hidle)
      rw [hform]
      exact ⟨rfl, rfl, rfl⟩
    · change (s.asked dt).wake.tmc = _ ∧ (s.asked dt).wake.lmc = _
      have hform : (s.asked dt).wake = (s.asked dt).setThc { s.thc with power := .ACTIVE } :=
        (wake_standby (s := s.asked dt) hst).trans (if_neg hbusy)
      rw [hform]
      exact ⟨rfl, rfl⟩
  case awake =>
    have hr : reqControl .WAKE arg (s.asked dt) = done (s.asked dt) := congrArg done (wake_active (s := s.asked dt) hact)
    exact next_control (x := .WAKE) ha hr

end Sys2Proof.Machine
end

section
/-!
The lamp layer: the lamp records, the power state, an ignition, a failure (R53 to R65, R77); CONTROL LAMP and BLANK (R72), the sensors,
and LAMP_RESET (R56).
-/

namespace Sys2Proof.Machine

/-! ## The lamp records (R53) -/

theorem Lmc.lamp_setLamp (l : Lmc) (p : LampPos) (r : LampRec) : (l.setLamp p r).lamp p = r := by
  cases p <;> rfl

theorem Lmc.lamp_setLamp_ne (l : Lmc) {p q : LampPos} (r : LampRec) (h : q ≠ p) : (l.setLamp p r).lamp q = l.lamp q := by
  cases p <;> cases q
  · exact absurd rfl h
  · rfl
  · rfl
  · exact absurd rfl h

theorem LampPos.other_ne (p : LampPos) : p.other ≠ p := by
  cases p <;> decide

/-- A lamp record stands apart from the rest of the lamp block. -/
theorem Lmc.setLamp_rest (l : Lmc) (p : LampPos) (r : LampRec) : (l.setLamp p r).power = l.power ∧ (l.setLamp p r).active = l.active ∧
    (l.setLamp p r).noLamp = l.noLamp ∧ (l.setLamp p r).ignJ = l.ignJ ∧ (l.setLamp p r).ignLen = l.ignLen ∧
    (l.setLamp p r).motion = l.motion ∧ (l.setLamp p r).failCount = l.failCount ∧ (l.setLamp p r).level = l.level ∧
    (l.setLamp p r).ramp = l.ramp ∧ (l.setLamp p r).blanks = l.blanks ∧ (l.setLamp p r).outLevel = l.outLevel ∧
    (l.setLamp p r).outDrive = l.outDrive ∧ (l.setLamp p r).par = l.par := by
  cases p <;> simp [Lmc.setLamp]

/-- R53: what bears on whether a lamp is available. -/
theorem Lmc.available_congr {l m : Lmc} (ha : m.active = l.active) (hp : m.par = l.par)
    (hr : ∀ p, (m.lamp p).usable = (l.lamp p).usable) : m.available = l.available := by
  unfold Lmc.available
  rw [ha, hp, hr, hr]

theorem Lmc.lamp_with (l : Lmc) (n : Bool) (p : LampPos) : Lmc.lamp { l with noLamp := n } p = l.lamp p := by
  cases p <;> rfl

/-! ## An ignition (R57, R58) -/

theorem ignitionSet_lmc (s : State) : s.ignitionSet.lmc = { s.lmc.setLamp s.lmc.active { s.lmc.lamp s.lmc.active with
    ignitions := min ((s.lmc.lamp s.lmc.active).ignitions + 1) 65535 } with ignJ := 0, ignLen := s.lmc.par.ignTime } := by
  unfold State.ignitionSet
  simp [satInc16]

/-- R57: an ignition that no loss of 30 s forces off. -/
theorem enterIgniting_lmc {s : State} (hl : s.thc.lost = false ∨ s.thc.loss30 = false) (hp : s.lmc.power ≠ .IGNITING) :
    s.enterIgniting.lmc = { s.lmc.setLamp s.lmc.active { s.lmc.lamp s.lmc.active with
      ignitions := min ((s.lmc.lamp s.lmc.active).ignitions + 1) 65535 } with
        ignJ := 0, ignLen := s.lmc.par.ignTime, power := .IGNITING } := by
  have hset : s.ignitionSet.lmc.power = s.lmc.power := by
    rw [ignitionSet_lmc]
    exact (Lmc.setLamp_rest ..).1
  rw [enterIgniting_eq, if_neg (by rcases hl with h | h <;> simp [h]), setPower_lmc _ false (by rw [hset]; exact hp), ignitionSet_lmc]
  rfl

/-- R64: a changer motion that begins with the lamp out of use. -/
theorem beginMotion_lmc (s : State) : s.beginMotion.lmc = { s.lmc with
    motion := some { target := s.lmc.active.other, count := 0 }, blanks := { s.lmc.blanks with changer := true } } := rfl

theorem swap_lmc {s : State} (h : s.lmc.power ≠ .SWAPPING) : ((s.beginMotion.count .lampSwaps).setPower .SWAPPING false).lmc =
    { s.beginMotion.lmc with power := .SWAPPING, outDrive := 0 } := by
  rw [setPower_lmc _ false (by simpa using h)]
  simp

theorem ignite_on {s : State} (h : s.lmc.power ≠ .OFF) : s.ignite = s := if_pos (by simp [h])

theorem ignite_refused {s : State} (h : s.ignitionRefused = true) : s.ignite = s := if_pos (by simp [h])

theorem ignite_off {s : State} (h : s.lmc.power = .OFF) (hr : s.ignitionRefused = false) : s.ignite =
    if s.lmc.motion.isSome then s.setPower .SWAPPING false
    else if (s.lmc.lamp s.lmc.active).usable then s.enterIgniting
    else (s.beginMotion.count .lampSwaps).setPower .SWAPPING false := if_neg (by simp [h, hr])

/-- R57, R58, R64: the three ways of an ignition. -/
theorem ignite_ways {s : State} (h : s.lmc.power = .OFF) (hr : s.ignitionRefused = false) :
    (s.lmc.motion.isSome = true → s.ignite.lmc.power = .SWAPPING ∧ s.ignite.lmc.motion = s.lmc.motion) ∧
      (s.lmc.motion = none → (s.lmc.lamp s.lmc.active).usable = true → s.thc.lost = false ∨ s.thc.loss30 = false →
        s.ignite.lmc.power = .IGNITING ∧ s.ignite.lmc.ignJ = 0 ∧ s.ignite.lmc.ignLen = s.lmc.par.ignTime ∧
        (s.ignite.lmc.lamp s.lmc.active).ignitions = min ((s.lmc.lamp s.lmc.active).ignitions + 1) 65535) ∧
      (s.lmc.motion = none → (s.lmc.lamp s.lmc.active).usable = false →
        s.ignite.lmc.power = .SWAPPING ∧ s.ignite.lmc.motion = some { target := s.lmc.active.other, count := 0 } ∧
        s.ignite.lmc.blanks.changer = true) := by
  rw [ignite_off h hr]
  refine ⟨fun hm => ?_, fun hm hu hl => ?_, fun hm hu => ?_⟩
  · rw [if_pos hm, setPower_lmc _ false (by simp [h])]
    exact ⟨rfl, rfl⟩
  · rw [if_neg (by simp [hm]), if_pos hu, enterIgniting_lmc hl (by simp [h])]
    refine ⟨rfl, rfl, rfl, ?_⟩
    cases ha : s.lmc.active <;> rfl
  · rw [if_neg (by simp [hm]), if_neg (by simp [hu]), swap_lmc (by simp [h])]
    exact ⟨rfl, rfl, rfl⟩

/-! ## CONTROL LAMP and CONTROL BLANK (R60, R72, R77) -/

theorem lampOff_cooldown {s : State} (h : s.lmc.power ≠ .OFF) :
    (s.lampOff false).thc.cooldown.map Cooldown.start = some s.now := by
  obtain ⟨u, hu, -, -, heq⟩ := lampOff_cools s false h
  rw [heq, recomputeFan_cooldown, hu]
  rfl

/-- Settles O26. -/
theorem controlLampAndControlBlank : Obligations.ControlLampAndControlBlank := by
  refine ⟨fun dt h arg s ha => ⟨?off, ?refused, ?on, ?nothing, fun harg => ?badLamp⟩, fun dt h arg s ha => ⟨?blank, fun harg => ?badBlank⟩⟩
  case off =>
    rintro rfl
    have hr : reqControl .LAMP 0 (s.asked dt) = done ((s.asked dt).lampOff false) := rfl
    have hkept : ((s.asked dt).lampOff false).lmc.level = s.lmc.level ∧ ((s.asked dt).lampOff false).lmc.ramp = s.lmc.ramp ∧
        ((s.asked dt).lampOff false).lmc.motion = s.lmc.motion := by
      by_cases hoff : s.lmc.power = .OFF
      · rw [lampOff_off (s.asked dt) false hoff]
        exact ⟨rfl, rfl, rfl⟩
      · rw [lampOff_lmc (s.asked dt) false hoff]
        exact ⟨rfl, rfl, rfl⟩
    obtain ⟨hlevel, hramp, hmotion⟩ := hkept
    refine ⟨_, next_control (x := .LAMP) ha hr, ?_, ?_, lampOff_lmc_power (s.asked dt) false, hlevel, hramp, hmotion, fun hon => ?_,
      fun hoff => ?_⟩
    · simp [State.sameBut, State.answered, done, Answer.counted]
    · simp [State.answers, State.answered, done, Answer.counted]
    · have hcool : ((s.asked dt).lampOff false).thc.cooldown.map Cooldown.start = some (s.now + dt) := lampOff_cooldown hon
      have hlmc := lampOff_lmc (s.asked dt) false hon
      change ((s.asked dt).lampOff false).lmc.outDrive = _ ∧ ((s.asked dt).lampOff false).lmc.ignJ = _ ∧
        ((s.asked dt).lampOff false).lmc.failCount = _ ∧ _
      rw [hlmc]
      exact ⟨rfl, rfl, rfl, hcool⟩
    · change ((s.asked dt).lampOff false).lmc = _ ∧ ((s.asked dt).lampOff false).thc = _
      rw [lampOff_off (s.asked dt) false hoff]
      exact ⟨rfl, rfl⟩
  case refused =>
    rintro rfl hoff hcause
    have href : (s.asked dt).ignitionRefused = true := by
      change (s.thc.trip || s.thc.fanFault || s.thc.power == .STANDBY || s.lmc.noLamp) = true
      rcases hcause with h | h | h | h <;> simp [h]
    refine next_control_refused (x := .LAMP) ha (if_neg ?_) (by decide) (by decide)
    simp [State.igniteAccepted, href, hoff]
  case on =>
    rintro rfl hoff htrip hfault hact hlamp
    have href : (s.asked dt).ignitionRefused = false := by
      change (s.thc.trip || s.thc.fanFault || s.thc.power == .STANDBY || s.lmc.noLamp) = false
      rw [htrip, hfault, hact, hlamp]
      rfl
    have hr : reqControl .LAMP 1 (s.asked dt) = done (s.asked dt).ignite := if_pos (by simp [State.igniteAccepted, href])
    refine ⟨_, next_control (x := .LAMP) ha hr, ?_, ?_, ignite_ways (s := s.asked dt) hoff href⟩
    · simp [State.sameBut, State.answered, done, Answer.counted]
    · simp [State.answers, State.answered, done, Answer.counted]
  case nothing =>
    intro h
    refine next_control (x := .LAMP) ha (a := done (s.asked dt)) ?_
    rcases h with ⟨rfl, hon⟩ | rfl | rfl
    · have hr : reqControl .LAMP 1 (s.asked dt) = done (s.asked dt).ignite := if_pos (by simp [State.igniteAccepted, hon])
      rw [hr, ignite_on (s := s.asked dt) hon]
    · rfl
    · rfl
  case badLamp =>
    refine next_control_refused (x := .LAMP) ha ?_ (by decide) (by decide)
    obtain ⟨n, hn⟩ := Nat.exists_eq_add_of_le harg
    change reqLamp arg (s.asked dt) = _
    rw [reqLamp, show arg.toNat = n + 4 by omega]
    rfl
  case blank =>
    rintro (rfl | rfl)
    · exact next_control (x := .BLANK) ha rfl
    · exact next_control (x := .BLANK) ha rfl
  case badBlank =>
    refine next_control_refused (x := .BLANK) ha ?_ (by decide) (by decide)
    have h0 : arg ≠ 0 := by
      rintro rfl
      exact absurd harg (by decide)
    have h1 : arg ≠ 1 := by
      rintro rfl
      exact absurd harg (by decide)
    exact (if_neg h0).trans (if_neg h1)

/-! ## A failure (R63) -/

/-- R63: the active lamp has failed. -/
def Lmc.failed (l : Lmc) : Lmc := l.setLamp l.active { l.lamp l.active with failed := true }

/-- R54, R63: a failure, before the changer or the power state takes it. -/
def State.failNoted (s : State) : State :=
  (((s.setLmc s.lmc.failed).event .LAMP_FAILED (some s.lmc.active.num)).count .lampFailures).evalNoLamp

theorem failNoted_lmc (s : State) : s.failNoted.lmc = { s.lmc.failed with noLamp := !s.lmc.failed.available } := by
  unfold State.failNoted
  rw [evalNoLamp_lmc]
  simp

theorem lampFail_eq (s : State) : s.lampFail =
    if s.lmc.par.changer && (s.lmc.lamp s.lmc.active.other).usable then
      (s.failNoted.beginMotion.count .lampSwaps).setPower .SWAPPING false
    else s.failNoted.setPower .OFF false := by
  have hcond : (s.failNoted.lmc.par.changer && (s.failNoted.lmc.lamp s.failNoted.lmc.active.other).usable) =
      (s.lmc.par.changer && (s.lmc.lamp s.lmc.active.other).usable) := by
    rw [failNoted_lmc]
    cases ha : s.lmc.active <;> simp [Lmc.failed, Lmc.setLamp, Lmc.lamp, LampPos.other, ha]
  rw [← hcond]
  rfl

/-- R63, R64: a failure of a lamp that burns. -/
theorem lampFail_lmc {s : State} (hb : s.lmc.power = .IGNITING ∨ s.lmc.power = .LIT) : s.lampFail.lmc =
    if s.lmc.par.changer && (s.lmc.lamp s.lmc.active.other).usable then
      { s.lmc.failed with
        noLamp := !s.lmc.failed.available, power := .SWAPPING, outDrive := 0
        motion := some { target := s.lmc.active.other, count := 0 }, blanks := { s.lmc.blanks with changer := true } }
    else { s.lmc.failed with noLamp := !s.lmc.failed.available, power := .OFF, outDrive := 0 } := by
  have hpow : s.failNoted.lmc.power = s.lmc.power := by
    rw [failNoted_lmc]
    exact (Lmc.setLamp_rest ..).1
  have hactive : s.lmc.failed.active = s.lmc.active := (Lmc.setLamp_rest ..).2.1
  have hblanks : s.lmc.failed.blanks = s.lmc.blanks := (Lmc.setLamp_rest ..).2.2.2.2.2.2.2.2.2.1
  rw [lampFail_eq]
  split
  · rw [swap_lmc (by rw [hpow]; rcases hb with h | h <;> simp [h]), beginMotion_lmc, failNoted_lmc, hactive, hblanks]
  · rw [setPower_lmc _ false (by rw [hpow]; rcases hb with h | h <;> simp [h]), failNoted_lmc]
    rfl

/-! ## The sensors (R65) and LAMP_RESET (R56) -/

/-- R54, R65: a sensor reads `present`. -/
def State.sensed (s : State) (p : LampPos) (present : Bool) : State :=
  State.evalNoLamp (s.setLmc (s.lmc.setLamp p { s.lmc.lamp p with present := present }))

theorem sensed_lmc (s : State) (p : LampPos) (present : Bool) : (s.sensed p present).lmc =
    { s.lmc.setLamp p { s.lmc.lamp p with present := present } with
      noLamp := !(s.lmc.setLamp p { s.lmc.lamp p with present := present }).available } := evalNoLamp_lmc _

theorem lampPresentChange_eq {s : State} {p : LampPos} {present : Bool} (h : (s.lmc.lamp p).present = !present) :
    lampPresentChange p present s =
      if !present && decide (p = s.lmc.active) && s.lmc.power.burns then (s.sensed p present).lampFail
      else s.sensed p present := by
  have hactive : (s.sensed p present).lmc.active = s.lmc.active := by
    rw [sensed_lmc]
    exact (Lmc.setLamp_rest ..).2.1
  have hpow : (s.sensed p present).lmc.power = s.lmc.power := by
    rw [sensed_lmc]
    exact (Lmc.setLamp_rest ..).1
  rw [← hactive, ← hpow]
  exact if_neg (by cases present <;> simp [h])

/-- R54: a change of the power state, of the motion or of the blanks leaves NO_LAMP right. -/
theorem failed_available (l : Lmc) (n : Bool) (p : Power) (d : Nat) (m : Option Motion) (b : Blanks) :
    Lmc.available { l with noLamp := n, power := p, outDrive := d, motion := m, blanks := b } = l.available := by
  unfold Lmc.available Lmc.lamp
  cases l.active <;> rfl

theorem lampFail_noLamp {s : State} (hb : s.lmc.power = .IGNITING ∨ s.lmc.power = .LIT) :
    s.lampFail.lmc.noLamp = !s.lampFail.lmc.available := by
  rw [lampFail_lmc hb]
  split
  · exact congrArg (!·) (failed_available s.lmc.failed _ _ _ _ _).symm
  · exact congrArg (!·) (failed_available s.lmc.failed _ _ _ s.lmc.failed.motion s.lmc.failed.blanks).symm

theorem failed_failed (l : Lmc) : (l.failed.lamp l.active).failed = true := by
  rw [Lmc.failed, Lmc.lamp_setLamp]

theorem failed_present (l : Lmc) (p : LampPos) : (l.failed.lamp p).present = (l.lamp p).present := by
  by_cases h : p = l.active
  · rw [h, Lmc.failed, Lmc.lamp_setLamp]
  · rw [Lmc.failed, Lmc.lamp_setLamp_ne _ _ h]

theorem lampFail_power {s : State} (hb : s.lmc.power = .IGNITING ∨ s.lmc.power = .LIT) : s.lampFail.lmc.power =
    (if s.lmc.par.changer && (s.lmc.lamp s.lmc.active.other).usable then Power.SWAPPING else .OFF) ∧
      s.lampFail.lmc.outDrive = 0 ∧ (s.lampFail.lmc.lamp s.lmc.active).failed = true ∧
      ∀ p, (s.lampFail.lmc.lamp p).present = (s.lmc.lamp p).present := by
  rw [lampFail_lmc hb]
  split
  · exact ⟨rfl, rfl, failed_failed s.lmc, failed_present s.lmc⟩
  · exact ⟨rfl, rfl, failed_failed s.lmc, failed_present s.lmc⟩

theorem sensed_facts (s : State) (p : LampPos) (present : Bool) : (s.sensed p present).lmc.power = s.lmc.power ∧
    (s.sensed p present).lmc.active = s.lmc.active ∧ (s.sensed p present).lmc.par = s.lmc.par ∧
    (s.sensed p present).lmc.lamp p = { s.lmc.lamp p with present := present } ∧
    (∀ q, q ≠ p → (s.sensed p present).lmc.lamp q = s.lmc.lamp q) ∧
    (s.sensed p present).lmc.noLamp = !(s.sensed p present).lmc.available := by
  rw [sensed_lmc]
  obtain ⟨hpow, hact, -, -, -, -, -, -, -, -, -, -, hpar⟩ := Lmc.setLamp_rest s.lmc p { s.lmc.lamp p with present := present }
  refine ⟨hpow, hact, hpar, ?_, fun q hq => ?_, ?_⟩
  · rw [Lmc.lamp_with, Lmc.lamp_setLamp]
  · rw [Lmc.lamp_with, Lmc.lamp_setLamp_ne _ _ hq]
  · exact congrArg (!·) (Lmc.available_congr rfl rfl fun q => by rw [Lmc.lamp_with]).symm

theorem burns_iff {p : Power} : p.burns = true ↔ p = .IGNITING ∨ p = .LIT := by
  cases p <;> simp [Power.burns]

theorem lampPos_of_code {pos : Byte} {p : LampPos} (h : (pos = 0 ∧ p = LampPos.A) ∨ (pos = 1 ∧ p = .B)) :
    [LampPos.A, .B][pos.toNat]? = some p := by
  rcases h with ⟨rfl, rfl⟩ | ⟨rfl, rfl⟩ <;> rfl

/-- R56: a record made new. -/
theorem resetLampRec_lmc (s : State) (p : LampPos) :
    (s.resetLampRec p).lmc.lamp p = { present := (s.lmc.lamp p).present, failed := false, lit := 0, ignitions := 0, acc := 0
                                      life := decide (s.lmc.par.life * 3600 ≤ 0) } ∧
      (s.resetLampRec p).lmc.lamp p.other = s.lmc.lamp p.other ∧ (s.resetLampRec p).lmc.power = s.lmc.power ∧
      (s.resetLampRec p).lmc.noLamp = !(s.resetLampRec p).lmc.available := by
  unfold State.resetLampRec
  rw [evalNoLamp_lmc, evalLife_lmc]
  refine ⟨?_, ?_, ?_, ?_⟩
  · rw [Lmc.lamp_with, Lmc.lamp_setLamp]
    simp only [State.setLmc_lmc, Lmc.lamp_setLamp, Lmc.lifeOver, (Lmc.setLamp_rest s.lmc p _).2.2.2.2.2.2.2.2.2.2.2.2]
  · rw [Lmc.lamp_with, Lmc.lamp_setLamp_ne _ _ (LampPos.other_ne p)]
    exact Lmc.lamp_setLamp_ne _ _ (LampPos.other_ne p)
  · exact (Lmc.setLamp_rest ..).1.trans (Lmc.setLamp_rest ..).1
  · exact congrArg (!·) (Lmc.available_congr rfl rfl fun q => by rw [Lmc.lamp_with]).symm

/-- Settles O25. -/
theorem lampPresenceAndLampReset : Obligations.LampPresenceAndLampReset := by
  refine ⟨fun dt pos present s hp hpres => ?sensor, fun dt h pos s ha hu => ⟨fun p hpos hoff => ?reset, fun p hpos hact hon => ?busy,
    fun hbad => ?bad⟩⟩
  case sensor =>
    have hform := lampPresentChange_eq (s := s.advance dt) (p := pos) hpres
    obtain ⟨w, hw⟩ : ∃ w, w = (s.advance dt).sensed pos present := ⟨_, rfl⟩
    obtain ⟨hpow, hact, hpar, hlamp, hother, hno⟩ := sensed_facts (s.advance dt) pos present
    rw [← hw] at hform hpow hact hpar hlamp hother hno
    have hpow : w.lmc.power = s.lmc.power := hpow
    have hact : w.lmc.active = s.lmc.active := hact
    have hpar : w.lmc.par = s.lmc.par := hpar
    have hother : ∀ q, q ≠ pos → w.lmc.lamp q = s.lmc.lamp q := hother
    have hsame : s.sameBut w [.lmc, .lki] := by simp [State.sameBut, hw, State.sensed]
    by_cases hfail : present = false ∧ pos = s.lmc.active ∧ (s.lmc.power = .IGNITING ∨ s.lmc.power = .LIT)
    · obtain ⟨rfl, rfl, hb⟩ := hfail
      have hu : lampPresentChange s.lmc.active false (s.advance dt) = w.lampFail :=
        hform.trans (if_pos (by rcases hb with h | h <;> simp [h, Power.burns]))
      rw [← hpow] at hb
      obtain ⟨hfpow, hdrive, hfailed, hkept⟩ := lampFail_power hb
      rw [hpar, hact, hother _ (LampPos.other_ne _)] at hfpow
      rw [hact] at hfailed
      obtain ⟨hp1, hf1, hd1, haq, htmc, hlmc, hthc, httc, hcud, hssq, hrpd, hlki, hcnt, hsts⟩ := hsame
      refine ⟨_, next_take hp hu, ?_, (hkept _).trans (by rw [hlamp]), lampFail_noLamp hb, fun h => ?_, fun _ _ _ => ⟨hfailed, hfpow, hdrive⟩⟩
      · simp [State.sameBut, hw, State.sensed]
      · rw [hpow] at hb
        rcases h with h | h | h | h
        · exact absurd h (by decide)
        · exact absurd rfl h
        · rcases hb with hb | hb <;> exact absurd (h.symm.trans hb) (by decide)
        · rcases hb with hb | hb <;> exact absurd (h.symm.trans hb) (by decide)
    · have hu : lampPresentChange pos present (s.advance dt) = w := by
        refine hform.trans (if_neg (fun h => hfail ?_))
        simp only [Bool.and_eq_true, Bool.not_eq_true', decide_eq_true_iff] at h
        obtain ⟨⟨h0, hp'⟩, hb⟩ := h
        exact ⟨h0, hp', burns_iff.mp hb⟩
      refine ⟨_, next_take hp hu, ?_, by rw [hlamp], hno, fun _ => ⟨hpow, by rw [hlamp]; rfl⟩, fun h0 hp' hb => absurd ⟨h0, hp', hb⟩ hfail⟩
      simp [State.sameBut, hw, State.sensed]
  case reset =>
    have hr : reqLampReset pos (s.asked dt) = done ((s.asked dt).resetLampRec p) := by
      unfold reqLampReset
      rw [lampPos_of_code hpos]
      exact if_neg (fun h => hoff.elim (fun hne => hne h.1) (fun h0 => h.2 h0))
    obtain ⟨hlamp, hother, hpow, hno⟩ := resetLampRec_lmc (s.asked dt) p
    refine ⟨_, next_request (r := .lampReset pos) ha rfl (by simp [show s.sts.save = none from hu]) hr rfl, ?_, ?_, hlamp, hother, hpow, hno⟩
    · simp [State.sameBut, State.answered, done, Answer.counted, State.resetLampRec]
    · simp only [State.answers, State.answered, done, Answer.counted, State.resetLampRec, evalNoLamp_frame, evalLife_frame,
        State.setLki_lki, State.setLmc_now]
      rfl
  case busy =>
    refine next_refused (r := .lampReset pos) ha rfl (by simp [show s.sts.save = none from hu]) ?_ rfl (by decide) (by decide)
    change reqLampReset pos (s.asked dt) = _
    unfold reqLampReset
    rw [lampPos_of_code hpos]
    exact if_pos ⟨hact, hon⟩
  case bad =>
    refine next_refused (r := .lampReset pos) ha rfl (by simp [show s.sts.save = none from hu]) ?_ rfl (by decide) (by decide)
    change reqLampReset pos (s.asked dt) = _
    unfold reqLampReset
    rw [List.getElem?_eq_none hbad]

end Sys2Proof.Machine
end

section
/-!
The lamp update in closed form (R51, R59, R62 to R75), step by step.
-/

namespace Sys2Proof.Machine

/-! ## Steps 3 to 7: what is put out -/

/-- R67: the level after the ramp's step. -/
def Lmc.nextLevel (l : Lmc) : Nat :=
  match l.ramp with
  | none => l.level
  | some r => if r.n = 0 then r.stop else rampLevel r (r.k + 1)

/-- R68: the ramp after its step. -/
def Lmc.nextRamp (l : Lmc) : Option Ramp :=
  match l.ramp with
  | none => none
  | some r => if r.endsNext then none else some { r with k := r.k + 1 }

/-- R71: the blank reasons as they are derived. -/
def State.derived (s : State) : Blanks := { s.lmc.blanks with empty := s.emptyReason, slot := s.slotReason }

/-- R70, R73: the output level of steps 3 to 5. -/
def State.nextOut (s : State) : Nat :=
  if s.derived.some then 0 else min (s.lmc.nextLevel * s.lmc.par.trim / 1000) s.thc.cEff

/-- R59: the count of an ignition. -/
def Lmc.nextJ (l : Lmc) (fresh : Bool) : Nat :=
  match l.power with
  | .OFF | .SWAPPING | .LIT => l.ignJ
  | .IGNITING => if fresh then l.ignJ else l.ignJ + 1

/-- R59, R75: the output drive of steps 3 to 7. -/
def State.nextDrive (s : State) (fresh : Bool) : Nat :=
  match s.lmc.power with
  | .OFF | .SWAPPING => 0
  | .LIT => max (interpolate s.lmc.par.table s.nextOut) s.lmc.par.glow
  | .IGNITING => s.lmc.par.glow * s.lmc.nextJ fresh / s.lmc.ignLen

/-- The lamp block after steps 3 to 7. -/
def State.formed (s : State) (fresh : Bool) : Lmc :=
  { s.lmc with
    level := s.lmc.nextLevel, ramp := s.lmc.nextRamp, blanks := s.derived, outLevel := s.nextOut, ceilUsed := s.thc.cEff
    ignJ := s.lmc.nextJ fresh, outDrive := s.nextDrive fresh }

theorem rampStep_eq (s : State) : s.rampStep = s.setLmc { s.lmc with level := s.lmc.nextLevel, ramp := s.lmc.nextRamp } := by
  unfold State.rampStep Lmc.nextLevel Lmc.nextRamp
  cases h : s.lmc.ramp
  · simp only
    rw [← h]
    rfl
  · rfl

theorem lampOutputs_eq (s : State) (fresh : Bool) : s.lampOutputs fresh = s.setLmc (s.formed fresh) := by
  unfold State.lampOutputs
  rw [rampStep_eq]
  unfold State.formDrive State.formed State.nextDrive Lmc.nextJ
  simp only [State.formLevel, State.deriveBlanks, State.setLmc_lmc]
  cases s.lmc.power <;> rfl

/-! ## Steps 8 and 9: what is reported -/

/-- R55: the lit time after this update. -/
def Lmc.accrued (l : Lmc) : LampRec :=
  if l.power.burns then
    if 100 ≤ (l.lamp l.active).acc + 1 then
      { l.lamp l.active with
        acc := 0, lit := min ((l.lamp l.active).lit + 1) 4294967295
        life := decide (l.par.life * 3600 ≤ min ((l.lamp l.active).lit + 1) 4294967295) }
    else { l.lamp l.active with acc := (l.lamp l.active).acc + 1 }
  else l.lamp l.active

theorem accrue_lmc (s : State) : s.accrue.lmc = s.lmc.setLamp s.lmc.active s.lmc.accrued := by
  unfold State.accrue Lmc.accrued
  split
  · dsimp only
    split
    · rw [evalLife_lmc]
      cases s.lmc.active <;> rfl
    · rfl
  · exact (Lmc.setLamp_lamp ..).symm

/-- R59: the power state after the update. -/
def Lmc.reached (l : Lmc) : Power := if l.power = .IGNITING ∧ l.ignLen ≤ l.ignJ then .LIT else l.power

theorem litReport_lmc (s : State) : s.litReport.lmc = { s.lmc with power := s.lmc.reached } := by
  unfold State.litReport Lmc.reached
  split
  · rename_i h
    rw [setPower_lmc _ false (by simp [h.1])]
    rfl
  · rfl

/-- Steps 8 and 9. -/
def State.reported (s : State) : State := s.accrue.darkReport.heatReport.litReport

theorem reported_unlit {s : State} (h : s.lmc.power = .OFF ∨ s.lmc.power = .SWAPPING) :
    s.reported = s.darkReport.heatReport := by
  have hdark : s.accrue = s := if_neg (by rcases h with h | h <;> simp [h, Power.burns])
  unfold State.reported
  rw [hdark]
  exact if_neg (by rintro ⟨hi, -⟩; rcases h with h | h <;> simp [h] at hi)

theorem reported_lmc (s : State) : s.reported.lmc =
    { s.lmc.setLamp s.lmc.active s.lmc.accrued with power := s.lmc.reached } := by
  have hrest := Lmc.setLamp_rest s.lmc s.lmc.active s.lmc.accrued
  unfold State.reported
  rw [litReport_lmc, (heatReport_frame _).2.2.2.2.2.1, (darkReport_frame _).2.2.2.2.1, accrue_lmc]
  unfold Lmc.reached
  rw [hrest.1, hrest.2.2.2.1, hrest.2.2.2.2.1]

theorem reported_tmc (s : State) : s.reported.tmc =
    if s.tmc.phase = some .DARKEN ∧ s.tmc.timer = none ∧ s.lmc.outLevel = 0 then
      { s.tmc with timer := some (.tDark, s.now + 2000 * (s.tmc.par.tDark + 1)) } else s.tmc := by
  have hdelay : delayUnits s.tmc.par.tDark = 2000 * (s.tmc.par.tDark + 1) := by
    simp only [delayUnits, msec]
    omega
  unfold State.reported
  rw [(litReport_frame _).2.2.2.2.1, (heatReport_frame _).2.2.2.2.1, State.darkReport, ← hdelay]
  simp only [accrue_frame]
  split <;> simp

theorem reported_hq (s : State) : s.reported.thc.hq = heatStep s.thc.hq s.lmc.outDrive := by
  unfold State.reported
  simp only [litReport_frame, State.heatReport, State.setThc_thc, darkReport_frame, accrue_frame]

theorem lampUpdate_eq (low : Bool) (s : State) : lampUpdate low s =
    ((s.lampChanges low).lampOutputs
      ((s.lampChanges low).lmc.power == .IGNITING && s.lmc.power != .IGNITING)).reported := rfl

/-- The lamp block after the whole update, from that after steps 1 and 2. -/
theorem lampUpdate_lmc {low : Bool} {s w : State} {fresh : Bool} (hw : s.lampChanges low = w)
    (hf : (w.lmc.power == .IGNITING && s.lmc.power != .IGNITING) = fresh) :
    (lampUpdate low s).lmc = { (w.formed fresh).setLamp w.lmc.active (w.formed fresh).accrued with
      power := (w.formed fresh).reached } ∧
    (lampUpdate low s).tmc = (if w.tmc.phase = some .DARKEN ∧ w.tmc.timer = none ∧ w.nextOut = 0 then
      { w.tmc with timer := some (.tDark, w.now + 2000 * (w.tmc.par.tDark + 1)) } else w.tmc) ∧
    (lampUpdate low s).thc.hq = heatStep w.thc.hq (w.nextDrive fresh) := by
  rw [lampUpdate_eq, hw, hf, lampOutputs_eq, reported_lmc, reported_tmc, reported_hq]
  exact ⟨rfl, rfl, rfl⟩

/-- R84: the heat estimate does not go below 0. -/
theorem heatStep_int (hq d : Nat) : (heatStep hq d : Int) = hq + Int.tdiv (64 * (d : Int) - hq) 64 := by
  unfold heatStep
  refine Int.toNat_of_nonneg ?_
  by_cases h : 64 * (d : Int) - hq < 0
  · have hdiv : Int.tdiv (64 * (d : Int) - hq) 64 = -((hq - 64 * (d : Int)) / 64) := by
      rw [show 64 * (d : Int) - hq = -(hq - 64 * (d : Int)) by omega, Int.neg_tdiv, Int.tdiv_eq_ediv_of_nonneg (by omega)]
    rw [hdiv]
    omega
  · rw [Int.tdiv_eq_ediv_of_nonneg (by omega)]
    omega

/-! ## Steps 1 and 2 -/

theorem failsNow_iff {s : State} {low : Bool} : s.failsNow low = true ↔
    low = true ∧ s.lmc.power = .LIT ∧ 200 ≤ s.lmc.outDrive ∧ 3 ≤ s.lmc.failCount + 1 := by
  simp only [State.failsNow, State.senseQualifies, Bool.and_eq_true, beq_iff_eq, decide_eq_true_iff, and_assoc]
  rfl

/-- R62: no failure is found. -/
theorem lampSense_calm {s : State} {low : Bool}
    (h : ¬(low = true ∧ s.lmc.power = .LIT ∧ 200 ≤ s.lmc.outDrive ∧ 3 ≤ s.lmc.failCount + 1)) :
    s.lampSense low = s.setLmc { s.lmc with failCount := if low && s.senseQualifies then s.lmc.failCount + 1 else 0 } :=
  if_neg (fun hf => h (failsNow_iff.mp hf))

theorem lampChanges_calm {s : State} {low : Bool} (hm : s.lmc.motion = none)
    (h : ¬(low = true ∧ s.lmc.power = .LIT ∧ 200 ≤ s.lmc.outDrive ∧ 3 ≤ s.lmc.failCount + 1)) : s.lampChanges low =
      s.setLmc { s.lmc with failCount := if low && s.senseQualifies then s.lmc.failCount + 1 else 0 } := by
  rw [State.lampChanges, hm, lampSense_calm h]
  rfl

/-- R64: an update within a changer motion. -/
theorem lampChanges_moving {s : State} {low : Bool} {mo : Motion} (hm : s.lmc.motion = some mo) (hc : mo.count + 1 < 150)
    (hp : s.lmc.power = .OFF ∨ s.lmc.power = .SWAPPING) : s.lampChanges low =
      s.setLmc { s.lmc with failCount := 0, motion := some { mo with count := mo.count + 1 } } := by
  have hq : s.senseQualifies = false := by
    unfold State.senseQualifies
    rcases hp with h | h <;> simp [h]
  have hcalm : ¬(low = true ∧ s.lmc.power = .LIT ∧ 200 ≤ s.lmc.outDrive ∧ 3 ≤ s.lmc.failCount + 1) := by
    rintro ⟨-, hlit, -⟩
    rcases hp with h | h <;> exact absurd (h.symm.trans hlit) (by decide)
  rw [State.lampChanges, hm, lampSense_calm hcalm, hq, Bool.and_false]
  exact if_neg (Nat.not_le_of_gt hc)

theorem endsNext_iff {r : Ramp} : r.endsNext = true ↔ r.n ≤ r.k + 1 := by
  unfold Ramp.endsNext
  simp
  omega

/-- R67, R68: the ramp's step. -/
theorem nextRamp_some {l : Lmc} {r : Ramp} (h : l.ramp = some r) :
    l.nextLevel = (if r.n = 0 then r.stop else rampLevel r (r.k + 1)) ∧
      l.nextRamp = (if r.n ≤ r.k + 1 then none else some { r with k := r.k + 1 }) := by
  unfold Lmc.nextLevel Lmc.nextRamp
  rw [h]
  refine ⟨rfl, ?_⟩
  by_cases he : r.n ≤ r.k + 1
  · dsimp only
    rw [if_pos (endsNext_iff.mpr he), if_pos he]
  · dsimp only
    rw [if_neg (mt endsNext_iff.mp he), if_neg he]

theorem nextRamp_none {l : Lmc} (h : l.ramp = none) : l.nextLevel = l.level ∧ l.nextRamp = none := by
  unfold Lmc.nextLevel Lmc.nextRamp
  rw [h]
  exact ⟨rfl, rfl⟩

theorem slotReason_iff (s : State) : s.slotReason = true ↔
    ∃ p, s.tmc.gate = .LOADED p ∧ s.tmc.slots[p]?.map SlotRec.blank = some true := by
  unfold State.slotReason
  cases s.tmc.gate with
  | LOADED p => cases h : s.tmc.slots[p]? <;> simp [h]
  | EMPTY => simp
  | UNKNOWN => simp

theorem emptyReason_eq (s : State) : s.emptyReason = (s.lmc.par.darkOnEmpty && (s.tmc.gate == .EMPTY || s.tmc.gate == .UNKNOWN)) := by
  unfold State.emptyReason
  cases s.tmc.gate <;> rfl

/-- R71, R73: a blank reason that stands keeps the output dark. -/
theorem nextOut_dark {s : State} (h : s.lmc.blanks.mech = true ∨ s.lmc.blanks.changer = true) : s.nextOut = 0 := by
  refine if_pos ?_
  unfold State.derived Blanks.some
  rcases h with h | h <;> simp [h]

theorem nextDrive_off {s : State} (fresh : Bool) (h : s.lmc.power = .OFF ∨ s.lmc.power = .SWAPPING) : s.nextDrive fresh = 0 := by
  unfold State.nextDrive
  rcases h with h | h <;> rw [h]

/-- Settles O21. -/
theorem lampUpdateFormsTheLight : Obligations.LampUpdateFormsTheLight := by
  refine ⟨fun dt low s hp hm hcalm => ?plain, fun dt low s hp => ⟨?dark, fun mo hm hc hpow => ?moving⟩⟩
  case plain =>
    obtain ⟨w, hw⟩ : ∃ w, w = (s.advance dt).lampChanges low := ⟨_, rfl⟩
    obtain ⟨c, hwl⟩ : ∃ c, w = (s.advance dt).setLmc { s.lmc with failCount := c } :=
      ⟨_, hw.trans (lampChanges_calm (s := s.advance dt) hm hcalm)⟩
    have hfresh : (w.lmc.power == .IGNITING && (s.advance dt).lmc.power != .IGNITING) = false := by
      rw [hwl]
      change (s.lmc.power == .IGNITING && s.lmc.power != .IGNITING) = false
      cases s.lmc.power <;> rfl
    obtain ⟨hlmc, -, hhq⟩ := lampUpdate_lmc hw.symm hfresh
    have hrest := Lmc.setLamp_rest (w.formed false) w.lmc.active (w.formed false).accrued
    obtain ⟨-, -, -, -, -, -, -, hlevel, hramp, hblanks, hout, hdrive, -⟩ := hrest
    have hblanks : (lampUpdate low (s.advance dt)).lmc.blanks =
        { s.lmc.blanks with empty := s.emptyReason, slot := s.slotReason } := by
      rw [hlmc]
      exact hblanks.trans (by rw [hwl]; rfl)
    have hlevel : (lampUpdate low (s.advance dt)).lmc.level = s.lmc.nextLevel := by
      rw [hlmc]
      exact hlevel.trans (by rw [hwl]; rfl)
    have hramp : (lampUpdate low (s.advance dt)).lmc.ramp = s.lmc.nextRamp := by
      rw [hlmc]
      exact hramp.trans (by rw [hwl]; rfl)
    have hout : (lampUpdate low (s.advance dt)).lmc.outLevel = s.nextOut := by
      rw [hlmc]
      exact hout.trans (by rw [hwl]; rfl)
    have hdrive : (lampUpdate low (s.advance dt)).lmc.outDrive = s.nextDrive false := by
      rw [hlmc]
      exact hdrive.trans (by rw [hwl]; rfl)
    have hhq : ((lampUpdate low (s.advance dt)).thc.hq : Int) =
        s.thc.hq + Int.tdiv (64 * (s.nextDrive false : Int) - s.thc.hq) 64 := by
      rw [hhq, heatStep_int, hwl]
      rfl
    refine ⟨_, next_take hp rfl, by simp [State.sameBut], fun hr => ?_, fun r hr => ?_, ?_, ?_, ?_, ?_, ?_, ?_, fun hpow => ?_,
      fun hpow => ?_, fun hpow => ?_, ?_⟩
    · rw [hlevel, hramp]
      exact nextRamp_none hr
    · rw [hlevel, hramp]
      exact nextRamp_some hr
    · rw [hblanks]
    · rw [hblanks]
    · rw [hblanks]
    · rw [hblanks]
      exact emptyReason_eq s
    · rw [hblanks]
      exact slotReason_iff s
    · rw [hout, hlevel, hblanks]
      rfl
    · rw [hdrive]
      exact nextDrive_off false hpow
    · rw [hdrive, hout, State.nextDrive, hpow]
    · rw [hdrive, State.nextDrive, hpow]
      dsimp only
      rw [Lmc.nextJ, hpow]
      rfl
    · rw [hdrive]
      exact hhq
  case dark =>
    obtain ⟨w, hw⟩ : ∃ w, w = (s.advance dt).lampChanges low := ⟨_, rfl⟩
    obtain ⟨hlmc, htmc, -⟩ := lampUpdate_lmc hw.symm rfl
    obtain ⟨-, -, -, -, -, -, -, -, -, -, hout, -⟩ := Lmc.setLamp_rest
      (w.formed (w.lmc.power == .IGNITING && (s.advance dt).lmc.power != .IGNITING)) w.lmc.active
      (w.formed (w.lmc.power == .IGNITING && (s.advance dt).lmc.power != .IGNITING)).accrued
    have hout : (lampUpdate low (s.advance dt)).lmc.outLevel = w.nextOut := by
      rw [hlmc]
      exact hout
    have hwt : w.tmc = s.tmc := by simp [hw]
    have hwn : w.now = s.now + dt := by simp [hw]
    refine ⟨_, next_take hp rfl, by simp [State.sameBut], fun hmech => ?_, ?_⟩
    · rw [hout]
      exact nextOut_dark (.inl (by simpa [hw] using hmech))
    · rw [htmc, hout, hwt, hwn]
  case moving =>
    obtain ⟨w, hw⟩ : ∃ w, w = (s.advance dt).lampChanges low := ⟨_, rfl⟩
    have hwl : w = (s.advance dt).setLmc { s.lmc with failCount := 0, motion := some { mo with count := mo.count + 1 } } :=
      hw.trans (lampChanges_moving (s := s.advance dt) hm hc hpow)
    have hfresh : (w.lmc.power == .IGNITING && (s.advance dt).lmc.power != .IGNITING) = false := by
      rw [hwl]
      change (s.lmc.power == .IGNITING && s.lmc.power != .IGNITING) = false
      cases s.lmc.power <;> rfl
    have hwp : (w.setLmc (w.formed false)).lmc.power = .OFF ∨ (w.setLmc (w.formed false)).lmc.power = .SWAPPING := by
      rw [hwl]
      exact hpow
    have hform : lampUpdate low (s.advance dt) = (w.setLmc (w.formed false)).darkReport.heatReport := by
      rw [lampUpdate_eq, ← hw, hfresh, lampOutputs_eq, reported_unlit hwp]
    have hlmc : (w.setLmc (w.formed false)).darkReport.heatReport.lmc = w.formed false := by simp
    refine ⟨_, next_take hp hform, by simp [State.sameBut, hwl], ?_⟩
    rw [hlmc]
    have hdrive : (w.formed false).outDrive = 0 := nextDrive_off false hwp
    have hout : s.lmc.blanks.changer = true → (w.formed false).outLevel = 0 := by
      intro hc
      exact nextOut_dark (.inr (by rw [hwl]; exact hc))
    rw [hwl] at hdrive hout ⊢
    exact ⟨rfl, rfl, rfl, rfl, rfl, rfl, hdrive, hout, nextRamp_none, fun r => nextRamp_some⟩

end Sys2Proof.Machine
end

section
/-!
The lamp updates that are named by what happens at them: a ramp ends, an ignition completes, a lit second is full (R55, R59, R68), the
active lamp fails, the changer arrives (R62 to R64).
-/

namespace Sys2Proof.Machine

/-! ## What leaves the ramp alone -/

theorem setPower_ramp (s : State) (p : Power) (trip : Bool) : (s.setPower p trip).lmc.ramp = s.lmc.ramp := by
  by_cases h : s.lmc.power = p
  · rw [setPower_same s trip h]
  · rw [setPower_lmc s trip h]

theorem lampOff_ramp (s : State) (trip : Bool) : (s.lampOff trip).lmc.ramp = s.lmc.ramp := by
  by_cases h : s.lmc.power = .OFF
  · rw [lampOff_off s trip h]
  · rw [lampOff_lmc s trip h]

theorem enterIgniting_ramp (s : State) : s.enterIgniting.lmc.ramp = s.lmc.ramp := by
  have hset : s.ignitionSet.lmc.ramp = s.lmc.ramp := by
    rw [ignitionSet_lmc]
    exact (Lmc.setLamp_rest ..).2.2.2.2.2.2.2.2.1
  rw [enterIgniting_eq]
  split
  · rw [lampOff_ramp, setPower_ramp, hset]
  · rw [setPower_ramp, hset]

theorem lampFail_ramp (s : State) : s.lampFail.lmc.ramp = s.lmc.ramp := by
  have hnoted : s.failNoted.lmc.ramp = s.lmc.ramp := by
    rw [failNoted_lmc]
    exact (Lmc.setLamp_rest ..).2.2.2.2.2.2.2.2.1
  rw [lampFail_eq]
  split
  · rw [setPower_ramp]
    simpa [State.beginMotion] using hnoted
  · rw [setPower_ramp, hnoted]

/-- R64: the changer has arrived: the target is active, its reasons and NO_LAMP with it. -/
def State.arrived (s : State) (target : LampPos) : State :=
  let s1 := State.event (s.setLmc { s.lmc with motion := none, active := target }) .LAMP_CHANGED (some target.num)
  State.evalNoLamp (s1.setLmc { s1.lmc with blanks := { s1.lmc.blanks with changer := false } })

theorem motionEnds_eq (s : State) (target : LampPos) : s.motionEnds target =
    if (s.arrived target).lmc.power = .SWAPPING then
      if ((s.arrived target).lmc.lamp (s.arrived target).lmc.active).usable then (s.arrived target).enterIgniting
      else (s.arrived target).setPower .OFF false
    else s.arrived target := rfl

theorem arrived_lmc (s : State) (target : LampPos) : (s.arrived target).lmc = { s.lmc with
    motion := none, active := target, blanks := { s.lmc.blanks with changer := false }
    noLamp := !Lmc.available { s.lmc with active := target } } := by
  unfold State.arrived
  dsimp only
  rw [evalNoLamp_lmc]
  simp only [State.setLmc_lmc, event_frame]
  rfl

theorem lampChanges_ramp (s : State) (low : Bool) : (s.lampChanges low).lmc.ramp = s.lmc.ramp := by
  have hsense : (s.lampSense low).lmc.ramp = s.lmc.ramp := by
    unfold State.lampSense
    split
    · exact lampFail_ramp _
    · rfl
  unfold State.lampChanges State.lampMotion
  split
  · exact hsense
  · split
    · rw [motionEnds_eq, ← hsense]
      split
      · split
        · rw [enterIgniting_ramp, arrived_lmc]
        · rw [setPower_ramp, arrived_lmc]
      · rw [arrived_lmc]
    · exact hsense

/-! ## The lamp block after the update -/

theorem Lmc.lamp_with_power (l : Lmc) (x : Power) (p : LampPos) : Lmc.lamp { l with power := x } p = l.lamp p := by
  cases p <;> rfl

/-- R62: an update without a motion, at which no failure is found. -/
theorem lampUpdate_calm_lmc {low : Bool} {s : State} (hm : s.lmc.motion = none)
    (h : ¬(low = true ∧ s.lmc.power = .LIT ∧ 200 ≤ s.lmc.outDrive ∧ 3 ≤ s.lmc.failCount + 1)) :
    ∃ c, s.lampChanges low = s.setLmc { s.lmc with failCount := c } ∧ (lampUpdate low s).lmc =
      { ((s.setLmc { s.lmc with failCount := c }).formed false).setLamp s.lmc.active
          ((s.setLmc { s.lmc with failCount := c }).formed false).accrued with
        power := ((s.setLmc { s.lmc with failCount := c }).formed false).reached } := by
  have hw := lampChanges_calm hm h
  refine ⟨_, hw, (lampUpdate_lmc hw ?_).1⟩
  rw [State.setLmc_lmc]
  cases s.lmc.power <;> rfl

/-- Settles O23. -/
theorem rampIgnitionAndLitSecondComplete : Obligations.RampIgnitionAndLitSecondComplete := by
  refine fun dt low s hp => ⟨fun r hr hend => ?ramp, fun hpow hm hlen hj => ?ignition, fun hpow hm hlow hacc => ?second⟩
  case ramp =>
    have hn : r.n ≤ r.k + 1 := by omega
    have hform : rampEnd low (s.advance dt) = lampUpdate low (s.advance dt) := by
      have hramp : (s.advance dt).lmc.ramp = some r := hr
      rw [rampEnd, hramp]
      exact if_pos (endsNext_iff.mpr hn)
    obtain ⟨w, hw⟩ : ∃ w, w = (s.advance dt).lampChanges low := ⟨_, rfl⟩
    have hwr : w.lmc.ramp = some r := by rw [hw, lampChanges_ramp]; exact hr
    obtain ⟨hlmc, -, -⟩ := lampUpdate_lmc hw.symm rfl
    obtain ⟨-, -, -, -, -, -, -, hlevel, hramp, -⟩ := Lmc.setLamp_rest
      (w.formed (w.lmc.power == .IGNITING && (s.advance dt).lmc.power != .IGNITING)) w.lmc.active
      (w.formed (w.lmc.power == .IGNITING && (s.advance dt).lmc.power != .IGNITING)).accrued
    obtain ⟨hnl, hnr⟩ := nextRamp_some hwr
    refine ⟨_, next_take hp hform, by simp [State.sameBut], next_take hp rfl, ?_, ?_⟩
    · rw [hlmc]
      exact hramp.trans (hnr.trans (if_pos hn))
    · rw [hlmc]
      refine hlevel.trans (hnl.trans ?_)
      split
      · rfl
      · rename_i h0
        rw [show r.k + 1 = r.n by omega]
        exact rampLevel_end (by omega)
  case ignition =>
    have hform : ignitionComplete low (s.advance dt) = lampUpdate low (s.advance dt) := if_pos ⟨hpow, Nat.le_of_eq hj.symm⟩
    have hcalm : ¬(low = true ∧ (s.advance dt).lmc.power = .LIT ∧ 200 ≤ (s.advance dt).lmc.outDrive ∧
        3 ≤ (s.advance dt).lmc.failCount + 1) := fun hc => absurd (hpow.symm.trans hc.2.1) (by decide)
    obtain ⟨c, -, hlmc⟩ := lampUpdate_calm_lmc (s := s.advance dt) hm hcalm
    have hcount : (((s.advance dt).setLmc { (s.advance dt).lmc with failCount := c }).formed false).ignJ = s.lmc.ignJ + 1 := by
      change Lmc.nextJ { s.lmc with failCount := c } false = _
      unfold Lmc.nextJ
      rw [hpow]
      rfl
    refine ⟨_, next_take hp hform, by simp [State.sameBut], next_take hp rfl, ?_, ?_⟩
    · rw [hlmc]
      exact if_pos ⟨hpow, by rw [hcount]; exact Nat.le_of_eq hj.symm⟩
    · rw [hlmc]
      obtain ⟨-, -, -, -, -, -, -, -, -, -, -, hdrive, -⟩ := Lmc.setLamp_rest
        (((s.advance dt).setLmc { (s.advance dt).lmc with failCount := c }).formed false) s.lmc.active
        (((s.advance dt).setLmc { (s.advance dt).lmc with failCount := c }).formed false).accrued
      refine hdrive.trans ?_
      change State.nextDrive ((s.advance dt).setLmc { s.lmc with failCount := c }) false = _
      unfold State.nextDrive Lmc.nextJ
      simp only [State.setLmc_lmc, hpow, Bool.false_eq_true, if_false]
      rw [hj, Nat.mul_div_cancel _ hlen]
  case second =>
    have hcalm : ¬(low = true ∧ (s.advance dt).lmc.power = .LIT ∧ 200 ≤ (s.advance dt).lmc.outDrive ∧
        3 ≤ (s.advance dt).lmc.failCount + 1) := fun hc => absurd (hlow.symm.trans hc.1) (by decide)
    have hburns : s.lmc.power.burns = true := burns_iff.mpr hpow.symm
    obtain ⟨c, hw, hlmc⟩ := lampUpdate_calm_lmc (s := s.advance dt) hm hcalm
    have hlamp : Lmc.lamp { s.lmc with failCount := c } s.lmc.active = s.lmc.lamp s.lmc.active := by
      cases s.lmc.active <;> rfl
    have hform : litSecond low (s.advance dt) = lampUpdate low (s.advance dt) := by
      refine if_pos ?_
      rw [hw, Bool.and_eq_true, decide_eq_true_iff]
      refine ⟨hburns, ?_⟩
      change 100 ≤ (Lmc.lamp { s.lmc with failCount := c } s.lmc.active).acc + 1
      rw [hlamp, hacc]
    have hformed : ∀ p, (((s.advance dt).setLmc { (s.advance dt).lmc with failCount := c }).formed false).lamp p = s.lmc.lamp p := by
      intro p
      cases p <;> rfl
    have hfull : (((s.advance dt).setLmc { (s.advance dt).lmc with failCount := c }).formed false).accrued =
        { s.lmc.lamp s.lmc.active with
          acc := 0, lit := min ((s.lmc.lamp s.lmc.active).lit + 1) 4294967295
          life := decide (s.lmc.par.life * 3600 ≤ min ((s.lmc.lamp s.lmc.active).lit + 1) 4294967295) } := by
      have hat := hformed s.lmc.active
      unfold Lmc.accrued
      refine (if_pos hburns).trans ?_
      change (if 100 ≤ (Lmc.lamp _ s.lmc.active).acc + 1 then _ else _) = _
      rw [hat, hacc]
      exact if_pos (Nat.le_refl _)
    refine ⟨_, next_take hp hform, by simp [State.sameBut], next_take hp rfl, ?_⟩
    have hend := (Lmc.lamp_setLamp (((s.advance dt).setLmc { (s.advance dt).lmc with failCount := c }).formed false) s.lmc.active
      (((s.advance dt).setLmc { (s.advance dt).lmc with failCount := c }).formed false).accrued).trans hfull
    rw [hlmc, Lmc.lamp_with_power]
    exact ⟨congrArg LampRec.acc hend, congrArg LampRec.lit hend, congrArg LampRec.life hend⟩

/-! ## A failure, and the changer -/

/-- R54: NO_LAMP depends on the lamps' usability only. -/
theorem Lmc.available_setLamp {l : Lmc} {p : LampPos} {r : LampRec} (h : r.usable = (l.lamp p).usable) :
    (l.setLamp p r).available = l.available := by
  obtain ⟨-, hact, -, -, -, -, -, -, -, -, -, -, hpar⟩ := Lmc.setLamp_rest l p r
  refine Lmc.available_congr hact hpar fun q => ?_
  by_cases hq : q = p
  · rw [hq, Lmc.lamp_setLamp, h]
  · rw [Lmc.lamp_setLamp_ne l r hq]

/-- R55: lit time changes neither the lamp's usability nor its ignitions. -/
theorem Lmc.accrued_rest (l : Lmc) : l.accrued.usable = (l.lamp l.active).usable ∧
    l.accrued.ignitions = (l.lamp l.active).ignitions ∧ l.accrued.failed = (l.lamp l.active).failed := by
  unfold Lmc.accrued
  split
  · split <;> exact ⟨rfl, rfl, rfl⟩
  · exact ⟨rfl, rfl, rfl⟩

/-- An update after whose steps 1 and 2 the lamp is out of use. -/
theorem lampUpdate_unlit_lmc {low : Bool} {s w : State} (hw : s.lampChanges low = w)
    (hp : w.lmc.power = .OFF ∨ w.lmc.power = .SWAPPING) : (lampUpdate low s).lmc = w.formed false := by
  have hfresh : (w.lmc.power == .IGNITING && s.lmc.power != .IGNITING) = false := by
    rcases hp with h | h <;> rw [h] <;> rfl
  have hunlit : (w.setLmc (w.formed false)).lmc.power = .OFF ∨ (w.setLmc (w.formed false)).lmc.power = .SWAPPING := hp
  rw [lampUpdate_eq, hw, hfresh, lampOutputs_eq, reported_unlit hunlit]
  simp

theorem formed_available (s : State) (fresh : Bool) : (s.formed fresh).available = s.lmc.available :=
  Lmc.available_congr rfl rfl fun p => by cases p <;> rfl

/-- R63: what a failure leaves as it was, and what it counts. -/
theorem lampFail_keeps {s : State} (hb : s.lmc.power = .IGNITING ∨ s.lmc.power = .LIT) :
    s.lampFail.lmc.level = s.lmc.level ∧ s.lampFail.lmc.failCount = s.lmc.failCount ∧
      s.lampFail.lmc.available = s.lmc.failed.available := by
  obtain ⟨-, -, -, -, -, -, hcount, hlevel, -, -, -, -, -⟩ :=
    Lmc.setLamp_rest s.lmc s.lmc.active { s.lmc.lamp s.lmc.active with failed := true }
  rw [lampFail_lmc hb]
  split
  · exact ⟨hlevel, hcount, failed_available s.lmc.failed _ _ _ _ _⟩
  · exact ⟨hlevel, hcount, failed_available s.lmc.failed _ _ _ s.lmc.failed.motion s.lmc.failed.blanks⟩

/-- R54: without a usable spare, the failure of the active lamp leaves none. -/
theorem failed_noSpare {l : Lmc} (h : (l.par.changer && (l.lamp l.active.other).usable) = false) : l.failed.available = false := by
  obtain ⟨-, hact, -, -, -, -, -, -, -, -, -, -, hpar⟩ := Lmc.setLamp_rest l l.active { l.lamp l.active with failed := true }
  have hact : l.failed.active = l.active := hact
  have hpar : l.failed.par = l.par := hpar
  have hself : (l.failed.lamp l.active).usable = false := by
    rw [Lmc.failed, Lmc.lamp_setLamp]
    exact Bool.and_false _
  have hother : l.failed.lamp l.active.other = l.lamp l.active.other := Lmc.lamp_setLamp_ne l _ (LampPos.other_ne _)
  rw [Lmc.available, hact, hpar, hself, hother, h]
  rfl

/-- R64: a lamp block at rest after a changer motion. -/
def Lmc.RestsAt (l : Lmc) (target : LampPos) : Prop :=
  l.motion = none ∧ l.active = target ∧ l.blanks.changer = false ∧ l.noLamp = !l.available

theorem Lmc.RestsAt.of_eq {l m : Lmc} {target : LampPos} (h : l.RestsAt target) (hm : m.motion = l.motion) (ha : m.active = l.active)
    (hc : m.blanks.changer = l.blanks.changer) (hn : m.noLamp = l.noLamp) (hv : m.available = l.available) : m.RestsAt target := by
  obtain ⟨hmot, hact, hch, hno⟩ := h
  exact ⟨hm.trans hmot, ha.trans hact, hc.trans hch, by rw [hn, hno, hv]⟩

theorem arrived_restsAt (s : State) (target : LampPos) : (s.arrived target).lmc.RestsAt target := by
  rw [arrived_lmc]
  exact ⟨rfl, rfl, rfl, congrArg (!·) (Lmc.available_congr rfl rfl fun p => by cases p <;> rfl).symm⟩

theorem setPower_restsAt {s : State} {target : LampPos} (p : Power) (trip : Bool) (h : s.lmc.RestsAt target) :
    (s.setPower p trip).lmc.RestsAt target := by
  by_cases hp : s.lmc.power = p
  · rw [setPower_same s trip hp]
    exact h
  · rw [setPower_lmc s trip hp]
    exact h.of_eq rfl rfl rfl rfl (Lmc.available_congr rfl rfl fun p => by cases p <;> rfl)

theorem lampOff_restsAt {s : State} {target : LampPos} (trip : Bool) (h : s.lmc.RestsAt target) :
    (s.lampOff trip).lmc.RestsAt target := by
  by_cases hp : s.lmc.power = .OFF
  · rw [lampOff_off s trip hp]
    exact h
  · rw [lampOff_lmc s trip hp]
    exact h.of_eq rfl rfl rfl rfl (Lmc.available_congr rfl rfl fun p => by cases p <;> rfl)

theorem ignitionSet_restsAt {s : State} {target : LampPos} (h : s.lmc.RestsAt target) : s.ignitionSet.lmc.RestsAt target := by
  obtain ⟨-, hact, hno, -, -, hmot, -, -, -, hblanks, -, -, -⟩ := Lmc.setLamp_rest s.lmc s.lmc.active
    { s.lmc.lamp s.lmc.active with ignitions := min ((s.lmc.lamp s.lmc.active).ignitions + 1) 65535 }
  have hav := Lmc.available_setLamp (l := s.lmc) (p := s.lmc.active)
    (r := { s.lmc.lamp s.lmc.active with ignitions := min ((s.lmc.lamp s.lmc.active).ignitions + 1) 65535 }) rfl
  rw [ignitionSet_lmc]
  refine h.of_eq hmot hact (congrArg Blanks.changer hblanks) hno (Eq.trans ?_ hav)
  exact Lmc.available_congr rfl rfl fun p => by cases p <;> rfl

theorem setPower_ignJ (s : State) (p : Power) (trip : Bool) : (s.setPower p trip).lmc.ignJ = s.lmc.ignJ := by
  by_cases h : s.lmc.power = p
  · rw [setPower_same s trip h]
  · rw [setPower_lmc s trip h]

/-- R64: the motion has ended: the lamp is off, or its ignition has just begun. -/
theorem motionEnds_restsAt {s : State} (target : LampPos) (hp : s.lmc.power = .OFF ∨ s.lmc.power = .SWAPPING) :
    (s.motionEnds target).lmc.RestsAt target ∧ ((s.motionEnds target).lmc.power = .OFF ∨
      ((s.motionEnds target).lmc.power = .IGNITING ∧ (s.motionEnds target).lmc.ignJ = 0)) := by
  have hrest := arrived_restsAt s target
  have hpow : (s.arrived target).lmc.power = s.lmc.power := by rw [arrived_lmc]
  rw [motionEnds_eq, hpow]
  split
  · split
    · have hset := setPower_restsAt .IGNITING false (ignitionSet_restsAt hrest)
      have hj : ((s.arrived target).ignitionSet.setPower .IGNITING false).lmc.ignJ = 0 := by rw [setPower_ignJ, ignitionSet_lmc]
      rw [enterIgniting_eq]
      split
      · exact ⟨lampOff_restsAt false hset, .inl (lampOff_lmc_power ..)⟩
      · exact ⟨hset, .inr ⟨setPower_lmc_power .., hj⟩⟩
    · exact ⟨setPower_restsAt _ _ hrest, .inl (setPower_lmc_power ..)⟩
  · rename_i hno
    exact ⟨hrest, .inl (hpow.trans (hp.resolve_right hno))⟩

/-- R64: the motion ends with the lamp out of use. -/
theorem motionEnds_unusable {s : State} {target : LampPos} (hp : s.lmc.power = .SWAPPING)
    (hu : (s.lmc.lamp target).usable = false) : (s.motionEnds target).lmc.power = .OFF := by
  have hpow : (s.arrived target).lmc.power = .SWAPPING := by rw [arrived_lmc]; exact hp
  have hno : ((s.arrived target).lmc.lamp (s.arrived target).lmc.active).usable = false := by
    rw [arrived_lmc]
    refine Eq.trans ?_ hu
    cases target <;> rfl
  rw [motionEnds_eq, if_pos hpow, if_neg (by simp [hno])]
  exact setPower_lmc_power ..

/-- R64: the motion ends, and the lamp moved in ignites. -/
theorem motionEnds_usable {s : State} {target : LampPos} (hp : s.lmc.power = .SWAPPING) (hu : (s.lmc.lamp target).usable = true)
    (hl : s.thc.lost = false ∨ s.thc.loss30 = false) :
    (s.motionEnds target).lmc.power = .IGNITING ∧ (s.motionEnds target).lmc.ignLen = s.lmc.par.ignTime ∧
      ((s.motionEnds target).lmc.lamp target).ignitions = min ((s.lmc.lamp target).ignitions + 1) 65535 := by
  have hpow : (s.arrived target).lmc.power = .SWAPPING := by rw [arrived_lmc]; exact hp
  have hlamp : (s.arrived target).lmc.lamp target = s.lmc.lamp target := by
    rw [arrived_lmc]
    cases target <;> rfl
  have hact : (s.arrived target).lmc.active = target := by rw [arrived_lmc]
  have hpar : (s.arrived target).lmc.par = s.lmc.par := by rw [arrived_lmc]
  have hthc : (s.arrived target).thc = s.thc := by simp [State.arrived]
  have hform : s.motionEnds target = (s.arrived target).enterIgniting := by
    rw [motionEnds_eq, if_pos hpow, if_pos (by rw [hact, hlamp, hu])]
  rw [hform, enterIgniting_lmc (by rw [hthc]; exact hl) (by rw [hpow]; decide), hact, hlamp, hpar]
  refine ⟨rfl, rfl, ?_⟩
  rw [show ∀ (l : Lmc) (j n : Nat) (x : Power), Lmc.lamp { l with ignJ := j, ignLen := n, power := x } target = l.lamp target from
    fun l j n x => by cases target <;> rfl, Lmc.lamp_setLamp]

/-- R64: the 150th lamp update of a changer motion. -/
theorem lampChanges_arrives {s : State} {low : Bool} {mo : Motion} (hm : s.lmc.motion = some mo) (hc : mo.count = 149)
    (hp : s.lmc.power = .OFF ∨ s.lmc.power = .SWAPPING) :
    s.lampChanges low = (s.setLmc { s.lmc with failCount := 0 }).motionEnds mo.target := by
  have hq : s.senseQualifies = false := by
    unfold State.senseQualifies
    rcases hp with h | h <;> simp [h]
  have hcalm : ¬(low = true ∧ s.lmc.power = .LIT ∧ 200 ≤ s.lmc.outDrive ∧ 3 ≤ s.lmc.failCount + 1) := by
    rintro ⟨-, hlit, -⟩
    rcases hp with h | h <;> exact absurd (h.symm.trans hlit) (by decide)
  rw [State.lampChanges, hm, lampSense_calm hcalm, hq, Bool.and_false]
  exact if_pos (Nat.le_of_eq (by rw [hc]; rfl))

/-- Settles O24. -/
theorem lampFailureAndTheChanger : Obligations.LampFailureAndTheChanger := by
  refine ⟨fun dt s hp hlit hdrive hcount hm => ?failure, fun dt low s mo hp hm hc hpow => ?arrival⟩
  case failure =>
    obtain ⟨z, hz⟩ : ∃ z, z = (s.advance dt).setLmc { s.lmc with failCount := 0 } := ⟨_, rfl⟩
    have hzl : z.lmc = { s.lmc with failCount := 0 } := by rw [hz]; rfl
    have hb : z.lmc.power = .IGNITING ∨ z.lmc.power = .LIT := .inr (by rw [hzl]; exact hlit)
    have hfails : (s.advance dt).failsNow true = true := failsNow_iff.mpr ⟨rfl, hlit, hdrive, Nat.le_of_eq (congrArg (· + 1) hcount).symm⟩
    have hform : lampFailure (s.advance dt) = lampUpdate true (s.advance dt) := if_pos hfails
    have hw : (s.advance dt).lampChanges true = z.lampFail := by
      have hm : (s.advance dt).lmc.motion = none := hm
      rw [State.lampChanges, hm, State.lampSense, if_pos hfails, hz]
      rfl
    have hlamp : ∀ p, z.lmc.lamp p = s.lmc.lamp p := fun p => by rw [hzl]; cases p <;> rfl
    have hother : (z.lmc.par.changer && (z.lmc.lamp z.lmc.active.other).usable) =
        (s.lmc.par.changer && (s.lmc.lamp s.lmc.active.other).usable) := by rw [hlamp, hzl]
    obtain ⟨hpower, -, hfailed, -⟩ := lampFail_power hb
    obtain ⟨hlevel, hfc, hav⟩ := lampFail_keeps hb
    have hunlit : z.lampFail.lmc.power = .OFF ∨ z.lampFail.lmc.power = .SWAPPING := by
      rw [hpower]
      split
      · exact .inr rfl
      · exact .inl rfl
    have hlmc := lampUpdate_unlit_lmc hw hunlit
    refine ⟨_, next_take hp hform, by simp [State.sameBut], next_take hp rfl, ?_⟩
    rw [hlmc]
    refine ⟨?_, ?_, nextDrive_off false hunlit, ?_, ?_, fun hch hu => ?_, fun hno => ?_⟩
    · have hact : z.lmc.active = s.lmc.active := by rw [hzl]
      rw [← hact]
      refine Eq.trans ?_ hfailed
      cases z.lmc.active <;> rfl
    · exact hfc.trans (by rw [hzl])
    · rw [formed_available]
      exact lampFail_noLamp hb
    · have hramp : z.lampFail.lmc.ramp = s.lmc.ramp := by rw [lampFail_ramp, hzl]
      have hlevel : z.lampFail.lmc.level = s.lmc.level := by rw [hlevel, hzl]
      have hnext : z.lampFail.lmc.nextLevel = s.lmc.nextLevel := by rw [Lmc.nextLevel, Lmc.nextLevel, hramp, hlevel]
      exact hnext
    · have hspare : (z.lmc.par.changer && (z.lmc.lamp z.lmc.active.other).usable) = true := by rw [hother, hch, hu]; rfl
      have hswap := lampFail_lmc hb
      rw [if_pos hspare] at hswap
      have hchanger : z.lampFail.lmc.blanks.changer = true := by rw [hswap]
      refine ⟨?_, ?_, hchanger, nextOut_dark (.inr hchanger)⟩
      · exact hpower.trans (if_pos hspare)
      · change z.lampFail.lmc.motion = _
        rw [hswap, hzl]
    · have hnone : (z.lmc.par.changer && (z.lmc.lamp z.lmc.active.other).usable) = false := by
        rw [hother]
        rcases hno with h | h <;> simp [h]
      refine ⟨hpower.trans (if_neg (by simp [hnone])), ?_⟩
      exact (lampFail_noLamp hb).trans (by rw [hav, failed_noSpare hnone]; rfl)
  case arrival =>
    obtain ⟨z, hz⟩ : ∃ z, z = (s.advance dt).setLmc { s.lmc with failCount := 0 } := ⟨_, rfl⟩
    have hzl : z.lmc = { s.lmc with failCount := 0 } := by rw [hz]; rfl
    have hzt : z.thc = s.thc := by rw [hz]; rfl
    have hzpow : z.lmc.power = s.lmc.power := by rw [hzl]
    have hlamp : z.lmc.lamp mo.target = s.lmc.lamp mo.target := by rw [hzl]; cases mo.target <;> rfl
    have hform : changerMotionEnd low (s.advance dt) = lampUpdate low (s.advance dt) := by
      have hm : (s.advance dt).lmc.motion = some mo := hm
      rw [changerMotionEnd, hm]
      exact if_pos (Nat.le_of_eq (by rw [hc]; rfl))
    obtain ⟨w, hwz⟩ : ∃ w, w = z.motionEnds mo.target := ⟨_, rfl⟩
    have hw : (s.advance dt).lampChanges low = w := by
      rw [hwz, hz]
      exact lampChanges_arrives (s := s.advance dt) hm hc hpow
    obtain ⟨hrest, hways⟩ := motionEnds_restsAt mo.target (s := z) (by rw [hzpow]; exact hpow)
    rw [← hwz] at hrest hways
    have hdark : ¬s.lmc.power = .IGNITING := by
      rcases hpow with h | h <;> simp [h]
    obtain ⟨fresh, hfresh⟩ : ∃ fresh, (w.lmc.power == .IGNITING && (s.advance dt).lmc.power != .IGNITING) = fresh := ⟨_, rfl⟩
    have hlit : w.lmc.power = .IGNITING → fresh = true := by
      intro h
      rw [← hfresh, h]
      exact bne_iff_ne.mpr hdark
    obtain ⟨hlmc, -, -⟩ := lampUpdate_lmc hw hfresh
    obtain ⟨-, hact, hno, hj, hlen, hmot, -, -, -, hblanks, -, hdrive, -⟩ :=
      Lmc.setLamp_rest (w.formed fresh) w.lmc.active (w.formed fresh).accrued
    obtain ⟨husable, hign, -⟩ := (w.formed fresh).accrued_rest
    have hjn : w.lmc.power = .IGNITING → (w.formed fresh).ignJ = w.lmc.ignJ := by
      intro h
      change w.lmc.nextJ fresh = _
      rw [Lmc.nextJ, h, hlit h]
      rfl
    have hfinal : (lampUpdate low (s.advance dt)).lmc.RestsAt mo.target := by
      rw [hlmc]
      have hchanger : ((w.formed fresh).setLamp w.lmc.active (w.formed fresh).accrued).blanks.changer = w.lmc.blanks.changer :=
        (congrArg Blanks.changer hblanks).trans rfl
      refine hrest.of_eq hmot hact hchanger hno ?_
      refine Eq.trans (Eq.trans ?_ (Lmc.available_setLamp husable)) (formed_available w fresh)
      exact Lmc.available_congr rfl rfl fun p => by cases p <;> rfl
    obtain ⟨humot, huact, huch, huno⟩ := hfinal
    have hwact : w.lmc.active = mo.target := hrest.2.1
    refine ⟨_, next_take hp hform, by simp [State.sameBut], next_take hp rfl, humot, huact, huch, ?_, huno, fun hoff => ?_,
      fun hsw hu => ?_, fun hsw hu hl hlong => ?_⟩
    · rw [hlmc]
      refine hdrive.trans ?_
      rcases hways with hoff | ⟨hon, hzero⟩
      · exact nextDrive_off fresh (.inl hoff)
      · change w.nextDrive fresh = 0
        have hj0 : w.lmc.nextJ fresh = 0 := (hjn hon).trans hzero
        rw [State.nextDrive, hon, hj0]
        simp
    · have hend : w.lmc.power = .OFF := by
        have harr : (z.arrived mo.target).lmc.power = .OFF := by rw [arrived_lmc]; exact hzpow.trans hoff
        rw [hwz, motionEnds_eq, if_neg (by rw [harr]; decide), harr]
      rw [hlmc]
      exact (if_neg (by rintro ⟨h, -⟩; exact absurd (hend.symm.trans h) (by decide))).trans hend
    · have hend : w.lmc.power = .OFF := hwz ▸ motionEnds_unusable (hzpow.trans hsw) (by rw [hlamp]; exact hu)
      rw [hlmc]
      exact (if_neg (by rintro ⟨h, -⟩; exact absurd (hend.symm.trans h) (by decide))).trans hend
    · obtain ⟨hon, hilen, hiign⟩ := motionEnds_usable (s := z) (hzpow.trans hsw) (by rw [hlamp]; exact hu) (by rw [hzt]; exact hl)
      rw [← hwz] at hon hilen hiign
      have hzero : w.lmc.ignJ = 0 := (hways.resolve_left (by rw [hon]; decide)).2
      have hilen : w.lmc.ignLen = s.lmc.par.ignTime := by rw [hilen, hzl]
      have hj0 : (w.formed fresh).ignJ = 0 := (hjn hon).trans hzero
      rw [hlmc]
      refine ⟨?_, hj.trans hj0, hlen.trans hilen, ?_⟩
      · refine (if_neg ?_).trans hon
        rintro ⟨-, h⟩
        have h : w.lmc.ignLen ≤ (w.formed fresh).ignJ := h
        rw [hilen, hj0] at h
        omega
      · rw [Lmc.lamp_with_power, hwact, Lmc.lamp_setLamp, hign]
        have hat : (w.formed fresh).lamp (w.formed fresh).active = w.lmc.lamp mo.target := by
          rw [show (w.formed fresh).active = mo.target from hwact]
          cases mo.target <;> rfl
        rw [hat, hiign, hlamp]

end Sys2Proof.Machine
end

section
/-!
The runner and the sequencer's reports, event by event (R11 to R20, R151, R154): what a move of the runner comes to, and what a report
does while the show does not run.
-/

namespace Sys2Proof.Machine

/-! ## The moves of the runner (R11) -/

theorem settle_wait {s : State} {r : RunnerStatus} (n : Nat) (rep : Bool) (h : s.headMove = .wait r) :
    State.settle (n + 1) rep s = s.setAq { s.aq with runner := r } := by
  rw [State.settle, h]

theorem settle_start {s : State} {e : Entry} (n : Nat) (rep : Bool) (h : s.headMove = .start e) :
    State.settle (n + 1) rep s = State.settle n rep (s.startHead e) := by
  rw [State.settle, h]

theorem settle_leave {s : State} {e : Entry} {d : Bool} (n : Nat) (rep : Bool) (h : s.headMove = .leave e d) :
    State.settle (n + 1) rep s = State.settle n rep (s.depart e d rep) := by
  rw [State.settle, h]

theorem headMove_empty {s : State} (h : s.aq.queue = []) : s.headMove = .wait .EMPTY := by
  rw [State.headMove, h]

theorem headMove_running {s : State} {e : Entry} {rest : List Entry} (h : s.aq.queue = e :: rest) (hr : e.running = true) :
    s.headMove = s.runningMove e := by
  rw [State.headMove, h]
  exact if_pos hr

theorem headMove_queued {s : State} {e : Entry} {rest : List Entry} (h : s.aq.queue = e :: rest) (hr : e.running = false) :
    s.headMove = s.queuedMove e := by
  rw [State.headMove, h]
  exact if_neg (by simp [hr])

/-- R12: a CHANGE or SEEK at the head of a mechanism that is PARKED leaves. -/
theorem headMove_parked {s : State} {e : Entry} {rest : List Entry} (h : s.aq.queue = e :: rest) (hm : e.action.mech = true)
    (hst : s.tmc.st = .PARKED) : s.headMove = .leave e true := by
  cases hr : e.running
  · rw [headMove_queued h hr, State.queuedMove, if_pos hm, hst]
  · rw [headMove_running h hr, State.runningMove]
    cases ha : e.action <;> simp_all [Action.mech]

theorem headMove_holding {s : State} {e : Entry} {rest : List Entry} {ms : Nat} (h : s.aq.queue = e :: rest)
    (hr : e.running = true) (ha : e.action = .HOLD ms) (hd : s.aq.holdDue.isSome = true) : s.headMove = .wait .RUNNING := by
  rw [headMove_running h hr, State.runningMove, ha]
  exact if_pos hd

/-! ## Notices as changes of the link -/

theorem event_eq_setLki (s : State) (k : NoticeKind) (x : Option Nat) : s.event k x = s.setLki (s.event k x).lki := by
  unfold State.event State.notice
  split <;> rfl

theorem resetEnd_eq_setLki (s : State) : s.resetEnd = s.setLki s.resetEnd.lki := by
  obtain ⟨l, hl⟩ := resetEnd_touches_link s
  rw [hl]
  rfl

theorem resetEnd_of_not_resetting {s : State} (h : s.lki.resetting = false) : s.resetEnd = s := if_neg (by simp [h])

/-- R17: the notice of a departure. -/
def State.dropNoted (s : State) (e : Entry) (dropped : Bool) : State := if dropped then s.event .ACTION_DROPPED e.tag else s

theorem dropNoted_setAq (s : State) (a : Aq) (e : Entry) (d : Bool) :
    (s.setAq a).dropNoted e d = (s.dropNoted e d).setAq a := by
  cases d
  · rfl
  · exact event_setAq ..

theorem dropNoted_eq_setLki (s : State) (e : Entry) (d : Bool) : s.dropNoted e d = s.setLki (s.dropNoted e d).lki := by
  cases d
  · rfl
  · exact event_eq_setLki ..

theorem dropNoted_resetting (s : State) (e : Entry) (d : Bool) : (s.dropNoted e d).lki.resetting = s.lki.resetting := by
  cases d
  · rfl
  · simp [State.dropNoted]

/-! ## Reports while the show does not run (R17, R151) -/

theorem endTest_still {s : State} (h : s.ssq.st ≠ .RUNNING) : s.endTest = s := if_neg (fun hc => h hc.1)

/-- R151: while the show does not run, only the FOLLOW timer can take a report. -/
theorem checks_still (n : Nat) {s : State} (h : s.ssq.st ≠ .RUNNING) :
    ∃ f, State.checks (n + 1) s = s.setSsq { s.ssq with follow := f } := by
  unfold State.checks
  split
  · exact ⟨s.ssq.follow, endTest_still h⟩
  · split
    · rename_i hrun
      exact absurd hrun h
    · exact ⟨_, endTest_still h⟩
    all_goals exact ⟨s.ssq.follow, endTest_still h⟩

theorem offerPending_still {s : State} (h : s.ssq.st ≠ .RUNNING) : s.offerPending = s := by
  unfold State.offerPending
  split
  · exact if_neg (fun hc => h hc.1)
  · rfl

theorem takeReport_still {s : State} (h : s.ssq.st ≠ .RUNNING) : ∃ f, s.takeReport = s.setSsq { s.ssq with follow := f } := by
  rw [State.takeReport, offerPending_still h]
  exact checks_still 255 h

theorem report_still {s : State} (rep : Bool) (tag : Option Nat) (m : Manner) (h : s.ssq.st ≠ .RUNNING) :
    ∃ f, s.report rep tag m =
      (s.setAq { s.aq with lastReport := some { tag := tag, manner := m, room := s.room } }).setSsq { s.ssq with follow := f } := by
  cases rep
  · exact ⟨s.ssq.follow, endTest_still (by simpa using h)⟩
  · obtain ⟨f, hf⟩ := takeReport_still
      (s := s.setAq { s.aq with lastReport := some { tag := tag, manner := m, room := s.room } }) (by simpa using h)
    exact ⟨f, hf⟩

/-- R17: the reports of a flush, while the show does not run. -/
theorem reportAll_still {s : State} (rep : Bool) (l : List (Option Nat × Manner)) (h : s.ssq.st ≠ .RUNNING) :
    ∃ f x, s.reportAll rep l = (s.setAq { s.aq with lastReport := x }).setSsq { s.ssq with follow := f } ∧
      ∀ d, l = [d] → x = some { tag := d.1, manner := d.2, room := s.room } := by
  induction l generalizing s with
  | nil => exact ⟨s.ssq.follow, s.aq.lastReport, rfl, by simp⟩
  | cons d l ih =>
    obtain ⟨f, hf⟩ := report_still rep d.1 d.2 h
    have hnext : s.reportAll rep (d :: l) = (s.report rep d.1 d.2).reportAll rep l := rfl
    obtain ⟨g, x, hg, -⟩ := ih (s := s.report rep d.1 d.2) (by rw [hf]; exact h)
    rw [hnext]
    cases l with
    | nil =>
      refine ⟨f, _, hf, fun e he => ?_⟩
      obtain rfl : d = e := by simpa using he
      rfl
    | cons e l =>
      refine ⟨g, x, ?_, by simp⟩
      rw [hg, hf]
      rfl

/-- R17: an entry leaves the queue while the show does not run. -/
theorem depart_still {s : State} (e : Entry) (d rep : Bool) (h : s.ssq.st ≠ .RUNNING) :
    ∃ f p l, s.depart e d rep = ((s.setAq { s.aq with
        queue := s.aq.queue.tail, stopPending := p
        lastReport := some { tag := e.tag, manner := if d then .DROPPED else .COMPLETED
                             room := if s.lki.resetting then 0 else 12 - s.aq.queue.tail.length } }).setSsq
          { s.ssq with follow := f }).setLki l ∧
      (s.aq.stopPending = false → p = false ∧ (s.lki.resetting = false → l = (s.dropNoted e d).lki)) := by
  obtain ⟨w, hw⟩ : ∃ w, w = (s.setAq { s.aq with queue := s.aq.queue.tail }).dropNoted e d := ⟨_, rfl⟩
  have hwe : w = (s.setAq { s.aq with queue := s.aq.queue.tail }).setLki (s.dropNoted e d).lki := by
    rw [hw, dropNoted_setAq, dropNoted_eq_setLki]
    rfl
  have hroom : w.room = if s.lki.resetting then 0 else 12 - s.aq.queue.tail.length := by
    rw [hwe, State.room, State.setLki_lki, dropNoted_resetting]
    rfl
  obtain ⟨f, hf⟩ := report_still (s := w) rep e.tag (if d then .DROPPED else .COMPLETED) (by rw [hwe]; exact h)
  have hform : s.depart e d rep = (if e.running then (w.report rep e.tag (if d then .DROPPED else .COMPLETED)).stoppedIfPending
      else w.report rep e.tag (if d then .DROPPED else .COMPLETED)).resetEnd := by rw [hw]; rfl
  rw [hform, hf, hroom]
  by_cases hp : e.running = true ∧ s.aq.stopPending = true
  · have hpend : w.aq.stopPending = true := by rw [hwe]; exact hp.2
    rw [if_pos hp.1, State.stoppedIfPending, if_pos (by exact hpend), resetEnd_eq_setLki, event_eq_setLki]
    refine ⟨f, false, ?link, ?form, fun hno => absurd (hno.symm.trans hp.2) (by decide)⟩
    case form =>
      rw [hwe]
      rfl
  · have hsame : ∀ v : State, v.aq.stopPending = s.aq.stopPending → (if e.running then v.stoppedIfPending else v) = v := by
      intro v hv
      split
      · rename_i hr
        exact if_neg (fun hc => hp ⟨hr, hv ▸ hc⟩)
      · rfl
    obtain ⟨v, hv⟩ : ∃ v, v = ((s.setAq { s.aq with
        queue := s.aq.queue.tail
        lastReport := some { tag := e.tag, manner := if d then .DROPPED else .COMPLETED
                             room := if s.lki.resetting then 0 else 12 - s.aq.queue.tail.length } }).setSsq
          { s.ssq with follow := f }).setLki (s.dropNoted e d).lki := ⟨_, rfl⟩
    have hwv : (w.setAq { w.aq with
        lastReport := some { tag := e.tag, manner := if d then .DROPPED else .COMPLETED
                             room := if s.lki.resetting then 0 else 12 - s.aq.queue.tail.length } }).setSsq
          { w.ssq with follow := f } = v := by
      rw [hv, hwe]
      rfl
    rw [hwv, hsame v (by rw [hv]; rfl), resetEnd_eq_setLki]
    refine ⟨f, s.aq.stopPending, v.resetEnd.lki, by rw [hv]; rfl, fun hno => ⟨hno, fun hr => ?_⟩⟩
    rw [resetEnd_of_not_resetting (by rw [hv]; exact (dropNoted_resetting s e d).trans hr), hv]
    rfl

/-- R165: the runner does not start a show that does not run. -/
theorem settle_ssq_still (n : Nat) (rep : Bool) {s : State} (h : s.ssq.st ≠ .RUNNING) :
    ∃ f, (State.settle n rep s).ssq = { s.ssq with follow := f } ∧
      (s.aq.stopPending = false → (State.settle n rep s).aq.stopPending = false) := by
  induction n generalizing s with
  | zero => exact ⟨s.ssq.follow, rfl, id⟩
  | succ n ih =>
    cases hm : s.headMove with
    | wait r =>
      rw [settle_wait n rep hm]
      exact ⟨s.ssq.follow, rfl, id⟩
    | start e =>
      have hq : (s.startHead e).ssq = s.ssq ∧ (s.startHead e).aq.stopPending = s.aq.stopPending := by simp
      obtain ⟨f, hf, hp⟩ := ih (s := s.startHead e) (by rw [hq.1]; exact h)
      rw [settle_start n rep hm, hf, hq.1]
      exact ⟨f, rfl, fun hs => hp (hq.2.trans hs)⟩
    | leave e d =>
      obtain ⟨g, p, l, hd, hpd⟩ := depart_still e d rep h
      obtain ⟨f, hf, hp⟩ := ih (s := s.depart e d rep) (by rw [hd]; exact h)
      rw [settle_leave n rep hm, hf]
      refine ⟨f, by rw [hd]; rfl, fun hs => hp ?_⟩
      rw [hd]
      exact (hpd hs).1

/-! ## The mechanism out of use (R12) -/

/-- R12: the runner starts nothing at a mechanism that is PARKED or JAMMED: its registers stay, and MECH with them. -/
theorem settle_outOfUse (n : Nat) (rep : Bool) {s : State} (h : s.tmc.st = .PARKED ∨ s.tmc.st = .JAMMED) :
    (State.settle n rep s).tmc = s.tmc ∧ (State.settle n rep s).lmc.blanks.mech = s.lmc.blanks.mech := by
  induction n generalizing s with
  | zero => exact ⟨rfl, rfl⟩
  | succ n ih =>
    cases hm : s.headMove with
    | wait r =>
      rw [settle_wait n rep hm]
      exact ⟨rfl, rfl⟩
    | start e =>
      obtain ⟨-, -, -, hidle⟩ := headMove_start hm
      have hkept : (s.startHead e).tmc = s.tmc ∧ (s.startHead e).lmc.blanks.mech = s.lmc.blanks.mech := by
        unfold State.startHead State.startEffect
        rcases h with h | h <;> cases ha : e.action <;> simp [ha, Action.mech, h, State.startRamp, State.setManual, State.setVolume] at hidle ⊢
        all_goals (try split) <;> simp
      obtain ⟨htmc, hmech⟩ := ih (s := s.startHead e) (by rw [hkept.1]; exact h)
      rw [settle_start n rep hm]
      exact ⟨htmc.trans hkept.1, hmech.trans hkept.2⟩
    | leave e d =>
      have hkept : (s.depart e d rep).tmc = s.tmc ∧ (s.depart e d rep).lmc = s.lmc := by simp
      obtain ⟨htmc, hmech⟩ := ih (s := s.depart e d rep) (by rw [hkept.1]; exact h)
      rw [settle_leave n rep hm]
      exact ⟨htmc.trans hkept.1, hmech.trans (by rw [hkept.2])⟩

theorem finish_outOfUse {s : State} (h : s.tmc.st = .PARKED ∨ s.tmc.st = .JAMMED) :
    s.finish.tmc = s.tmc ∧ s.finish.lmc.blanks.mech = s.lmc.blanks.mech := by
  obtain ⟨htmc, hmech⟩ := settle_outOfUse runnerFuel true h
  exact ⟨htmc, hmech⟩

/-- R165: nor does the end of a command. -/
theorem finish_ssq_still {s : State} (h : s.ssq.st ≠ .RUNNING) : ∃ f, s.finish.ssq = { s.ssq with follow := f } ∧
    (s.aq.stopPending = false → s.finish.aq.stopPending = false) := by
  obtain ⟨f, hf, hp⟩ := settle_ssq_still runnerFuel true h
  have hssq : s.finish.ssq = (State.settle runnerFuel true s).ssq := (refresh_frame s.runHead).2.2.2.2.2.2.2.1
  have haq : s.finish.aq = (State.settle runnerFuel true s).aq := (refresh_frame s.runHead).2.2.2.1
  exact ⟨f, hssq.trans hf, fun hs => haq ▸ hp hs⟩

end Sys2Proof.Machine
end

section
/-!
The tray is set on and lifted off (R23 to R25), and the queue at the entry to PARKED (R12).
-/

namespace Sys2Proof.Machine

/-! ## The runner over a queue that a mechanism out of use empties -/

theorem runHead_empty {s : State} (h : s.aq.queue = []) : s.runHead = s.setAq { s.aq with runner := .EMPTY } :=
  settle_empty 8191 true s h

theorem finish_empty {s : State} (h : s.aq.queue = []) : s.finish = (s.setAq { s.aq with runner := .EMPTY }).refresh := by
  rw [State.finish, runHead_empty h]

/-- R11: the head waits. -/
theorem runHead_wait {s : State} {r : RunnerStatus} (h : s.headMove = .wait r) :
    s.runHead = s.setAq { s.aq with runner := r } := settle_wait 8191 true h

/-- R12, R17: the only entry leaves at once while the show does not run. -/
theorem runHead_leave_only {s : State} {e : Entry} {d : Bool} (hq : s.aq.queue = [e]) (hm : s.headMove = .leave e d)
    (hs : s.ssq.st ≠ .RUNNING) (hp : s.aq.stopPending = false) (hr : s.lki.resetting = false) :
    s.runHead.aq.queue = [] ∧ s.runHead.lki = (s.dropNoted e d).lki ∧
      s.runHead.aq.lastReport = some { tag := e.tag, manner := if d then .DROPPED else .COMPLETED, room := 12 } := by
  obtain ⟨f, p, l, hd, hpd⟩ := depart_still e d true hs
  obtain ⟨-, hl⟩ := hpd hp
  have hgone : (s.depart e d true).aq.queue = [] := by rw [hd, hq]; rfl
  have hrun : s.runHead = (s.depart e d true).setAq { (s.depart e d true).aq with runner := .EMPTY } :=
    (settle_leave 8191 true hm).trans (settle_empty 8190 true _ hgone)
  rw [hrun, hd, hq, hr]
  exact ⟨rfl, hl hr, rfl⟩

/-- R12, R17: two entries leave at once while the show does not run. -/
theorem runHead_leave_two {s : State} {e f : Entry} (hq : s.aq.queue = [e, f]) (he : e.action.mech = true) (hf : f.action.mech = true)
    (hst : s.tmc.st = .PARKED) (hs : s.ssq.st ≠ .RUNNING) (hp : s.aq.stopPending = false) (hr : s.lki.resetting = false) :
    s.runHead.aq.queue = [] ∧ s.runHead.lki = ((s.event .ACTION_DROPPED e.tag).event .ACTION_DROPPED f.tag).lki := by
  obtain ⟨g, p, l, hd, hpd⟩ := depart_still e true true hs
  obtain ⟨hp1, hl⟩ := hpd hp
  have hl1 : l = (s.event .ACTION_DROPPED e.tag).lki := hl hr
  obtain ⟨u, hu⟩ : ∃ u, u = s.depart e true true := ⟨_, rfl⟩
  have huq : u.aq.queue = [f] := by rw [hu, hd, hq]; rfl
  have hut : u.tmc.st = .PARKED := by rw [hu, hd]; exact hst
  have hul : u.lki = (s.event .ACTION_DROPPED e.tag).lki := by rw [hu, hd]; exact hl1
  have hun : u.now = s.now := by rw [hu, hd]; rfl
  have hus : u.ssq.st ≠ .RUNNING := by rw [hu, hd]; exact hs
  have hup : u.aq.stopPending = false := by rw [hu, hd]; exact hp1
  have hur : u.lki.resetting = false := by rw [hul]; simpa using hr
  have hmove := headMove_parked huq hf hut
  obtain ⟨g2, p2, l2, hd2, hpd2⟩ := depart_still f true true hus
  obtain ⟨-, hl2⟩ := hpd2 hup
  have hgone : (u.depart f true true).aq.queue = [] := by rw [hd2, huq]; rfl
  have hrun : s.runHead = (u.depart f true true).setAq { (u.depart f true true).aq with runner := .EMPTY } := by
    have hfirst := settle_leave 8191 true (headMove_parked hq he hst)
    rw [← hu] at hfirst
    exact hfirst.trans ((settle_leave 8190 true hmove).trans (settle_empty 8189 true _ hgone))
  rw [hrun]
  refine ⟨hgone, ?_⟩
  rw [hd2]
  refine (hl2 hur).trans ?_
  exact notice_lki_congr (s.event .ACTION_DROPPED e.tag) u .ACTION_DROPPED false f.tag hul (hun.trans (by simp))

/-! ## The tray -/

theorem codeSize_of {code : TrayCode} {n : Nat} (h : (code = .c80 ∧ n = 80) ∨ (code = .c120 ∧ n = 120)) : codeSize code = some n := by
  rcases h with ⟨rfl, rfl⟩ | ⟨rfl, rfl⟩ <;> rfl

/-- R24: the tray is known, and homing begins. -/
theorem qualify_size {s : State} {code : TrayCode} {n : Nat} (h : codeSize code = some n) : s.qualify code =
    (((s.setTmc { s.tmc with qualDue := none, size := some n }).event .TRAY_INSERTED none).putMech
      { s.tmc with qualDue := none, size := some n, dir := .forward, st := .HOMING, phase := some .DARKEN
                   timer := none, retriedLift := false, retriedDrop := false, steps := 0 }) := by
  unfold State.qualify
  rw [h]
  dsimp only
  rw [startHoming_eq]
  simp

theorem qualify_unknown {s : State} {code : TrayCode} (h : codeSize code = none) :
    s.qualify code = (s.setTmc { s.tmc with qualDue := none }).event .TRAY_INVALID none := by
  unfold State.qualify
  rw [h]

/-- R25: the mechanism as the runner finds it at the entry to PARKED. -/
def State.trayGone (s : State) : State := (s.putMech s.tmc.removed).event .TRAY_REMOVED none

theorem trayRemoval_gone {s : State} (hp : s.tmc.trayPresent = true) (hq : s.tmc.qualDue = none) :
    trayRemoval s = s.trayGone.runHead.resetEnd := by
  unfold trayRemoval
  rw [if_neg (by simp [hp]), if_neg (by simp [hq]), enterParked_eq]
  rfl

theorem trayGone_facts (s : State) : s.trayGone.tmc = s.tmc.removed ∧ s.trayGone.lmc.blanks.mech = true ∧ s.trayGone.aq = s.aq ∧
    s.trayGone.ssq = s.ssq ∧ s.trayGone.lki = (s.event .TRAY_REMOVED none).lki ∧ s.trayGone.now = s.now := by
  refine ⟨by simp [State.trayGone, State.putMech], by simp [State.trayGone, State.putMech, Tmc.removed],
    by simp [State.trayGone, State.putMech], by simp [State.trayGone, State.putMech], ?_, by simp [State.trayGone, State.putMech]⟩
  exact notice_lki_congr s (s.putMech s.tmc.removed) .TRAY_REMOVED false none rfl rfl

/-- Settles O13. -/
theorem trayIsSetOnAndLiftedOff : Obligations.TrayIsSetOnAndLiftedOff := by
  refine ⟨fun dt s hp => ⟨fun habs => ?inserted, fun code due n hdue hcode => ?qualified, fun code due hdue hcode => ?invalid⟩,
    fun dt s hp htray => ⟨fun hq => ?removed, fun due hq => ?abandoned⟩, fun dt s t0 hp htray hq hs hstop hreset ht0 => ?queue⟩
  case inserted =>
    exact next_take hp (if_neg (by simp [habs]))
  case qualified =>
    have hform : trayQualifyExpiry code (s.advance dt) = ((s.advance dt).reach due).qualify code := by
      have hdue : (s.advance dt).tmc.qualDue = some due := hdue
      rw [trayQualifyExpiry, hdue]
      rfl
    have hsize := qualify_size (s := (s.advance dt).reach due) (codeSize_of hcode)
    refine ⟨_, next_take hp (hform.trans hsize), ?_, ?_, ?_, ?_, ?_⟩
    · simp [State.sameBut, State.putMech, State.reach]
    · simp [State.putMech, State.reach]
    · simp [State.putMech, State.reach]
    · simp [State.putMech]
    · exact notice_lki_congr ((s.advance dt).reach due) _ .TRAY_INSERTED false none rfl rfl
  case invalid =>
    have hnone : codeSize code = none := by rcases hcode with rfl | rfl <;> rfl
    refine next_take hp ?_
    have hdue : (s.advance dt).tmc.qualDue = some due := hdue
    rw [trayQualifyExpiry, hdue, whenDue_some, qualify_unknown hnone]
    rfl
  case removed =>
    obtain ⟨htmc, hmech, -⟩ := trayGone_facts (s.advance dt)
    have hpark : (s.advance dt).trayGone.tmc.st = .PARKED := by rw [htmc]; rfl
    obtain ⟨hrun, hrunMech⟩ := settle_outOfUse runnerFuel true (.inl hpark)
    have hend : (s.advance dt).trayGone.runHead.resetEnd.tmc = (s.advance dt).tmc.removed ∧
        (s.advance dt).trayGone.runHead.resetEnd.lmc.blanks.mech = true := by
      rw [resetEnd_eq_setLki]
      exact ⟨hrun.trans htmc, hrunMech.trans hmech⟩
    obtain ⟨hfin, hfinMech⟩ := finish_outOfUse (s := (s.advance dt).trayGone.runHead.resetEnd) (.inl (by rw [hend.1]; rfl))
    refine ⟨_, next_take hp (trayRemoval_gone htray hq), ?_, hfinMech.trans hend.2⟩
    rw [hfin, hend.1]
    unfold Tmc.removed
    have hq : (s.advance dt).tmc.qualDue = none := hq
    rw [← hq]
    rfl
  case abandoned =>
    refine next_take hp ?_
    have hq : (s.advance dt).tmc.qualDue = some due := hq
    have htray : (s.advance dt).tmc.trayPresent = true := htray
    rw [trayRemoval, htray, hq]
    rfl
  case queue =>
    obtain ⟨u, hu⟩ : ∃ u, u = (s.advance dt).trayGone := ⟨_, rfl⟩
    obtain ⟨htmc, -, haq, hssq, hlki, hnow⟩ := trayGone_facts (s.advance dt)
    rw [← hu] at htmc haq hssq hlki hnow
    rw [← ht0] at hlki
    have hpark : u.tmc.st = .PARKED := by rw [htmc]; rfl
    have hus : u.ssq.st ≠ .RUNNING := by rw [hssq]; exact hs
    have hup : u.aq.stopPending = false := by rw [haq]; exact hstop
    have hur : u.lki.resetting = false := by rw [hlki, ht0]; simpa using hreset
    have hform : trayRemoval (s.advance dt) = u.runHead.resetEnd := hu ▸ trayRemoval_gone htray hq
    have hnoted : ∀ x, (u.event .ACTION_DROPPED x).lki = (t0.event .ACTION_DROPPED x).lki := fun x =>
      notice_lki_congr t0 u .ACTION_DROPPED false x hlki (by rw [hnow, ht0]; simp)
    have hdone : u.runHead.aq.queue = [] → u.runHead.lki.resetting = false →
        u.runHead.resetEnd.finish.aq.queue = [] ∧ u.runHead.resetEnd.finish.lki = u.runHead.lki ∧
          u.runHead.resetEnd.finish.aq.lastReport = u.runHead.aq.lastReport := by
      intro hempty hr
      rw [resetEnd_of_not_resetting hr, finish_empty hempty]
      simpa using hempty
    refine ⟨_, next_take hp hform, fun h0 => ?_, fun e h1 he => ?_, fun e f h2 he hf hfr => ?_, fun e rest h3 her hd hhold => ?_⟩
    · have hq0 : u.aq.queue = [] := by rw [haq]; exact h0
      have hrun := runHead_empty hq0
      obtain ⟨hgone, hl, -⟩ := hdone (by rw [hrun]; exact hq0) (by rw [hrun]; exact hur)
      exact ⟨hgone, by rw [hl, hrun]; exact hlki⟩
    · have hq1 : u.aq.queue = [e] := by rw [haq]; exact h1
      obtain ⟨hgone, hl, hrep⟩ := runHead_leave_only hq1 (headMove_parked hq1 he hpark) hus hup hur
      obtain ⟨hgone, hl2, hrep2⟩ := hdone hgone (by rw [hl, dropNoted_resetting]; exact hur)
      exact ⟨hgone, hrep2.trans hrep, hl2.trans (hl.trans (hnoted e.tag))⟩
    · have hq2 : u.aq.queue = [e, f] := by rw [haq]; exact h2
      obtain ⟨hgone, hl⟩ := runHead_leave_two hq2 he hf hpark hus hup hur
      obtain ⟨hgone, hl2, -⟩ := hdone hgone (by rw [hl]; simpa using hur)
      refine ⟨hgone, hl2.trans (hl.trans ?_)⟩
      exact notice_lki_congr (t0.event .ACTION_DROPPED e.tag) (u.event .ACTION_DROPPED e.tag) .ACTION_DROPPED false f.tag (hnoted e.tag)
        (by rw [show (u.event .ACTION_DROPPED e.tag).now = u.now by simp, hnow, ht0]; simp)
    · obtain ⟨ms, hms⟩ := hhold
      have hq3 : u.aq.queue = e :: rest := by rw [haq]; exact h3
      have hwait := headMove_holding hq3 her hms (by rw [haq]; exact hd)
      have hrun := settle_wait 8191 true hwait
      have hagain : (u.setAq { u.aq with runner := .RUNNING }).finish = (u.setAq { u.aq with runner := .RUNNING }).refresh := by
        rw [State.finish, runHead_wait (s := u.setAq { u.aq with runner := .RUNNING }) (r := .RUNNING) hwait]
        rfl
      have hend : u.runHead.resetEnd = u.setAq { u.aq with runner := .RUNNING } := by
        rw [show u.runHead = _ from hrun]
        exact resetEnd_of_not_resetting hur
      rw [hend, hagain]
      exact ⟨by simpa using congrArg Aq.queue haq, by simpa using hlki⟩

end Sys2Proof.Machine
end

section
/-!
What a jam leaves (R12, R20, R29, R43), for each of its causes.
-/

namespace Sys2Proof.Machine

/-! ## The jam in the mechanism (R29, R43) -/

/-- R29: the slots after a jam at a position. -/
def Tmc.jamCounted (t : Tmc) (pos : Option Nat) : List SlotRec :=
  t.slots.mapIdx (fun i r => { r with jams := if pos = some i then min (r.jams + 1) 3 else r.jams })

theorem jamCounted_none (t : Tmc) : t.jamCounted none = t.slots := by
  unfold Tmc.jamCounted
  refine List.ext_getElem (by simp) fun i hi _ => ?_
  simp

theorem jamCounted_some (t : Tmc) (p : Nat) :
    t.jamCounted (some p) = t.slots.modify p (fun r => { r with jams := min (r.jams + 1) 3 }) := by
  unfold Tmc.jamCounted
  refine List.ext_getElem (by simp) fun i hi _ => ?_
  rw [List.getElem_mapIdx, List.getElem_modify]
  by_cases hp : p = i
  · simp [hp]
  · simp [hp]

/-- R29: the position has jammed at its limit. -/
def Tmc.suspect (t : Tmc) (pos : Option Nat) : Bool :=
  match pos with
  | some p => (t.slots[p]?.map (fun r => decide (2 ≤ r.jams))).getD false
  | none => false

/-- R29: a jam is counted, and a suspect slot noticed. -/
theorem countJam_eq (s : State) (pos : Option Nat) : s.countJam pos =
    (if s.tmc.suspect pos then s.event .SLOT_SUSPECT pos else s).setTmc { s.tmc with slots := s.tmc.jamCounted pos } := by
  cases pos with
  | none =>
    rw [jamCounted_none]
    rfl
  | some p =>
    have hcond : ((s.tmc.jamCounted (some p))[p]?.map SlotRec.jams = some 3) ↔ s.tmc.suspect (some p) = true := by
      rw [jamCounted_some, List.getElem?_modify, Tmc.suspect]
      cases s.tmc.slots[p]? with
      | none => simp
      | some r =>
        simp
    rw [countJam_some s p _ (jamCounted_some s.tmc p)]
    by_cases h : s.tmc.suspect (some p) = true
    · rw [if_pos h, if_pos (hcond.mpr h)]
      exact notice_setTmc ..
    · rw [if_neg h, if_neg (mt hcond.mp h)]

/-- R29, R43: the notices of a jam, before the runner takes it. -/
def State.jamNoted (s : State) (pos : Option Nat) : State :=
  (if s.tmc.suspect pos then s.event .SLOT_SUSPECT pos else s).event .JAM pos

theorem jamNoted_lki_congr {s t : State} {pos : Option Nat} (hl : t.lki = s.lki) (hn : t.now = s.now) (ht : t.tmc.slots = s.tmc.slots) :
    (t.jamNoted pos).lki = (s.jamNoted pos).lki := by
  have hsus : t.tmc.suspect pos = s.tmc.suspect pos := by
    unfold Tmc.suspect
    rw [ht]
  unfold State.jamNoted
  rw [hsus]
  split
  · exact notice_lki_congr _ _ .JAM false pos (notice_lki_congr s t .SLOT_SUSPECT false pos hl hn) (by simpa using hn)
  · exact notice_lki_congr s t .JAM false pos hl hn

theorem jamMech_facts (s : State) (cause : JamCause) :
    (s.jamMech cause).tmc = { s.tmc with
      st := .JAMMED, lifter := .released, trayDrive := none, timer := none, phase := none, gate := .UNKNOWN, pos := none
      slots := s.tmc.jamCounted s.jamPosition
      jam := some { cause := cause, phase := s.tmc.phase.getD .DARKEN, position := s.jamPosition } } ∧
    (s.jamMech cause).lmc.blanks.mech = true ∧ (s.jamMech cause).aq = s.aq ∧ (s.jamMech cause).ssq = s.ssq ∧
    (s.jamMech cause).now = s.now ∧ (s.jamMech cause).cnt = { s.cnt with live := s.cnt.live.modify Ctr.mechJams.idx Counter.bump } ∧
    (s.jamMech cause).lki = (s.jamNoted s.jamPosition).lki := by
  have htmc : (s.countJam s.jamPosition).tmc = { s.tmc with slots := s.tmc.jamCounted s.jamPosition } := by rw [countJam_eq]; rfl
  rw [jamMech_eq, htmc]
  refine ⟨rfl, rfl, by simp [State.putMech], by simp [State.putMech], by simp [State.putMech], ?_, ?_⟩
  · simp [State.putMech, State.count]
  · refine Eq.trans (b := ((s.countJam s.jamPosition).event .JAM s.jamPosition).lki) rfl ?_
    rw [countJam_eq]
    exact notice_lki_congr (if s.tmc.suspect s.jamPosition then s.event .SLOT_SUSPECT s.jamPosition else s) _ .JAM false _ rfl rfl

/-! ## The jam in the queue (R12, R20) -/

theorem staysThrough_jam (e : Entry) : staysThrough coverAll true e = false := by
  simp [staysThrough, coverAll]

theorem resetEnd_jammed {s : State} (h : s.tmc.st = .JAMMED) : s.resetEnd = s := if_neg (by simp [h])

/-- R20: the flush of a jam, while the show does not run: nothing stays, nothing joins. -/
theorem flush_jam_still {s : State} (hst : s.tmc.st = .JAMMED) (hs : s.ssq.st ≠ .RUNNING) :
    (s.flush coverAll true true).aq.queue = [] ∧ (s.flush coverAll true true).lki = s.lki ∧
      (s.flush coverAll true true).ssq.st = s.ssq.st ∧
      ∀ e, s.aq.queue = [e] → e.action.mech = true → s.lki.resetting = false →
        (s.flush coverAll true true).aq.lastReport = some { tag := e.tag, manner := .DROPPED, room := 12 } := by
  have hempty : (s.flushQueue coverAll true).aq.queue = [] := by
    rw [flushQueue_queue, List.filter_eq_nil_iff]
    simp [staysThrough_jam]
  unfold State.flush
  split
  · rename_i hall
    have hnone : s.aq.queue = [] := by
      cases hq : s.aq.queue with
      | nil => rfl
      | cons e l => simp [hq, staysThrough_jam] at hall
    exact ⟨hempty, by simp, by simp, fun e he => by simp [hnone] at he⟩
  · obtain ⟨f, x, hform, hx⟩ := reportAll_still (s := s.flushQueue coverAll true) true
      (flushReports true (s.aq.queue.filter (fun e => !staysThrough coverAll true e))) (by simpa using hs)
    have hjam : (s.flushReported coverAll true true).tmc.st = .JAMMED := by simpa [State.flushReported] using hst
    rw [resetEnd_jammed hjam, State.flushReported, hform]
    refine ⟨hempty, by simp, by simp, fun e he hm hr => ?_⟩
    have hone : flushReports true (s.aq.queue.filter (fun e => !staysThrough coverAll true e)) = [(e.tag, .DROPPED)] := by
      simp [he, staysThrough_jam, flushReports, hm]
    have hroom : (s.flushQueue coverAll true).room = 12 := by
      simp [State.room, hempty, hr, queuePlaces]
    rw [← hroom]
    exact hx _ hone

theorem stoppedIfPending_lki (s : State) :
    s.stoppedIfPending.lki = if s.aq.stopPending then (s.event .STOPPED none).lki else s.lki := by
  unfold State.stoppedIfPending
  split
  · rw [event_setAq]
    rfl
  · rfl

theorem stoppedIfPending_aq (s : State) : s.stoppedIfPending.aq = { s.aq with stopPending := false } := by
  unfold State.stoppedIfPending
  split
  · simp
  · rename_i h
    have h : s.aq.stopPending = false := by simpa using h
    rw [← h]

theorem enterJammed_eq (s : State) (cause : JamCause) : s.enterJammed cause =
    (((s.jamMech cause).noteWaiting.flush coverAll true true).stoppedIfPending).pauseSeq := rfl

/-- R43: what a jam leaves in any case. -/
theorem enterJammed_rest (s : State) (cause : JamCause) : (s.enterJammed cause).tmc = (s.jamMech cause).tmc ∧
    (s.enterJammed cause).lmc.blanks.mech = true ∧ (s.enterJammed cause).aq.stopPending = false ∧
    (s.enterJammed cause).ssq.st ≠ .READY ∧ (s.enterJammed cause).ssq.st ≠ .RUNNING ∧ (s.enterJammed cause).now = s.now ∧
    (s.enterJammed cause).cnt = (s.jamMech cause).cnt := by
  refine ⟨enterJammed_tmc s cause, ?_, ?_, ?_, ?_, ?_, ?_⟩
  · rw [← (jamMech_facts s cause).2.1, enterJammed_eq]
    simp
  · rw [enterJammed_eq]
    simp [stoppedIfPending_aq]
  · rw [enterJammed_eq, pauseSeq_ssq]
    split
    · simp [Ssq.pausedAt]
    · simp_all
  · rw [enterJammed_eq, pauseSeq_ssq]
    split
    · simp [Ssq.pausedAt]
    · simp_all
  · rw [enterJammed_eq]
    simp
  · rw [enterJammed_eq]
    simp

/-- R12: what is noticed of a CHANGE or SEEK that waits at the head. -/
theorem noteWaiting_calm {s : State} (h : ∀ e, s.aq.queue.head? = some e → e.running = true ∨ e.action.mech = false) :
    s.noteWaiting = s := by
  unfold State.noteWaiting
  cases hq : s.aq.queue with
  | nil => rfl
  | cons e l =>
    refine if_neg ?_
    rcases h e (by rw [hq]; rfl) with hr | hm
    · simp [hr]
    · simp [hm]

theorem noteWaiting_waits {s : State} {e : Entry} (h : s.aq.queue.head? = some e) (hm : e.action.mech = true) (hr : e.running = false) :
    s.noteWaiting = s.event .ACTION_DROPPED e.tag := by
  obtain ⟨l, hq⟩ : ∃ l, s.aq.queue = e :: l := List.head?_eq_some_iff.mp h
  unfold State.noteWaiting
  rw [hq]
  exact if_pos (by simp [hm, hr])

/-- R12, R20: the queue and the link after a jam, while the show does not run. -/
theorem enterJammed_still {s : State} (cause : JamCause) (hs : s.ssq.st ≠ .RUNNING) :
    (s.enterJammed cause).aq.queue = [] ∧
      (s.enterJammed cause).lki = (if s.aq.stopPending then ((s.jamMech cause).noteWaiting.event .STOPPED none).lki
        else (s.jamMech cause).noteWaiting.lki) ∧
      ∀ e, s.aq.queue = [e] → e.action.mech = true → s.lki.resetting = false →
        (s.enterJammed cause).aq.lastReport = some { tag := e.tag, manner := .DROPPED, room := 12 } := by
  obtain ⟨u, hu⟩ : ∃ u, u = (s.jamMech cause).noteWaiting := ⟨_, rfl⟩
  obtain ⟨htmc, -, haq, hssq, -, -, -⟩ := jamMech_facts s cause
  have hst : u.tmc.st = .JAMMED := by
    rw [hu, (noteWaiting_frame _).2.2.2.2.1, htmc]
  have huq : u.aq = s.aq := by simp [hu]
  have hus : u.ssq.st ≠ .RUNNING := by
    simpa [hu, hssq] using hs
  have hur : u.lki.resetting = s.lki.resetting := by simp [hu]
  obtain ⟨hq, hl, -, hrep⟩ := flush_jam_still hst hus
  rw [enterJammed_eq, ← hu]
  refine ⟨?_, ?_, fun e he hm hr => ?_⟩
  · simpa [stoppedIfPending_aq] using hq
  · have hpend : (u.flush coverAll true true).aq.stopPending = s.aq.stopPending := by rw [← huq]; simp
    rw [(pauseSeq_frame _).2.2.2.2.2.2.2.2.2.1, stoppedIfPending_lki, hpend, hl]
    split
    · exact notice_lki_congr u _ .STOPPED false none hl (by simp)
    · rfl
  · simpa [stoppedIfPending_aq] using hrep e (by rw [huq]; exact he) hm (hur.trans hr)

/-! ## Notices that stay -/

/-- R196: a notice that joins is in the queue. -/
theorem event_joins {s : State} {k : NoticeKind} {x : Option Nat} (h : s.lki.enabled k = true) :
    { kind := k, clear := false, subject := x, stamp := s.stamp } ∈ (s.event k x).lki.notices := by
  have hform := notice_lki s k false x
  rw [State.event, hform, if_pos h, Lki.join]
  split <;> simp

/-- R196: the notice that joined last stays when one more joins. -/
theorem event_keeps_last {s : State} {n : Notice} (k : NoticeKind) (x : Option Nat) (h : s.lki.notices.getLast? = some n) :
    n ∈ (s.event k x).lki.notices := by
  obtain ⟨l, hl⟩ := List.getLast?_eq_some_iff.mp h
  have hform := notice_lki s k false x
  rw [State.event, hform]
  split
  · unfold Lki.join
    split
    · simp [hl]
    · rename_i hfull
      cases l with
      | nil => simp [hl, noticePlaces] at hfull
      | cons a l => simp [hl]
  · simp [hl]

theorem event_last {s : State} {k : NoticeKind} {x : Option Nat} (h : s.lki.enabled k = true) :
    (s.event k x).lki.notices.getLast? = some { kind := k, clear := false, subject := x, stamp := s.stamp } := by
  have hform := notice_lki s k false x
  rw [State.event, hform, if_pos h, Lki.join]
  split <;> simp

/-! ## The causes -/

/-- R33, R34: a timer whose expiry is a jam. -/
theorem expiry_jams {dt due : Nat} {s : State} {c : Instr} {cause : JamCause} (hp : s.powered = true)
    (h : c = .liftTimerExpiry dt ∧ cause = .LIFT_TIMEOUT ∧ s.tmc.timer = some (.lift, due) ∧ s.tmc.retriedLift = true ∨
      c = .dropTimerExpiry dt ∧ cause = .DROP_TIMEOUT ∧ s.tmc.timer = some (.drop, due) ∧ s.tmc.retriedDrop = true ∨
      c = .indexWaitExpiry dt ∧ cause = .STEP_TIMEOUT ∧ s.tmc.timer = some (.indexWait, due)) :
    exec c s = .next (((s.advance dt).reach due).enterJammed cause).finish := by
  rcases h with ⟨rfl, rfl, ht, hr⟩ | ⟨rfl, rfl, ht, hr⟩ | ⟨rfl, rfl, ht⟩
  · refine next_take hp ?_
    have hdue : (s.advance dt).phaseDue .lift = some due := by simp [State.phaseDue, ht]
    rw [liftTimerExpiry, hdue]
    exact if_pos hr
  · refine next_take hp ?_
    have hdue : (s.advance dt).phaseDue .drop = some due := by simp [State.phaseDue, ht]
    rw [dropTimerExpiry, hdue]
    exact if_pos hr
  · refine next_take hp ?_
    have hdue : (s.advance dt).phaseDue .indexWait = some due := by simp [State.phaseDue, ht]
    rw [indexWaitExpiry, hdue]
    rfl

/-- R45: home is not found. -/
theorem search_jams {dt : Nat} {s : State} {m : MechSense} (hp : s.powered = true) (hph : s.tmc.phase = some .SEARCH)
    (hm : m.homeMark = false) (hsteps : s.tmc.trayS + 2 ≤ s.tmc.steps + 1) : exec (.indexPulse dt m) s =
      .next (((s.advance dt).setTmc { s.tmc with steps := s.tmc.steps + 1 }).enterJammed .HOME_NOT_FOUND).finish := by
  refine next_take hp ?_
  have hph : (s.advance dt).tmc.phase = some .SEARCH := hph
  rw [indexPulse, hph]
  dsimp only
  rw [State.pulseSearch, hm]
  exact (if_neg (by simp)).trans (if_pos hsteps)

/-- The link, the records and the queue of a jam, while the show does not run. -/
theorem jam_finish_still {s : State} (cause : JamCause) (hs : s.ssq.st ≠ .RUNNING) :
    (s.enterJammed cause).finish.aq.queue = [] ∧ (s.enterJammed cause).finish.lki = (s.enterJammed cause).lki ∧
      (s.enterJammed cause).finish.cnt = (s.enterJammed cause).cnt ∧
      (s.enterJammed cause).finish.aq.lastReport = (s.enterJammed cause).aq.lastReport := by
  obtain ⟨hq, -, -⟩ := enterJammed_still cause hs
  rw [finish_empty hq]
  exact ⟨by simpa using hq, by simp, by simp, by simp⟩

/-- Settles O16. -/
theorem jamStopsTheMechanism : Obligations.JamStopsTheMechanism := by
  refine ⟨fun dt due s c cause hp hc ph hph => ?stops, fun dt s hp due ht hs => ?queue, fun dt due time s c m pos hp hs hc hpos => ?records⟩
  case stops =>
    obtain ⟨w, hw⟩ : ∃ w, w = (s.advance dt).reach due := ⟨_, rfl⟩
    have hwt : w.tmc = s.tmc := by rw [hw]; rfl
    obtain ⟨htmc, hmech, hstop, hready, hrun, -, -⟩ := enterJammed_rest w cause
    obtain ⟨hjt, -⟩ := jamMech_facts w cause
    have hst : (w.enterJammed cause).tmc.st = .JAMMED := by rw [htmc, hjt]
    obtain ⟨hft, hfm⟩ := finish_outOfUse (.inr hst)
    obtain ⟨f, hfs, hfp⟩ := finish_ssq_still hrun
    have hform := expiry_jams hp hc
    rw [← hw] at hform
    refine ⟨_, hform, ?_⟩
    rw [hft, hfs, htmc, hjt, State.jamPosition, hwt, hph]
    exact ⟨rfl, rfl, rfl, rfl, rfl, rfl, rfl, rfl, hfm.trans hmech, hfp hstop, hready, hrun⟩
  case queue =>
    obtain ⟨w, hw⟩ : ∃ w, w = (s.advance dt).reach due := ⟨_, rfl⟩
    have hwa : w.aq = s.aq := by rw [hw]; rfl
    have hwl : w.lki = s.lki := by rw [hw]; rfl
    have hws : w.ssq.st ≠ .RUNNING := by rw [hw]; exact hs
    obtain ⟨-, -, haq, -, hnow, -, -⟩ := jamMech_facts w .STEP_TIMEOUT
    have hstamp : (w.jamMech .STEP_TIMEOUT).stamp = max (s.now + dt) due / 1000 % 4294967296 := by
      rw [State.stamp, hnow, hw]
      rfl
    obtain ⟨-, hl, hrep⟩ := enterJammed_still .STEP_TIMEOUT hws
    obtain ⟨hfq, hfl, -, hfr⟩ := jam_finish_still .STEP_TIMEOUT hws
    have hform := expiry_jams (c := .indexWaitExpiry dt) hp (.inr (.inr ⟨rfl, rfl, ht⟩))
    rw [← hw] at hform ⊢
    refine ⟨_, hform, hfq, fun e he hm hr => ?_, fun e he hm hr hen => ?_, fun e he hstop hcalm => ?_⟩
    · exact hfr.trans (hrep e (by rw [hwa]; exact he) hm (by rw [hwl]; exact hr))
    · have hnote : (w.jamMech .STEP_TIMEOUT).noteWaiting = (w.jamMech .STEP_TIMEOUT).event .ACTION_DROPPED e.tag :=
        noteWaiting_waits (by rw [haq, hwa]; exact he) hm hr
      have hen : (w.jamMech .STEP_TIMEOUT).lki.enabled .ACTION_DROPPED = true := by
        rw [Lki.enabled, show (w.jamMech .STEP_TIMEOUT).lki.enables = w.lki.enables by simp, hwl]
        exact hen
      rw [hfl, hl, hnote, ← hstamp]
      split
      · exact event_keeps_last .STOPPED none (event_last hen)
      · exact event_joins hen
    · have hnote : (w.jamMech .STEP_TIMEOUT).noteWaiting = w.jamMech .STEP_TIMEOUT := by
        refine noteWaiting_calm fun x hx => ?_
        rw [haq, hwa, he] at hx
        obtain rfl : e = x := by simpa using hx
        exact hcalm
      rw [hfl, hl, hnote, if_neg (by simp [hwa, hstop])]
  case records =>
    obtain ⟨w, cause, hform, hws, hwa, hwn, hwl, hwt, hwc, hwp⟩ : ∃ w cause, exec c s = .next (State.enterJammed w cause).finish ∧
        w.ssq = s.ssq ∧ w.aq = s.aq ∧ w.now = time ∧ w.lki = s.lki ∧ w.tmc.slots = s.tmc.slots ∧ w.cnt = s.cnt ∧
        w.jamPosition = pos := by
      rcases hc with ⟨rfl, hc⟩ | ⟨rfl, rfl, hst, hph, hm, hsteps⟩
      · obtain ⟨cause, hcause⟩ : ∃ cause, c = .liftTimerExpiry dt ∧ cause = .LIFT_TIMEOUT ∧ s.tmc.timer = some (.lift, due) ∧
            s.tmc.retriedLift = true ∨ c = .dropTimerExpiry dt ∧ cause = .DROP_TIMEOUT ∧ s.tmc.timer = some (.drop, due) ∧
            s.tmc.retriedDrop = true ∨ c = .indexWaitExpiry dt ∧ cause = JamCause.STEP_TIMEOUT ∧
            s.tmc.timer = some (.indexWait, due) := by
          rcases hc with ⟨h, ht, hr⟩ | ⟨h, ht, hr⟩ | ⟨h, ht⟩
          · exact ⟨.LIFT_TIMEOUT, .inl ⟨h, rfl, ht, hr⟩⟩
          · exact ⟨.DROP_TIMEOUT, .inr (.inl ⟨h, rfl, ht, hr⟩)⟩
          · exact ⟨.STEP_TIMEOUT, .inr (.inr ⟨h, rfl, ht⟩)⟩
        exact ⟨_, cause, expiry_jams hp hcause, rfl, rfl, rfl, rfl, rfl, rfl, hpos.symm⟩
      · exact ⟨_, _, search_jams hp hph hm hsteps, rfl, rfl, rfl, rfl, rfl, rfl, hpos.symm⟩
    have hss : w.ssq.st ≠ .RUNNING := by rw [hws]; exact hs
    obtain ⟨htmc, -, -, -, -, hnow, hcnt⟩ := enterJammed_rest w cause
    obtain ⟨hjt, -, haq, -, -, hjc, hjl⟩ := jamMech_facts w cause
    have hst : (w.enterJammed cause).tmc.st = .JAMMED := by rw [htmc, hjt]
    obtain ⟨hft, -⟩ := finish_outOfUse (.inr hst)
    obtain ⟨-, hl, -⟩ := enterJammed_still cause hss
    obtain ⟨-, hfl, hfc, -⟩ := jam_finish_still cause hss
    refine ⟨_, hform, ?_, ?_, ?_, ?_, fun hstop hcalm suspect hsus => ?_⟩
    · rw [← hwn, ← hnow]
      simp [State.finish]
    · rw [hft, htmc, hjt, hwp]
      rfl
    · rw [hft, htmc, hjt, hwp]
      exact congrArg (fun l => List.mapIdx _ l) hwt
    · rw [hfc, hcnt, hjc, hwc]
    · have hnote : (w.jamMech cause).noteWaiting = w.jamMech cause := noteWaiting_calm (by rw [haq, hwa]; exact hcalm)
      rw [hfl, hl, if_neg (by simp [hwa, hstop]), hnote, hjl, hwp]
      refine (jamNoted_lki_congr (s := s.setNow time) hwl hwn hwt).trans ?_
      have hsame : (s.setNow time).tmc.suspect pos = suspect := hsus.symm
      rw [State.jamNoted, hsame]

end Sys2Proof.Machine
end

section
/-!
The runner starts the head, or lets it wait (R11 to R16, R30, R31, R40).
-/

namespace Sys2Proof.Machine

/-! ## What the runner does with a head that stays -/

theorem finish_wait {s : State} {r : RunnerStatus} (h : s.headMove = .wait r) :
    s.finish = (s.setAq { s.aq with runner := r }).refresh := by
  rw [State.finish, runHead_wait h]

/-- R11: a head that starts and then waits. -/
theorem finish_start {s : State} {e : Entry} {r : RunnerStatus} (h : s.headMove = .start e) (hw : (s.startHead e).headMove = .wait r) :
    s.finish = ((s.startHead e).setAq { (s.startHead e).aq with runner := r }).refresh := by
  have hrun : s.runHead = (s.startHead e).setAq { (s.startHead e).aq with runner := r } :=
    (settle_start 8191 true h).trans (settle_wait 8190 true hw)
  rw [State.finish, hrun]

/-- The state in which an entry starts. -/
def State.taken (s : State) (e : Entry) (rest : List Entry) : State :=
  s.setAq { s.aq with queue := { e with running := true } :: rest }

theorem startHead_eq {s : State} {e : Entry} {rest : List Entry} (hq : s.aq.queue = e :: rest) :
    s.startHead e = (s.taken e rest).startEffect e := by
  rw [State.startHead, hq]
  rfl

theorem startHead_queue {s : State} {e : Entry} {rest : List Entry} (hq : s.aq.queue = e :: rest) :
    (s.startHead e).aq.queue = { e with running := true } :: rest := by
  rw [startHead_eq hq, (startEffect_frame _ e).2.2.2.2.2.2.2.2.2.1]
  rfl

/-- R12 to R16: a head that starts and then runs on. -/
theorem finish_runs {s : State} {e : Entry} {rest : List Entry} (hq : s.aq.queue = e :: rest) (h : s.headMove = .start e)
    (hw : (s.startHead e).runningMove { e with running := true } = .wait .RUNNING) :
    s.finish = ((s.startHead e).setAq { (s.startHead e).aq with runner := .RUNNING }).refresh ∧ s.finish.runs e rest := by
  have hqr := startHead_queue hq
  have hform := finish_start h ((headMove_running hqr rfl).trans hw)
  refine ⟨hform, ?_⟩
  rw [hform]
  exact ⟨by simpa using hqr, by simp⟩

theorem mech_iff {a : Action} : a.mech = true ↔ a = .CHANGE_FWD ∨ a = .CHANGE_REV ∨ ∃ p, a = .SEEK p := by
  cases a <;> simp [Action.mech]

theorem queuedMove_of_not_mech {s : State} {e : Entry} (h : e.action.mech = false) : s.queuedMove e = .start e :=
  if_neg (by simp [h])

theorem queuedMove_moving {s : State} {e : Entry} (h : e.action.mech = true) (hst : s.tmc.st.moving = true) :
    s.queuedMove e = .wait .WAIT_MECH := by
  rw [State.queuedMove, if_pos h]
  cases hs : s.tmc.st <;> simp_all [MechState.moving]

theorem queuedMove_pacing {s : State} {e : Entry} (h : e.action.mech = true) (hst : s.tmc.st = .IDLE) (hp : s.tmc.pacingOut = false) :
    s.queuedMove e = .wait .WAIT_PACING := by
  rw [State.queuedMove, if_pos h, hst]
  exact if_neg (by simp [hp])

theorem queuedMove_change {s : State} {e : Entry} (h : e.action = .CHANGE_FWD ∨ e.action = .CHANGE_REV) (hst : s.tmc.st = .IDLE)
    (hp : s.tmc.pacingOut = true) : s.queuedMove e = .start e := by
  rw [State.queuedMove, if_pos (mech_iff.mpr (h.imp_right .inl)), hst]
  dsimp only
  rw [if_pos hp]
  rcases h with h | h <;> rw [h]

theorem queuedMove_seek {s : State} {e : Entry} {p : Nat} (h : e.action = .SEEK p) (hst : s.tmc.st = .IDLE)
    (hp : s.tmc.pacingOut = true) : s.queuedMove e = if s.tmc.trayS < p then .leave e true else .start e := by
  rw [State.queuedMove, if_pos (mech_iff.mpr (.inr (.inr ⟨p, h⟩))), hst]
  dsimp only
  rw [if_pos hp, h]

theorem runningMove_moving {s : State} {e : Entry} (h : e.action.mech = true) (hst : s.tmc.st.moving = true) :
    s.runningMove e = .wait .RUNNING := by
  obtain ha | ha | ⟨p, ha⟩ := mech_iff.mp h
  all_goals
    rw [State.runningMove, ha]
    cases hs : s.tmc.st <;> simp_all [MechState.moving]

theorem runningMove_fading {s : State} {e : Entry} {target time : Nat} {curve : Curve} (h : e.action = .FADE target time curve true)
    (hr : s.lmc.ramp.isSome = true) : s.runningMove e = .wait .RUNNING := by
  rw [State.runningMove, h]
  exact if_pos (by simp [hr])

theorem runningMove_holding {s : State} {e : Entry} {ms : Nat} (h : e.action = .HOLD ms) (hd : s.aq.holdDue.isSome = true) :
    s.runningMove e = .wait .RUNNING := by
  rw [State.runningMove, h]
  exact if_pos hd

theorem runningMove_lighting {s : State} {e : Entry} (h : e.action = .LAMP_ON) (hp : s.lmc.power = .IGNITING ∨ s.lmc.power = .SWAPPING) :
    s.runningMove e = .wait .RUNNING := by
  rw [State.runningMove, h]
  rcases hp with hp | hp <;> rw [hp]

/-! ## The start of a CHANGE or a SEEK (R31, R40) -/

theorem startChange_eq (s : State) (d : Dir) : s.startChange d = (s.putMech
    { s.tmc with dir := d, st := .CHANGING, phase := some .DARKEN, timer := none, retriedLift := false, retriedDrop := false
                 steps := 0 }).count .mechChanges := rfl

theorem startSeek_eq (s : State) (p : Nat) : s.startSeek p = (s.putMech
    { s.tmc with
      dir := if forwardDistance s.tmc.trayS (s.tmc.pos.getD 0) p ≤ reverseDistance s.tmc.trayS (s.tmc.pos.getD 0) p
        then .forward else .reverse
      distance := min (forwardDistance s.tmc.trayS (s.tmc.pos.getD 0) p) (reverseDistance s.tmc.trayS (s.tmc.pos.getD 0) p)
      truncated := false, st := .SEEKING, phase := some .DARKEN, timer := none, retriedLift := false, retriedDrop := false
      steps := 0 }).count .mechSeeks := rfl

/-- What every start of the mechanism sets. -/
theorem startEffect_mech {s : State} {e : Entry} (h : e.action.mech = true) : (s.startEffect e).tmc.st.moving = true ∧
    (s.startEffect e).tmc.phase = some .DARKEN ∧ (s.startEffect e).tmc.timer = none ∧ (s.startEffect e).lmc.blanks.mech = true := by
  obtain ha | ha | ⟨p, ha⟩ := mech_iff.mp h
  · rw [State.startEffect, ha]
    exact ⟨rfl, rfl, rfl, rfl⟩
  · rw [State.startEffect, ha]
    exact ⟨rfl, rfl, rfl, rfl⟩
  · rw [State.startEffect, ha]
    exact ⟨rfl, rfl, rfl, rfl⟩

theorem finish_starts_mech {s : State} {e : Entry} {rest : List Entry} (hq : s.aq.queue = e :: rest) (hr : e.running = false)
    (hm : e.action.mech = true) (h : s.queuedMove e = .start e) :
    s.finish.tmc = ((s.taken e rest).startEffect e).tmc ∧ s.finish.lmc = ((s.taken e rest).startEffect e).lmc ∧
      s.finish.runs e rest := by
  obtain ⟨hmoves, -, -, -⟩ := startEffect_mech (s := s.taken e rest) hm
  rw [← startHead_eq hq] at hmoves ⊢
  obtain ⟨hform, hruns⟩ := finish_runs hq ((headMove_queued hq hr).trans h) (runningMove_moving hm hmoves)
  refine ⟨?_, ?_, hruns⟩
  · rw [hform]
    simp
  · rw [hform]
    simp

/-- R40: the distances of a seek. -/
theorem forwardDistance_int {size pos p : Nat} (hpos : pos ≤ size) :
    (forwardDistance size pos p : Int) = ((p : Int) - pos) % (size + 1) := by
  unfold forwardDistance
  rw [Int.natCast_emod, Int.natCast_sub (by omega)]
  push_cast
  rw [show (p : Int) + (size + 1) - pos = (p - pos) + (size + 1) by ring, Int.add_emod_right]

theorem reverseDistance_int {size pos p : Nat} (hp : p ≤ size) :
    (reverseDistance size pos p : Int) = ((pos : Int) - p) % (size + 1) := forwardDistance_int hp

/-! ## The start of a FADE, a HOLD and a LAMP_ON (R13, R14, R16) -/

theorem finish_starts {s : State} {e : Entry} {rest : List Entry} (hq : s.aq.queue = e :: rest) (hr : e.running = false)
    (hm : e.action.mech = false)
    (hw : ((s.taken e rest).startEffect e).runningMove { e with running := true } = .wait .RUNNING) :
    s.finish.aq = { ((s.taken e rest).startEffect e).aq with runner := .RUNNING } ∧
      s.finish.lmc = ((s.taken e rest).startEffect e).lmc ∧ s.finish.runs e rest := by
  rw [← startHead_eq hq] at hw ⊢
  obtain ⟨hform, hruns⟩ := finish_runs hq ((headMove_queued hq hr).trans (queuedMove_of_not_mech hm)) hw
  refine ⟨?_, ?_, hruns⟩
  · rw [hform]
    simp
  · rw [hform]
    simp

/-- Settles O8. -/
theorem runnerStartsTheHead : Obligations.RunnerStartsTheHead := by
  refine ⟨fun s e rest hq hr hst hpace => ⟨fun ha => ?change, fun p pos fwd rev ha hple hpos hposle hfwd hrev => ?seek, fun ha => ?both⟩,
    fun s e rest hq => ⟨fun hr => ⟨fun target time curve ha => ?fade, fun ms ha hms => ?hold, fun ha hp => ?lighting,
      fun ha hp htrip hfan hpow hno hlost => ?ignite, fun hm hmov => ?waitMech, fun hm hidle hno => ?waitPacing⟩, fun hr hcase => ?runsOn⟩⟩
  case change =>
    obtain ⟨htmc, -, -⟩ := finish_starts_mech hq hr (mech_iff.mpr (ha.imp_right .inl)) (queuedMove_change ha hst hpace)
    rw [htmc]
    rcases ha with ha | ha
    · rw [State.startEffect, ha]
      exact ⟨rfl, rfl⟩
    · rw [State.startEffect, ha]
      exact ⟨rfl, rfl⟩
  case seek =>
    obtain ⟨htmc, -, -⟩ := finish_starts_mech hq hr (mech_iff.mpr (.inr (.inr ⟨p, ha⟩)))
      ((queuedMove_seek ha hst hpace).trans (if_neg (by omega)))
    have hf : (forwardDistance s.tmc.trayS pos p : Int) = fwd := (forwardDistance_int hposle).trans hfwd.symm
    have hb : (reverseDistance s.tmc.trayS pos p : Int) = rev := (reverseDistance_int hple).trans hrev.symm
    have hat : (s.taken e rest).tmc.pos.getD 0 = pos := by
      change s.tmc.pos.getD 0 = pos
      rw [hpos]
      rfl
    rw [htmc, State.startEffect, ha]
    dsimp only
    rw [startSeek_eq, hat, ← hf, ← hb]
    refine ⟨rfl, rfl, Nat.cast_min _ _, ?_⟩
    by_cases hle : forwardDistance s.tmc.trayS pos p ≤ reverseDistance s.tmc.trayS pos p
    · exact (if_pos hle).trans (if_pos (by exact_mod_cast hle)).symm
    · exact (if_neg hle).trans (if_neg (by exact_mod_cast hle)).symm
  case both =>
    have hm : e.action.mech = true := mech_iff.mpr (ha.imp_right (Or.imp_right fun ⟨p, hp, _⟩ => ⟨p, hp⟩))
    have hmove : s.queuedMove e = .start e := by
      rcases ha with ha | ha | ⟨p, ha, hle⟩
      · exact queuedMove_change (.inl ha) hst hpace
      · exact queuedMove_change (.inr ha) hst hpace
      · exact (queuedMove_seek ha hst hpace).trans (if_neg (by omega))
    obtain ⟨htmc, hlmc, hqueue, hrunner⟩ := finish_starts_mech hq hr hm hmove
    obtain ⟨-, hphase, htimer, hmech⟩ := startEffect_mech (s := s.taken e rest) hm
    rw [htmc, hlmc]
    exact ⟨hphase, htimer, hmech, hqueue, hrunner⟩
  case fade =>
    have hw : ((s.taken e rest).startEffect e).runningMove { e with running := true } = .wait .RUNNING :=
      runningMove_fading ha (by rw [State.startEffect, ha]; rfl)
    obtain ⟨-, hlmc, hruns⟩ := finish_starts hq hr (by rw [ha]; rfl) hw
    refine ⟨hruns, ?_⟩
    rw [hlmc, State.startEffect, ha]
    rfl
  case hold =>
    have heff : (s.taken e rest).startEffect e = (s.taken e rest).setAq { (s.taken e rest).aq with holdDue := some (s.now + 1000 * ms) } := by
      rw [State.startEffect, ha, show 1000 * ms = msec ms from Nat.mul_comm ..]
      exact if_neg (by omega)
    have hw : ((s.taken e rest).startEffect e).runningMove { e with running := true } = .wait .RUNNING :=
      runningMove_holding ha (by rw [heff]; rfl)
    obtain ⟨haq, hlmc, hruns⟩ := finish_starts hq hr (by rw [ha]; rfl) hw
    refine ⟨hruns, ?_, ?_⟩
    · rw [haq, heff]
      rfl
    · rw [hlmc, heff]
      rfl
  case lighting =>
    have heff : (s.taken e rest).startEffect e = s.taken e rest := by
      rw [State.startEffect, ha]
      exact ignite_on (by rcases hp with h | h <;> simp [State.taken, h])
    have hw : ((s.taken e rest).startEffect e).runningMove { e with running := true } = .wait .RUNNING :=
      runningMove_lighting ha (by rw [heff]; exact hp)
    obtain ⟨-, hlmc, hruns⟩ := finish_starts hq hr (by rw [ha]; rfl) hw
    refine ⟨hruns, ?_⟩
    rw [hlmc, heff]
    rfl
  case ignite =>
    have heff : (s.taken e rest).startEffect e = (s.taken e rest).ignite := by rw [State.startEffect, ha]
    have hnot : (s.taken e rest).ignitionRefused = false := by
      change (s.thc.trip || s.thc.fanFault || s.thc.power == .STANDBY || s.lmc.noLamp) = false
      rw [htrip, hfan, hpow, hno]
      rfl
    obtain ⟨hmoves, husable, hspare⟩ := ignite_ways (s := s.taken e rest) hp hnot
    have hpower : (s.taken e rest).ignite.lmc.power = .IGNITING ∨ (s.taken e rest).ignite.lmc.power = .SWAPPING := by
      cases hm : s.lmc.motion with
      | some mo => exact .inr (hmoves (by rw [show (s.taken e rest).lmc.motion = some mo from hm]; rfl)).1
      | none =>
        cases hu : (s.lmc.lamp s.lmc.active).usable
        · exact .inr (hspare hm hu).1
        · exact .inl (husable hm hu (.inl hlost)).1
    have hw : ((s.taken e rest).startEffect e).runningMove { e with running := true } = .wait .RUNNING :=
      runningMove_lighting ha (by rw [heff]; exact hpower)
    obtain ⟨-, hlmc, hruns⟩ := finish_starts hq hr (by rw [ha]; rfl) hw
    rw [heff] at hlmc
    refine ⟨hruns, fun hm => ?_, fun hm hu => ?_, fun hm hu => ?_⟩
    · rw [hlmc]
      exact hmoves hm
    · obtain ⟨hon, hj, hlen, -⟩ := husable hm hu (.inl hlost)
      rw [hlmc]
      exact ⟨hon, hj, hlen⟩
    · obtain ⟨hsw, hmot, -⟩ := hspare hm hu
      rw [hlmc]
      exact ⟨hsw, hmot⟩
  case waitMech =>
    rw [finish_wait ((headMove_queued hq hr).trans (queuedMove_moving hm hmov))]
    simp
  case waitPacing =>
    rw [finish_wait ((headMove_queued hq hr).trans (queuedMove_pacing hm hidle hno))]
    simp
  case runsOn =>
    have hwait : s.runningMove e = .wait .RUNNING := by
      rcases hcase with ⟨⟨target, time, curve, ha⟩, hramp⟩ | ⟨⟨ms, ha⟩, hd⟩ | ⟨ha, hp⟩ | ⟨hm, hmov⟩
      · exact runningMove_fading ha hramp
      · exact runningMove_holding ha hd
      · exact runningMove_lighting ha hp
      · exact runningMove_moving hm hmov
    rw [finish_wait ((headMove_running hq hr).trans hwait)]
    simp

end Sys2Proof.Machine
end

section
/-!
An entry alone in the queue leaves it (R11 to R17), in a show that does not run and in one that does (R151, R154, R156).
-/

namespace Sys2Proof.Machine

/-! ## An entry leaves while the show does not run -/

/-- What leaves the queue does not depend on the state's action queue but for STOP. -/
theorem leaves_setAq {w t : State} {a : Aq} {e : Entry} {m : Manner} (h : (w.setAq a).leaves t e m)
    (ha : a.stopPending = w.aq.stopPending) : w.leaves t e m := by
  obtain ⟨hq, hr, hl, htmc, hlmc, hpar, hcud, hcnt, hsts, hlki⟩ := h
  refine ⟨hq, hr, hl, htmc, hlmc, hpar, hcud, hcnt, hsts, fun hp hreset => ?_⟩
  have hform := hlki (ha.trans hp) hreset
  rw [hform]
  split
  · rw [event_setAq]
    rfl
  · rfl

/-- R17: the runner lets the only entry leave. -/
theorem settle_leaves {s : State} {e x : Entry} {d : Bool} (n : Nat) (hq : s.aq.queue = [x]) (hm : s.headMove = .leave e d)
    (hs : s.ssq.st ≠ .RUNNING) :
    s.leaves (State.settle (n + 2) true s).refresh e (if d then .DROPPED else .COMPLETED) := by
  obtain ⟨f, p, l, hd, hpd⟩ := depart_still e d true hs
  have hgone : (s.depart e d true).aq.queue = [] := by rw [hd, hq]; rfl
  rw [settle_leave (n + 1) true hm, settle_empty n true _ hgone, hd, hq]
  refine ⟨rfl, rfl, rfl, rfl, rfl, rfl, rfl, rfl, rfl, fun hp hr => ?_⟩
  obtain ⟨-, hl⟩ := hpd hp
  have hl : l = (s.dropNoted e d).lki := hl hr
  cases d <;> exact hl

theorem finish_leaves {s : State} {e x : Entry} {d : Bool} (hq : s.aq.queue = [x]) (hm : s.headMove = .leave e d)
    (hs : s.ssq.st ≠ .RUNNING) : s.leaves s.finish e (if d then .DROPPED else .COMPLETED) := settle_leaves 8190 hq hm hs

/-- R11: the only entry starts and leaves at once; `w` is the state with its effect. -/
theorem finish_starts_leaves {s w : State} {e : Entry} {d : Bool} (hq : s.aq.queue = [e]) (hr : e.running = false)
    (hmech : e.action.mech = false) (hw : (s.taken e []).startEffect e = w.setAq (s.taken e []).aq)
    (hm : (w.setAq (s.taken e []).aq).runningMove { e with running := true } = .leave { e with running := true } d)
    (hs : s.ssq.st ≠ .RUNNING) (hp : w.aq.stopPending = s.aq.stopPending) :
    w.leaves s.finish e (if d then .DROPPED else .COMPLETED) := by
  have hstart : s.headMove = .start e := (headMove_queued hq hr).trans (queuedMove_of_not_mech hmech)
  have hform : s.startHead e = w.setAq (s.taken e []).aq := (startHead_eq hq).trans hw
  have hssq : (w.setAq (s.taken e []).aq).ssq = s.ssq := by
    rw [← hform]
    exact (startHead_frame s e).2.2.2.2.1
  have hrun : s.finish = (State.settle 8191 true (w.setAq (s.taken e []).aq)).refresh := by
    rw [← hform]
    exact congrArg State.refresh (settle_start 8191 true hstart)
  have hleaves := settle_leaves (s := w.setAq (s.taken e []).aq) (x := { e with running := true }) 8189 rfl
    ((headMove_running rfl rfl).trans hm) (by rw [hssq]; exact hs)
  rw [hrun]
  exact leaves_setAq hleaves hp.symm

/-! ## How a head that has nothing to wait for leaves -/

theorem runningMove_faded {s : State} {e : Entry} {target time : Nat} {curve : Curve} {wait : Bool}
    (h : e.action = .FADE target time curve wait) (hr : wait = false ∨ s.lmc.ramp = none) : s.runningMove e = .leave e false := by
  rw [State.runningMove, h]
  refine if_neg ?_
  rcases hr with hr | hr <;> simp [hr]

theorem runningMove_held {s : State} {e : Entry} {ms : Nat} (h : e.action = .HOLD ms) (hd : s.aq.holdDue = none) :
    s.runningMove e = .leave e false := by
  rw [State.runningMove, h]
  exact if_neg (by simp [hd])

theorem runningMove_lit {s : State} {e : Entry} (h : e.action = .LAMP_ON) (hp : s.lmc.power = .LIT) :
    s.runningMove e = .leave e false := by
  rw [State.runningMove, h]
  dsimp only
  rw [hp]

theorem runningMove_unlit {s : State} {e : Entry} (h : e.action = .LAMP_ON) (hp : s.lmc.power = .OFF) :
    s.runningMove e = .leave e true := by
  rw [State.runningMove, h]
  dsimp only
  rw [hp]

theorem runningMove_atRest {s : State} {e : Entry} (h : e.action.mech = true) (hst : s.tmc.st = .IDLE ∨ s.tmc.st = .PARKED) :
    s.runningMove e = .leave e (s.tmc.st == .PARKED) := by
  obtain ha | ha | ⟨p, ha⟩ := mech_iff.mp h
  all_goals
    rw [State.runningMove, ha]
    rcases hst with hst | hst <;> rw [hst] <;> rfl

theorem queuedMove_outOfUse {s : State} {e : Entry} (h : e.action.mech = true) (hst : s.tmc.st = .PARKED ∨ s.tmc.st = .JAMMED) :
    s.queuedMove e = .leave e true := by
  rw [State.queuedMove, if_pos h]
  rcases hst with hst | hst <;> rw [hst]

/-! ## An entry leaves while the show runs -/

/-- R17: the queue and the report of a head that completes. -/
def State.gone (s : State) (e : Entry) : State :=
  s.setAq { s.aq with
    queue := s.aq.queue.tail
    lastReport := some { tag := e.tag, manner := .COMPLETED, room := (s.setAq { s.aq with queue := s.aq.queue.tail }).room } }

theorem depart_completes {s : State} (e : Entry) (hp : s.aq.stopPending = false) (hr : s.lki.resetting = false) :
    s.depart e false true = (s.gone e).takeReport := by
  have hp2 : (s.gone e).takeReport.aq.stopPending = false := by simpa [State.gone] using hp
  have hr2 : (s.gone e).takeReport.lki.resetting = false := by simpa [State.gone] using hr
  have hstop : (if e.running then (s.gone e).takeReport.stoppedIfPending else (s.gone e).takeReport) = (s.gone e).takeReport := by
    split
    · exact if_neg (fun hc => absurd (hp2.symm.trans hc) (by decide))
    · rfl
  have hform : s.depart e false true =
      (if e.running then (s.gone e).takeReport.stoppedIfPending else (s.gone e).takeReport).resetEnd := rfl
  rw [hform, hstop, resetEnd_of_not_resetting hr2]

/-- The pointer step does not start a FOLLOW timer. -/
def Ssq.unfollowed (q : Ssq) : Prop := ∀ p d, q.ptr = some p → (q.step p).trigger ≠ .FOLLOW d

theorem followStart_unfollowed {s : State} (h : s.ssq.unfollowed) : s.followStart = none := by
  unfold State.followStart
  split
  · rename_i p w hf hp hw
    split
    · rename_i d hd
      exact absurd hd (h p d hp)
    · rfl
  · rfl

theorem checks_no_follow (n : Nat) {s : State} (h : s.followStart = none) : State.checks (n + 1) s = s.endTest := by
  rw [State.checks, h]

theorem takeReport_no_follow {s : State} (h : s.offerPending.followStart = none) : s.takeReport = s.offerPending.endTest :=
  checks_no_follow 255 h

theorem endTest_goesOn {s : State} (h : s.ssq.ptr ≠ none ∨ s.ssq.pend ≠ none ∨ s.aq.queue.any (fun e => e.tag.isSome) = true) :
    s.endTest = s := by
  refine if_neg ?_
  rintro ⟨-, hp, hpe, hq⟩
  rcases h with h | h | h
  · exact h hp
  · exact h hpe
  · rw [hq] at h
    exact absurd h (by decide)

theorem offerPending_none {s : State} (h : s.ssq.pend = none) : s.offerPending = s := by
  rw [State.offerPending, h]

/-- R154: the pending fire joins. -/
def State.joined (s : State) (p : PendFire) : State :=
  (s.enqueue (s.ssq.entries p.index p.chase)).setSsq { s.ssq with pend := none }

theorem offerPending_some {s : State} {p : PendFire} (h : s.ssq.pend = some p) :
    s.offerPending = if s.ssq.st = .RUNNING ∧ p.need ≤ s.room then s.joined p else s := by
  rw [State.offerPending, h]
  rfl

/-- What a show that comes to no FOLLOW step keeps of the sequencer. -/
def Ssq.keepsPlace (q r : Ssq) : Prop :=
  r.steps = q.steps ∧ r.ptr = q.ptr ∧ r.watched = q.watched ∧ r.follow = q.follow ∧ r.skipped = q.skipped ∧
    (q.pend = none → r.pend = none)

theorem Ssq.keepsPlace.refl (q : Ssq) : q.keepsPlace q := ⟨rfl, rfl, rfl, rfl, rfl, id⟩

theorem Ssq.keepsPlace.then {q r t : Ssq} (h : q.keepsPlace r) (k : r.keepsPlace t) : q.keepsPlace t := by
  obtain ⟨hst, hp, hw, hf, hsk, hpe⟩ := h
  obtain ⟨kst, kp, kw, kf, ksk, kpe⟩ := k
  exact ⟨kst.trans hst, kp.trans hp, kw.trans hw, kf.trans hf, ksk.trans hsk, fun h => kpe (hpe h)⟩

theorem Ssq.keepsPlace.unfollowed {q r : Ssq} (h : q.keepsPlace r) (hu : q.unfollowed) : r.unfollowed := by
  obtain ⟨hst, hp, -⟩ := h
  intro p d hptr
  have hstep : r.step p = q.step p := by rw [Ssq.step, Ssq.step, hst]
  rw [hstep]
  exact hu p d (hp ▸ hptr)

theorem endTest_keepsPlace (s : State) : s.ssq.keepsPlace s.endTest.ssq := by
  unfold State.endTest
  split
  · rw [event_eq_setLki]
    exact ⟨rfl, rfl, rfl, rfl, rfl, id⟩
  · exact .refl _

theorem offerPending_keepsPlace (s : State) : s.ssq.keepsPlace s.offerPending.ssq := by
  unfold State.offerPending
  split
  · split
    · exact ⟨rfl, rfl, rfl, rfl, rfl, fun _ => rfl⟩
    · exact .refl _
  · exact .refl _

theorem takeReport_keepsPlace {s : State} (h : s.ssq.unfollowed) : s.ssq.keepsPlace s.takeReport.ssq := by
  have hoffer := offerPending_keepsPlace s
  rw [takeReport_no_follow (followStart_unfollowed (hoffer.unfollowed h))]
  exact hoffer.then (endTest_keepsPlace _)

theorem depart_keepsPlace {s : State} (e : Entry) (d rep : Bool) (h : s.ssq.unfollowed) :
    s.ssq.keepsPlace (s.depart e d rep).ssq := by
  have hreport : ∀ (w : State) (m : Manner), w.ssq = s.ssq → s.ssq.keepsPlace (w.report rep e.tag m).ssq := by
    intro w m hw
    unfold State.report
    cases rep
    · have hend := endTest_keepsPlace (w.setAq { w.aq with lastReport := some { tag := e.tag, manner := m, room := w.room } })
      rw [← hw]
      exact hend
    · have hend := takeReport_keepsPlace (s := w.setAq { w.aq with lastReport := some { tag := e.tag, manner := m, room := w.room } })
        (by rw [State.setAq_ssq, hw]; exact h)
      rw [← hw]
      exact hend
  unfold State.depart
  simp only [resetEnd_frame]
  split
  · have hstop : ∀ v : State, v.stoppedIfPending.ssq = v.ssq := fun v => by simp
    rw [hstop]
    refine hreport _ _ ?_
    split <;> simp
  · refine hreport _ _ ?_
    split <;> simp

/-- R151: with no FOLLOW step at the pointer, the runner leaves the sequencer's place alone. -/
theorem settle_keepsPlace (n : Nat) (rep : Bool) {s : State} (h : s.ssq.unfollowed) :
    s.ssq.keepsPlace (State.settle n rep s).ssq := by
  induction n generalizing s with
  | zero => exact .refl _
  | succ n ih =>
    cases hm : s.headMove with
    | wait r =>
      rw [settle_wait n rep hm]
      exact .refl _
    | start e =>
      have hssq : (s.startHead e).ssq = s.ssq := (startHead_frame s e).2.2.2.2.1
      have hnext := ih (s := s.startHead e) (by rw [hssq]; exact h)
      rw [settle_start n rep hm]
      rw [hssq] at hnext
      exact hnext
    | leave e d =>
      have hd := depart_keepsPlace e d rep h
      rw [settle_leave n rep hm]
      exact hd.then (ih (hd.unfollowed h))

end Sys2Proof.Machine
end

section
/-!
The timers of the queue expire, and an entry alone in the queue leaves it (R11 to R17, R38, R151, R154, R156).
-/

namespace Sys2Proof.Machine

/-! ## The show after a head that completes -/

theorem gone_room {s : State} {e x : Entry} (hq : s.aq.queue = [x]) (hr : s.lki.resetting = false) : (s.gone e).room = 12 := by
  simp [State.gone, State.room, hq, hr, queuePlaces]

theorem finish_completes {s : State} {e : Entry} (hm : s.headMove = .leave e false) (hp : s.aq.stopPending = false)
    (hr : s.lki.resetting = false) : s.finish = (State.settle 8191 true (s.gone e).takeReport).refresh := by
  rw [← depart_completes e hp hr]
  exact congrArg State.refresh (settle_leave 8191 true hm)

/-- The queue is empty after the report. -/
theorem finish_completes_empty {s t : State} {e : Entry} (hm : s.headMove = .leave e false) (hp : s.aq.stopPending = false)
    (hr : s.lki.resetting = false) (ht : (s.gone e).takeReport = t) (hq : t.aq.queue = []) :
    s.finish.aq.queue = [] ∧ s.finish.ssq = t.ssq ∧ s.finish.lki = t.lki := by
  rw [finish_completes hm hp hr, ht, settle_empty 8190 true t hq]
  exact ⟨hq, rfl, rfl⟩

/-- R151: the FOLLOW timer starts. -/
theorem checks_follow (n : Nat) {s : State} {d p : Nat} (hf : s.followStart = some (d, p)) (hr : s.ssq.st = .RUNNING) :
    State.checks (n + 1) s =
      if d = 0 then
        if s.aq.mode = .SHOW then State.checks n (s.fireCore p false) else (s.setSsq { s.ssq with follow := .due }).endTest
      else (s.setSsq { s.ssq with follow := .running (s.now + d) }).endTest := by
  rw [State.checks, hf]
  dsimp only
  rw [hr]

theorem followStart_starts {s : State} {p w d : Nat} (hf : s.ssq.follow = .stopped) (hp : s.ssq.ptr = some p)
    (hw : s.ssq.watched = some w) (ht : (s.ssq.step p).trigger = .FOLLOW d) (hpend : s.ssq.pend = none) (hq : s.aq.queue = []) :
    s.followStart = some (1000 * d, p) := by
  have hout : s.outstanding w = false := by simp [State.outstanding, hpend, hq]
  have hdelay : 1000 * d = msec d := Nat.mul_comm ..
  rw [State.followStart, hf, hp, hw, hdelay]
  dsimp only
  rw [ht]
  exact if_neg (by simp [hout])

/-- R153: the place of a step that fires with no fire pending. -/
theorem fireCore_place {s : State} (j : Nat) (chase : Bool) (hpend : s.ssq.pend = none) :
    (s.fireCore j chase).ssq.watched = some j ∧ (s.fireCore j chase).ssq.ptr = s.ssq.linked (s.ssq.step j).next ∧
      (s.fireCore j chase).ssq.follow = .stopped := by
  unfold State.fireCore
  rw [hpend]
  exact ⟨rfl, rfl, rfl⟩

theorem fireCore_unfollowed {s : State} {p : Nat} (hpend : s.ssq.pend = none) (h : s.ssq.followless p) :
    (s.fireCore p false).ssq.unfollowed := by
  obtain ⟨-, hptr, -⟩ := fireCore_place p false hpend
  have hsteps : (s.fireCore p false).ssq.steps = s.ssq.steps := by simp
  intro j d hj
  have hstep : (s.fireCore p false).ssq.step j = s.ssq.step j := by rw [Ssq.step, Ssq.step, hsteps]
  rw [hstep]
  exact h j d (hptr ▸ hj)

theorem entries_tagged {q : Ssq} {j : Nat} {chase : Bool} {e : Entry} (h : e ∈ q.entries j chase) :
    e.running = false ∧ e.origin = .SHOW ∧ e.tag.isSome = true := by
  unfold Ssq.entries at h
  rw [List.mem_append] at h
  rcases h with h | h
  · split at h
    · obtain rfl := List.mem_singleton.mp h
      exact ⟨rfl, rfl, rfl⟩
    · simp at h
  · obtain ⟨a, -, rfl⟩ := List.mem_map.mp h
    exact ⟨rfl, rfl, rfl⟩

/-- R154: the pending fire joins the empty queue, and its first entry is the head. -/
theorem joined_takes {s : State} {e y : Entry} {pf : PendFire} (hq : s.aq.queue = [y]) (hrun : s.ssq.st = .RUNNING)
    (hr : s.lki.resetting = false) (hpend : s.ssq.pend = some pf) (hu : s.ssq.unfollowed) (hn : pf.need ≤ 12) :
    (s.gone e).takeReport = ((s.gone e).joined pf).endTest ∧ ((s.gone e).joined pf).aq.queue = s.ssq.entries pf.index pf.chase := by
  have hoffer : (s.gone e).offerPending = (s.gone e).joined pf :=
    (offerPending_some (s := s.gone e) hpend).trans (if_pos ⟨hrun, by rw [gone_room hq hr]; exact hn⟩)
  have hfollow : ((s.gone e).joined pf).followStart = none := followStart_unfollowed (s := (s.gone e).joined pf) hu
  refine ⟨?_, ?_⟩
  · rw [takeReport_no_follow (by rw [hoffer]; exact hfollow), hoffer]
  · change s.aq.queue.tail ++ s.ssq.entries pf.index pf.chase = _
    rw [hq]
    rfl

theorem settle_leaves_rest {s : State} {e x : Entry} {d : Bool} (n : Nat) (hq : s.aq.queue = [x]) (hm : s.headMove = .leave e d)
    (hs : s.ssq.st ≠ .RUNNING) : (State.settle (n + 2) true s).refresh.thc.cooldown = s.thc.cooldown ∧
      (State.settle (n + 2) true s).refresh.aq.holdDue = s.aq.holdDue := by
  obtain ⟨f, p, l, hd, -⟩ := depart_still e d true hs
  have hgone : (s.depart e d true).aq.queue = [] := by rw [hd, hq]; rfl
  rw [settle_leave (n + 1) true hm, settle_empty n true _ hgone, hd]
  exact ⟨rfl, rfl⟩

/-- R14: a HOLD alone in the queue whose timer has run out. -/
theorem finish_held {s : State} {e : Entry} {ms : Nat} (hq : s.aq.queue = [e]) (hr : e.running = true) (ha : e.action = .HOLD ms)
    (hd : s.aq.holdDue = none) (hs : s.ssq.st ≠ .RUNNING) : s.leaves s.finish e .COMPLETED :=
  finish_leaves hq ((headMove_running hq hr).trans (runningMove_held ha hd)) hs

/-! ## The cases of a start that leaves at once -/

/-- R13 to R16: the only entry starts and leaves at once. -/
theorem only_queued_leaves {s : State} {e : Entry} (hq : s.aq.queue = [e]) (hs : s.ssq.st ≠ .RUNNING) (hr : e.running = false) :
    (∀ target time curve, e.action = .FADE target time curve false → (s.setLmc { s.lmc with ramp :=
      (some { start := s.lmc.level, stop := min target 1000, n := 10 * time, k := 0, curve := curve }) }).leaves
        s.finish e .COMPLETED) ∧
    (e.action = .HOLD 0 → s.aq.holdDue = none → s.leaves s.finish e .COMPLETED) ∧
    (∀ v, e.action = .VOLUME v →
      (s.setTtc { s.ttc with par := { s.ttc.par with volTarget := min v 63 } }).leaves s.finish e .COMPLETED) ∧
    (e.action = .BLANK_ON → (s.setLmc { s.lmc with blanks := { s.lmc.blanks with manual := true } }).leaves
      s.finish e .COMPLETED) ∧
    (e.action = .BLANK_OFF → (s.setLmc { s.lmc with blanks := { s.lmc.blanks with manual := false } }).leaves
      s.finish e .COMPLETED) ∧
    (e.action = .MARK → (s.event .STEP_MARK e.tag).leaves s.finish e .COMPLETED) := by
  refine ⟨fun target time curve ha => ?_, fun ha hd => ?_, fun v ha => ?_, fun ha => ?_, fun ha => ?_, fun ha => ?_⟩
  · exact finish_starts_leaves (d := false) hq hr (by rw [ha]; rfl) (by rw [State.startEffect, ha]; rfl)
      (runningMove_faded ha (.inl rfl)) hs rfl
  · exact finish_starts_leaves (w := s) (d := false) hq hr (by rw [ha]; rfl) (by rw [State.startEffect, ha]; rfl)
      (runningMove_held ha hd) hs rfl
  · exact finish_starts_leaves (d := false) hq hr (by rw [ha]; rfl) (by rw [State.startEffect, ha]; rfl)
      (by rw [State.runningMove, ha]) hs rfl
  · exact finish_starts_leaves (d := false) hq hr (by rw [ha]; rfl) (by rw [State.startEffect, ha]; rfl)
      (by rw [State.runningMove, ha]) hs rfl
  · exact finish_starts_leaves (d := false) hq hr (by rw [ha]; rfl) (by rw [State.startEffect, ha]; rfl)
      (by rw [State.runningMove, ha]) hs rfl
  · exact finish_starts_leaves (d := false) hq hr (by rw [ha]; rfl) (by rw [State.startEffect, ha]; exact event_setAq ..)
      (by rw [State.runningMove, ha]) hs (by simp)

/-- R16, R57: a LAMP_ON or LAMP_OFF that leaves as soon as it starts. -/
theorem only_lamp_leaves {s : State} {e : Entry} (hq : s.aq.queue = [e]) (hs : s.ssq.st ≠ .RUNNING) (hr : e.running = false) :
    (e.action = .LAMP_OFF → s.lmc.power = .OFF → s.leaves s.finish e .COMPLETED) ∧
    (e.action = .LAMP_OFF → s.lmc.power ≠ .OFF → s.finish.aq.queue = [] ∧ s.finish.aq.runner = .EMPTY ∧
      s.finish.aq.lastReport.map Departure.manner = some .COMPLETED ∧ s.finish.lmc.power = .OFF ∧
      s.finish.lmc.outDrive = 0 ∧ s.finish.thc.cooldown.map Cooldown.start = some s.now) ∧
    (e.action = .LAMP_ON → s.lmc.power = .LIT → s.leaves s.finish e .COMPLETED) ∧
    (e.action = .LAMP_ON → s.lmc.power = .OFF →
      s.thc.trip = true ∨ s.thc.fanFault = true ∨ s.thc.power = .STANDBY ∨ s.lmc.noLamp = true →
      s.leaves s.finish e .DROPPED) := by
  refine ⟨fun ha hoff => ?_, fun ha hon => ?_, fun ha hlit => ?_, fun ha hoff href => ?_⟩
  · refine finish_starts_leaves (w := s) (d := false) hq hr (by rw [ha]; rfl) ?_ (by rw [State.runningMove, ha]) hs rfl
    rw [State.startEffect, ha]
    exact lampOff_off (s.taken e []) false hoff
  · have hstart : s.headMove = .start e := (headMove_queued hq hr).trans (queuedMove_of_not_mech (by rw [ha]; rfl))
    obtain ⟨v, hv⟩ : ∃ v, v = (s.taken e []).lampOff false := ⟨_, rfl⟩
    have hstarted : s.startHead e = v := by rw [startHead_eq hq, State.startEffect, ha, hv]
    have hvq : v.aq.queue = [{ e with running := true }] := by
      rw [← hstarted]
      exact startHead_queue hq
    have hvs : v.ssq.st ≠ .RUNNING := by
      rw [← hstarted, (startHead_frame s e).2.2.2.2.1]
      exact hs
    have hmove : v.headMove = .leave { e with running := true } false :=
      (headMove_running hvq rfl).trans (by rw [State.runningMove, ha])
    have hform : s.finish = (State.settle 8191 true v).refresh := by
      rw [← hstarted]
      exact congrArg State.refresh (settle_start 8191 true hstart)
    obtain ⟨hgone, hrunner, hrep, -, hlmc, -⟩ := settle_leaves 8189 hvq hmove hvs
    obtain ⟨hcool, -⟩ := settle_leaves_rest 8189 hvq hmove hvs
    have hoff : v.lmc.power = .OFF ∧ v.lmc.outDrive = 0 := by
      rw [hv, lampOff_lmc (s.taken e []) false hon]
      exact ⟨rfl, rfl⟩
    have hstarts : v.thc.cooldown.map Cooldown.start = some s.now := by
      rw [hv]
      exact lampOff_cooldown (s := s.taken e []) hon
    rw [hform]
    refine ⟨hgone, hrunner, ?_, ?_, ?_, ?_⟩
    · rw [hrep]
      rfl
    · rw [hlmc]
      exact hoff.1
    · rw [hlmc]
      exact hoff.2
    · rw [hcool]
      exact hstarts
  · refine finish_starts_leaves (w := s) (d := false) hq hr (by rw [ha]; rfl) ?_ (runningMove_lit ha hlit) hs rfl
    rw [State.startEffect, ha]
    exact ignite_on (s := s.taken e []) (by simp [State.taken, hlit])
  · refine finish_starts_leaves (w := s) (d := true) hq hr (by rw [ha]; rfl) ?_ (runningMove_unlit ha hoff) hs rfl
    rw [State.startEffect, ha]
    refine ignite_refused (s := s.taken e []) ?_
    change (s.thc.trip || s.thc.fanFault || s.thc.power == .STANDBY || s.lmc.noLamp) = true
    rcases href with h | h | h | h <;> simp [h]

/-! ## The departure in a running show -/

theorem unfollowed_of_any {q : Ssq} (h : (q.ptr.any (fun p => match (q.step p).trigger with
    | .FOLLOW _ => true
    | _ => false)) = false) : q.unfollowed := by
  intro p d hp ht
  simp [hp, ht] at h

/-- R151, R156: the last entry completes, and no fire is pending. -/
theorem running_completes {s : State} {e : Entry} (hq : s.aq.queue = [e]) (hm : s.headMove = .leave e false) (hrun : s.ssq.st = .RUNNING)
    (hr : s.lki.resetting = false) (hp : s.aq.stopPending = false) (hpend : s.ssq.pend = none) :
    (s.ssq.ptr = none → s.finish.aq.queue = [] ∧ s.finish.ssq = { s.ssq with st := .ENDED } ∧
      s.finish.lki = (s.event .SHOW_ENDED none).lki) ∧
    (∀ p w d, s.ssq.ptr = some p → s.ssq.watched = some w → s.ssq.follow = .stopped → (s.ssq.step p).trigger = .FOLLOW d →
      (0 < d → s.finish.aq.queue = [] ∧ s.finish.ssq = { s.ssq with follow := .running (s.now + 1000 * d) } ∧
        s.finish.lki = s.lki) ∧
      (d = 0 → s.aq.mode ≠ .SHOW → s.finish.aq.queue = [] ∧ s.finish.ssq = { s.ssq with follow := .due }) ∧
      (d = 0 → s.aq.mode = .SHOW → s.ssq.followless p → s.finish.ssq.watched = some p ∧
        s.finish.ssq.ptr = s.ssq.linked (s.ssq.step p).next ∧ s.finish.ssq.follow = .stopped)) ∧
    (∀ p, s.ssq.ptr = some p → (∀ d, (s.ssq.step p).trigger ≠ .FOLLOW d) →
      s.finish.aq.queue = [] ∧ s.finish.ssq = s.ssq ∧ s.finish.lki = s.lki) := by
  have hgone : (s.gone e).aq.queue = [] := by
    change s.aq.queue.tail = []
    rw [hq]
    rfl
  have hoffer : (s.gone e).offerPending = s.gone e := offerPending_none (s := s.gone e) hpend
  refine ⟨fun hptr => ?_, fun p w d hptr hw hf htr => ?_, fun p hptr htr => ?_⟩
  · have hu : (s.gone e).ssq.unfollowed := fun p d h => by
      rw [show (s.gone e).ssq.ptr = none from hptr] at h
      exact absurd h (by simp)
    have hend : (s.gone e).takeReport = ((s.gone e).setSsq { s.ssq with st := .ENDED }).event .SHOW_ENDED none := by
      rw [takeReport_no_follow (by rw [hoffer]; exact followStart_unfollowed hu), hoffer]
      exact if_pos ⟨hrun, hptr, hpend, by rw [hgone]; rfl⟩
    obtain ⟨hq0, hssq, hlki⟩ := finish_completes_empty hm hp hr hend (by simpa using hgone)
    refine ⟨hq0, by rw [hssq]; simp, hlki.trans ?_⟩
    exact notice_lki_congr s _ .SHOW_ENDED false none rfl rfl
  · have hstart : (s.gone e).followStart = some (1000 * d, p) := followStart_starts (s := s.gone e) hf hptr hw htr hpend hgone
    have hchecks := checks_follow 255 hstart hrun
    have hreport : (s.gone e).takeReport = State.checks 256 (s.gone e) := congrArg (State.checks 256) hoffer
    have hplaced : ∀ f, ((s.gone e).setSsq { s.ssq with follow := f }).endTest = (s.gone e).setSsq { s.ssq with follow := f } :=
      fun f => endTest_goesOn (.inl (by rw [State.setSsq_ssq, hptr]; simp))
    refine ⟨fun hd => ?_, fun hd hmode => ?_, fun hd hmode hfl => ?_⟩
    · have hend : (s.gone e).takeReport = (s.gone e).setSsq { s.ssq with follow := .running (s.now + 1000 * d) } :=
        hreport.trans (hchecks.trans ((if_neg (by omega)).trans (hplaced _)))
      obtain ⟨hq0, hssq, hlki⟩ := finish_completes_empty hm hp hr hend hgone
      exact ⟨hq0, hssq, hlki⟩
    · have hend : (s.gone e).takeReport = (s.gone e).setSsq { s.ssq with follow := .due } :=
        hreport.trans (hchecks.trans ((if_pos (by omega)).trans ((if_neg hmode).trans (hplaced _))))
      obtain ⟨hq0, hssq, -⟩ := finish_completes_empty hm hp hr hend hgone
      exact ⟨hq0, hssq⟩
    · have hu := fireCore_unfollowed (s := s.gone e) hpend hfl
      have hend : (s.gone e).takeReport = ((s.gone e).fireCore p false).endTest :=
        hreport.trans (hchecks.trans ((if_pos (by omega)).trans ((if_pos hmode).trans
          (checks_no_follow 254 (followStart_unfollowed hu)))))
      obtain ⟨hwat, hptr, hfol⟩ := fireCore_place (s := s.gone e) p false hpend
      have hkeep := endTest_keepsPlace ((s.gone e).fireCore p false)
      obtain ⟨-, kptr, kwat, kfol, -, -⟩ := hkeep.then (settle_keepsPlace 8191 true (hkeep.unfollowed hu))
      rw [finish_completes hm hp hr, hend, (refresh_frame _).2.2.2.2.2.2.2.1]
      exact ⟨kwat.trans hwat, kptr.trans hptr, kfol.trans hfol⟩
  · have hu : (s.gone e).ssq.unfollowed := fun p' d h => by
      obtain rfl : p = p' := Option.some.inj (hptr.symm.trans h)
      exact htr d
    have hend : (s.gone e).takeReport = s.gone e := by
      rw [takeReport_no_follow (by rw [hoffer]; exact followStart_unfollowed hu), hoffer]
      exact endTest_goesOn (.inl (by rw [show (s.gone e).ssq.ptr = some p from hptr]; simp))
    obtain ⟨hq0, hssq, hlki⟩ := finish_completes_empty hm hp hr hend hgone
    exact ⟨hq0, hssq, hlki⟩

/-- R154: the last entry completes, and a fire is pending. -/
theorem running_completes_pending {s : State} {e : Entry} {pf : PendFire} (hq : s.aq.queue = [e]) (hm : s.headMove = .leave e false)
    (hrun : s.ssq.st = .RUNNING) (hr : s.lki.resetting = false) (hp : s.aq.stopPending = false) (hpend : s.ssq.pend = some pf)
    (hu : s.ssq.unfollowed) :
    (12 < pf.need → s.finish.aq.queue = [] ∧ s.finish.ssq = s.ssq ∧ s.finish.lki = s.lki) ∧
    (pf.need ≤ 12 → s.finish.ssq.pend = none ∧ s.finish.ssq.skipped = s.ssq.skipped ∧
      (∀ x rest, s.ssq.entries pf.index pf.chase = x :: rest →
        (x.action.mech = true → s.tmc.st.moving = true →
          s.finish.aq.queue = x :: rest ∧ s.finish.aq.runner = .WAIT_MECH ∧ s.finish.ssq.st = .RUNNING) ∧
        (∀ ms, x.action = .HOLD ms → 0 < ms → s.finish.runs x rest ∧
          s.finish.aq.holdDue = some (s.now + 1000 * ms)))) := by
  have hgone : (s.gone e).aq.queue = [] := by
    change s.aq.queue.tail = []
    rw [hq]
    rfl
  refine ⟨fun hneed => ?_, fun hneed => ?_⟩
  · have hoffer : (s.gone e).offerPending = s.gone e :=
      (offerPending_some (s := s.gone e) hpend).trans (if_neg (by rw [gone_room hq hr]; omega))
    have hend : (s.gone e).takeReport = s.gone e := by
      rw [takeReport_no_follow (by rw [hoffer]; exact followStart_unfollowed (s := s.gone e) hu), hoffer]
      exact endTest_goesOn (.inr (.inl (by rw [show (s.gone e).ssq.pend = some pf from hpend]; simp)))
    obtain ⟨hq0, hssq, hlki⟩ := finish_completes_empty hm hp hr hend hgone
    exact ⟨hq0, hssq, hlki⟩
  · obtain ⟨hend, hentries⟩ := joined_takes (e := e) hq hrun hr hpend hu hneed
    obtain ⟨u, hju⟩ : ∃ u, u = (s.gone e).joined pf := ⟨_, rfl⟩
    have huu : u.ssq.unfollowed := by rw [hju]; exact hu
    have hpend0 : u.ssq.pend = none := by rw [hju]; rfl
    have hskip : u.ssq.skipped = s.ssq.skipped := by rw [hju]; rfl
    rw [← hju] at hend hentries
    have hform : s.finish = (State.settle 8191 true u.endTest).refresh := by rw [finish_completes hm hp hr, hend]
    have hkeep := endTest_keepsPlace u
    obtain ⟨-, -, -, -, kskip, kpend⟩ := hkeep.then (settle_keepsPlace 8191 true (hkeep.unfollowed huu))
    rw [hform]
    refine ⟨?_, ?_, fun x rest hx => ?_⟩
    · rw [(refresh_frame _).2.2.2.2.2.2.2.1]
      exact kpend hpend0
    · rw [(refresh_frame _).2.2.2.2.2.2.2.1]
      exact kskip.trans hskip
    · have huq : u.aq.queue = x :: rest := hentries.trans hx
      obtain ⟨hxr, -, htag⟩ := entries_tagged (show x ∈ s.ssq.entries pf.index pf.chase by rw [hx]; simp)
      have hgoes : u.endTest = u := endTest_goesOn (.inr (.inr (by simp [huq, htag])))
      rw [hgoes]
      refine ⟨fun hmech hmov => ?_, fun ms hms h0 => ?_⟩
      · have hmove : u.headMove = .wait .WAIT_MECH :=
          (headMove_queued huq hxr).trans (queuedMove_moving hmech (by rw [hju]; exact hmov))
        rw [settle_wait 8190 true hmove]
        exact ⟨huq, rfl, by rw [hju]; exact hrun⟩
      · have hstart : u.headMove = .start x := (headMove_queued huq hxr).trans (queuedMove_of_not_mech (by rw [hms]; rfl))
        have heff : u.startHead x = (u.taken x rest).setAq { (u.taken x rest).aq with holdDue := some (s.now + 1000 * ms) } := by
          rw [startHead_eq huq, State.startEffect, hms, show 1000 * ms = msec ms from Nat.mul_comm ..]
          dsimp only
          rw [if_neg (by omega), hju]
          rfl
        have hmove : (u.startHead x).headMove = .wait .RUNNING :=
          (headMove_running (startHead_queue huq) rfl).trans (runningMove_holding hms (by rw [heff]; rfl))
        rw [settle_start 8190 true hstart, settle_wait 8189 true hmove, heff]
        exact ⟨⟨rfl, rfl⟩, rfl⟩

/-- Settles O12. -/
theorem holdAndPacingTimersExpire : Obligations.HoldAndPacingTimersExpire := by
  refine ⟨fun dt s hp => ⟨fun due hd => ?expires, fun hd => ?idle⟩, fun dt ms s o tag due hp hq hd hs => ?alone,
    fun dt s hp hpace => ?pacing, fun s e hq hs => ⟨fun hr => ?queued, fun hr => ?running⟩,
    fun s e hq hr hrun hreset hstop hcase => ?inShow⟩
  case expires =>
    refine next_take hp ?_
    have hd : (s.advance dt).aq.holdDue = some due := hd
    rw [holdExpiry, hd]
    rfl
  case idle =>
    refine next_take hp ?_
    have hd : (s.advance dt).aq.holdDue = none := hd
    rw [holdExpiry, hd]
    rfl
  case alone =>
    have hform : holdExpiry (s.advance dt) = ((s.advance dt).reach due).setAq { s.aq with holdDue := none } := by
      have hd : (s.advance dt).aq.holdDue = some due := hd
      rw [holdExpiry, hd]
      rfl
    obtain ⟨u, hu⟩ : ∃ u, u = ((s.advance dt).reach due).setAq { s.aq with holdDue := none } := ⟨_, rfl⟩
    have huq : u.aq.queue = [{ action := .HOLD ms, origin := o, tag := tag, running := true }] := by rw [hu]; exact hq
    have hus : u.ssq.st ≠ .RUNNING := by rw [hu]; exact hs
    have hmove := (headMove_running huq rfl).trans (runningMove_held rfl (by rw [hu]; rfl))
    obtain ⟨hgone, hrunner, -⟩ := finish_leaves huq hmove hus
    obtain ⟨-, hdue⟩ := settle_leaves_rest 8190 huq hmove hus
    rw [← hu] at hform
    exact ⟨_, next_take hp hform, hgone, hrunner, Eq.trans hdue (by rw [hu]; rfl)⟩
  case pacing =>
    refine next_take hp ?_
    have hpace : (s.advance dt).tmc.pacingOut = false := hpace
    have hdue : (s.advance dt).tmc.pacingDue = s.tmc.idleSince + 10000 * s.tmc.par.pacing := by
      simp only [Tmc.pacingDue, msec, State.advance, State.setNow_tmc]
      omega
    have hreached : decide (((s.advance dt).reach (s.tmc.idleSince + 10000 * s.tmc.par.pacing)).tmc.pacingDue ≤
        ((s.advance dt).reach (s.tmc.idleSince + 10000 * s.tmc.par.pacing)).now) = true :=
      decide_eq_true (Nat.le_trans (Nat.le_of_eq hdue) (Nat.le_max_right ..))
    rw [pacingRunOut, if_neg (fun hc => absurd (hpace.symm.trans hc) (by decide)), hdue, State.evalPacing, hreached, Bool.or_true]
    rfl
  case queued =>
    obtain ⟨hfade, hhold, hvol, hon, hoff, hmark⟩ := only_queued_leaves hq hs hr
    obtain ⟨hoff0, hoff1, hlit, href⟩ := only_lamp_leaves hq hs hr
    refine ⟨hfade, hhold, hvol, hon, hoff, hmark, hoff0, hoff1, hlit, href, fun hm hst => ?_, fun p ha hst hpace hsz => ?_⟩
    · exact finish_leaves (d := true) hq ((headMove_queued hq hr).trans (queuedMove_outOfUse hm hst)) hs
    · exact finish_leaves (d := true) hq ((headMove_queued hq hr).trans ((queuedMove_seek ha hst hpace).trans (if_pos hsz))) hs
  case running =>
    refine ⟨fun target time curve ha hramp => ?_, fun ms ha hd => finish_held hq hr ha hd hs, fun ha hlit => ?_, fun ha hoff => ?_,
      fun hm hst => ?_, fun hm hst => ?_⟩
    · exact finish_leaves (d := false) hq ((headMove_running hq hr).trans (runningMove_faded ha (.inr hramp))) hs
    · exact finish_leaves (d := false) hq ((headMove_running hq hr).trans (runningMove_lit ha hlit)) hs
    · exact finish_leaves (d := true) hq ((headMove_running hq hr).trans (runningMove_unlit ha hoff)) hs
    · exact finish_leaves (d := false) hq ((headMove_running hq hr).trans
        ((runningMove_atRest hm (.inl hst)).trans (by rw [hst]; rfl))) hs
    · exact finish_leaves (d := true) hq ((headMove_running hq hr).trans
        ((runningMove_atRest hm (.inr hst)).trans (by rw [hst]; rfl))) hs
  case inShow =>
    have hmove : s.headMove = .leave e false := by
      rw [headMove_running hq hr]
      rcases hcase with ⟨⟨target, time, curve, ha⟩, hramp⟩ | ⟨⟨ms, ha⟩, hd⟩ | ⟨ha, hlit⟩
      · exact runningMove_faded ha (.inr hramp)
      · exact runningMove_held ha hd
      · exact runningMove_lit ha hlit
    refine ⟨fun hptr hpend => ?_, fun p w d hptr hpend hw hf htr => ?_, fun p hptr htr hpend => ?_, fun pf hpend hany => ?_⟩
    · exact (running_completes hq hmove hrun hreset hstop hpend).1 hptr
    · exact (running_completes hq hmove hrun hreset hstop hpend).2.1 p w d hptr hw hf htr
    · exact (running_completes hq hmove hrun hreset hstop hpend).2.2 p hptr htr
    · exact running_completes_pending hq hmove hrun hreset hstop hpend (unfollowed_of_any hany)

end Sys2Proof.Machine
end

section
/-!
A STOP (R18, R19): what it flushes, what the departures let in, and what it stops.
-/

namespace Sys2Proof.Machine

/-! ## What a report lets into the queue (R153, R154) -/

/-- Entries of step fires join the queue, and nothing else of it changes. -/
def State.lets (s t : State) (es : List Entry) : Prop :=
  t.aq.queue = s.aq.queue ++ es ∧ ∀ e ∈ es, e.running = false ∧ e.origin = .SHOW ∧ e.tag.isSome = true

theorem lets_same {s t : State} (h : t.aq.queue = s.aq.queue) : s.lets t [] := ⟨by rw [h, List.append_nil], by simp⟩

theorem State.lets.then {s t u : State} {es fs : List Entry} (h : s.lets t es) (k : t.lets u fs) : s.lets u (es ++ fs) := by
  obtain ⟨hq, he⟩ := h
  obtain ⟨kq, ke⟩ := k
  refine ⟨by rw [kq, hq, List.append_assoc], fun e hmem => ?_⟩
  rcases List.mem_append.mp hmem with hm | hm
  · exact he e hm
  · exact ke e hm

theorem endTest_queue (s : State) : s.endTest.aq = s.aq := by
  unfold State.endTest
  split <;> simp

theorem fireCore_lets (s : State) (j : Nat) (chase : Bool) : ∃ es, s.lets (s.fireCore j chase) es := by
  obtain ⟨flag, placed, -, hform⟩ := fireCore_eq s j chase
  rw [hform]
  cases placed
  · exact ⟨[], lets_same rfl⟩
  · exact ⟨_, rfl, fun e he => entries_tagged he⟩

theorem checks_lets (n : Nat) (s : State) : ∃ es, s.lets (State.checks n s) es := by
  induction n generalizing s with
  | zero =>
    unfold State.checks
    split <;> exact ⟨[], lets_same (congrArg Aq.queue (endTest_queue _))⟩
  | succ n ih =>
    unfold State.checks
    split
    · exact ⟨[], lets_same (congrArg Aq.queue (endTest_queue _))⟩
    · split
      · split
        · split
          · obtain ⟨es, he⟩ := fireCore_lets s _ false
            obtain ⟨fs, hf⟩ := ih (s.fireCore _ false)
            exact ⟨es ++ fs, he.then hf⟩
          · exact ⟨[], lets_same (congrArg Aq.queue (endTest_queue _))⟩
        · exact ⟨[], lets_same (congrArg Aq.queue (endTest_queue _))⟩
      · exact ⟨[], lets_same (congrArg Aq.queue (endTest_queue _))⟩
      all_goals exact ⟨[], lets_same (congrArg Aq.queue (endTest_queue _))⟩

theorem offerPending_lets (s : State) : ∃ es, s.lets s.offerPending es := by
  unfold State.offerPending
  split
  · split
    · exact ⟨_, rfl, fun e he => entries_tagged he⟩
    · exact ⟨[], lets_same rfl⟩
  · exact ⟨[], lets_same rfl⟩

theorem report_lets (s : State) (rep : Bool) (tag : Option Nat) (m : Manner) : ∃ es, s.lets (s.report rep tag m) es := by
  cases rep
  · have hform : s.report false tag m =
        State.endTest (s.setAq { s.aq with lastReport := some { tag := tag, manner := m, room := s.room } }) := rfl
    exact ⟨[], lets_same (by rw [hform, endTest_queue]; rfl)⟩
  · obtain ⟨es, he⟩ := offerPending_lets (s.setAq { s.aq with lastReport := some { tag := tag, manner := m, room := s.room } })
    obtain ⟨fs, hf⟩ := checks_lets followFuel
      (State.offerPending (s.setAq { s.aq with lastReport := some { tag := tag, manner := m, room := s.room } }))
    exact ⟨es ++ fs, he.then hf⟩

theorem reportAll_lets (rep : Bool) (l : List (Option Nat × Manner)) (s : State) : ∃ es, s.lets (s.reportAll rep l) es := by
  induction l generalizing s with
  | nil => exact ⟨[], lets_same rfl⟩
  | cons d l ih =>
    obtain ⟨es, he⟩ := report_lets s rep d.1 d.2
    obtain ⟨fs, hf⟩ := ih (s.report rep d.1 d.2)
    exact ⟨es ++ fs, he.then hf⟩

/-! ## A running show that comes to no FOLLOW step -/

/-- Nothing waits that a report could let in. -/
def State.letsNone (s : State) : Prop := s.ssq.unfollowed ∧ ∀ p, s.ssq.pend = some p → ¬p.need ≤ s.room

theorem endTest_letsNone {s : State} (h : s.letsNone) : s.endTest.letsNone := by
  obtain ⟨hu, hp⟩ := h
  have hplace := endTest_keepsPlace s
  have hpend : s.endTest.ssq.pend = s.ssq.pend := by
    unfold State.endTest
    split <;> simp
  have hroom : s.endTest.room = s.room := by
    have hr : s.endTest.lki.resetting = s.lki.resetting := by simp
    rw [State.room, State.room, hr, endTest_queue]
  exact ⟨hplace.unfollowed hu, fun p hpe => by rw [hroom]; exact hp p (hpend ▸ hpe)⟩

theorem report_letsNone {s : State} (tag : Option Nat) (m : Manner) (h : s.letsNone) :
    (s.report true tag m).aq.queue = s.aq.queue ∧ (s.report true tag m).letsNone := by
  obtain ⟨w, hw⟩ : ∃ w, w = s.setAq { s.aq with lastReport := some { tag := tag, manner := m, room := s.room } } := ⟨_, rfl⟩
  have hwl : w.letsNone := by rw [hw]; exact h
  have hoffer : w.offerPending = w := by
    unfold State.offerPending
    split
    · rename_i p hp
      exact if_neg (fun hc => hwl.2 p hp hc.2)
    · rfl
  have hform : s.report true tag m = w.endTest := by
    rw [hw] at hoffer hwl ⊢
    exact (takeReport_no_follow (by rw [hoffer]; exact followStart_unfollowed hwl.1)).trans (congrArg State.endTest hoffer)
  rw [hform]
  exact ⟨by rw [endTest_queue, hw]; rfl, endTest_letsNone hwl⟩

theorem reportAll_letsNone {s : State} (l : List (Option Nat × Manner)) (h : s.letsNone) :
    (s.reportAll true l).aq.queue = s.aq.queue := by
  induction l generalizing s with
  | nil => rfl
  | cons d l ih =>
    obtain ⟨hq, hn⟩ := report_letsNone d.1 d.2 h
    exact (ih hn).trans hq

/-- R154: the reports of one flush in a running show. -/
theorem reportAll_running {s : State} {l : List (Option Nat × Manner)} (hl : l ≠ []) (hu : s.ssq.unfollowed) (hrun : s.ssq.st = .RUNNING) :
    (s.reportAll true l).aq.queue = s.aq.queue ++ (match s.ssq.pend with
      | some p => if p.need ≤ s.room then s.ssq.entries p.index p.chase else []
      | none => []) := by
  cases hpend : s.ssq.pend with
  | none =>
    rw [reportAll_letsNone l ⟨hu, fun p hp => by rw [hpend] at hp; exact absurd hp (by simp)⟩, List.append_nil]
  | some p =>
    dsimp only
    by_cases hn : p.need ≤ s.room
    · rw [if_pos hn]
      obtain ⟨d, l, rfl⟩ := List.exists_cons_of_ne_nil hl
      obtain ⟨w, hw⟩ : ∃ w, w = s.setAq { s.aq with lastReport := some { tag := d.1, manner := d.2, room := s.room } } := ⟨_, rfl⟩
      have hoffer : w.offerPending = w.joined p := by
        have hwp : w.ssq.pend = some p := by rw [hw]; exact hpend
        rw [offerPending_some hwp, hw]
        exact if_pos ⟨hrun, hn⟩
      have hju : (w.joined p).ssq.unfollowed := by rw [hw]; exact hu
      have hform : s.report true d.1 d.2 = (w.joined p).endTest := by
        have htake : w.takeReport = (w.joined p).endTest := by
          rw [takeReport_no_follow (by rw [hoffer]; exact followStart_unfollowed hju), hoffer]
        rw [← htake, hw]
        rfl
      have hnone : (w.joined p).endTest.letsNone := endTest_letsNone ⟨hju, fun q hq => by
        rw [show (w.joined p).ssq.pend = none from rfl] at hq
        exact absurd hq (by simp)⟩
      have hnext : s.reportAll true (d :: l) = (s.report true d.1 d.2).reportAll true l := rfl
      rw [hnext, hform, reportAll_letsNone l hnone, endTest_queue, hw]
      rfl
    · rw [if_neg hn, reportAll_letsNone l ⟨hu, fun q hq => by
        obtain rfl : p = q := Option.some.inj (hpend.symm.trans hq)
        exact hn⟩, List.append_nil]

/-! ## The flush of a STOP (R18) -/

/-- R18: what a flush of the whole queue keeps. -/
def Aq.kept (a : Aq) : List Entry := a.queue.filter (fun e => e.running && e.action.mech)

theorem staysThrough_all (e : Entry) : staysThrough coverAll false e = (e.running && e.action.mech) := by
  simp [staysThrough, coverAll]

theorem flushQueue_kept (s : State) : (s.flushQueue coverAll false).aq.queue = s.aq.kept := by
  rw [flushQueue_queue]
  exact congrArg (fun f => s.aq.queue.filter f) (funext staysThrough_all)

theorem flushQueue_room {s : State} (hr : s.lki.resetting = false) : (s.flushQueue coverAll false).room = 12 - s.aq.kept.length := by
  simp [State.room, flushQueue_kept, hr, queuePlaces]

theorem all_stay_iff {s : State} : s.aq.queue.all (staysThrough coverAll false) = true ↔ ¬s.aq.kept.length < s.aq.queue.length := by
  unfold Aq.kept
  rw [List.length_filter_lt_length_iff_exists]
  simp [staysThrough_all]

/-- R17, R18: the queue after the flush of a STOP. -/
theorem flush_all_queue {s : State} (hr : s.lki.resetting = false) : ∃ es, (s.flush coverAll false true).aq.queue = s.aq.kept ++ es ∧
    (∀ e ∈ es, e.running = false ∧ e.origin = .SHOW ∧ e.tag.isSome = true) ∧ (s.ssq.st ≠ .RUNNING → es = []) ∧
    (s.ssq.unfollowed → s.ssq.st = .RUNNING → es = (match s.ssq.pend with
      | some p => if s.aq.kept.length < s.aq.queue.length ∧ p.need ≤ 12 - s.aq.kept.length then s.ssq.entries p.index p.chase else []
      | none => [])) := by
  by_cases hall : s.aq.queue.all (staysThrough coverAll false) = true
  · have hform : s.flush coverAll false true = s.flushQueue coverAll false := if_pos hall
    have hno := all_stay_iff.mp hall
    refine ⟨[], by rw [hform, flushQueue_kept, List.append_nil], by simp, fun _ => rfl, fun _ _ => ?_⟩
    cases s.ssq.pend with
    | none => rfl
    | some p => exact (if_neg (fun hc => hno hc.1)).symm
  · obtain ⟨w, hw⟩ : ∃ w, w = s.flushQueue coverAll false := ⟨_, rfl⟩
    obtain ⟨l, hl⟩ : ∃ l, l = flushReports false (s.aq.queue.filter (fun e => !staysThrough coverAll false e)) := ⟨_, rfl⟩
    have hform : s.flush coverAll false true = w.reportAll true l := by
      have hreset : (w.reportAll true l).lki.resetting = false := by simpa [hw] using hr
      rw [State.flush, if_neg hall, State.flushReported, ← hw, ← hl, resetEnd_of_not_resetting hreset]
    have hwq : w.aq.queue = s.aq.kept := by rw [hw, flushQueue_kept]
    have hws : w.ssq = s.ssq := by simp [hw]
    have hlt : s.aq.kept.length < s.aq.queue.length := Classical.byContradiction fun hno => hall (all_stay_iff.mpr hno)
    have hne : l ≠ [] := by
      intro hnil
      refine hall ?_
      rw [hl] at hnil
      have hempty : s.aq.queue.filter (fun e => !staysThrough coverAll false e) = [] := by
        unfold flushReports at hnil
        split at hnil
        · assumption
        · simp at hnil
      rw [List.filter_eq_nil_iff] at hempty
      simpa using hempty
    obtain ⟨es, hq, hes⟩ := reportAll_lets true l w
    rw [hwq] at hq
    refine ⟨es, by rw [hform, hq], hes, fun hs => ?_, fun hu hrun => ?_⟩
    · obtain ⟨f, x, hstill, -⟩ := reportAll_still (s := w) true l (by rw [hws]; exact hs)
      rw [hstill] at hq
      have hq : w.aq.queue = s.aq.kept ++ es := hq
      rw [hwq] at hq
      exact List.self_eq_append_right.mp hq
    · have hrep := reportAll_running hne (by rw [hws]; exact hu) (by rw [hws]; exact hrun)
      rw [hq, hwq, hws, show w.room = 12 - s.aq.kept.length by rw [hw, flushQueue_room hr]] at hrep
      rw [List.append_cancel_left hrep]
      cases s.ssq.pend with
      | none => rfl
      | some p => simp [hlt]

/-! ## The rest of a STOP (R19) -/

/-- R19: the stop, before STOPPED is noticed or owed. -/
def State.halted (s : State) : State := ((s.flush coverAll false true).truncate.tape .STOP).pauseSeq

theorem stopAll_eq (s : State) : s.stopAll =
    if s.halted.aq.queue.any Entry.running then s.halted.setAq { s.halted.aq with stopPending := true }
    else (s.halted.setAq { s.halted.aq with stopPending := false }).event .STOPPED none := rfl

theorem flush_all_rest (s : State) : (s.flush coverAll false true).lmc = (s.flushQueue coverAll false).lmc ∧
    (s.flush coverAll false true).tmc = (s.flushQueue coverAll false).tmc ∧
    (s.flush coverAll false true).aq.holdDue = (s.flushQueue coverAll false).aq.holdDue ∧
    (s.flush coverAll false true).ttc = s.ttc := by
  unfold State.flush State.flushReported
  split
  · exact ⟨rfl, rfl, rfl, by simp⟩
  · exact ⟨by simp, by simp, by simp, by simp⟩

theorem flush_all_still {s : State} (hs : s.ssq.st ≠ .RUNNING) (hr : s.lki.resetting = false) :
    (s.flush coverAll false true).lki = s.lki ∧ (s.flush coverAll false true).ssq.st = s.ssq.st := by
  unfold State.flush
  split
  · exact ⟨by simp, by simp⟩
  · obtain ⟨f, x, hstill, -⟩ := reportAll_still (s := s.flushQueue coverAll false) true
      (flushReports false (s.aq.queue.filter (fun e => !staysThrough coverAll false e))) (by simpa using hs)
    rw [State.flushReported, hstill, resetEnd_of_not_resetting (by simpa using hr)]
    exact ⟨by simp, by simp⟩

/-- R18: what a flush of the whole queue ends of the head's work. -/
theorem flushQueue_all_lmc (s : State) : (s.flushQueue coverAll false).lmc =
    (match s.aq.queue.head?.map (fun e => (e.running, e.action)) with
      | some (true, .FADE _ _ _ _) => { s.lmc with ramp := none }
      | _ => s.lmc) := by
  unfold State.flushQueue
  cases hq : s.aq.queue with
  | nil => rfl
  | cons e l =>
    simp only [List.head?_cons, Option.map_some]
    cases hr : e.running
    · simp
    · cases ha : e.action <;> simp [coverAll, State.endRunning, ha]

theorem holdDue_flushed (s : State) : (s.flushQueue coverAll false).aq.holdDue =
    (match s.aq.queue.head?.map (fun e => (e.running, e.action)) with
      | some (true, .HOLD _) => none
      | _ => s.aq.holdDue) := by
  unfold State.flushQueue
  cases hq : s.aq.queue with
  | nil => rfl
  | cons e l =>
    simp only [List.head?_cons, Option.map_some]
    cases hr : e.running
    · simp
    · cases ha : e.action <;> simp [coverAll, State.endRunning, ha]

theorem truncate_flushed (s : State) : ((s.flush coverAll false true).truncate).tmc =
    { s.tmc with truncated := s.tmc.truncated || decide (s.tmc.st = .SEEKING) } := by
  obtain ⟨-, htmc, -, -⟩ := flush_all_rest s
  obtain ⟨-, hall, -⟩ := flushQueue_all s
  rw [hall] at htmc
  unfold State.truncate
  rw [htmc]
  by_cases hst : s.tmc.st = .SEEKING
  · rw [if_pos hst, State.setTmc_tmc]
    simp [hst]
  · rw [if_neg hst, htmc]
    simp [hst]

theorem halted_aq (s : State) : s.halted.aq = (s.flush coverAll false true).aq := by simp [State.halted]

theorem halted_lki (s : State) : s.halted.lki = (s.flush coverAll false true).lki := by simp [State.halted]

theorem halted_lmc (s : State) : s.halted.lmc = (s.flushQueue coverAll false).lmc := by
  rw [← (flush_all_rest s).1]
  simp [State.halted]

theorem halted_tmc (s : State) : s.halted.tmc = { s.tmc with truncated := s.tmc.truncated || decide (s.tmc.st = .SEEKING) } := by
  rw [← truncate_flushed]
  simp [State.halted]

/-- R19: the transport after a STOP. -/
theorem halted_ttc (s : State) : s.halted.ttc.st = (if s.ttc.st = .EMPTY then .EMPTY else .STOPPED) ∧ s.halted.ttc.par = s.ttc.par := by
  obtain ⟨w, hw⟩ : ∃ w, w = (s.flush coverAll false true).truncate := ⟨_, rfl⟩
  have hwt : w.ttc = s.ttc := by simp [hw]
  have hstop : (w.tape .STOP).ttc.st = (if s.ttc.st = .EMPTY then .EMPTY else .STOPPED) := by
    rw [tape_taken rfl, setTransport_st, hwt]
    rfl
  have hpar : (w.tape .STOP).ttc.par = s.ttc.par := by
    rw [tape_taken rfl, ← hwt]
    by_cases hst : tapeTarget .STOP w.ttc.st = w.ttc.st
    · rw [setTransport_same w hst.symm]
    · exact (setTransport_change w hst).2.2.1
  have hplay : (w.tape .STOP).ttc.st ≠ .PLAY := by
    rw [hstop]
    split <;> decide
  have hform : s.halted = (w.tape .STOP).pauseSeq := by rw [hw]; rfl
  rw [hform, pauseSeq_ttc hplay]
  exact ⟨hstop, hpar⟩

/-- R19, R160: the sequencer after a STOP. -/
theorem halted_ssq (s : State) (hr : s.lki.resetting = false) :
    (s.ssq.st = .READY → s.halted.ssq.st = .PAUSED) ∧ s.halted.ssq.st ≠ .READY ∧ s.halted.ssq.st ≠ .RUNNING := by
  obtain ⟨w, hw⟩ : ∃ w, w = (s.flush coverAll false true).truncate.tape .STOP := ⟨_, rfl⟩
  have hform : s.halted.ssq = if w.ssq.st = .READY ∨ w.ssq.st = .RUNNING then w.ssq.pausedAt w.now else w.ssq := by
    rw [← pauseSeq_ssq, hw]
    rfl
  refine ⟨fun hready => ?_, ?_, ?_⟩
  · have hws : w.ssq.st = .READY := by
      have hstill := (flush_all_still (s := s) (by rw [hready]; decide) hr).2
      rw [hw, (tape_frame _ _).2.2.2.2.2.2.2.2.1, (truncate_frame _).2.2.2.2.2.2.2.2.1, hstill, hready]
    rw [hform, if_pos (.inl hws)]
    rfl
  · rw [hform]
    split
    · simp [Ssq.pausedAt]
    · simp_all
  · rw [hform]
    split
    · simp [Ssq.pausedAt]
    · simp_all

/-- R19: STOPPED is owed while a CHANGE or SEEK runs, and else noticed. -/
theorem stopAll_ends (s : State) {es : List Entry} (hq : s.halted.aq.queue = s.aq.kept ++ es) (hes : ∀ e ∈ es, e.running = false) :
    s.stopAll = ((if s.aq.kept = [] then s.halted.event .STOPPED none else s.halted).setAq
      { s.halted.aq with stopPending := !s.aq.kept.isEmpty }) := by
  have hany : s.halted.aq.queue.any Entry.running = !s.aq.kept.isEmpty := by
    have hnone : es.any Entry.running = false := by
      rw [List.any_eq_false]
      intro e he
      simp [hes e he]
    rw [hq, List.any_append, hnone, Bool.or_false]
    cases hk : s.aq.kept with
    | nil => rfl
    | cons e l =>
      have he : e ∈ s.aq.kept := by rw [hk]; simp
      obtain ⟨-, hrun⟩ := List.mem_filter.mp he
      simp at hrun
      simp [hrun.1]
  rw [stopAll_eq, hany]
  cases hk : s.aq.kept with
  | nil => exact event_setAq ..
  | cons e l => rfl

/-- R19: a STOP stops. -/
theorem stopAll_stopped {s : State} (hreset : s.lki.resetting = false) : s.stopped s.stopAll := by
  obtain ⟨es, hq, hes, hstill, hrun⟩ := flush_all_queue hreset
  rw [← halted_aq] at hq
  have hform := stopAll_ends s hq (fun e he => (hes e he).1)
  have haq : s.stopAll.aq = { s.halted.aq with stopPending := !s.aq.kept.isEmpty } := by rw [hform]; rfl
  obtain ⟨hlmc, htmc, httc, hssq⟩ : s.stopAll.lmc = s.halted.lmc ∧ s.stopAll.tmc = s.halted.tmc ∧ s.stopAll.ttc = s.halted.ttc ∧
      s.stopAll.ssq = s.halted.ssq := by
    rw [hform]
    split <;> simp
  obtain ⟨htst, htpar⟩ := halted_ttc s
  obtain ⟨hready, hnr, hnrun⟩ := halted_ssq s hreset
  have huq : s.stopAll.aq.queue = s.aq.kept ++ es := by rw [haq]; exact hq
  unfold State.stopped
  rw [hlmc, htmc, httc, hssq]
  refine ⟨fun kept fs hk hf => ?queue, ?_, ?_, halted_tmc s, htst, htpar, ?_, hnr, hnrun⟩
  case queue =>
    have hk : kept = s.aq.kept := hk
    have hf : fs = es := by rw [hf, huq, hk, List.drop_left]
    rw [hk, hf]
    refine ⟨huq, hes, hstill, fun hany hs => hrun (unfollowed_of_any hany) hs, congrArg Aq.stopPending haq, fun hs => ?_⟩
    have hlki : s.halted.lki = s.lki := (halted_lki s).trans (flush_all_still hs hreset).1
    have hnow : s.halted.now = s.now := by simp [State.halted]
    rw [hform]
    change (if s.aq.kept = [] then s.halted.event .STOPPED none else s.halted).lki.notices = _
    split
    · exact notice_notices_congr s s.halted .STOPPED false none (by rw [hlki]; exact ⟨rfl, rfl⟩) hnow
    · rw [hlki]
  · exact (halted_lmc s).trans (flushQueue_all_lmc s)
  · obtain ⟨-, -, hdue, -⟩ := flush_all_rest s
    exact (congrArg Aq.holdDue haq).trans ((congrArg Aq.holdDue (halted_aq s)).trans (hdue.trans (holdDue_flushed s)))
  · split
    · rename_i hs
      exact hready hs
    · rfl

/-- What a STOP is judged by: the blocks that it changes, and the notices. -/
theorem stopped_congr {s z u v : State} (h : z.stopped v) (hz : z.aq = s.aq ∧ z.ssq = s.ssq ∧ z.lmc = s.lmc ∧ z.tmc = s.tmc ∧ z.ttc = s.ttc)
    (hl : z.lki.notices = s.lki.notices ∧ z.lki.enables = s.lki.enables) (hn : z.now = s.now)
    (hv : u.aq = v.aq ∧ u.ssq = v.ssq ∧ u.lmc = v.lmc ∧ u.tmc = v.tmc ∧ u.ttc = v.ttc) (hu : u.lki.notices = v.lki.notices) :
    s.stopped u := by
  obtain ⟨haq, hssq, hlmc, htmc, httc⟩ := hz
  obtain ⟨uaq, ussq, ulmc, utmc, uttc⟩ := hv
  have hevent : ∀ kept : List Entry, (if kept = [] then z.event .STOPPED none else z).lki.notices =
      (if kept = [] then s.event .STOPPED none else s).lki.notices := by
    intro kept
    split
    · exact notice_notices_congr s z .STOPPED false none hl hn
    · exact hl.1
  unfold State.stopped at h ⊢
  simp only [hevent] at h
  rw [haq, hssq, hlmc, htmc, httc] at h
  rw [uaq, ussq, ulmc, utmc, uttc, hu]
  exact h

/-- Settles O11. -/
theorem stopEmptiesAndStops : Obligations.StopEmptiesAndStops := by
  intro dt h arg s ha
  obtain ⟨v, hv⟩ : ∃ v, v = (s.asked dt).stopAll := ⟨_, rfl⟩
  have hr : reqControl .STOP arg (s.asked dt) = done v := by rw [hv]; rfl
  have hstopped : (s.asked dt).stopped v := hv ▸ stopAll_stopped ha.2.2.1
  refine ⟨_, next_control (x := .STOP) ha hr, ?_, ?_, ?_, ?_⟩
  · simp [State.sameBut, State.answered, done, Answer.counted, hv, State.asked]
  · simp [State.answered, done, Answer.counted, hv, State.asked]
  · simp [State.answers, State.answered, done, Answer.counted, hv, State.asked]
  · exact stopped_congr hstopped ⟨rfl, rfl, rfl, rfl, rfl⟩ ⟨rfl, rfl⟩ rfl ⟨rfl, rfl, rfl, rfl, rfl⟩ rfl

end Sys2Proof.Machine
end

section
/-!
The cue track (R118 to R123): edges, intervals and bits, and what the framing leaves of the track.
-/

namespace Sys2Proof.Machine

/-! ## The track, which the framing reads and does not change -/

/-- R118 to R122: what edges and cells move of the cue decoder. -/
structure Track where
  pendHalf : Option Nat
  bits : List (Option Bool)
  bitIndex : Nat
  cellE : Nat
  speed : Nat
  lastEdge : Option Nat
  carrierTimer : Option Nat

def Cud.track (c : Cud) : Track :=
  { pendHalf := c.pendHalf, bits := c.bits, bitIndex := c.bitIndex, cellE := c.cellE, speed := c.speed
    lastEdge := c.lastEdge, carrierTimer := c.carrierTimer }

theorem leaveSync_track (s : State) : s.leaveSync.cud.track = s.cud.track := by
  rw [leaveSync_cud]
  rfl

theorem judgeDegrade_cud (s : State) (errors : Nat) :
    (s.judgeDegrade errors).cud = { s.cud with window := none, degraded := decide (s.cud.par.degThr ≤ errors) } := by
  unfold State.judgeDegrade
  dsimp only
  split <;> simp

/-- R130: the window and DEGRADED after a frame that an open window counts. -/
theorem advanceWindow_cud (s : State) (err : Bool) : (s.advanceWindow err).cud = { s.cud with
    window := (match s.cud.window with
      | none => none
      | some w => if 16 ≤ w.frames + 1 then none
        else some { frames := w.frames + 1, errors := if err then w.errors + 1 else w.errors })
    degraded := (match s.cud.window with
      | none => s.cud.degraded
      | some w => if 16 ≤ w.frames + 1 then decide (s.cud.par.degThr ≤ if err then w.errors + 1 else w.errors)
        else s.cud.degraded) } := by
  unfold State.advanceWindow
  cases hw : s.cud.window with
  | none =>
    dsimp only
    rw [← hw]
  | some w =>
    dsimp only
    by_cases hf : 16 ≤ w.frames + 1
    · rw [if_pos hf, if_pos hf]
      exact (congrArg State.cud (if_pos hf)).trans (judgeDegrade_cud ..)
    · rw [if_neg hf, if_neg hf]
      exact congrArg State.cud (if_neg hf)

theorem advanceWindow_track (s : State) (err : Bool) : (s.advanceWindow err).cud.track = s.cud.track := by
  rw [advanceWindow_cud]
  rfl

/-- R130: the window and DEGRADED after a valid frame. -/
theorem windowValid_cud (s : State) (count : Nat) : (s.windowValid count).cud = { s.cud with
    window := (match s.cud.window with
      | none => if count = 0 then some { frames := 1, errors := 0 } else none
      | some w => if 16 ≤ w.frames + 1 then none else some { frames := w.frames + 1, errors := w.errors })
    degraded := (match s.cud.window with
      | none => s.cud.degraded
      | some w => if 16 ≤ w.frames + 1 then decide (s.cud.par.degThr ≤ w.errors) else s.cud.degraded) } := by
  unfold State.windowValid
  cases hw : s.cud.window with
  | none =>
    by_cases hc : count = 0
    · rw [if_pos ⟨rfl, hc⟩]
      dsimp only
      rw [if_pos hc]
      rfl
    · rw [if_neg (fun h => hc h.2), advanceWindow_cud, hw]
      dsimp only
      rw [if_neg hc]
  | some w =>
    rw [if_neg (by simp), advanceWindow_cud, hw]
    rfl

theorem checkCount_cud (s : State) (count : Nat) :
    (s.checkCount count).cud = { s.cud with expected := some ((count + 1) % 16) } := by
  unfold State.checkCount
  cases s.cud.expected with
  | none => rfl
  | some e =>
    dsimp only
    split <;> simp

/-- R132, R133: a CUE frame, before the show has it. -/
def State.cueJudged (s : State) (n : Nat) : State := s.setCud { s.cud with cand := some (moveCandidate s.cud.cand n) }

/-- R133: the cue is accepted. -/
def Cud.accepts (c : Cud) (n : Nat) : Prop :=
  c.confirmNow ≤ (moveCandidate c.cand n).run ∧ (c.lock = false ∨ c.lastCue ≠ some n)

theorem cueFrameOf_accepted {s : State} {n : Nat} (h : s.cud.accepts n) : s.cueFrameOf n =
    State.handCue (((s.cueJudged n).setCud { (s.cueJudged n).cud with lastCue := some n, lock := true }).count .cueAccepted) n :=
  if_pos h

theorem cueFrameOf_ignored {s : State} {n : Nat} (h : ¬s.cud.accepts n) : s.cueFrameOf n = s.cueJudged n := if_neg h

theorem handCue_cud (s : State) (n : Nat) : (s.handCue n).cud = s.cud := (handCue_frame s n).2.2.2.1

theorem cueFrameOf_cud (s : State) (n : Nat) : (s.cud.accepts n → (s.cueFrameOf n).cud =
      { s.cud with cand := some (moveCandidate s.cud.cand n), lastCue := some n, lock := true }) ∧
    (¬s.cud.accepts n → (s.cueFrameOf n).cud = { s.cud with cand := some (moveCandidate s.cud.cand n) }) := by
  refine ⟨fun h => ?_, fun h => ?_⟩
  · rw [cueFrameOf_accepted h, handCue_cud]
    rfl
  · rw [cueFrameOf_ignored h]
    rfl

theorem frameKind_track (s : State) (kind : FrameKind) (payload : Nat) : (s.frameKind kind payload).cud.track = s.cud.track := by
  unfold State.frameKind
  cases kind with
  | IDLE => rfl
  | TIME => simp [Cud.track, State.dropCandidate]
  | STOP => simp [Cud.track, State.dropCandidate]
  | CUE =>
    by_cases h : s.cud.accepts payload
    · dsimp only
      rw [(cueFrameOf_cud s payload).1 h]
      rfl
    · dsimp only
      rw [(cueFrameOf_cud s payload).2 h]
      rfl

/-- R136: the regenerator buffer after a valid frame. -/
theorem offerFrame_cud (s : State) (kind : FrameKind) (payload : Nat) : (s.offerFrame kind payload).cud = { s.cud with
    buf := if s.cud.par.relay = true ∧ s.cud.framing = .SYNC ∧ s.cud.buf.length < 4 then
      s.cud.buf ++ [{ kind := kind, payload := payload }] else s.cud.buf } := by
  unfold State.offerFrame
  by_cases hr : s.cud.par.relay = true ∧ s.cud.framing = .SYNC
  · rw [if_pos hr]
    by_cases hb : s.cud.buf.length < 4
    · refine (congrArg State.cud (if_pos hb)).trans ?_
      rw [if_pos (show s.cud.par.relay = true ∧ s.cud.framing = .SYNC ∧ s.cud.buf.length < 4 from ⟨hr.1, hr.2, hb⟩)]
      rfl
    · refine (congrArg State.cud (if_neg hb)).trans ?_
      rw [if_neg (show ¬(s.cud.par.relay = true ∧ s.cud.framing = .SYNC ∧ s.cud.buf.length < 4) from fun h => hb h.2.2)]
      rfl
  · rw [if_neg hr, if_neg (fun h => hr ⟨h.1, h.2.1⟩)]

/-- R131: a valid frame, before its kind acts. -/
def State.frameTaken (s : State) (count : Nat) : State :=
  State.windowValid (((s.count .cueValid).checkCount count).setCud
    { ((s.count .cueValid).checkCount count).cud with errs := 0 }) count

theorem validFrame_eq (s : State) (count : Nat) (kind : FrameKind) (payload : Nat) :
    s.validFrame count kind payload = ((s.frameTaken count).frameKind kind payload).offerFrame kind payload := rfl

theorem frameTaken_cud (s : State) (count : Nat) : (s.frameTaken count).cud = { s.cud with
    errs := 0, expected := some ((count + 1) % 16)
    window := (match s.cud.window with
      | none => if count = 0 then some { frames := 1, errors := 0 } else none
      | some w => if 16 ≤ w.frames + 1 then none else some { frames := w.frames + 1, errors := w.errors })
    degraded := (match s.cud.window with
      | none => s.cud.degraded
      | some w => if 16 ≤ w.frames + 1 then decide (s.cud.par.degThr ≤ w.errors) else s.cud.degraded) } := by
  unfold State.frameTaken
  rw [windowValid_cud, checkCount_cud]
  rfl

theorem validFrame_track (s : State) (count : Nat) (kind : FrameKind) (payload : Nat) :
    (s.validFrame count kind payload).cud.track = s.cud.track := by
  have htaken : (s.frameTaken count).cud.track = s.cud.track := by
    rw [frameTaken_cud]
    rfl
  rw [validFrame_eq, offerFrame_cud]
  exact (frameKind_track _ kind payload).trans htaken

/-- R127: the consecutive errors after an errored frame. -/
def Cud.nextErrs (c : Cud) (check : Bool) : Nat := if check && c.par.loss == .SYNC_ONLY then 0 else c.errs + 1

/-- R127: the frame counts as an error, before SYNC is judged. -/
def State.errored (s : State) (check : Bool) : State :=
  let s1 := if check then s.count .cueCheck else s
  s1.setCud { s1.cud with
    errs := s.cud.nextErrs check
    expected := s.cud.expected.map (fun e => (e + 1) % 16) }

theorem errored_cud (s : State) (check : Bool) : (s.errored check).cud = { s.cud with
    errs := s.cud.nextErrs check
    expected := s.cud.expected.map (fun e => (e + 1) % 16) } := by
  cases check <;> rfl

theorem badFrame_eq (s : State) (check : Bool) : s.badFrame check =
    if 3 ≤ s.cud.nextErrs check then (s.errored check).leaveSync
    else (s.errored check).advanceWindow check := by
  cases check <;> rfl

theorem badFrame_track (s : State) (check : Bool) : (s.badFrame check).cud.track = s.cud.track := by
  have herr : (s.errored check).cud.track = s.cud.track := by
    rw [errored_cud]
    rfl
  rw [badFrame_eq]
  split
  · rw [leaveSync_track, herr]
  · rw [advanceWindow_track, herr]

/-- R126: SYNC is entered, before the confirming frame is handled. -/
def State.synced (s : State) : State :=
  let s1 := s.setCud { s.cud with framing := .SYNC, align := s.cud.candAlign }
  let s2 := if s1.cud.prevAlign.isSome && s1.cud.prevAlign != s1.cud.align then
      (s1.event .ALIGN_SHIFT none).count .cueShifts else s1
  (s2.setCud { s2.cud with prevAlign := s2.cud.align, errs := 0, expected := none, cueSync := true }).condNotice .CUE_SYNC true none

theorem enterSync_parts (s : State) (count : Nat) (kind : FrameKind) (payload : Nat) :
    s.enterSync count kind payload = (s.synced.validFrame count kind payload).startCueOut := rfl

theorem synced_cud (s : State) : s.synced.cud = { s.cud with
    framing := .SYNC, align := s.cud.candAlign, prevAlign := s.cud.candAlign, errs := 0, expected := none, cueSync := true } := by
  unfold State.synced
  dsimp only
  split <;> simp

/-- R137, R138: cue-out after SYNC is entered. -/
theorem startCueOut_cud (s : State) : s.startCueOut.cud =
    if s.cud.par.relay = true ∧ s.cud.framing = .SYNC ∧ s.cud.sending = false then ({ s.cud with sending := true } : Cud).slot s.now
    else s.cud := by
  unfold State.startCueOut
  split <;> rfl

theorem startCueOut_track (s : State) : s.startCueOut.cud.track = s.cud.track := by
  rw [startCueOut_cud]
  split <;> rfl

theorem frameBit_track (s : State) : s.frameBit.cud.track = s.cud.track := by
  unfold State.frameBit
  split
  · split
    · rfl
    · split <;> rfl
  · split
    · split
      · rw [enterSync_parts, startCueOut_track, validFrame_track, synced_cud]
        rfl
      all_goals rfl
    · rfl
  · split
    · split
      · exact validFrame_track ..
      · exact badFrame_track ..
      · exact badFrame_track ..
      · exact badFrame_track ..
    · rfl

/-! ## A void bit -/

theorem judgeWindow_void {l : List (Option Bool)} (h : none ∈ l) : judgeWindow l = .damaged :=
  if_pos (List.any_eq_true.mpr ⟨none, h, rfl⟩)

/-- R121, R125 to R127: what a damaged window can do. -/
theorem frameBit_damaged {s : State} (h : judgeWindow s.cud.bits = .damaged) :
    s.frameBit = s ∨ s.frameBit = s.setCud { s.cud with framing := .HUNT } ∨ s.frameBit = s.badFrame false := by
  unfold State.frameBit
  rw [h]
  split
  · split <;> exact .inl rfl
  · split
    · exact .inr (.inl rfl)
    · exact .inl rfl
  · split
    · exact .inr (.inr rfl)
    · exact .inl rfl

theorem badFrame_violations (s : State) :
    (s.badFrame false).cnt.live[Ctr.cueViolations.idx]? = s.cnt.live[Ctr.cueViolations.idx]? := by
  have herr : (s.errored false).cnt = s.cnt := rfl
  rw [badFrame_eq]
  split
  · rw [leaveSync_cnt, State.count, State.setCnt_cnt, herr]
    exact List.getElem?_modify_ne _ _ (by decide)
  · rw [(advanceWindow_frame _ _).2.2.2.2.2.2.2.2.2.2.1, herr]

end Sys2Proof.Machine
end

section
/-!
Edges, the carrier and the speed (R118 to R123).
-/

namespace Sys2Proof.Machine

/-! ## A bit of the track -/

theorem evalSpeed_track (s : State) : s.evalSpeed.cud.track = s.cud.track := by
  unfold State.evalSpeed State.evalSpeedTimer
  split
  · rfl
  · rw [State.setCud_cud, clearSpeedOff_cud]
    rfl

/-- R122: the track after a cell. -/
theorem moveCell_track (s : State) (len : Nat) : (s.moveCell len).cud.track =
    { s.cud.track with cellE := cellStep s.cud.cellE len, speed := 3125000 / cellStep s.cud.cellE len } := by
  unfold State.moveCell
  exact evalSpeed_track _

/-- R121: the last bit positions after one more. -/
def pushed (l : List (Option Bool)) (b : Option Bool) : List (Option Bool) := (if l.length < 32 then l else l.tail) ++ [b]

theorem pushed_full {l : List (Option Bool)} (b : Option Bool) (h : l.length = 32) : pushed l b = l.tail ++ [b] := by
  rw [pushed, if_neg (by omega)]

theorem formBit_track (s : State) (b : Bool) (len : Nat) : (s.formBit b len).cud.track = { s.cud.track with
    bits := pushed s.cud.bits (some b), bitIndex := s.cud.bitIndex + 1, cellE := cellStep s.cud.cellE len
    speed := 3125000 / cellStep s.cud.cellE len } := by
  unfold State.formBit
  rw [frameBit_track, moveCell_track]
  rfl

theorem formVoid_track (s : State) : (s.formVoid).cud.track =
    { s.cud.track with bits := pushed s.cud.bits none, bitIndex := s.cud.bitIndex + 1 } := by
  unfold State.formVoid
  rw [frameBit_track]
  rfl

/-- R122: the cell estimate after a cell. -/
theorem cellStep_int (e len : Nat) : (cellStep e len : Int) = min 3906 (max 2344 (e + Int.tdiv ((len : Int) - e) 16)) := by
  unfold cellStep
  exact Int.toNat_of_nonneg (by omega)

theorem none_mem_pushed (l : List (Option Bool)) : none ∈ pushed l none := by simp [pushed]

/-- R121: a void bit is counted, and reaches neither the show nor the transport. -/
theorem formVoid_keeps (s : State) : s.sameBut s.formVoid [.cud, .lki, .cnt] ∧
    s.formVoid.cnt.live[Ctr.cueViolations.idx]? = s.cnt.live[Ctr.cueViolations.idx]?.map Counter.bump := by
  obtain ⟨w, hw⟩ : ∃ w, w = (s.setCud (s.cud.push none)).count .cueViolations := ⟨_, rfl⟩
  have hform : s.formVoid = w.frameBit := by rw [hw]; rfl
  have hdam : judgeWindow w.cud.bits = .damaged := judgeWindow_void (by rw [hw]; exact none_mem_pushed s.cud.bits)
  have hcnt : w.cnt.live[Ctr.cueViolations.idx]? = s.cnt.live[Ctr.cueViolations.idx]?.map Counter.bump := by
    rw [hw]
    exact List.getElem?_modify_eq ..
  rcases frameBit_damaged hdam with h | h | h
  · rw [hform, h]
    exact ⟨by simp [State.sameBut, hw], hcnt⟩
  · rw [hform, h]
    exact ⟨by simp [State.sameBut, hw], hcnt⟩
  · rw [hform, h]
    exact ⟨by simp [State.sameBut, hw], (badFrame_violations w).trans hcnt⟩

/-! ## Intervals and edges -/

theorem interval_half_first {s : State} {i : Nat} (h : isHalf i s.cud.cellE = true) (hp : s.cud.pendHalf = none) :
    s.interval i = s.setCud { s.cud with pendHalf := some i } := by
  rw [State.interval, if_pos h, hp]

theorem interval_half_second {s : State} {i j : Nat} (h : isHalf i s.cud.cellE = true) (hp : s.cud.pendHalf = some j) :
    s.interval i = (s.setCud { s.cud with pendHalf := none }).formBit true (j + i) := by
  rw [State.interval, if_pos h, hp]

theorem interval_full {s : State} {i : Nat} (h : isHalf i s.cud.cellE = false) (hf : isFull i s.cud.cellE = true)
    (hp : s.cud.pendHalf = none) : s.interval i = (s.setCud { s.cud with pendHalf := none }).formBit false i := by
  rw [State.interval, if_neg (by simp [h]), if_pos hf, hp]

theorem interval_void {s : State} {i : Nat} (h : isHalf i s.cud.cellE = false)
    (hv : isFull i s.cud.cellE = false ∨ s.cud.pendHalf.isSome = true) :
    s.interval i = (s.setCud { s.cud with pendHalf := none }).formVoid := by
  rw [State.interval, if_neg (by simp [h])]
  split
  · rename_i hf
    obtain ⟨j, hj⟩ := Option.isSome_iff_exists.mp (hv.resolve_left (by simp [hf]))
    rw [hj]
  · rfl

/-- R118: an edge leaves its time and the carrier's timer alone in what comes of it. -/
theorem interval_track (s : State) (i : Nat) : (s.interval i).cud.lastEdge = s.cud.lastEdge ∧
    (s.interval i).cud.carrierTimer = s.cud.carrierTimer := by
  have hbit : ∀ b len, ((s.setCud { s.cud with pendHalf := none }).formBit b len).cud.lastEdge = s.cud.lastEdge ∧
      ((s.setCud { s.cud with pendHalf := none }).formBit b len).cud.carrierTimer = s.cud.carrierTimer := fun b len =>
    ⟨congrArg Track.lastEdge (formBit_track _ b len), congrArg Track.carrierTimer (formBit_track _ b len)⟩
  have hvoid : (s.setCud { s.cud with pendHalf := none }).formVoid.cud.lastEdge = s.cud.lastEdge ∧
      (s.setCud { s.cud with pendHalf := none }).formVoid.cud.carrierTimer = s.cud.carrierTimer :=
    ⟨congrArg Track.lastEdge (formVoid_track _), congrArg Track.carrierTimer (formVoid_track _)⟩
  unfold State.interval
  split
  · split
    · exact ⟨rfl, rfl⟩
    · exact hbit true _
  · split
    · split
      · exact hbit false _
      · exact hvoid
    · exact hvoid

/-- R118: an edge in CARRIER, before its interval is judged. -/
def State.edged (s : State) : State := s.setCud { s.cud with lastEdge := some s.now, carrierTimer := some (s.now + 250000) }

theorem edge_carrier {s : State} {t : Nat} (hs : s.cud.par.source ≠ .NONE) (hc : s.cud.carrier = true) (ht : s.cud.lastEdge = some t) :
    s.edge = s.edged.interval (s.now - t) := by
  unfold State.edge
  rw [if_neg hs, if_pos hc, ht]
  rfl

theorem edge_quiet {s : State} (hs : s.cud.par.source ≠ .NONE) (hc : s.cud.carrier = false)
    (ht : ∀ t, s.cud.lastEdge = some t → 50000 < s.now - t) : s.edge = s.setCud { s.cud with lastEdge := some s.now } := by
  unfold State.edge
  rw [if_neg hs]
  dsimp only
  rw [if_neg (by simp [hc])]
  cases hl : s.cud.lastEdge with
  | none => rfl
  | some t => exact if_neg (Nat.not_le_of_gt (ht t hl))

/-- R118: CARRIER is declared. -/
theorem edge_declares {s : State} {t : Nat} (hs : s.cud.par.source ≠ .NONE) (hc : s.cud.carrier = false) (ht : s.cud.lastEdge = some t)
    (hd : s.now - t ≤ 50000) : s.edge = State.evalSpeedTimer (s.setCud { s.cud with
      lastEdge := some s.now, carrier := true, carrierTimer := some (s.now + 250000) }) := by
  unfold State.edge
  rw [if_neg hs]
  dsimp only
  rw [if_neg (by simp [hc]), ht]
  exact if_pos hd

/-- R118: the two edges of a carrier that is found. -/
theorem second_edge {s : State} {gap : Nat} (hs : s.cud.par.source ≠ .NONE) (hc : s.cud.carrier = false) (hg : gap ≤ 50000) :
    (s.edge.advance gap).edge.cud.carrier = true ∧ (s.edge.advance gap).edge.cud.lastEdge = some (s.now + gap) ∧
      (s.edge.advance gap).edge.cud.carrierTimer = some (s.now + gap + 250000) := by
  have hfirst : s.edge.cud.lastEdge = some s.now ∧ s.edge.cud.par = s.cud.par ∧ s.edge.now = s.now := by
    refine ⟨?_, by simp, by simp⟩
    by_cases hq : ∀ t, s.cud.lastEdge = some t → 50000 < s.now - t
    · rw [edge_quiet hs hc hq]
      rfl
    · obtain ⟨t, ht⟩ := Classical.not_forall.mp hq
      obtain ⟨hl, hd⟩ := Classical.not_imp.mp ht
      rw [edge_declares hs hc hl (Nat.not_lt.mp hd)]
      rfl
  obtain ⟨hl, hpar, hnow⟩ := hfirst
  obtain ⟨w, hw⟩ : ∃ w, w = s.edge.advance gap := ⟨_, rfl⟩
  have hwl : w.cud.lastEdge = some s.now := by rw [hw]; exact hl
  have hws : w.cud.par.source ≠ .NONE := by
    rw [hw]
    change s.edge.cud.par.source ≠ .NONE
    rw [hpar]
    exact hs
  have hwn : w.now = s.now + gap := by
    rw [hw]
    change s.edge.now + gap = _
    rw [hnow]
  have hgap : w.now - s.now ≤ 50000 := by omega
  rw [← hw, ← hwn]
  cases hwc : w.cud.carrier
  · rw [edge_declares hws hwc hwl hgap]
    exact ⟨rfl, rfl, rfl⟩
  · rw [edge_carrier hws hwc hwl]
    obtain ⟨hedge, htimer⟩ := interval_track w.edged (w.now - s.now)
    have hcar : (w.edged.interval (w.now - s.now)).cud.carrier = w.edged.cud.carrier := by simp
    exact ⟨hcar.trans hwc, hedge, htimer⟩

/-! ## NO_CARRIER -/

/-- R118, R123, R128: the cue decoder after NO_CARRIER is declared. -/
theorem loseCarrier_form (s : State) : s.loseCarrier.cud = { (if s.cud.framing = .SYNC then s.leaveSync else s).cud with
    carrier := false, carrierTimer := none, framing := .HUNT, pendHalf := none, bits := [], bitIndex := 0
    prevAlign := none, cellE := 3125, speed := 1000, speedOff := false, speedOffTimer := none } := by
  unfold State.loseCarrier
  exact evalSpeed_rest _ rfl rfl

/-- R121, R122: the answer of a bit that an edge forms. -/
theorem edge_forms_bit {dt t i len : Nat} {s : State} {b : Bool} (hp : s.powered = true) (hs : s.cud.par.source ≠ .NONE)
    (hc : s.cud.carrier = true) (ht : s.cud.lastEdge = some t) (hi : i = s.now + dt - t) (hb : s.cud.bits.length = 32)
    (hform : (s.advance dt).edged.interval i =
      ((s.advance dt).edged.setCud { (s.advance dt).edged.cud with pendHalf := none }).formBit b len) :
    ∃ u : State, exec (.cueInputEdge dt) s = .next u.finish ∧
      s.sameBut u [.aq, .tmc, .lmc, .thc, .ttc, .cud, .ssq, .lki, .cnt, .sts] ∧ u.cud.pendHalf = none ∧
      u.cud.bits = s.cud.bits.tail ++ [some b] ∧ u.cud.bitIndex = s.cud.bitIndex + 1 ∧
      (u.cud.cellE : Int) = min 3906 (max 2344 (s.cud.cellE + Int.tdiv ((len : Int) - s.cud.cellE) 16)) ∧
      u.cud.speed = 3125000 / u.cud.cellE ∧ u.cud.lastEdge = some (s.now + dt) ∧
      u.cud.carrierTimer = some (s.now + dt + 250000) := by
  obtain ⟨w, hw⟩ : ∃ w, w = (s.advance dt).edged.setCud { (s.advance dt).edged.cud with pendHalf := none } := ⟨_, rfl⟩
  have hedge : cueInputEdge (s.advance dt) = w.formBit b len := by
    rw [cueInputEdge, edge_carrier (s := s.advance dt) hs hc ht, hw, ← hform, hi]
    rfl
  have htrack := formBit_track w b len
  have hcell : (w.formBit b len).cud.cellE = cellStep s.cud.cellE len := by
    refine (congrArg Track.cellE htrack).trans ?_
    rw [hw]
    rfl
  refine ⟨_, next_take hp hedge, by simp [State.sameBut, hw, State.edged], ?_, ?_, ?_, ?_, ?_, ?_, ?_⟩
  · exact (congrArg Track.pendHalf htrack).trans (by rw [hw]; rfl)
  · refine (congrArg Track.bits htrack).trans ?_
    rw [hw]
    exact pushed_full (some b) hb
  · exact (congrArg Track.bitIndex htrack).trans (by rw [hw]; rfl)
  · rw [hcell]
    exact cellStep_int ..
  · rw [hcell]
    exact (congrArg Track.speed htrack).trans (by rw [hw]; rfl)
  · exact (congrArg Track.lastEdge htrack).trans (by rw [hw]; rfl)
  · exact (congrArg Track.carrierTimer htrack).trans (by rw [hw]; rfl)

/-- Settles O35. -/
theorem edgesCarrierAndSpeed : Obligations.EdgesCarrierAndSpeed := by
  refine ⟨fun dt s hp => ⟨fun hs => ?unselected, fun hs hc ht => ?quiet, fun t hs hc ht hd => ?declared, fun gap hs hc hg => ?detected,
    fun t i hs hc ht hi hhalf => ⟨fun hpend => ?firstHalf, fun j hpend hb => ?secondHalf⟩, fun due hdue => ?lost, fun due hdue => ?speed⟩,
    fun dt t i half full s hp hs hc ht hi hb hhalf hfull => ⟨fun hf hpend => ?fullCell, fun hh hv => ?voidBit⟩⟩
  case unselected =>
    exact next_take hp (if_pos hs)
  case quiet =>
    exact next_take hp (edge_quiet (s := s.advance dt) hs hc ht)
  case declared =>
    exact ⟨_, next_take hp (edge_declares (s := s.advance dt) hs hc ht hd), by simp [State.sameBut], rfl, rfl, rfl, rfl, rfl⟩
  case detected =>
    have hform : carrierDetect gap (s.advance dt) = ((s.advance dt).edge.advance gap).edge := if_neg (by simp [hc])
    obtain ⟨hcar, hedge, htimer⟩ := second_edge (s := s.advance dt) hs hc hg
    refine ⟨_, next_take hp hform, by simp [State.sameBut], by simp, hcar, hedge, htimer⟩
  case firstHalf =>
    refine next_take hp ?_
    have hh : isHalf i (s.advance dt).edged.cud.cellE = true := decide_eq_true hhalf
    rw [cueInputEdge, edge_carrier (s := s.advance dt) hs hc ht,
      show (s.advance dt).now - t = i from hi.symm, interval_half_first hh hpend]
    rfl
  case secondHalf =>
    have hh : isHalf i (s.advance dt).edged.cud.cellE = true := decide_eq_true hhalf
    obtain ⟨u, hexec, hsame, hpend, hbits, hindex, hcell, hspeed, -, htimer⟩ :=
      edge_forms_bit (b := true) (len := j + i) hp hs hc ht hi hb (interval_half_second hh hpend)
    exact ⟨u, hexec, hsame, hpend, hbits, hindex, hcell, hspeed, htimer⟩
  case lost =>
    have hform : carrierTimerExpiry (s.advance dt) = ((s.advance dt).reach due).loseCarrier := by
      have hdue : (s.advance dt).cud.carrierTimer = some due := hdue
      rw [carrierTimerExpiry, hdue]
      rfl
    have hcud := loseCarrier_form ((s.advance dt).reach due)
    refine ⟨_, next_take hp hform, by simp [State.sameBut, State.reach], by simp [State.reach], ?_⟩
    rw [hcud]
    refine ⟨rfl, rfl, rfl, rfl, rfl, rfl, rfl, rfl, rfl, rfl, rfl, ?_, ?_, ?_, fun hsync => ?_⟩
    · split
      · rw [leaveSync_cud]
        rfl
      · rfl
    · split
      · rw [leaveSync_cud]
        rfl
      · rfl
    · split
      · rw [leaveSync_cud]
        rfl
      · rfl
    · have hsync : ((s.advance dt).reach due).cud.framing = .SYNC := hsync
      rw [if_pos hsync, leaveSync_cud]
      exact ⟨rfl, rfl, rfl, rfl, rfl, rfl, rfl, rfl⟩
  case speed =>
    refine next_take hp ?_
    have hdue : (s.advance dt).cud.speedOffTimer = some due := hdue
    rw [speedOffTimerExpiry, hdue]
    rfl
  case fullCell =>
    rw [hf] at hfull
    obtain ⟨hlen, hno⟩ : decide (4 * ((i : Int) - s.cud.cellE).natAbs ≤ s.cud.cellE) = true ∧ half = false := by
      simpa using hfull.symm
    have hh : isHalf i (s.advance dt).edged.cud.cellE = false := hhalf.symm.trans hno
    exact edge_forms_bit (b := false) (len := i) hp hs hc ht hi hb (interval_full hh hlen hpend)
  case voidBit =>
    have hh : isHalf i (s.advance dt).edged.cud.cellE = false := hhalf.symm.trans hh
    have hfull : isFull i (s.advance dt).edged.cud.cellE = full := by
      rw [hfull, hhalf.trans hh]
      exact (Bool.and_true _).symm
    obtain ⟨w, hw⟩ : ∃ w, w = (s.advance dt).edged.setCud { (s.advance dt).edged.cud with pendHalf := none } := ⟨_, rfl⟩
    have hedge : cueInputEdge (s.advance dt) = w.formVoid := by
      rw [cueInputEdge, edge_carrier (s := s.advance dt) hs hc ht, show (s.advance dt).now - t = i from hi.symm,
        interval_void hh (hv.imp_left hfull.trans), hw]
    obtain ⟨hkeeps, hcnt⟩ := formVoid_keeps w
    have htrack := formVoid_track w
    refine ⟨_, next_take hp hedge, ?_, ?_, ?_, ?_, ?_, ?_, ?_, ?_, ?_⟩
    · rw [hw] at hkeeps ⊢
      simpa [State.sameBut, State.edged] using hkeeps
    · exact (congrArg Track.pendHalf htrack).trans (by rw [hw]; rfl)
    · refine (congrArg Track.bits htrack).trans ?_
      rw [hw]
      exact pushed_full none hb
    · exact (congrArg Track.bitIndex htrack).trans (by rw [hw]; rfl)
    · exact (congrArg Track.cellE htrack).trans (by rw [hw]; rfl)
    · exact (congrArg Track.speed htrack).trans (by rw [hw]; rfl)
    · exact (congrArg Track.lastEdge htrack).trans (by rw [hw]; rfl)
    · exact (congrArg Track.carrierTimer htrack).trans (by rw [hw]; rfl)
    · rw [hcnt, hw]
      rfl

end Sys2Proof.Machine
end

section
/-!
A frame of the cue track (R124 to R138): what 32 cells come to, the way from HUNT to SYNC, and a frame in SYNC.
-/

namespace Sys2Proof.Machine

/-! ## Cells that end no frame -/

/-- R121, R122: a cell joins the track, before the framing looks at it. -/
def State.hear (s : State) (c : CueCell) : State :=
  match c with
  | .bit b len => (s.setCud (s.cud.push (some b))).moveCell len
  | .void => (s.setCud (s.cud.push none)).count .cueViolations

theorem takeCell_eq (s : State) (c : CueCell) : s.takeCell c = (s.hear c).frameBit := by
  cases c <;> rfl

/-- The last bit positions after some cells. -/
def heardBits (l : List (Option Bool)) (cells : List CueCell) : List (Option Bool) := cells.foldl (fun b c => pushed b (cellValue c)) l

theorem heardBits_snoc (l : List (Option Bool)) (cells : List CueCell) (c : CueCell) :
    heardBits l (cells ++ [c]) = pushed (heardBits l cells) (cellValue c) := by
  rw [heardBits, List.foldl_append]
  rfl

/-- `v` has heard the cells: the bits, the cell estimate and the speed have moved, and what a speed means. -/
def State.hears (s : State) (cells : List CueCell) (v : State) : Prop :=
  ∃ e speed off due l n, v = ((s.setCud { s.cud with
      bits := heardBits s.cud.bits cells, bitIndex := s.cud.bitIndex + cells.length, cellE := e, speed := speed, speedOff := off
      speedOffTimer := due }).setLki l).setCnt n ∧ l.resetting = s.lki.resetting ∧ l.enables = s.lki.enables

theorem hear_bit (s : State) (b : Bool) (len : Nat) : s.hears [.bit b len] (s.hear (.bit b len)) := by
  obtain ⟨w, hw⟩ : ∃ w, w = (s.setCud (s.cud.push (some b))).setCud { (s.cud.push (some b)) with
    cellE := cellStep s.cud.cellE len, speed := 3125000 / cellStep s.cud.cellE len } := ⟨_, rfl⟩
  have hform : s.hear (.bit b len) = w.evalSpeed := by rw [hw]; rfl
  obtain ⟨x, hx⟩ : ∃ x, x = if speedFar w.cud.speed then w else w.clearSpeedOff := ⟨_, rfl⟩
  obtain ⟨off, hcud⟩ : ∃ off, x.cud = { w.cud with speedOff := off } := by
    rw [hx]
    split
    · exact ⟨w.cud.speedOff, rfl⟩
    · exact ⟨false, clearSpeedOff_cud w⟩
  have hxe : x = (w.setCud x.cud).setLki x.lki := by
    rw [hx]
    split
    · rfl
    · unfold State.clearSpeedOff State.condNotice State.notice
      (repeat' split) <;> rfl
  have hlki : x.lki.resetting = s.lki.resetting ∧ x.lki.enables = s.lki.enables := by
    rw [hx, hw]
    split <;> simp
  refine ⟨cellStep s.cud.cellE len, 3125000 / cellStep s.cud.cellE len, off, x.evalSpeedTimer.cud.speedOffTimer, x.lki, s.cnt, ?_, hlki.1, hlki.2⟩
  have hspeed : w.evalSpeed = x.setCud { x.cud with speedOffTimer := x.evalSpeedTimer.cud.speedOffTimer } := by rw [hx]; rfl
  rw [hform, hspeed]
  obtain ⟨y, hy⟩ : ∃ y, y = x.evalSpeedTimer.cud.speedOffTimer := ⟨_, rfl⟩
  rw [← hy, hcud, hxe, hw]
  rfl

theorem hear_hears (s : State) (c : CueCell) : s.hears [c] (s.hear c) := by
  cases c with
  | bit b len => exact hear_bit s b len
  | void => exact ⟨s.cud.cellE, s.cud.speed, s.cud.speedOff, s.cud.speedOffTimer, s.lki, _, rfl, rfl, rfl⟩

theorem hears_snoc {s v : State} {cells : List CueCell} (c : CueCell) (h : s.hears cells v) : s.hears (cells ++ [c]) (v.hear c) := by
  obtain ⟨e, sp, off, due, l, n, rfl, hr, he⟩ := h
  obtain ⟨e2, sp2, off2, due2, l2, n2, hv, hr2, he2⟩ := hear_hears (((s.setCud { s.cud with
      bits := heardBits s.cud.bits cells, bitIndex := s.cud.bitIndex + cells.length, cellE := e, speed := sp, speedOff := off
      speedOffTimer := due }).setLki l).setCnt n) c
  refine ⟨e2, sp2, off2, due2, l2, n2, ?_, hr2.trans hr, he2.trans he⟩
  rw [hv, heardBits_snoc, List.length_append]
  rfl

theorem hears_nil (s : State) : s.hears [] s := ⟨s.cud.cellE, s.cud.speed, s.cud.speedOff, s.cud.speedOffTimer, s.lki, s.cnt, rfl, rfl, rfl⟩

/-- No frame ends at this bit. -/
def Cud.noFrame (c : Cud) : Prop :=
  (c.framing = .HUNT → c.bits.length < 32) ∧ (c.framing = .CONFIRM → c.candAlign ≠ some (c.bitIndex % 32)) ∧
    (c.framing = .SYNC → c.align ≠ some (c.bitIndex % 32))

theorem frameBit_noFrame {s : State} (h : s.cud.noFrame) : s.frameBit = s := by
  obtain ⟨hhunt, hconf, hsync⟩ := h
  unfold State.frameBit
  split
  · rename_i hf
    exact if_pos (hhunt hf)
  · rename_i hf
    exact if_neg (by simpa [Cud.atCandidate] using hconf hf)
  · rename_i hf
    exact if_neg (by simpa [Cud.atAlign] using hsync hf)

/-- No frame ends within the next `k` bits. -/
def Cud.quietFor (c : Cud) (k : Nat) : Prop :=
  (c.framing = .HUNT → c.bits.length + k < 32) ∧
    ∀ j, 1 ≤ j → j ≤ k → (c.framing = .CONFIRM → c.candAlign ≠ some ((c.bitIndex + j) % 32)) ∧
      (c.framing = .SYNC → c.align ≠ some ((c.bitIndex + j) % 32))

theorem pushed_length_le (l : List (Option Bool)) (b : Option Bool) : (pushed l b).length ≤ l.length + 1 := by
  unfold pushed
  split <;> simp

theorem heardBits_length_le (l : List (Option Bool)) (cells : List CueCell) : (heardBits l cells).length ≤ l.length + cells.length := by
  induction cells using List.reverseRecOn with
  | nil => exact Nat.le_refl _
  | append_singleton cells c ih =>
    have hone := pushed_length_le (heardBits l cells) (cellValue c)
    rw [heardBits_snoc, List.length_append]
    simp only [List.length_singleton]
    omega

theorem hears_noFrame {s v : State} {cells : List CueCell} (hv : s.hears cells v) (hq : s.cud.quietFor cells.length)
    (hne : 1 ≤ cells.length) : v.cud.noFrame := by
  obtain ⟨e, sp, off, due, l, n, rfl, -, -⟩ := hv
  obtain ⟨hhunt, halign⟩ := hq
  obtain ⟨hconf, hsync⟩ := halign cells.length hne (Nat.le_refl _)
  refine ⟨fun hf => ?_, hconf, hsync⟩
  exact Nat.lt_of_le_of_lt (heardBits_length_le s.cud.bits cells) (hhunt hf)

theorem Cud.quietFor.mono {c : Cud} {j k : Nat} (h : c.quietFor k) (hjk : j ≤ k) : c.quietFor j := by
  obtain ⟨hhunt, halign⟩ := h
  exact ⟨fun hf => Nat.lt_of_le_of_lt (Nat.add_le_add_left hjk _) (hhunt hf), fun i hi hij => halign i hi (Nat.le_trans hij hjk)⟩

/-- Cells within which no frame ends are heard, and no more. -/
theorem takeCells_quiet {s : State} {cells : List CueCell} (hq : s.cud.quietFor cells.length) :
    s.hears cells (cells.foldl State.takeCell s) := by
  induction cells using List.reverseRecOn with
  | nil => exact hears_nil s
  | append_singleton cells c ih =>
    have hall := hears_snoc c (ih (hq.mono (by simp)))
    rw [List.foldl_append]
    change s.hears (cells ++ [c]) ((cells.foldl State.takeCell s).takeCell c)
    rw [takeCell_eq, frameBit_noFrame (hears_noFrame hall hq (by simp))]
    exact hall

/-! ## The 32 cells of a frame -/

theorem heardBits_eq {l : List (Option Bool)} (hl : l.length ≤ 32) (cells : List CueCell) :
    heardBits l cells = (l ++ cells.map cellValue).drop (l.length + cells.length - 32) := by
  induction cells using List.reverseRecOn with
  | nil =>
    rw [List.map_nil, List.append_nil, show l.length + ([] : List CueCell).length - 32 = 0 from Nat.sub_eq_zero_of_le hl]
    rfl
  | append_singleton cells c ih =>
    rw [heardBits_snoc, ih, pushed, List.map_append, List.length_append, ← List.append_assoc]
    have hlen : ((l ++ cells.map cellValue).drop (l.length + cells.length - 32)).length =
        l.length + cells.length - (l.length + cells.length - 32) := by simp
    by_cases hn : l.length + cells.length < 32
    · have h0 : l.length + cells.length - 32 = 0 := by omega
      have h1 : l.length + (cells.length + [c].length) - 32 = 0 := by
        simp only [List.length_singleton]
        omega
      rw [if_pos (by omega), h0, h1]
      rfl
    · have h1 : l.length + (cells.length + [c].length) - 32 = l.length + cells.length - 32 + 1 := by
        simp only [List.length_singleton]
        omega
      have hle : l.length + cells.length - 32 + 1 ≤ (l ++ cells.map cellValue).length := by
        rw [List.length_append, List.length_map]
        omega
      rw [if_neg (by omega), h1, List.tail_drop]
      exact (List.drop_append_of_le_length hle).symm

theorem heardBits_frame {l : List (Option Bool)} {cells : List CueCell} (hl : l.length ≤ 32) (hc : cells.length = 32) :
    heardBits l cells = cells.map cellValue := by
  rw [heardBits_eq hl, hc, Nat.add_sub_cancel]
  exact List.drop_left

/-- R118: the carrier goes on with the stretch of track that a frame takes. -/
def State.played (s : State) : State :=
  s.setCud { s.cud with lastEdge := some s.now, pendHalf := none, carrierTimer := some (s.now + 250000) }

/-- A frame of 32 cells, of which the last alone may end a frame: the framing sees those 32 bits. -/
theorem cueFrame_hears {s : State} {cells : List CueCell} (hcar : s.cud.carrier = true) (hlen : cells.length = 32)
    (hq : s.cud.quietFor 31) : ∃ w, cueFrame cells s = w.frameBit ∧ s.played.hears cells w := by
  obtain ⟨init, c, rfl⟩ : ∃ init c, cells = init ++ [c] := by
    rcases List.eq_nil_or_concat cells with h | ⟨init, c, h⟩
    · simp [h] at hlen
    · exact ⟨init, c, by rw [h, List.concat_eq_append]⟩
  have hinit : init.length = 31 := by simpa using hlen
  have hfirst : s.played.hears init (init.foldl State.takeCell s.played) := takeCells_quiet (by rw [hinit]; exact hq)
  refine ⟨_, ?_, hears_snoc c hfirst⟩
  have hform : cueFrame (init ++ [c]) s = (init ++ [c]).foldl State.takeCell s.played := if_pos hcar
  rw [hform, List.foldl_append]
  exact takeCell_eq _ c

/-- What the framing sees of the frame: the state of before, with the 32 bits. -/
theorem hears_facts {s w : State} {cells : List CueCell} (hw : s.played.hears cells w) (hlen : cells.length = 32)
    (hb : s.cud.bits.length ≤ 32) : s.sameBut w [.cud, .lki, .cnt] ∧ w.now = s.now ∧ w.lki.resetting = s.lki.resetting ∧
    w.lki.enables = s.lki.enables ∧ w.cud.bits = cells.map cellValue ∧ w.cud.bitIndex = s.cud.bitIndex + 32 ∧
    ∃ e sp off due, w.cud = { s.cud with
      lastEdge := some s.now, pendHalf := none, carrierTimer := some (s.now + 250000), bits := cells.map cellValue
      bitIndex := s.cud.bitIndex + 32, cellE := e, speed := sp, speedOff := off, speedOffTimer := due } := by
  obtain ⟨e, sp, off, due, l, n, rfl, hr, he⟩ := hw
  have hbits : heardBits s.played.cud.bits cells = cells.map cellValue := heardBits_frame hb hlen
  refine ⟨by simp [State.sameBut, State.played], rfl, hr, he, hbits, congrArg (s.cud.bitIndex + ·) hlen, e, sp, off, due, ?_⟩
  change ({ s.played.cud with
      bits := heardBits s.played.cud.bits cells, bitIndex := s.played.cud.bitIndex + cells.length, cellE := e, speed := sp
      speedOff := off, speedOffTimer := due } : Cud) = _
  rw [hbits, hlen]
  rfl

theorem quietFor_align {c : Cud} (h : c.framing = .SYNC ∧ c.align = some (c.bitIndex % 32) ∨
    c.framing = .CONFIRM ∧ c.candAlign = some (c.bitIndex % 32)) : c.quietFor 31 := by
  have hne : ∀ j, 1 ≤ j → j ≤ 31 → some (c.bitIndex % 32) ≠ some ((c.bitIndex + j) % 32) := by
    intro j h1 h2 heq
    have heq := Option.some.inj heq
    omega
  rcases h with ⟨hf, ha⟩ | ⟨hf, ha⟩
  · refine ⟨fun hh => ?_, fun j h1 h2 => ⟨fun hh => ?_, fun _ => ?_⟩⟩
    · rw [hf] at hh
      exact absurd hh (by decide)
    · rw [hf] at hh
      exact absurd hh (by decide)
    · rw [ha]
      exact hne j h1 h2
  · refine ⟨fun hh => ?_, fun j h1 h2 => ⟨fun _ => ?_, fun hh => ?_⟩⟩
    · rw [hf] at hh
      exact absurd hh (by decide)
    · rw [ha]
      exact hne j h1 h2
    · rw [hf] at hh
      exact absurd hh (by decide)

theorem quietFor_hunt {c : Cud} (hf : c.framing = .HUNT) (hb : c.bits = []) : c.quietFor 31 := by
  refine ⟨fun _ => by simp [hb], fun j _ _ => ⟨fun hh => ?_, fun hh => ?_⟩⟩
  · rw [hf] at hh
    exact absurd hh (by decide)
  · rw [hf] at hh
    exact absurd hh (by decide)

end Sys2Proof.Machine
end

section
/-!
From HUNT to SYNC (R125, R126, R138), and the cue decoder after a frame in SYNC (R127 to R136).
-/

namespace Sys2Proof.Machine

/-! ## What the framing does at the end of a frame -/

theorem frameBit_hunt_valid {s : State} {c p : Nat} {k : FrameKind} (hf : s.cud.framing = .HUNT) (hb : s.cud.bits.length = 32)
    (hj : judgeWindow s.cud.bits = .valid c k p) :
    s.frameBit = s.setCud { s.cud with framing := .CONFIRM, candAlign := some (s.cud.bitIndex % 32) } := by
  rw [State.frameBit, hf, hj]
  exact if_neg (by omega)

theorem frameBit_confirm_valid {s : State} {c p : Nat} {k : FrameKind} (hf : s.cud.framing = .CONFIRM)
    (ha : s.cud.candAlign = some (s.cud.bitIndex % 32)) (hj : judgeWindow s.cud.bits = .valid c k p) :
    s.frameBit = s.enterSync c k p := by
  rw [State.frameBit, hf, hj]
  exact if_pos (by simp [Cud.atCandidate, ha])

theorem frameBit_confirm_other {s : State} (hf : s.cud.framing = .CONFIRM) (ha : s.cud.candAlign = some (s.cud.bitIndex % 32))
    (hj : ∀ c k p, judgeWindow s.cud.bits ≠ .valid c k p) : s.frameBit = s.setCud { s.cud with framing := .HUNT } := by
  have hat : s.cud.atCandidate = true := by simp [Cud.atCandidate, ha]
  rw [State.frameBit, hf]
  dsimp only
  rw [if_pos hat]
  cases hw : judgeWindow s.cud.bits with
  | valid c k p => exact absurd hw (hj c k p)
  | damaged => rfl
  | wrongSync => rfl
  | checkError => rfl

theorem frameBit_sync_valid {s : State} {c p : Nat} {k : FrameKind} (hf : s.cud.framing = .SYNC)
    (ha : s.cud.align = some (s.cud.bitIndex % 32)) (hj : judgeWindow s.cud.bits = .valid c k p) :
    s.frameBit = s.validFrame c k p := by
  rw [State.frameBit, hf, hj]
  exact if_pos (by simp [Cud.atAlign, ha])

theorem frameBit_sync_errored {s : State} (hf : s.cud.framing = .SYNC) (ha : s.cud.align = some (s.cud.bitIndex % 32))
    (hj : judgeWindow s.cud.bits = .damaged ∨ judgeWindow s.cud.bits = .wrongSync ∨ judgeWindow s.cud.bits = .checkError) :
    s.frameBit = s.badFrame (decide (judgeWindow s.cud.bits = .checkError)) := by
  have hat : s.cud.atAlign = true := by simp [Cud.atAlign, ha]
  rw [State.frameBit, hf]
  dsimp only
  rw [if_pos hat]
  rcases hj with hj | hj | hj <;> rw [hj] <;> rfl

/-! ## The cue decoder after a valid frame -/

/-- R131 to R134: candidate, lock, accepted cue and tape time after a frame of each kind. -/
def Cud.kindDone (c : Cud) (kind : FrameKind) (payload : Nat) (d : Cud) : Prop :=
  d.tapeTime = (if kind = .TIME then some payload else c.tapeTime) ∧
    (kind ≠ .CUE → d.cand = none ∧ d.lock = false ∧ d.lastCue = c.lastCue) ∧
    (kind = .CUE → d.cand = some (moveCandidate c.cand payload) ∧
      (c.accepts payload → d.lastCue = some payload ∧ d.lock = true) ∧
      (¬c.accepts payload → d.lastCue = c.lastCue ∧ d.lock = c.lock))

theorem frameKind_cud (s : State) (kind : FrameKind) (payload : Nat) : ∃ a b c d, (s.frameKind kind payload).cud =
    { s.cud with cand := a, lock := b, lastCue := c, tapeTime := d } ∧ s.cud.kindDone kind payload (s.frameKind kind payload).cud := by
  cases kind with
  | IDLE => exact ⟨_, _, _, _, rfl, rfl, fun _ => ⟨rfl, rfl, rfl⟩, fun h => absurd h (by decide)⟩
  | TIME =>
    have hform : (s.frameKind .TIME payload).cud = { s.dropCandidate.cud with tapeTime := some payload } := by
      simp [State.frameKind]
    rw [hform]
    exact ⟨_, _, _, _, rfl, rfl, fun _ => ⟨rfl, rfl, rfl⟩, fun h => absurd h (by decide)⟩
  | STOP =>
    have hform : (s.frameKind .STOP payload).cud = s.dropCandidate.cud := by simp [State.frameKind]
    rw [hform]
    exact ⟨_, _, _, _, rfl, rfl, fun _ => ⟨rfl, rfl, rfl⟩, fun h => absurd h (by decide)⟩
  | CUE =>
    obtain ⟨hyes, hno⟩ := cueFrameOf_cud s payload
    have hform : (s.frameKind .CUE payload).cud = (s.cueFrameOf payload).cud := rfl
    rw [hform]
    by_cases h : s.cud.accepts payload
    · rw [hyes h]
      exact ⟨_, _, _, _, rfl, rfl, fun hne => absurd rfl hne, fun _ => ⟨rfl, fun _ => ⟨rfl, rfl⟩, fun hn => absurd h hn⟩⟩
    · rw [hno h]
      exact ⟨_, _, _, _, rfl, rfl, fun hne => absurd rfl hne, fun _ => ⟨rfl, fun hy => absurd hy h, fun _ => ⟨rfl, rfl⟩⟩⟩

/-- R127 to R136: the cue decoder after a valid frame in SYNC. -/
theorem validFrame_cud (s : State) (count : Nat) (kind : FrameKind) (payload : Nat) :
    ∃ a b c d, (s.validFrame count kind payload).cud = { (s.frameTaken count).cud with
      cand := a, lock := b, lastCue := c, tapeTime := d
      buf := if s.cud.par.relay = true ∧ s.cud.framing = .SYNC ∧ s.cud.buf.length < 4 then
        s.cud.buf ++ [{ kind := kind, payload := payload }] else s.cud.buf } ∧
      (s.frameTaken count).cud.kindDone kind payload (s.validFrame count kind payload).cud := by
  obtain ⟨a, b, c, d, hform, hdone⟩ := frameKind_cud (s.frameTaken count) kind payload
  have htaken := frameTaken_cud s count
  have hbuf : (s.frameTaken count).cud.buf = s.cud.buf ∧ (s.frameTaken count).cud.par = s.cud.par ∧
      (s.frameTaken count).cud.framing = s.cud.framing := by
    rw [htaken]
    exact ⟨rfl, rfl, rfl⟩
  obtain ⟨hbuf, hpar, hfr⟩ := hbuf
  rw [validFrame_eq, offerFrame_cud]
  refine ⟨a, b, c, d, ?_, hdone⟩
  rw [hform]
  dsimp only
  rw [hbuf, hpar, hfr]

theorem startCueOut_rest (s : State) : s.startCueOut.cud.framing = s.cud.framing ∧ s.startCueOut.cud.cueSync = s.cud.cueSync ∧
    s.startCueOut.cud.align = s.cud.align ∧ s.startCueOut.cud.prevAlign = s.cud.prevAlign ∧
    s.startCueOut.cud.expected = s.cud.expected ∧ s.startCueOut.cud.errs = s.cud.errs ∧
    s.startCueOut.cud.tapeTime = s.cud.tapeTime := by
  rw [startCueOut_cud]
  split <;> exact ⟨rfl, rfl, rfl, rfl, rfl, rfl, rfl⟩

/-! ## The way to SYNC -/

/-- R126, R138: the cue decoder after SYNC is entered with a frame. -/
theorem enterSync_cud (s : State) (c : Nat) (k : FrameKind) (p : Nat) :
    (s.enterSync c k p).cud.framing = .SYNC ∧ (s.enterSync c k p).cud.cueSync = true ∧
      (s.enterSync c k p).cud.align = s.cud.candAlign ∧ (s.enterSync c k p).cud.prevAlign = s.cud.candAlign ∧
      (s.enterSync c k p).cud.expected = some ((c + 1) % 16) ∧ (s.enterSync c k p).cud.errs = 0 ∧
      (k = .TIME → (s.enterSync c k p).cud.tapeTime = some p) ∧
      (s.cud.par.relay = true → s.cud.sending = false → s.cud.buf = [] → (s.enterSync c k p).cud.sending = true ∧
        (s.enterSync c k p).cud.cueOut = some (frameWord s.cud.regenCount k p) ∧
        (s.enterSync c k p).cud.slotDue = some (s.now + 100000) ∧
        (s.enterSync c k p).cud.regenCount = (s.cud.regenCount + 1) % 16 ∧ (s.enterSync c k p).cud.buf = []) := by
  obtain ⟨u, hu⟩ : ∃ u, u = s.synced.validFrame c k p := ⟨_, rfl⟩
  have hform : s.enterSync c k p = u.startCueOut := by rw [hu]; exact enterSync_parts s c k p
  obtain ⟨a, b, l, t, hcud, htime, -, -⟩ := validFrame_cud s.synced c k p
  rw [← hu] at hcud htime
  have htaken := frameTaken_cud s.synced c
  have hsync := synced_cud s
  obtain ⟨hfr, hcs, hal, hpr, hex, her, htt⟩ := startCueOut_rest u
  have hnow : u.now = s.now := by
    have hsynced : s.synced.now = s.now := by
      unfold State.synced
      dsimp only
      split <;> simp
    simpa [hu] using hsynced
  rw [htaken, hsync] at hcud
  rw [hform]
  refine ⟨by rw [hfr, hcud], by rw [hcs, hcud], by rw [hal, hcud], by rw [hpr, hcud], by rw [hex, hcud], by rw [her, hcud],
    fun hk => ?_, fun hr hs hb => ?_⟩
  · rw [htt, htime]
    exact if_pos hk
  · have hcond : s.cud.par.relay = true ∧ Framing.SYNC = .SYNC ∧ s.cud.buf.length < 4 := ⟨hr, rfl, by simp [hb]⟩
    have hstart : u.cud.par.relay = true ∧ u.cud.framing = .SYNC ∧ u.cud.sending = false := by
      rw [hcud]
      exact ⟨hr, rfl, hs⟩
    have hbuf : u.cud.buf = [{ kind := k, payload := p }] := by
      rw [hcud]
      dsimp only
      rw [if_pos hcond, hb]
      rfl
    have hregen : u.cud.regenCount = s.cud.regenCount := by rw [hcud]
    rw [startCueOut_cud, if_pos hstart, ← hnow, ← hregen]
    unfold Cud.slot
    dsimp only
    rw [hbuf]
    exact ⟨rfl, rfl, rfl, rfl, rfl⟩

/-- Settles O36. -/
theorem framesLeadFromHuntToSync : Obligations.FramesLeadFromHuntToSync := by
  refine fun dt cells s hp hcar hlen => ⟨fun c k p hf hb hj => ?hunt, fun c k p hf ha hb hj => ?confirmed, fun hf ha hb hj => ?refused⟩
  case hunt =>
    obtain ⟨w, hform, hw⟩ := cueFrame_hears (s := s.advance dt) hcar hlen (quietFor_hunt hf hb)
    have hbits : (s.advance dt).cud.bits.length ≤ 32 := by
      change s.cud.bits.length ≤ 32
      simp [hb]
    obtain ⟨hsame, -, -, -, hwb, hwi, e, sp, off, due, hwc⟩ := hears_facts hw hlen hbits
    have hwf : w.cud.framing = .HUNT := by rw [hwc]; exact hf
    have hbit := frameBit_hunt_valid hwf (by rw [hwb, List.length_map, hlen]) (by rw [hwb]; exact hj)
    refine ⟨_, next_take hp (hform.trans hbit), ?_, rfl, ?_, ?_⟩
    · simpa [State.sameBut] using hsame
    · have hindex : w.cud.bitIndex % 32 = s.cud.bitIndex % 32 := by
        rw [hwi]
        exact Nat.add_mod_right ..
      exact congrArg some hindex
    · rw [State.setCud_cud, hwc]
      exact ⟨rfl, rfl, rfl, rfl⟩
  case confirmed =>
    obtain ⟨w, hform, hw⟩ := cueFrame_hears (s := s.advance dt) hcar hlen (quietFor_align (.inr ⟨hf, ha⟩))
    obtain ⟨hsame, hnow, -, -, hwb, hwi, e, sp, off, due, hwc⟩ := hears_facts hw hlen hb
    have hwf : w.cud.framing = .CONFIRM := by rw [hwc]; exact hf
    have hwa : w.cud.candAlign = some (w.cud.bitIndex % 32) := by
      rw [hwi, hwc]
      exact ha.trans (congrArg some (Nat.add_mod_right ..).symm)
    have hbit := frameBit_confirm_valid hwf hwa (by rw [hwb]; exact hj)
    obtain ⟨hsync, hcs, hal, hpr, hex, her, htime, hrelay⟩ := enterSync_cud w c k p
    have hcand : w.cud.candAlign = s.cud.candAlign := by rw [hwc]; rfl
    refine ⟨_, next_take hp (hform.trans hbit), ?_, hsync, hcs, hal.trans hcand, hpr.trans hcand, hex, her, htime, fun hr hs hbuf => ?_⟩
    · have hsame := hsame
      simp only [State.sameBut] at hsame ⊢
      simp_all
    · have hregen : w.cud.regenCount = s.cud.regenCount := by rw [hwc]; rfl
      have hwn : w.now = s.now + dt := hnow
      rw [← hregen, ← hwn]
      exact hrelay (by rw [hwc]; exact hr) (by rw [hwc]; exact hs) (by rw [hwc]; exact hbuf)
  case refused =>
    obtain ⟨w, hform, hw⟩ := cueFrame_hears (s := s.advance dt) hcar hlen (quietFor_align (.inr ⟨hf, ha⟩))
    obtain ⟨hsame, -, -, -, hwb, hwi, e, sp, off, due, hwc⟩ := hears_facts hw hlen hb
    have hwf : w.cud.framing = .CONFIRM := by rw [hwc]; exact hf
    have hwa : w.cud.candAlign = some (w.cud.bitIndex % 32) := by
      rw [hwi, hwc]
      exact ha.trans (congrArg some (Nat.add_mod_right ..).symm)
    have hbit := frameBit_confirm_other hwf hwa (by rw [hwb]; exact hj)
    refine ⟨_, next_take hp (hform.trans hbit), ?_, rfl⟩
    simpa [State.sameBut] using hsame

end Sys2Proof.Machine
end

section
/-!
Firing (R151 to R156): what a step that fires makes of the queue and of the sequencer, by an ADVANCE and by the FOLLOW timer.
-/

namespace Sys2Proof.Machine

/-! ## The end of the show -/

/-- R156: the show has come to its end: no step, no fire that waits, no entry of a step. -/
abbrev State.showOver (s : State) : Prop :=
  s.ssq.ptr = none ∧ s.ssq.pend = none ∧ s.aq.queue.any (fun e => e.tag.isSome) = false

theorem endTest_ssq (s : State) : ∃ x, s.endTest.ssq = { s.ssq with st := x } := by
  unfold State.endTest
  split
  · rw [event_eq_setLki]
    exact ⟨.ENDED, rfl⟩
  · exact ⟨s.ssq.st, rfl⟩

theorem endTest_st (s : State) : s.endTest.ssq.st = if s.ssq.st = .RUNNING ∧ s.showOver then .ENDED else s.ssq.st := by
  by_cases h : s.ssq.st = .RUNNING ∧ s.showOver
  · have hend : s.endTest = (s.setSsq { s.ssq with st := .ENDED }).event .SHOW_ENDED none := if_pos h
    rw [hend, event_eq_setLki, if_pos h]
    rfl
  · have hend : s.endTest = s := if_neg h
    rw [hend, if_neg h]

/-! ## The parts of a firing -/

/-- R153: the fire of step `j` finds room and a show that is not paused. -/
abbrev State.fits (s : State) (j : Nat) (flag : Bool) : Prop :=
  s.ssq.st ≠ .PAUSED ∧ (s.ssq.entries j flag).length ≤ s.room

/-- R153, R155: the sequencer after step `j` has fired, its entries placed in the queue or pending, and a fire that it supersedes
skipped. -/
def Ssq.firing (q : Ssq) (j : Nat) (flag placed : Bool) : Ssq :=
  { q with
    pend := if placed then none else some { index := j, chase := flag, need := (q.entries j flag).length }
    ptr := q.linked (q.step j).next
    follow := .stopped
    watched := some j
    st := (match q.st with
      | .READY | .ENDED => .RUNNING
      | .RUNNING => .RUNNING
      | .PAUSED => .PAUSED
      | .UNLOADED => .UNLOADED)
    pausedFrom := if q.st = .PAUSED then some .RUNNING else q.pausedFrom
    skipped := if q.pend.isSome then min (q.skipped + 1) 65535 else q.skipped }

theorem Ssq.superseded_fired (q : Ssq) (j : Nat) (flag placed : Bool) :
    q.superseded.fired j flag placed = q.firing j flag placed := by
  unfold Ssq.superseded Ssq.firing
  split <;> rfl

theorem Ssq.superseded_entries (q : Ssq) (j : Nat) (flag : Bool) : q.superseded.entries j flag = q.entries j flag := by
  unfold Ssq.superseded
  split <;> rfl

theorem fireCore_form {s : State} {chase flag : Bool} (j : Nat) (hflag : flag = (chase || s.ssq.pend.isSome)) :
    s.fireCore j chase =
      (if s.fits j flag then s.enqueue (s.ssq.entries j flag) else s).setSsq (s.ssq.firing j flag (decide (s.fits j flag))) := by
  have hplaced : (s.ssq.superseded.st != .PAUSED && decide (s.ssq.superseded.need j flag ≤ s.room)) = decide (s.fits j flag) := by
    obtain ⟨-, -, hst, -⟩ := s.ssq.superseded_fields
    rw [hst, Ssq.need, Ssq.superseded_entries, Bool.decide_and, decide_not]
    cases s.ssq.st <;> rfl
  have hform : s.fireCore j chase =
      (if s.ssq.superseded.st != .PAUSED && decide (s.ssq.superseded.need j flag ≤ s.room) then
        s.enqueue (s.ssq.superseded.entries j flag) else s).setSsq (s.ssq.superseded.fired j flag
          (s.ssq.superseded.st != .PAUSED && decide (s.ssq.superseded.need j flag ≤ s.room))) := by
    subst hflag
    rfl
  rw [hform, hplaced, Ssq.superseded_fired, Ssq.superseded_entries]
  simp only [decide_eq_true_eq]

theorem fireCore_ssq {s : State} {chase flag : Bool} (j : Nat) (hflag : flag = (chase || s.ssq.pend.isSome)) :
    (s.fireCore j chase).ssq = s.ssq.firing j flag (decide (s.fits j flag)) := by
  rw [fireCore_form j hflag, State.setSsq_ssq]

theorem fireCore_queue {s : State} {chase flag : Bool} (j : Nat) (hflag : flag = (chase || s.ssq.pend.isSome)) :
    (s.fireCore j chase).aq.queue = if s.fits j flag then s.aq.queue ++ s.ssq.entries j flag else s.aq.queue := by
  rw [fireCore_form j hflag, State.setSsq_aq]
  split <;> rfl

/-- R151: after a fire that no FOLLOW step follows the end of the show alone is tested. -/
theorem fire_followless {s : State} {j : Nat} (chase : Bool) (h : s.ssq.followless j) :
    s.fire j chase = (s.fireCore j chase).endTest := by
  refine checks_no_follow 255 (followStart_unfollowed ?_)
  rw [fireCore_ssq j rfl]
  exact fun k d hk => h k d hk

/-! ## The firing of a step that no FOLLOW step follows -/

theorem firing_st {q : Ssq} {j : Nat} {flag placed : Bool} (h : q.st ≠ .PAUSED) (hl : q.st ≠ .UNLOADED) :
    (q.firing j flag placed).st = .RUNNING := by
  cases hst : q.st <;> simp_all [Ssq.firing]

/-- R153: the sequencer after a fire that no FOLLOW step follows, but for its state. -/
theorem fire_ssq {s : State} {j : Nat} {chase flag : Bool} (hflag : flag = (chase || s.ssq.pend.isSome))
    (h : s.ssq.followless j) :
    (s.fire j chase).ssq = { s.ssq.firing j flag (decide (s.fits j flag)) with st := (s.fire j chase).ssq.st } := by
  rw [fire_followless chase h, ← fireCore_ssq j hflag]
  obtain ⟨x, hx⟩ := endTest_ssq (s.fireCore j chase)
  rw [hx]

theorem fire_queue {s : State} {j : Nat} {chase flag : Bool} (hflag : flag = (chase || s.ssq.pend.isSome))
    (h : s.ssq.followless j) :
    (s.fire j chase).aq.queue = if s.fits j flag then s.aq.queue ++ s.ssq.entries j flag else s.aq.queue := by
  rw [fire_followless chase h, endTest_queue, fireCore_queue j hflag]

theorem fire_st_paused {s : State} {j : Nat} (chase : Bool) (h : s.ssq.followless j) (hst : s.ssq.st = .PAUSED) :
    (s.fire j chase).ssq.st = .PAUSED := by
  have hcore : (s.fireCore j chase).ssq.st = .PAUSED := by
    rw [fireCore_ssq j rfl]
    simp [Ssq.firing, hst]
  rw [fire_followless chase h, endTest_st, if_neg (by simp [hcore]), hcore]

/-- R156: a show that goes on with the fire ends where neither a step nor an entry of a step is left. -/
theorem fire_st {s : State} {j : Nat} (chase : Bool) (h : s.ssq.followless j) (hst : s.ssq.st ≠ .PAUSED)
    (hl : s.ssq.st ≠ .UNLOADED) :
    (s.fire j chase).ssq.st = if s.ssq.linked (s.ssq.step j).next = none ∧ (s.fire j chase).ssq.pend = none ∧
      (s.fire j chase).aq.queue.any (fun e => e.tag.isSome) = false then .ENDED else .RUNNING := by
  have hcore := fireCore_ssq (s := s) (chase := chase) j rfl
  have hrun : (s.fireCore j chase).ssq.st = .RUNNING := by rw [hcore, firing_st hst hl]
  have hptr : (s.fireCore j chase).ssq.ptr = s.ssq.linked (s.ssq.step j).next := by
    rw [hcore]
    rfl
  have hpend : (s.fireCore j chase).endTest.ssq.pend = (s.fireCore j chase).ssq.pend := by simp
  rw [fire_followless chase h, endTest_st, endTest_queue, hpend, hrun]
  refine if_congr ?_ rfl rfl
  rw [State.showOver, hptr]
  exact and_iff_right rfl

/-- R153: the firing of a step that no FOLLOW step follows, by a trigger that is no chase. -/
theorem fire_fires {s : State} {p : Nat} (h : s.ssq.followless p) : s.fires (s.fire p false) p := by
  intro es hes
  have hflag : s.ssq.pend.isSome = (false || s.ssq.pend.isSome) := (Bool.false_or _).symm
  have hentries : s.ssq.entries p s.ssq.pend.isSome = es := by
    rw [hes, List.map_append]
    cases hp : s.ssq.pend <;> cases hg : (s.ssq.step p).gateSlot <;> simp [Ssq.entries, showEntry, hg]
  have hssq := fire_ssq hflag h
  have hqueue := fire_queue hflag h
  have hpaused : s.ssq.st = .PAUSED ∨ s.room < es.length → ¬ s.fits p s.ssq.pend.isSome := by
    rintro hcase ⟨hst, hroom⟩
    rw [hentries] at hroom
    exact hcase.elim hst (fun hlt => absurd hroom (by omega))
  refine ⟨?_, ?_, ?_, ?_, ?_, ?_, ?_, fun hst hroom => ⟨?_, ?_⟩, fun hwait => ⟨?_, ?_⟩, fun hst => ⟨?_, ?_⟩, fun hst => ?_⟩
  case refine_8 =>
    have hfits : s.fits p s.ssq.pend.isSome := ⟨hst, hentries ▸ hroom⟩
    rw [hqueue, if_pos hfits, hentries]
  case refine_9 =>
    have hfits : s.fits p s.ssq.pend.isSome := ⟨hst, hentries ▸ hroom⟩
    rw [hssq, decide_eq_true hfits]
    rfl
  case refine_10 => rw [hqueue, if_neg (hpaused hwait)]
  case refine_11 =>
    rw [hssq, decide_eq_false (hpaused hwait), ← hentries]
    rfl
  case refine_12 => exact fire_st_paused false h hst
  case refine_13 =>
    rw [hssq]
    exact if_pos hst
  case refine_14 =>
    exact fire_st false h (by obtain hst | hst := hst <;> simp [hst]) (by obtain hst | hst := hst <;> simp [hst])
  all_goals
    rw [hssq]
    rfl

/-! ## The firing of a step that a FOLLOW step follows -/

/-- R151: the FOLLOW timer starts at a firing that leaves no work outstanding. -/
theorem fire_followed {s : State} {p j d : Nat} (hj : s.ssq.linked (s.ssq.step p).next = some j)
    (ht : (s.ssq.step j).trigger = .FOLLOW d) (hd : 0 < d) (hst : s.ssq.st = .READY ∨ s.ssq.st = .RUNNING)
    (hpend : s.ssq.pend = none) (hacts : (s.ssq.step p).actions = []) (hq : ∀ e ∈ s.aq.queue, e.tag ≠ some p) :
    (s.fire p false).ssq.ptr = some j ∧ (s.fire p false).ssq.st = .RUNNING ∧
      (s.fire p false).ssq.follow = .running (s.now + 1000 * d) := by
  have hflag : false = (false || s.ssq.pend.isSome) := by rw [hpend]; rfl
  have hentries : s.ssq.entries p false = [] := by simp [Ssq.entries, hacts]
  have hfits : s.fits p false := ⟨by obtain h | h := hst <;> simp [h], by simp [hentries]⟩
  have hcore : (s.fireCore p false).ssq = s.ssq.firing p false true := by rw [fireCore_ssq p hflag, decide_eq_true hfits]
  have hqueue : (s.fireCore p false).aq.queue = s.aq.queue := by
    rw [fireCore_queue p hflag, if_pos hfits, hentries, List.append_nil]
  have hrun : (s.fireCore p false).ssq.st = .RUNNING := by
    rw [hcore]
    exact firing_st hfits.1 (by obtain h | h := hst <;> simp [h])
  have hptr : (s.fireCore p false).ssq.ptr = some j := by rw [hcore]; exact hj
  have hout : (s.fireCore p false).outstanding p = false := by
    rw [State.outstanding, hqueue, hcore]
    simpa [Ssq.firing] using hq
  have hdelay : 1000 * d = msec d := Nat.mul_comm ..
  have hwatched : (s.fireCore p false).ssq.watched = some p := by rw [hcore]; rfl
  have hfollow : (s.fireCore p false).ssq.follow = .stopped := by rw [hcore]; rfl
  have htrig : ((s.fireCore p false).ssq.step j).trigger = .FOLLOW d := by rw [hcore]; exact ht
  have hstart : (s.fireCore p false).followStart = some (1000 * d, j) := by
    rw [State.followStart, hfollow, hptr, hwatched, hdelay]
    dsimp only
    rw [htrig]
    exact if_neg (by simp [hout])
  have hfire : s.fire p false =
      ((s.fireCore p false).setSsq { (s.fireCore p false).ssq with follow := .running (s.now + 1000 * d) }).endTest := by
    have hnow : (s.fireCore p false).now = s.now := by simp
    have hchecks := checks_follow 255 hstart hrun
    rw [hnow] at hchecks
    exact hchecks.trans (if_neg (by omega))
  rw [hfire, endTest_goesOn (.inl (by rw [State.setSsq_ssq, hptr]; exact Option.some_ne_none _))]
  exact ⟨hptr, hrun, rfl⟩

/-! ## ADVANCE and the FOLLOW timer (R151, R152) -/

theorem advanceTaken_iff (s : State) :
    s.advanceTaken = true ↔ (s.ssq.st = .READY ∨ s.ssq.st = .RUNNING ∨ s.ssq.st = .PAUSED) ∧ s.ssq.ptr ≠ none := by
  rw [State.advanceTaken, Bool.and_eq_true, Option.isSome_iff_ne_none]
  cases s.ssq.st <;> simp

theorem reqAdvance_taken {s : State} {p : Nat} (hp : s.ssq.ptr = some p)
    (hst : s.ssq.st = .READY ∨ s.ssq.st = .RUNNING ∨ s.ssq.st = .PAUSED) : reqAdvance s = done (s.fire p false) := by
  have htaken : s.advanceTaken = true := (advanceTaken_iff s).mpr ⟨hst, by simp [hp]⟩
  rw [reqAdvance, if_pos htaken, State.advanceSeq, hp]
  exact congrArg done (if_pos htaken)

theorem followFires_show {s : State} {p : Nat} (hp : s.ssq.ptr = some p) (hm : s.aq.mode = .SHOW) :
    s.followFires = s.fire p false := by
  rw [State.followFires, hp]
  exact if_pos hm

theorem followFires_other {s : State} {p : Nat} (hp : s.ssq.ptr = some p) (hm : s.aq.mode ≠ .SHOW) :
    s.followFires = s.setSsq { s.ssq with follow := .due } := by
  rw [State.followFires, hp]
  exact if_neg hm

/-- Settles O41. -/
theorem advanceAndFollowFireTheStep : Obligations.AdvanceAndFollowFireTheStep := by
  intro dt s
  refine ⟨fun h arg p ha hp hst => ?taken, fun h arg ha hst => ?refused, fun due p hpow hdue hp => ⟨fun hm => ?other, fun hm hf => ?fired⟩,
    fun p hpow hdue hp hrun => ⟨fun hm => ?again, fun hm hf => ?checked⟩⟩
  case taken =>
    have hr : reqControl .ADVANCE arg (s.asked dt) = done ((s.asked dt).fire p false) := reqAdvance_taken (s := s.asked dt) hp hst
    refine ⟨_, next_control (x := .ADVANCE) ha hr, ?_, ?_, fun hf => ?_, ?_⟩
    · simp [State.sameBut, State.answered, done, Answer.counted]
    · simp [State.answers, State.answered, done, Answer.counted]
    · exact fire_fires (s := s.asked dt) hf
    · intro j d hj ht hd hpaused hpend hacts hq
      exact fire_followed (s := s.asked dt) hj ht hd (by simpa [hpaused] using hst) hpend hacts hq
  case refused =>
    have hnot : ¬ (s.asked dt).advanceTaken = true := by
      rw [advanceTaken_iff]
      rintro ⟨hgo, hptr⟩
      have hgo : s.ssq.st = .READY ∨ s.ssq.st = .RUNNING ∨ s.ssq.st = .PAUSED := hgo
      obtain hn | hn | hn := hst
      · exact hptr hn
      · simp [hn] at hgo
      · simp [hn] at hgo
    exact next_control_refused (x := .ADVANCE) ha (if_neg hnot) (by decide) (by decide)
  case other =>
    refine next_take hpow ?_
    have hd : (s.advance dt).ssq.follow.dueAt = some due := congrArg Follow.dueAt hdue
    rw [followExpiry, hd, whenDue_some]
    exact followFires_other (s := (s.advance dt).reach due) hp hm
  case fired =>
    have hd : (s.advance dt).ssq.follow.dueAt = some due := congrArg Follow.dueAt hdue
    have hform : followExpiry (s.advance dt) = ((s.advance dt).reach due).fire p false := by
      rw [followExpiry, hd, whenDue_some]
      exact followFires_show (s := (s.advance dt).reach due) hp hm
    refine ⟨_, next_take hpow hform, ?_, ?_, ?_⟩
    · simp [State.sameBut]
    · simp
    · exact fire_fires (s := (s.advance dt).reach due) hf
  case again =>
    refine next_take hpow ?_
    have hsame : (s.advance dt).setSsq { s.ssq with follow := .due } = s.advance dt := by
      rw [← hdue]
      rfl
    exact (if_pos (⟨hdue, hrun⟩ : (s.advance dt).ssq.follow = .due ∧ (s.advance dt).ssq.st = .RUNNING)).trans
      ((followFires_other (s := s.advance dt) hp hm).trans hsame)
  case checked =>
    have hform : followDueCheck (s.advance dt) = (s.advance dt).fire p false :=
      (if_pos (⟨hdue, hrun⟩ : (s.advance dt).ssq.follow = .due ∧ (s.advance dt).ssq.st = .RUNNING)).trans
        (followFires_show (s := s.advance dt) hp hm)
    refine ⟨_, next_take hpow hform, ?_, ?_⟩
    · simp [State.sameBut]
    · exact fire_fires (s := s.advance dt) hf

end Sys2Proof.Machine
end

section
/-!
What the queue and the sequencer keep while the runner works inside a rule of SSQ (R18, R21, R158): no fire joins, no step
fires, and of the entries of a show those alone stay that the flush leaves to run out.
-/

namespace Sys2Proof.Machine

/-! ## The queue that shortens -/

/-- The entries of the queue, whether they run or not. -/
def Aq.entered (a : Aq) : List Entry := a.queue.map (fun e => { e with running := false })

/-- R18, R21: every entry of the show is a CHANGE or SEEK that runs. -/
def Aq.spent (a : Aq) : Prop := ∀ e ∈ a.queue, e.tag.isSome = true → e.running = true ∧ e.action.mech = true

/-- `t` comes from `s` without a firing: the show may end, the queue shortens, and an entry of it may start. -/
structure State.Eases (s t : State) : Prop where
  ssq : t.ssq = { s.ssq with st := t.ssq.st }
  st : t.ssq.st = s.ssq.st ∨ t.ssq.st = .ENDED
  resetting : s.lki.resetting = false → t.lki.resetting = false
  now : t.now = s.now
  enables : t.lki.enables = s.lki.enables
  queue : t.aq.entered.Sublist s.aq.entered
  spent : s.aq.spent → t.aq.spent

theorem State.Eases.refl (s : State) : s.Eases s := ⟨rfl, .inl rfl, id, rfl, rfl, List.Sublist.refl _, id⟩

theorem State.Eases.then {s t u : State} (h : s.Eases t) (k : t.Eases u) : s.Eases u where
  ssq := by rw [k.ssq, h.ssq]
  st := k.st.elim (fun hk => h.st.elim (fun hh => .inl (hk.trans hh)) (fun hh => .inr (hk.trans hh))) .inr
  resetting := fun hr => k.resetting (h.resetting hr)
  now := k.now.trans h.now
  enables := k.enables.trans h.enables
  queue := k.queue.trans h.queue
  spent := fun hs => k.spent (h.spent hs)

/-- A step that touches neither the sequencer nor the queue. -/
theorem eases_of_same {s t : State} (hssq : t.ssq = s.ssq) (hq : t.aq.queue = s.aq.queue)
    (hr : s.lki.resetting = false → t.lki.resetting = false) (hn : t.now = s.now) (he : t.lki.enables = s.lki.enables) : s.Eases t where
  ssq := by rw [hssq]
  st := .inl (by rw [hssq])
  resetting := hr
  now := hn
  enables := he
  queue := by rw [Aq.entered, Aq.entered, hq]
  spent := fun hs => by rwa [Aq.spent, hq]

/-- The queue loses entries. -/
theorem eases_of_sublist {s t : State} (hssq : t.ssq = s.ssq) (hq : t.aq.queue.Sublist s.aq.queue)
    (hr : t.lki.resetting = s.lki.resetting) (hn : t.now = s.now) (he : t.lki.enables = s.lki.enables) : s.Eases t where
  ssq := by rw [hssq]
  st := .inl (by rw [hssq])
  resetting := fun h => hr.trans h
  now := hn
  enables := he
  queue := hq.map _
  spent := fun hs e hmem => hs e (hq.subset hmem)

theorem eases_endTest (s : State) : s.Eases s.endTest where
  ssq := by
    obtain ⟨x, hx⟩ := endTest_ssq s
    rw [hx]
  st := by
    rw [endTest_st]
    split
    · exact .inr rfl
    · exact .inl rfl
  resetting := fun h => by simpa using h
  now := by simp
  enables := by simp
  queue := by rw [endTest_queue]
  spent := fun h => by rwa [endTest_queue]

theorem eases_report (s : State) (tag : Option Nat) (m : Manner) : s.Eases (s.report false tag m) := by
  have hform : s.report false tag m =
      (s.setAq { s.aq with lastReport := some { tag := tag, manner := m, room := s.room } }).endTest := by
    simp [State.report]
  rw [hform]
  exact (eases_of_same (s := s) (t := s.setAq { s.aq with lastReport := some { tag := tag, manner := m, room := s.room } }) rfl rfl id rfl rfl).then
    (eases_endTest _)

theorem eases_reportAll (l : List (Option Nat × Manner)) (s : State) : s.Eases (s.reportAll false l) := by
  induction l generalizing s with
  | nil => exact .refl s
  | cons d l ih => exact (eases_report s d.1 d.2).then (ih _)

theorem eases_resetEnd (s : State) : s.Eases s.resetEnd :=
  eases_of_same (by simp) (by simp) (fun h => by rw [resetEnd_of_not_resetting h, h]) (by simp) (by simp)

/-! ## The runner -/

theorem eases_event (s : State) (k : NoticeKind) (x : Option Nat) : s.Eases (s.event k x) :=
  eases_of_same (by simp) (by simp) (fun h => by simpa using h) (by simp) (by simp)

theorem eases_stoppedIfPending (s : State) : s.Eases s.stoppedIfPending :=
  eases_of_same (by simp) (by simp) (fun h => by simpa using h) (by simp) (by simp)

theorem eases_ite {s t : State} (c : Prop) [Decidable c] (h : s.Eases t) : s.Eases (if c then t else s) := by
  split
  · exact h
  · exact .refl s

theorem eases_depart (s : State) (e : Entry) (dropped : Bool) : s.Eases (s.depart e dropped false) := by
  have htail : s.Eases (s.setAq { s.aq with queue := s.aq.queue.tail }) :=
    eases_of_sublist rfl (List.tail_sublist _) rfl rfl rfl
  exact (((htail.then (eases_ite _ (eases_event _ _ _))).then (eases_report _ _ _)).then
    (eases_ite _ (eases_stoppedIfPending _))).then (eases_resetEnd _)

theorem eases_startHead {s : State} {e : Entry} (h : s.headMove = .start e) : s.Eases (s.startHead e) := by
  obtain ⟨rest, hq, hr, -⟩ := headMove_start h
  have hstart := startHead_queue hq
  refine ⟨by simp, .inl (by simp), fun h => by simpa using h, by simp, by simp, ?_, fun hs x hx ht => ?_⟩
  · rw [Aq.entered, Aq.entered, hstart, hq]
    exact List.Sublist.refl _
  · rw [hstart] at hx
    rcases List.mem_cons.mp hx with rfl | hx
    · have hrun := (hs e (by rw [hq]; exact List.mem_cons_self) ht).1
      rw [hr] at hrun
      exact absurd hrun (by decide)
    · exact hs x (by rw [hq]; exact List.mem_cons_of_mem _ hx) ht

theorem eases_settle (n : Nat) (s : State) : s.Eases (State.settle n false s) := by
  induction n generalizing s with
  | zero => exact .refl s
  | succ n ih =>
    cases hm : s.headMove with
    | wait r =>
      rw [settle_wait n false hm]
      exact eases_of_same rfl rfl id rfl rfl
    | start e =>
      rw [settle_start n false hm]
      exact (eases_startHead hm).then (ih _)
    | leave e d =>
      rw [settle_leave n false hm]
      exact (eases_depart s e d).then (ih _)

/-! ## The flush -/

theorem eases_flushQueue (s : State) (cover : Entry → Bool) (jam : Bool) : s.Eases (s.flushQueue cover jam) :=
  eases_of_sublist (by simp) (by rw [flushQueue_queue]; exact List.filter_sublist) (by simp) (by simp) (by simp)

theorem flushQueue_spent (s : State) : (s.flushQueue coverTagged false).aq.spent := by
  intro e he ht
  rw [flushQueue_queue] at he
  have hstays := (List.mem_filter.mp he).2
  simpa [staysThrough, coverTagged, ht] using hstays

/-- R21, R158: a flush of the show's entries inside a rule of SSQ. -/
theorem flush_eases (s : State) : s.Eases (s.flush coverTagged false false) ∧ (s.flush coverTagged false false).aq.spent := by
  unfold State.flush
  split
  · exact ⟨eases_flushQueue s _ _, flushQueue_spent s⟩
  · have hall := (eases_reportAll (flushReports false (s.aq.queue.filter (fun e => !staysThrough coverTagged false e)))
      (s.flushQueue coverTagged false)).then (eases_resetEnd _)
    exact ⟨(eases_flushQueue s _ _).then hall, hall.spent (flushQueue_spent s)⟩

/-- R158, R163: the flush, and the runner after it. -/
theorem flushed_eases (s : State) : s.Eases (s.flush coverTagged false false).runHeadQuiet ∧
    (s.flush coverTagged false false).runHeadQuiet.aq.spent := by
  obtain ⟨heases, hspent⟩ := flush_eases s
  have hrun := eases_settle runnerFuel (s.flush coverTagged false false)
  exact ⟨heases.then hrun, hrun.spent hspent⟩

end Sys2Proof.Machine
end

section
/-!
The chase (R157 to R159) and what the show makes of a cue and of a TIME update (R149, R150, R161).
-/

namespace Sys2Proof.Machine

/-! ## The search along the chain (R157) -/

theorem hop_succ (q : Ssq) (start h : Nat) : q.hop start (h + 1) = (q.linked (q.step start).next).bind (fun j => q.hop j h) := by
  induction h with
  | zero =>
    have hform : q.hop start (0 + 1) = q.linked (q.step start).next := rfl
    rw [hform]
    cases q.linked (q.step start).next <;> rfl
  | succ h ih =>
    have hform : q.hop start (h + 1 + 1) = (q.hop start (h + 1)).bind (fun j => q.linked (q.step j).next) := rfl
    rw [hform, ih, Option.bind_assoc]
    rfl

/-- R157: the search from `start` meets cue `n` first at hop `h` of the chain, at step `j`, its own hop aside. -/
def Ssq.meets (q : Ssq) (n start j h : Nat) : Prop :=
  1 ≤ h ∧ q.hop start h = some j ∧ (q.step j).trigger = .CUE n ∧
    ∀ i < h, 1 ≤ i → ∀ k, q.hop start i = some k → (q.step k).trigger ≠ .CUE n

theorem meets_next {q : Ssq} {n start j : Nat} (hn : q.linked (q.step start).next = some j) (ht : (q.step j).trigger = .CUE n) :
    q.meets n start j 1 := by
  refine ⟨Nat.le_refl _, ?_, ht, fun i hi h1 => by omega⟩
  rw [hop_succ, hn]
  rfl

/-- R157: where the next step of the chain has another trigger the search goes on from it. -/
theorem meets_succ {q : Ssq} {n start k j h : Nat} (hn : q.linked (q.step start).next = some k)
    (ht : (q.step k).trigger ≠ .CUE n) : q.meets n start j (h + 1) ↔ q.meets n k j h := by
  have hhop : ∀ i, q.hop start (i + 1) = q.hop k i := fun i => by rw [hop_succ, hn, Option.bind_some]
  constructor
  · rintro ⟨-, hj, htr, hbefore⟩
    rw [hhop] at hj
    refine ⟨?_, hj, htr, fun i hi h1 x hx => hbefore (i + 1) (by omega) (by omega) x (by rw [hhop]; exact hx)⟩
    rcases Nat.eq_zero_or_pos h with h0 | hpos
    · subst h0
      obtain rfl : k = j := Option.some.inj hj
      exact absurd htr ht
    · exact hpos
  · rintro ⟨-, hj, htr, hbefore⟩
    refine ⟨by omega, by rw [hhop]; exact hj, htr, fun i hi h1 x hx => ?_⟩
    obtain ⟨i, rfl⟩ : ∃ m, i = m + 1 := ⟨i - 1, by omega⟩
    rw [hhop] at hx
    rcases Nat.eq_zero_or_pos i with h0 | hpos
    · subst h0
      obtain rfl : k = x := Option.some.inj hx
      exact ht
    · exact hbefore i (by omega) hpos x hx

theorem searchFrom_iff (q : Ssq) (n fuel base cur j h : Nat) :
    q.searchFrom n fuel base cur = some (j, h) ↔ ∃ i, i ≤ fuel ∧ h = base + i ∧ q.meets n cur j i := by
  induction fuel generalizing base cur with
  | zero =>
    refine ⟨fun hs => absurd hs (by simp [Ssq.searchFrom]), ?_⟩
    rintro ⟨i, hi, -, h1, -⟩
    omega
  | succ fuel ih =>
    rw [Ssq.searchFrom]
    cases hn : q.linked (q.step cur).next with
    | none =>
      refine ⟨fun hs => absurd hs (by simp), ?_⟩
      rintro ⟨i, -, -, h1, hhop, -⟩
      obtain ⟨i, rfl⟩ : ∃ m, i = m + 1 := ⟨i - 1, by omega⟩
      rw [hop_succ, hn] at hhop
      exact absurd hhop (by simp)
    | some k =>
      dsimp only
      by_cases ht : (q.step k).trigger = .CUE n
      · rw [if_pos ht]
        constructor
        · intro hs
          obtain ⟨rfl, rfl⟩ : k = j ∧ base + 1 = h := by simpa using hs
          exact ⟨1, by omega, rfl, meets_next hn ht⟩
        · rintro ⟨i, -, hh, h1, hhop, htr, hbefore⟩
          have hfirst : q.hop cur 1 = some k := (meets_next hn ht).2.1
          obtain rfl : i = 1 := by
            by_contra hne
            exact hbefore 1 (by omega) (Nat.le_refl _) k hfirst ht
          rw [hfirst] at hhop
          rw [hh, Option.some.inj hhop]
      · rw [if_neg ht, ih]
        constructor
        · rintro ⟨i, hi, hh, hm⟩
          exact ⟨i + 1, by omega, by omega, (meets_succ hn ht).mpr hm⟩
        · rintro ⟨i, hi, hh, hm⟩
          obtain ⟨i, rfl⟩ : ∃ m, i = m + 1 := ⟨i - 1, by have := hm.1; omega⟩
          exact ⟨i, by omega, by omega, (meets_succ hn ht).mp hm⟩

/-- R157: the search finds what there is to find. -/
theorem search_iff (q : Ssq) (n start : Nat) (fromHead : Bool) (j h : Nat) :
    q.search n start fromHead = some (j, h) ↔ q.finds n start fromHead j h := by
  unfold Ssq.search
  by_cases hat : fromHead = true ∧ (q.step start).trigger = .CUE n
  · rw [if_pos hat]
    obtain ⟨hhead, ht⟩ := hat
    constructor
    · intro hs
      obtain ⟨rfl, rfl⟩ : start = j ∧ 0 = h := by simpa using hs
      exact ⟨rfl, ht, by omega, .inl hhead, fun i hi => by omega⟩
    · rintro ⟨hhop, -, -, -, hbefore⟩
      rcases Nat.eq_zero_or_pos h with rfl | hpos
      · rw [Option.some.inj hhop]
      · exact absurd ht (hbefore 0 hpos (.inl hhead) start rfl)
  · rw [if_neg hat, searchFrom_iff]
    constructor
    · rintro ⟨i, hi, hh, h1, hhop, ht, hbefore⟩
      rw [Nat.zero_add] at hh
      subst hh
      refine ⟨hhop, ht, hi, .inr h1, fun i hlt hor k hk hcue => ?_⟩
      rcases Nat.eq_zero_or_pos i with h0 | hpos
      · subst h0
        obtain rfl : start = k := Option.some.inj hk
        exact hat ⟨hor.resolve_right (by omega), hcue⟩
      · exact hbefore i hlt hpos k hk hcue
    · rintro ⟨hhop, ht, hle, hor, hbefore⟩
      have hpos : 1 ≤ h := by
        rcases hor with hhead | hpos
        · by_contra hlt
          obtain rfl : h = 0 := by omega
          rw [← Option.some.inj hhop] at ht
          exact hat ⟨hhead, ht⟩
        · exact hpos
      exact ⟨h, hle, (Nat.zero_add h).symm, hpos, hhop, ht, fun i hlt h1 => hbefore i hlt (.inr h1)⟩

theorem chaseCue_found {s : State} {n start j h : Nat} {fromHead : Bool} (hf : s.ssq.finds n start fromHead j h) :
    s.chaseCue n start fromHead = s.chase j h := by
  rw [State.chaseCue, (search_iff ..).mpr hf]

theorem chaseCue_stray {s : State} {n start : Nat} {fromHead : Bool} (hf : ∀ j h, ¬ s.ssq.finds n start fromHead j h) :
    s.chaseCue n start fromHead = (s.event .CUE_STRAY (some n)).count .cueStray := by
  have hnone : s.ssq.search n start fromHead = none := by
    rw [Option.eq_none_iff_forall_ne_some]
    exact fun ⟨j, h⟩ hs => hf j h ((search_iff ..).mp hs)
  rw [State.chaseCue, hnone]

/-! ## The chase (R158) -/

/-- R158: the sequencer at a chase over `h` steps, before the step fires: a pending fire is discarded. -/
def Ssq.chasing (q : Ssq) (h : Nat) : Ssq := (if q.pend.isSome then Ssq.skip { q with pend := none } 1 else q).skip h

theorem chase_eq (s : State) (j h : Nat) {t : State} (ht : t = (s.flush coverTagged false false).runHeadQuiet) :
    s.chase j h = ((t.setSsq (t.ssq.chasing h)).fire j true).event .CHASE (some j) := by
  subst ht
  unfold State.chase Ssq.chasing
  dsimp only
  split <;> rfl

theorem chasing_parts (q : Ssq) (h : Nat) : (q.chasing h).steps = q.steps ∧ (q.chasing h).head = q.head ∧
    (q.chasing h).st = q.st ∧ (q.chasing h).remembered = q.remembered ∧ (q.chasing h).pend = none ∧
    (q.chasing h).skipped = min (q.skipped + (if q.pend.isSome then 1 else 0) + h) 65535 := by
  unfold Ssq.chasing
  cases hp : q.pend with
  | none => exact ⟨rfl, rfl, rfl, rfl, hp, by simp [Ssq.skip]⟩
  | some p => exact ⟨rfl, rfl, rfl, rfl, rfl, by simp [Ssq.skip]; omega⟩

theorem entries_congr {q r : Ssq} (h : r.steps = q.steps) (j : Nat) (flag : Bool) : r.entries j flag = q.entries j flag := by
  have hstep : r.step j = q.step j := by rw [Ssq.step, Ssq.step, h]
  unfold Ssq.entries
  rw [hstep]

theorem linked_congr {q r : Ssq} (h : r.steps = q.steps) (j : Nat) : r.linked (r.step j).next = q.linked (q.step j).next := by
  have hstep : ∀ i, r.step i = q.step i := fun i => by rw [Ssq.step, Ssq.step, h]
  unfold Ssq.linked
  rw [hstep]
  split
  · rw [hstep]
  · rfl

theorem followless_congr {q r : Ssq} (h : r.steps = q.steps) {j : Nat} (hf : q.followless j) : r.followless j := by
  intro k d hk
  have hstep : r.step k = q.step k := by rw [Ssq.step, Ssq.step, h]
  rw [hstep]
  exact hf k d (linked_congr h j ▸ hk)

/-- R153, R158: a fire that finds the queue `l` places its entries behind it, or waits. -/
theorem placed_or_waits {s u : State} {j : Nat} {es l kept : List Entry} (hl : l = s.aq.queue) (hr : s.lki.resetting = false)
    (hst : s.ssq.st ≠ .PAUSED) (hes : s.ssq.entries j true = es)
    (hq : u.aq.queue = if s.fits j true then s.aq.queue ++ s.ssq.entries j true else s.aq.queue)
    (hp : u.ssq.pend = if decide (s.fits j true) then none else some { index := j, chase := true, need := (s.ssq.entries j true).length })
    (hkept : kept = u.aq.queue.take (u.aq.queue.length - (if u.ssq.pend.isSome then 0 else es.length))) :
    kept = l ∧ (u.ssq.pend = none → u.aq.queue = kept ++ es) ∧ (u.ssq.pend ≠ none ↔ 12 - kept.length < es.length) ∧
      (u.ssq.pend ≠ none → u.ssq.pend = some { index := j, chase := true, need := es.length }) := by
  have hroom : s.room = 12 - l.length := by rw [State.room, hr, hl]; rfl
  by_cases hfits : s.fits j true
  · obtain ⟨-, hle⟩ := id hfits
    rw [hes, hroom] at hle
    rw [if_pos hfits, hes, ← hl] at hq
    rw [decide_eq_true hfits] at hp
    have hp : u.ssq.pend = none := hp
    obtain rfl : kept = l := by
      rw [hkept, hq, hp]
      simp
    exact ⟨rfl, fun _ => hq, by simp only [hp]; simpa using hle, fun hne => absurd hp hne⟩
  · have hlt : 12 - l.length < es.length := by
      by_contra hge
      exact hfits ⟨hst, by rw [hes, hroom]; omega⟩
    rw [if_neg hfits, ← hl] at hq
    rw [decide_eq_false hfits, hes] at hp
    have hp : u.ssq.pend = some { index := j, chase := true, need := es.length } := hp
    obtain rfl : kept = l := by
      rw [hkept, hq, hp]
      simp
    exact ⟨rfl, fun hn => absurd (hp.symm.trans hn) (by simp), by simp [hp, hlt], fun _ => hp⟩

/-- R158: a chase to a step that no FOLLOW step follows. -/
theorem chase_chases {s : State} {j h : Nat} (hst : s.ssq.st = .READY ∨ s.ssq.st = .RUNNING ∨ s.ssq.st = .ENDED)
    (hr : s.lki.resetting = false) (hf : s.ssq.followless j) : s.chases (s.chase j h) j h := by
  obtain ⟨t, ht⟩ : ∃ t, t = (s.flush coverTagged false false).runHeadQuiet := ⟨_, rfl⟩
  obtain ⟨heases, hspent⟩ := flushed_eases s
  rw [← ht] at heases hspent
  have htq := heases.ssq
  obtain ⟨v, hv⟩ : ∃ v, v = t.setSsq (t.ssq.chasing h) := ⟨_, rfl⟩
  have hvssq : v.ssq = t.ssq.chasing h := by rw [hv]; rfl
  have hvaq : v.aq = t.aq := by rw [hv]; rfl
  obtain ⟨hsteps, hhead, hstv, hrem, hpend, hskip⟩ := chasing_parts t.ssq h
  have hvsteps : v.ssq.steps = s.ssq.steps := by rw [hvssq, hsteps, htq]
  have hvst : v.ssq.st = .READY ∨ v.ssq.st = .RUNNING ∨ v.ssq.st = .ENDED := by
    rw [hvssq, hstv]
    exact heases.st.elim (fun he => by rw [he]; exact hst) (fun he => .inr (.inr he))
  have hpaused : v.ssq.st ≠ .PAUSED := by rcases hvst with h | h | h <;> simp [h]
  have hloaded : v.ssq.st ≠ .UNLOADED := by rcases hvst with h | h | h <;> simp [h]
  have hvr : v.lki.resetting = false := by rw [hv]; exact heases.resetting hr
  have hfv := followless_congr hvsteps hf
  have hflag : true = (true || v.ssq.pend.isSome) := rfl
  have hssq := fire_ssq hflag hfv
  have hqueue := fire_queue hflag hfv
  have hstate := fire_st true hfv hpaused hloaded
  have hlinked := linked_congr hvsteps j
  obtain ⟨u, hu⟩ : ∃ u, u = v.fire j true := ⟨_, rfl⟩
  rw [← hu] at hssq hqueue hstate
  rw [chase_eq s j h ht, ← hv, ← hu]
  have haq : (u.event .CHASE (some j)).aq = u.aq := by simp
  have hus : (u.event .CHASE (some j)).ssq = u.ssq := by simp
  unfold State.chases
  rw [haq, hus]
  refine ⟨fun es kept hes hkept => ?entries, ?_, ?_, ?_, ?skipped, ?steps, ?head, ?remembered, ?state⟩
  case entries =>
    have hentries : v.ssq.entries j true = es := by
      rw [entries_congr hvsteps, hes, List.map_append]
      cases hg : (s.ssq.step j).gateSlot <;> simp [Ssq.entries, showEntry, hg]
    have hp : u.ssq.pend = if decide (v.fits j true) then none
        else some { index := j, chase := true, need := (v.ssq.entries j true).length } := by
      rw [hssq]
      rfl
    obtain ⟨rfl, hplaced, hiff, hwaits⟩ := placed_or_waits rfl hvr hpaused hentries hqueue hp hkept
    refine ⟨?_, ?_, hplaced, hiff, hwaits⟩
    · rw [hvaq]
      exact hspent
    · rw [hvaq]
      exact heases.queue
  case skipped =>
    rw [hssq]
    have hnone : v.ssq.pend = none := by rw [hvssq, hpend]
    simp only [Ssq.firing, hnone]
    rw [hvssq]
    refine hskip.trans ?_
    rw [htq]
  case steps =>
    rw [hssq]
    exact hvsteps
  case head =>
    rw [hssq]
    exact (congrArg Ssq.head hvssq).trans (hhead.trans (by rw [htq]))
  case remembered =>
    rw [hssq]
    exact (congrArg Ssq.remembered hvssq).trans (hrem.trans (by rw [htq]))
  case state =>
    rw [hstate, hlinked]
  · rw [hssq]; rfl
  · rw [hssq]; exact hlinked
  · rw [hssq]; rfl

/-- R158: CHASE is queued last. -/
theorem chase_notice {s : State} {j h : Nat} (he : s.lki.enabled .CHASE = true) :
    (s.chase j h).lki.notices.getLast? = some { kind := .CHASE, clear := false, subject := some j, stamp := s.stamp } := by
  obtain ⟨t, ht⟩ : ∃ t, t = (s.flush coverTagged false false).runHeadQuiet := ⟨_, rfl⟩
  have heases := (flushed_eases s).1
  rw [← ht] at heases
  obtain ⟨v, hv⟩ : ∃ v, v = t.setSsq (t.ssq.chasing h) := ⟨_, rfl⟩
  obtain ⟨u, hu⟩ : ∃ u, u = v.fire j true := ⟨_, rfl⟩
  have hen : u.lki.enables = s.lki.enables := by
    have hfire : u.lki.enables = v.lki.enables := by simp [hu]
    rw [hfire, hv]
    exact heases.enables
  have hnow : u.now = s.now := by
    have hfire : u.now = v.now := by simp [hu]
    rw [hfire, hv]
    exact heases.now
  have hlast := event_last (s := u) (k := .CHASE) (x := some j) (by rw [Lki.enabled, hen]; exact he)
  rw [chase_eq s j h ht, ← hv, ← hu, hlast, State.stamp, hnow]
  rfl

/-! ## What the show makes of a cue and of a TIME update (R149, R150, R161) -/

theorem handCue_passed {s : State} (hm : s.aq.mode = .SHOW) (hr : s.lki.resetting = false) (n : Nat) : s.handCue n = s.seqCue n :=
  if_pos (by simp [State.passesTriggers, hm, hr])

theorem handTime_passed {s : State} (hm : s.aq.mode = .SHOW) (hr : s.lki.resetting = false) (n : Nat) : s.handTime n = s.seqTime n :=
  if_pos (by simp [State.passesTriggers, hm, hr])

theorem handed_back {s : State} (h : s.aq.mode ≠ .SHOW ∨ s.lki.resetting = true) (n : Nat) : s.handCue n = s ∧ s.handTime n = s := by
  have hno : ¬ s.passesTriggers = true := by
    rw [State.passesTriggers]
    rcases h with h | h <;> simp [h]
  exact ⟨if_neg hno, if_neg hno⟩

theorem seqCue_pointer {s : State} {p n : Nat} (hp : s.ssq.ptr = some p) (hst : s.ssq.st = .READY ∨ s.ssq.st = .RUNNING) :
    s.seqCue n = if (s.ssq.step p).trigger = .CUE n then s.fire p false else s.chaseCue n p false := by
  rcases hst with h | h <;> rw [State.seqCue, h, hp]

theorem seqCue_searches {s : State} {n start : Nat} {fromHead : Bool}
    (h : (s.ssq.st = .READY ∨ s.ssq.st = .RUNNING) ∧ fromHead = false ∧ s.ssq.ptr = some start ∧ (s.ssq.step start).trigger ≠ .CUE n ∨
      (s.ssq.st = .ENDED ∨ s.ssq.st = .RUNNING ∧ s.ssq.ptr = none) ∧ fromHead = true ∧ start = s.ssq.head) :
    s.seqCue n = s.chaseCue n start fromHead := by
  rcases h with ⟨hst, rfl, hp, ht⟩ | ⟨hst | ⟨hst, hp⟩, rfl, rfl⟩
  · rw [seqCue_pointer hp hst, if_neg ht]
  · rw [State.seqCue, hst]
  · rw [State.seqCue, hst, hp]
    exact if_pos rfl

theorem seqTime_pointer {s : State} {p t n : Nat} (hp : s.ssq.ptr = some p) (hst : s.ssq.st = .READY ∨ s.ssq.st = .RUNNING)
    (ht : (s.ssq.step p).trigger = .TIME t) : s.seqTime n = if t ≤ n then s.fire p false else s := by
  rw [State.seqTime, if_pos hst, hp]
  dsimp only
  rw [ht]

theorem seqTime_early {s : State} {p n : Nat} (hp : s.ssq.ptr = some p) (h : ∀ t, (s.ssq.step p).trigger = .TIME t → n < t) :
    s.seqTime n = s := by
  unfold State.seqTime
  rw [hp]
  dsimp only
  split
  · split
    · rename_i t ht
      exact if_neg (by have := h t ht; omega)
    · rfl
  · rfl

end Sys2Proof.Machine
end

section
/-!
Frames in SYNC (R127 to R136): the cue decoder and the degrade window, what is handed to the show, and the STOP frame (R110).
-/

namespace Sys2Proof.Machine

/-! ## The state that the framing judges -/

/-- What the framing finds at the last bit of a frame: the state of before, the track moved on by the frame. -/
def State.framed (s w : State) (dt : Nat) (cells : List CueCell) : Prop :=
  s.sameBut w [.cud, .lki, .cnt] ∧ w.now = s.now + dt ∧ w.lki.resetting = s.lki.resetting ∧ w.lki.enables = s.lki.enables ∧
    ∃ e sp off due, w.cud = { s.cud with
      lastEdge := some (s.now + dt), pendHalf := none, carrierTimer := some (s.now + dt + 250000), bits := cells.map cellValue
      bitIndex := s.cud.bitIndex + 32, cellE := e, speed := sp, speedOff := off, speedOffTimer := due }

/-- R121, R131: a frame at the frame alignment is judged at its last bit. -/
theorem syncFrame_framed {dt : Nat} {cells : List CueCell} {s : State} (hcar : s.cud.carrier = true) (hlen : cells.length = 32)
    (hf : s.cud.framing = .SYNC) (ha : s.cud.align = some (s.cud.bitIndex % 32)) (hb : s.cud.bits.length ≤ 32) :
    ∃ w, cueFrame cells (s.advance dt) = w.frameBit ∧ s.framed w dt cells ∧ w.cud.framing = .SYNC ∧
      w.cud.align = some (w.cud.bitIndex % 32) ∧ w.cud.bits = cells.map cellValue := by
  obtain ⟨w, hform, hw⟩ := cueFrame_hears (s := s.advance dt) hcar hlen (quietFor_align (.inl ⟨hf, ha⟩))
  obtain ⟨hsame, hnow, hres, hen, hwb, hwi, e, sp, off, due, hwc⟩ := hears_facts hw hlen hb
  have hal : w.cud.align = some (w.cud.bitIndex % 32) := by
    rw [hwi, hwc]
    exact ha.trans (congrArg some (Nat.add_mod_right ..).symm)
  exact ⟨w, hform, ⟨hsame, hnow, hres, hen, e, sp, off, due, hwc⟩, by rw [hwc]; exact hf, hal, hwb⟩

theorem syncFrame_valid {dt c p : Nat} {k : FrameKind} {cells : List CueCell} {s : State} (hp : s.powered = true)
    (hcar : s.cud.carrier = true) (hlen : cells.length = 32) (hf : s.cud.framing = .SYNC)
    (ha : s.cud.align = some (s.cud.bitIndex % 32)) (hb : s.cud.bits.length ≤ 32)
    (hj : judgeWindow (cells.map cellValue) = .valid c k p) :
    ∃ w, cueFrame cells (s.advance dt) = w.validFrame c k p ∧ exec (.cueFrame dt cells) s = .next (w.validFrame c k p).finish ∧
      s.framed w dt cells := by
  obtain ⟨w, hform, hw, hwf, hwa, hwb⟩ := syncFrame_framed (dt := dt) hcar hlen hf ha hb
  have hframe := hform.trans (frameBit_sync_valid hwf hwa (by rw [hwb]; exact hj))
  exact ⟨w, hframe, next_take hp hframe, hw⟩

/-- R127: the consecutive errors that an errored frame counts. -/
def Cud.countErrs (c : Cud) (cells : List CueCell) : Nat :=
  if judgeWindow (cells.map cellValue) = .checkError ∧ c.par.loss = .SYNC_ONLY then 0 else c.errs + 1

theorem countErrs_eq (c : Cud) (cells : List CueCell) :
    c.nextErrs (decide (judgeWindow (cells.map cellValue) = .checkError)) = c.countErrs cells := by
  unfold Cud.nextErrs Cud.countErrs
  refine if_congr ?_ rfl rfl
  simp

theorem syncFrame_errored {dt : Nat} {cells : List CueCell} {s : State} (hp : s.powered = true)
    (hcar : s.cud.carrier = true) (hlen : cells.length = 32) (hf : s.cud.framing = .SYNC)
    (ha : s.cud.align = some (s.cud.bitIndex % 32)) (hb : s.cud.bits.length ≤ 32)
    (hj : judgeWindow (cells.map cellValue) = .damaged ∨ judgeWindow (cells.map cellValue) = .wrongSync ∨
      judgeWindow (cells.map cellValue) = .checkError) :
    ∃ w, exec (.cueFrame dt cells) s =
        .next (w.badFrame (decide (judgeWindow (cells.map cellValue) = .checkError))).finish ∧ s.framed w dt cells := by
  obtain ⟨w, hform, hw, hwf, hwa, hwb⟩ := syncFrame_framed (dt := dt) hcar hlen hf ha hb
  have hbad := frameBit_sync_errored hwf hwa (by rw [hwb]; exact hj)
  rw [hwb] at hbad
  exact ⟨w, next_take hp (hform.trans hbad), hw⟩

/-! ## Valid frames -/

/-- R132: the candidate by its number and its run. -/
theorem moveCandidate_eq (c : Option Candidate) (n : Nat) : moveCandidate c n =
    { number := n, run := if c.map Candidate.number = some n then min ((c.map Candidate.run).getD 0 + 1) 2 else 1 } := by
  cases c with
  | none => rfl
  | some k =>
    unfold moveCandidate
    by_cases h : k.number = n <;> simp [h]

/-- R133: the acceptance of a cue, after the window has taken its frame. -/
theorem accepts_iff {s : State} {c d : Cud} {n run : Nat} (hc : c.cand = s.cud.cand) (hl : c.lock = s.cud.lock)
    (hlast : c.lastCue = s.cud.lastCue) (hpar : c.par = s.cud.par) (hd : d.degraded = c.degraded)
    (hrun : run = if s.cud.cand.map Candidate.number = some n then min ((s.cud.cand.map Candidate.run).getD 0 + 1) 2 else 1) :
    c.accepts n ↔ (if d.degraded then 2 else s.cud.par.confirm) ≤ run ∧ (s.cud.lock = false ∨ s.cud.lastCue ≠ some n) := by
  rw [Cud.accepts, Cud.confirmNow, moveCandidate_eq, hc, hl, hlast, hpar, hd, hrun]

/-- The settings, the candidate and the cue that the window leaves as they are. -/
theorem framed_taken {s w : State} {dt : Nat} {cells : List CueCell} (hw : s.framed w dt cells) (c : Nat) :
    (w.frameTaken c).cud.cand = s.cud.cand ∧ (w.frameTaken c).cud.lock = s.cud.lock ∧
      (w.frameTaken c).cud.lastCue = s.cud.lastCue ∧ (w.frameTaken c).cud.par = s.cud.par ∧
      (w.frameTaken c).cud.tapeTime = s.cud.tapeTime ∧ (w.frameTaken c).cud.framing = s.cud.framing := by
  obtain ⟨-, -, -, -, e, sp, off, due, hwc⟩ := hw
  rw [frameTaken_cud, hwc]
  exact ⟨rfl, rfl, rfl, rfl, rfl, rfl⟩

theorem framed_valid_accepts {s w : State} {dt c p run : Nat} {cells : List CueCell} (k : FrameKind) (hw : s.framed w dt cells)
    (hrun : run = if s.cud.cand.map Candidate.number = some p then min ((s.cud.cand.map Candidate.run).getD 0 + 1) 2 else 1) :
    (w.frameTaken c).cud.accepts p ↔ (if (w.validFrame c k p).cud.degraded then 2 else s.cud.par.confirm) ≤ run ∧
      (s.cud.lock = false ∨ s.cud.lastCue ≠ some p) := by
  obtain ⟨hcand, hlock, hlast, hpar, -, -⟩ := framed_taken hw c
  obtain ⟨a, b, l, t, hcud, -⟩ := validFrame_cud w c k p
  exact accepts_iff hcand hlock hlast hpar (by rw [hcud]) hrun

theorem framed_sameBut {s w u : State} {dt : Nat} {cells : List CueCell} (hw : s.framed w dt cells)
    (hu : u.powered = w.powered ∧ u.free = w.free ∧ u.pending = w.pending ∧ u.rpd = w.rpd) :
    s.sameBut u [.aq, .tmc, .lmc, .thc, .ttc, .cud, .ssq, .lki, .cnt, .sts] := by
  obtain ⟨hsame, -⟩ := hw
  obtain ⟨hp, hf, hq, hr⟩ := hu
  simp only [State.sameBut] at hsame ⊢
  simp_all

/-- R130: a frame that closes the window is the degrade window's close as well. -/
theorem degradeWindowClose_of {cells : List CueCell} {s : State} (h : s.cud.window ≠ none)
    (hs : (cueFrame cells s).cud.framing = .SYNC) (hw : (cueFrame cells s).cud.window = none) :
    degradeWindowClose cells s = cueFrame cells s :=
  if_pos ⟨Option.isSome_iff_ne_none.mpr h, hs, hw⟩

/-! ## The handing over (R131, R133, R134) -/

theorem frameTaken_rest (s : State) (c : Nat) : s.sameBut (s.frameTaken c) [.cud, .lki, .cnt] ∧ (s.frameTaken c).now = s.now ∧
    (s.frameTaken c).lki.resetting = s.lki.resetting ∧ (s.frameTaken c).lki.enables = s.lki.enables := by
  unfold State.frameTaken
  refine ⟨?_, by simp, by simp, by simp⟩
  simp [State.sameBut]

/-- A state that the decoder has passed through on the way from `s`. -/
def State.decoded (s v : State) (dt : Nat) : Prop :=
  s.sameBut v [.cud, .lki, .cnt] ∧ v.now = s.now + dt ∧ v.lki.resetting = s.lki.resetting

theorem decoded_taken {s w : State} {dt : Nat} {cells : List CueCell} (hw : s.framed w dt cells) (c : Nat) :
    s.decoded (w.frameTaken c) dt := by
  obtain ⟨hsame, hnow, hres, -, -⟩ := hw
  obtain ⟨ksame, know, kres, -⟩ := frameTaken_rest w c
  refine ⟨?_, know.trans hnow, kres.trans hres⟩
  simp only [State.sameBut] at hsame ksame ⊢
  simp_all

theorem State.decoded.setCud {s v : State} {dt : Nat} (h : s.decoded v dt) (c : Cud) : s.decoded (v.setCud c) dt := by
  obtain ⟨hsame, hnow, hres⟩ := h
  exact ⟨by simpa [State.sameBut] using hsame, hnow, hres⟩

theorem State.decoded.count {s v : State} {dt : Nat} (h : s.decoded v dt) (k : Ctr) : s.decoded (v.count k) dt := by
  obtain ⟨hsame, hnow, hres⟩ := h
  exact ⟨by simpa [State.sameBut] using hsame, by simpa using hnow, by simpa using hres⟩

theorem decoded_show {s v : State} {dt : Nat} (h : s.decoded v dt) : v.aq = s.aq ∧ v.ssq = s.ssq := by
  obtain ⟨hsame, -⟩ := h
  simp only [State.sameBut] at hsame
  simp_all

/-- R131: the show is given what the kind of a valid frame says. -/
theorem validFrame_hands {s w : State} {dt : Nat} {cells : List CueCell} (hw : s.framed w dt cells) (c p : Nat) (k : FrameKind) :
    ∃ v, s.decoded v dt ∧
      (k = .IDLE ∨ k = .STOP → (w.validFrame c k p).aq = s.aq ∧ (w.validFrame c k p).ssq = s.ssq) ∧
      (k = .TIME → (w.validFrame c k p).aq = (v.handTime p).aq ∧ (w.validFrame c k p).ssq = (v.handTime p).ssq) ∧
      (k = .CUE →
        ((w.frameTaken c).cud.accepts p →
          (w.validFrame c k p).aq = (v.handCue p).aq ∧ (w.validFrame c k p).ssq = (v.handCue p).ssq) ∧
        (¬(w.frameTaken c).cud.accepts p → (w.validFrame c k p).aq = s.aq ∧ (w.validFrame c k p).ssq = s.ssq)) := by
  have htaken := decoded_taken hw c
  have hoffer : (w.validFrame c k p).aq = ((w.frameTaken c).frameKind k p).aq ∧
      (w.validFrame c k p).ssq = ((w.frameTaken c).frameKind k p).ssq := by
    rw [validFrame_eq]
    exact ⟨by simp, by simp⟩
  obtain ⟨haq, hssq⟩ := hoffer
  rw [haq, hssq]
  obtain ⟨kaq, kssq⟩ := decoded_show htaken
  cases k with
  | IDLE =>
    have hform : (w.frameTaken c).frameKind .IDLE p = (w.frameTaken c).dropCandidate := rfl
    rw [hform]
    exact ⟨_, htaken, fun _ => ⟨by simpa using kaq, by simpa using kssq⟩, fun h => absurd h (by decide), fun h => absurd h (by decide)⟩
  | STOP =>
    have hform : (w.frameTaken c).frameKind .STOP p = (w.frameTaken c).dropCandidate.stopFrame := rfl
    rw [hform]
    exact ⟨_, htaken, fun _ => ⟨by simpa using kaq, by simpa using kssq⟩, fun h => absurd h (by decide), fun h => absurd h (by decide)⟩
  | TIME =>
    exact ⟨_, (htaken.setCud { (w.frameTaken c).cud with cand := none, lock := false }).setCud
      { (w.frameTaken c).dropCandidate.cud with tapeTime := some p }, fun h => absurd h (by decide), fun _ => ⟨rfl, rfl⟩,
      fun h => absurd h (by decide)⟩
  | CUE =>
    have hform : (w.frameTaken c).frameKind .CUE p = (w.frameTaken c).cueFrameOf p := rfl
    rw [hform]
    have hjudged : s.decoded ((w.frameTaken c).cueJudged p) dt := htaken.setCud _
    refine ⟨_, (hjudged.setCud { ((w.frameTaken c).cueJudged p).cud with lastCue := some p, lock := true }).count .cueAccepted,
      fun h => absurd h (by decide), fun h => absurd h (by decide), fun _ => ⟨fun ha => ?_, fun ha => ?_⟩⟩
    · rw [cueFrameOf_accepted ha]
      exact ⟨rfl, rfl⟩
    · rw [cueFrameOf_ignored ha]
      exact decoded_show hjudged

/-! ## The STOP frame (R110) -/

/-- R108, R110: the end of the tape in PLAY, at the transport. -/
theorem tapeEnd_play {s : State} (h : s.ttc.st = .PLAY) :
    s.tapeEnd.ttc.fgTimer = none ∧ s.tapeEnd.ttc.unlockStart = none ∧ s.tapeEnd.ttc.servo = s.ttc.servo ∧
      s.tapeEnd.ttc.par = s.ttc.par ∧ (s.ttc.par.autoRewind = false → s.tapeEnd.ttc.reelTimer = none) := by
  have hne : Transport.STOPPED ≠ s.ttc.st := by rw [h]; decide
  obtain ⟨hst, -, hpar, -, -, hreel, -, -, -⟩ := setTransport_change s hne
  obtain ⟨hfg, hun, -⟩ := setTransport_halt s hne (by decide)
  have hservo : s.tapeEnd.ttc.servo = s.ttc.servo := by simp
  obtain ⟨u, hu⟩ : ∃ u, u = State.event ((s.setTransport .STOPPED).setTtc { (s.setTransport .STOPPED).ttc with atEnd := true })
    .TAPE_END none := ⟨_, rfl⟩
  have httc : u.ttc = { (s.setTransport .STOPPED).ttc with atEnd := true } := by
    rw [hu]
    simp
  have hform : s.tapeEnd = if u.ttc.par.autoRewind then u.setTransport .REWIND else u := by
    rw [hu]
    rfl
  have hupar : u.ttc.par = s.ttc.par := by rw [httc]; exact hpar
  rw [hform, hupar] at hservo ⊢
  cases hauto : s.ttc.par.autoRewind
  · rw [hauto, if_neg (by decide)] at hservo
    rw [if_neg (by decide), httc]
    exact ⟨hfg, hun, by rw [← hservo, httc], hpar, fun _ => hreel⟩
  · rw [hauto, if_pos rfl] at hservo
    have hne2 : Transport.REWIND ≠ u.ttc.st := by
      rw [httc]
      exact fun hc => absurd (hc.trans hst) (by decide)
    obtain ⟨-, -, hpar2, -⟩ := setTransport_change u hne2
    obtain ⟨hfg2, hun2, -⟩ := setTransport_halt u hne2 (by decide)
    rw [if_pos rfl]
    exact ⟨hfg2, hun2, hservo, hpar2.trans hupar, fun hc => absurd hc (by decide)⟩

theorem validFrame_stop (w : State) (c p : Nat) : (w.validFrame c .STOP p).ttc = (w.frameTaken c).dropCandidate.stopFrame.ttc ∧
    (w.validFrame c .STOP p).lki = (w.frameTaken c).dropCandidate.stopFrame.lki := by
  have hform : w.validFrame c .STOP p = (w.frameTaken c).dropCandidate.stopFrame.offerFrame .STOP p := rfl
  rw [hform]
  exact ⟨by simp, by simp⟩

end Sys2Proof.Machine
end

section
/-!
What the frames in SYNC do (R110, R127 to R136, R149, R150, R157 to R161), put together.
-/

namespace Sys2Proof.Machine

/-- R131 to R136: the cue decoder after a valid frame, in terms of the state before the frame. -/
theorem framed_valid_cud {s w : State} {dt c p : Nat} {k : FrameKind} {cells : List CueCell} (hw : s.framed w dt cells)
    (hf : s.cud.framing = .SYNC) :
    (w.validFrame c k p).cud.framing = .SYNC ∧ (w.validFrame c k p).cud.errs = 0 ∧
      (w.validFrame c k p).cud.expected = some ((c + 1) % 16) ∧
      (w.validFrame c k p).cud.window = (w.frameTaken c).cud.window ∧
      (w.validFrame c k p).cud.degraded = (w.frameTaken c).cud.degraded ∧
      (w.validFrame c k p).cud.buf = (if s.cud.par.relay = true ∧ s.cud.buf.length < 4 then
        s.cud.buf ++ [{ kind := k, payload := p }] else s.cud.buf) := by
  obtain ⟨a, b, l, t, hcud, -⟩ := validFrame_cud w c k p
  have htaken := frameTaken_cud w c
  obtain ⟨-, -, -, -, e, sp, off, due, hwc⟩ := hw
  have hfr : (w.frameTaken c).cud.framing = .SYNC := by
    rw [htaken, hwc]
    exact hf
  rw [hcud]
  refine ⟨hfr, by rw [htaken], by rw [htaken], rfl, rfl, ?_⟩
  rw [hwc]
  refine if_congr ?_ rfl rfl
  simp [hf]

theorem framed_window {s w : State} {dt : Nat} {cells : List CueCell} (hw : s.framed w dt cells) :
    w.cud.window = s.cud.window ∧ w.cud.degraded = s.cud.degraded ∧ w.cud.par = s.cud.par ∧ w.cud.errs = s.cud.errs := by
  obtain ⟨-, -, -, -, e, sp, off, due, hwc⟩ := hw
  rw [hwc]
  exact ⟨rfl, rfl, rfl, rfl⟩

/-- R127: an errored frame that keeps SYNC. -/
theorem bad_kept {s w : State} {dt : Nat} {cells : List CueCell} (hw : s.framed w dt cells) (h : s.cud.countErrs cells < 3) :
    w.badFrame (decide (judgeWindow (cells.map cellValue) = .checkError)) =
      (w.errored (decide (judgeWindow (cells.map cellValue) = .checkError))).advanceWindow
        (decide (judgeWindow (cells.map cellValue) = .checkError)) := by
  obtain ⟨-, -, hwp, hwe⟩ := framed_window hw
  have hcount : w.cud.nextErrs (decide (judgeWindow (cells.map cellValue) = .checkError)) = s.cud.countErrs cells := by
    rw [countErrs_eq, Cud.countErrs, Cud.countErrs, hwp, hwe]
  rw [badFrame_eq, hcount, if_neg (by omega)]

/-- R127, R128: the cue decoder after an errored frame. -/
theorem framed_bad {s w : State} {dt : Nat} {cells : List CueCell} (hw : s.framed w dt cells) (hf : s.cud.framing = .SYNC)
    {c : Cud} (hc : c = (w.badFrame (decide (judgeWindow (cells.map cellValue) = .checkError))).cud) :
    c.tapeTime = s.cud.tapeTime ∧ c.lastCue = s.cud.lastCue ∧
      (s.cud.countErrs cells < 3 → c.framing = .SYNC ∧ c.errs = s.cud.countErrs cells ∧ c.cand = s.cud.cand ∧ c.lock = s.cud.lock ∧
        c.expected = s.cud.expected.map (fun e => (e + 1) % 16) ∧ c.buf = s.cud.buf) ∧
      (3 ≤ s.cud.countErrs cells → c.framing = .HUNT ∧ c.cueSync = false ∧ c.errs = 0 ∧ c.expected = none ∧ c.window = none ∧
        c.cand = none ∧ c.lock = false ∧ c.sending = false ∧ c.buf = []) := by
  have herr := errored_cud w (decide (judgeWindow (cells.map cellValue) = .checkError))
  obtain ⟨-, -, hwp, hwe⟩ := framed_window hw
  have hcount : w.cud.nextErrs (decide (judgeWindow (cells.map cellValue) = .checkError)) = s.cud.countErrs cells := by
    rw [countErrs_eq, Cud.countErrs, Cud.countErrs, hwp, hwe]
  rcases Nat.lt_or_ge (s.cud.countErrs cells) 3 with hlt | hge
  · rw [bad_kept hw hlt, advanceWindow_cud, herr, hcount] at hc
    obtain ⟨-, -, -, -, e, sp, off, due, hwc⟩ := hw
    subst hc
    rw [hwc]
    exact ⟨rfl, rfl, fun _ => ⟨hf, rfl, rfl, rfl, rfl, rfl⟩, fun h => by omega⟩
  · rw [badFrame_eq, hcount, if_pos hge, leaveSync_cud, herr] at hc
    obtain ⟨-, -, -, -, e, sp, off, due, hwc⟩ := hw
    subst hc
    rw [hwc]
    exact ⟨rfl, rfl, fun h => by omega, fun _ => ⟨rfl, rfl, rfl, rfl, rfl, rfl, rfl, rfl, rfl⟩⟩

/-- Settles O37. -/
theorem framesInSyncAreHandled : Obligations.FramesInSyncAreHandled := by
  refine ⟨fun dt cells s hp hcar hlen hf ha hb => ⟨fun c k p hj => ?valid, fun hj n hn => ?errored⟩,
    fun dt cells s hp hcar hlen hf ha hb => ⟨fun c k p hj => ?handed, fun hj hlt => ?windowed⟩, fun s n => ?shown,
    fun dt cells s hp hcar hlen hf ha hb c p hj => ?stopped⟩
  case valid =>
    obtain ⟨w, hform, hexec, hw⟩ := syncFrame_valid (dt := dt) hp hcar hlen hf ha hb hj
    obtain ⟨hsync, herrs, hexp, hwin, hdeg, hbuf⟩ := framed_valid_cud (c := c) (k := k) (p := p) hw hf
    obtain ⟨hcand, hlock, hlast, hpar, htt, -⟩ := framed_taken hw c
    obtain ⟨-, -, -, -, -, htime, hother, hcue⟩ := validFrame_cud w c k p
    obtain ⟨hww, hwd, hwp, -⟩ := framed_window hw
    have hwindow := congrArg Cud.window (frameTaken_cud w c)
    have hdegraded := congrArg Cud.degraded (frameTaken_cud w c)
    dsimp only at hwindow hdegraded
    rw [hww] at hwindow
    rw [hww, hwd, hwp] at hdegraded
    refine ⟨w.validFrame c k p, hexec, framed_sameBut hw (by simp), hsync, herrs, hexp, hwin.trans hwindow, hdeg.trans hdegraded, ?_,
      fun hk => ?_, fun hk run hrun => ⟨?_, fun hacc => ?_, fun hacc => ?_⟩, hbuf, fun v hv hfull => ?_⟩
    · rw [htime, htt]
    · obtain ⟨hc, hl, hla⟩ := hother hk
      exact ⟨hc, hl, hla.trans hlast⟩
    · rw [(hcue hk).1, hcand, moveCandidate_eq, hrun]
    · exact (hcue hk).2.1 ((framed_valid_accepts k hw hrun).mpr hacc)
    · obtain ⟨hla, hl⟩ := (hcue hk).2.2 (fun h => hacc ((framed_valid_accepts k hw hrun).mp h))
      exact ⟨hla.trans hlast, hl.trans hlock⟩
    · have hclosed : (w.validFrame c k p).cud.window = none := by
        rw [hv] at hwindow
        exact hwin.trans (hwindow.trans (if_pos (by omega)))
      refine next_take hp ?_
      rw [degradeWindowClose_of (s := s.advance dt) (by change s.cud.window ≠ none; simp [hv]) (by rw [hform]; exact hsync)
        (by rw [hform]; exact hclosed), hform]
  case errored =>
    obtain ⟨w, hexec, hw⟩ := syncFrame_errored (dt := dt) hp hcar hlen hf ha hb hj
    obtain ⟨htt, hlast, hkept, hleft⟩ := framed_bad hw hf rfl
    have hsame : s.sameBut (w.badFrame (decide (judgeWindow (cells.map cellValue) = .checkError))) [.cud, .lki, .cnt] := by
      obtain ⟨hsame, -⟩ := hw
      simp only [State.sameBut] at hsame ⊢
      simp_all
    subst hn
    exact ⟨_, hexec, hsame, htt, hlast, hkept, hleft⟩
  case handed =>
    obtain ⟨w, -, hexec, hw⟩ := syncFrame_valid (dt := dt) hp hcar hlen hf ha hb hj
    obtain ⟨v, ⟨hsame, hnow, hres⟩, hquiet, htime, hcue⟩ := validFrame_hands hw c p k
    refine ⟨_, hexec, v, hsame, hnow, hres, hquiet, htime, fun hk run hrun => ⟨fun hacc => ?_, fun hacc => ?_⟩⟩
    · exact (hcue hk).1 ((framed_valid_accepts k hw hrun).mpr hacc)
    · exact (hcue hk).2 (fun h => hacc ((framed_valid_accepts k hw hrun).mp h))
  case windowed =>
    obtain ⟨w, hexec, hw⟩ := syncFrame_errored (dt := dt) hp hcar hlen hf ha hb hj
    refine ⟨_, hexec, fun v n hv hn => ?_⟩
    have hkept := bad_kept hw hlt
    obtain ⟨hww, hwd, hwp, -⟩ := framed_window hw
    have herr := errored_cud w (decide (judgeWindow (cells.map cellValue) = .checkError))
    have hcount : (if decide (judgeWindow (cells.map cellValue) = .checkError) then v.errors + 1 else v.errors) = n := by
      rw [hn]
      by_cases hc : judgeWindow (cells.map cellValue) = .checkError <;> simp [hc]
    rw [hkept, advanceWindow_cud, herr, hww, hwd, hwp, hv]
    dsimp only
    rw [hcount]
    exact ⟨rfl, rfl⟩
  case shown =>
    refine ⟨fun hno => handed_back hno n, fun hm hr => ?_⟩
    rw [handCue_passed hm hr, handTime_passed hm hr]
    have hfire : ∀ p, s.sameBut (s.fire p false) [.aq, .ssq, .lki] := fun p => by simp [State.sameBut]
    refine ⟨fun hst => ?_, fun hst => ?_, fun p hp hst ht => ?_, fun start fromHead hcase => ?_, fun p t hp hst ht hle => ?_,
      fun p hp ht => seqTime_early hp ht, fun hno => ?_⟩
    · rw [State.seqCue, hst]
    · rw [State.seqCue, hst]
    · rw [seqCue_pointer hp hst, if_pos ht]
      exact ⟨hfire p, fire_fires⟩
    · rw [seqCue_searches hcase]
      have hst : s.ssq.st = .READY ∨ s.ssq.st = .RUNNING ∨ s.ssq.st = .ENDED := by
        rcases hcase with ⟨hst | hst, -⟩ | ⟨hst | ⟨hst, -⟩, -⟩ <;> simp [hst]
      refine ⟨chaseCue_stray, fun j h hf hfl => ?_⟩
      rw [chaseCue_found hf]
      exact ⟨chase_chases hst hr hfl, chase_notice⟩
    · rw [seqTime_pointer hp hst ht, if_pos hle]
      exact ⟨hfire p, fire_fires⟩
    · unfold State.seqTime
      rcases hno with hp | hst | hst | hst
      · rw [hp]
        exact ite_self s
      all_goals exact if_neg (by simp [hst])
  case stopped =>
    obtain ⟨w, -, hexec, hw⟩ := syncFrame_valid (dt := dt) hp hcar hlen hf ha hb hj
    obtain ⟨hsame, hnow, hres, hen, -⟩ := id hw
    obtain ⟨ksame, know, -, ken⟩ := frameTaken_rest w c
    obtain ⟨-, -, -, hpar, -⟩ := framed_taken hw c
    obtain ⟨hut, hul⟩ := validFrame_stop w c p
    obtain ⟨v, hv⟩ : ∃ v, v = (w.frameTaken c).dropCandidate := ⟨_, rfl⟩
    rw [← hv] at hut hul
    have hvttc : v.ttc = s.ttc := by
      have hone : w.ttc = s.ttc := by
        simp only [State.sameBut] at hsame
        simp_all
      have htwo : (w.frameTaken c).ttc = w.ttc := by
        simp only [State.sameBut] at ksame
        simp_all
      rw [hv]
      simpa [hone] using htwo
    have hvpar : v.cud.par = s.cud.par := by
      rw [hv]
      simpa using hpar
    have hvnow : v.now = s.now + dt := by
      rw [hv]
      simpa [hnow] using know
    have hven : v.lki.enables = s.lki.enables := by
      rw [hv]
      simpa [hen] using ken
    refine ⟨_, hexec, fun hplay hstop hsrc => ?_, fun hno => ?_⟩
    · have hform : v.stopFrame = v.tapeEnd := if_pos ⟨by rw [hvttc, hplay], by rw [hvttc, hstop], by rw [hvpar, hsrc]⟩
      rw [hform] at hut hul
      obtain ⟨hstays, hrewinds⟩ := tapeEnd_ttc v
      obtain ⟨hfg, hun, hservo, hpr, hreel⟩ := tapeEnd_play (s := v) (by rw [hvttc, hplay])
      rw [hvttc] at hstays hrewinds hservo hpr hreel
      rw [hvnow] at hrewinds
      rw [hut, hul]
      refine ⟨fun hauto => ?_, hrewinds, hfg, hun, hservo, hpr, fun hon => ?_⟩
      · obtain ⟨hst, hend⟩ := hstays hauto
        exact ⟨hst, hend, hreel hauto⟩
      · have hlast := event_last (s := v) (k := .TAPE_END) (x := none) (by rw [Lki.enabled, hven]; exact hon)
        rw [tapeEnd_lki, hlast, State.stamp, hvnow]
    · have hform : v.stopFrame = v := by
        refine if_neg ?_
        rw [hvttc, hvpar]
        rintro ⟨h1, h2, h3⟩
        rcases hno with hno | hno | hno
        · exact hno h1
        · rw [h2] at hno
          exact absurd hno (by decide)
        · exact hno h3
      rw [hut, hform, hvttc]

end Sys2Proof.Machine
end

section
/-!
What lasts in the sequencer while the runner works and reports departures (R17, R151, R154, R156).
-/

namespace Sys2Proof.Machine

/-! ## A property that every report keeps -/

/-- What the reports of departures do of the sequencer: the show ends, the FOLLOW timer starts, a pending fire joins, a FOLLOW step
fires; `P` holds through each of them. -/
structure Ssq.Lasts (P : Ssq → Prop) : Prop where
  ends : ∀ q, P q → q.st = .RUNNING → q.ptr = none → P { q with st := .ENDED }
  starts : ∀ q f, P q → q.follow = .stopped → P { q with follow := f }
  joins : ∀ q, P q → P { q with pend := none }
  fires : ∀ q j flag placed, P q → q.follow = .stopped → q.st = .RUNNING → P (q.firing j flag placed)

variable {P : Ssq → Prop}

theorem endTest_lasts (h : Ssq.Lasts P) {s : State} (hs : P s.ssq) : P s.endTest.ssq := by
  unfold State.endTest
  split
  · rename_i hc
    obtain ⟨hst, hptr, -⟩ := hc
    rw [event_eq_setLki]
    exact h.ends s.ssq hs hst hptr
  · exact hs

theorem followStart_stopped {s : State} {x : Nat × Nat} (h : s.followStart = some x) : s.ssq.follow = .stopped := by
  unfold State.followStart at h
  split at h
  · assumption
  · exact absurd h (by simp)

theorem checks_lasts (h : Ssq.Lasts P) (n : Nat) {s : State} (hs : P s.ssq) : P (State.checks n s).ssq := by
  induction n generalizing s with
  | zero =>
    rw [State.checks]
    cases hf : s.followStart with
    | none => exact endTest_lasts h hs
    | some x => exact endTest_lasts h (h.starts s.ssq _ hs (followStart_stopped hf))
  | succ n ih =>
    rw [State.checks]
    cases hf : s.followStart with
    | none => exact endTest_lasts h hs
    | some x =>
      have hstop := followStart_stopped hf
      have hfollow : ∀ f, P (s.setSsq { s.ssq with follow := f }).endTest.ssq :=
        fun f => endTest_lasts h (h.starts s.ssq f hs hstop)
      dsimp only
      split
      · rename_i hst
        split
        · split
          · refine ih ?_
            rw [fireCore_ssq x.2 rfl]
            exact h.fires s.ssq _ _ _ hs hstop hst
          · exact hfollow _
        · exact hfollow _
      · exact hfollow _
      all_goals exact endTest_lasts h hs

theorem offerPending_lasts (h : Ssq.Lasts P) {s : State} (hs : P s.ssq) : P s.offerPending.ssq := by
  unfold State.offerPending
  split
  · split
    · exact h.joins s.ssq hs
    · exact hs
  · exact hs

theorem takeReport_lasts (h : Ssq.Lasts P) {s : State} (hs : P s.ssq) : P s.takeReport.ssq :=
  checks_lasts h followFuel (offerPending_lasts h hs)

theorem report_lasts (h : Ssq.Lasts P) {s : State} (rep : Bool) (tag : Option Nat) (m : Manner) (hs : P s.ssq) :
    P (s.report rep tag m).ssq := by
  obtain ⟨w, hw, hwp⟩ : ∃ w, w = s.setAq { s.aq with lastReport := some { tag := tag, manner := m, room := s.room } } ∧ P w.ssq :=
    ⟨_, rfl, hs⟩
  have hform : s.report rep tag m = if rep then w.takeReport else w.endTest := by rw [hw]; rfl
  rw [hform]
  split
  · exact takeReport_lasts h hwp
  · exact endTest_lasts h hwp

theorem depart_lasts (h : Ssq.Lasts P) {s : State} (e : Entry) (d rep : Bool) (hs : P s.ssq) : P (s.depart e d rep).ssq := by
  have hdrop : ∀ u : State, P u.ssq → P (if d then u.event .ACTION_DROPPED e.tag else u).ssq := by
    intro u hu
    split
    · simpa using hu
    · exact hu
  have hstop : ∀ u : State, P u.ssq → P (if e.running then u.stoppedIfPending else u).ssq := by
    intro u hu
    split
    · simpa using hu
    · exact hu
  have hend : ∀ u : State, P u.ssq → P u.resetEnd.ssq := fun u hu => by simpa using hu
  exact hend _ (hstop _ (report_lasts h rep e.tag _ (hdrop (s.setAq { s.aq with queue := s.aq.queue.tail }) hs)))

theorem settle_lasts (h : Ssq.Lasts P) (n : Nat) (rep : Bool) {s : State} (hs : P s.ssq) : P (State.settle n rep s).ssq := by
  induction n generalizing s with
  | zero => exact hs
  | succ n ih =>
    cases hm : s.headMove with
    | wait r =>
      rw [settle_wait n rep hm]
      exact hs
    | start e =>
      rw [settle_start n rep hm]
      exact ih (by simpa using hs)
    | leave e d =>
      rw [settle_leave n rep hm]
      exact ih (depart_lasts h e d rep hs)

theorem runHead_lasts (h : Ssq.Lasts P) {s : State} (hs : P s.ssq) : P s.runHead.ssq := settle_lasts h runnerFuel true hs

theorem followTest_lasts (h : Ssq.Lasts P) {s : State} (hs : P s.ssq) : P s.followTest.ssq := by
  unfold State.followTest
  split
  · exact checks_lasts h followFuel hs
  · exact hs

/-! ## A show that goes on (R162) -/

/-- The sequencer is neither paused nor unloaded. -/
def Ssq.awake (q : Ssq) : Prop := (q.st = .READY ∨ q.st = .RUNNING ∨ q.st = .ENDED) ∧ q.pausedFrom = none

theorem awake_firing {q : Ssq} (h : q.awake) (j : Nat) (flag placed : Bool) : (q.firing j flag placed).awake := by
  obtain ⟨hst, hfrom⟩ := h
  have hp : q.st ≠ .PAUSED := by rcases hst with h | h | h <;> simp [h]
  have hl : q.st ≠ .UNLOADED := by rcases hst with h | h | h <;> simp [h]
  exact ⟨.inr (.inl (firing_st hp hl)), (if_neg hp).trans hfrom⟩

theorem awake_lasts : Ssq.Lasts Ssq.awake where
  ends := fun _ h _ _ => ⟨.inr (.inr rfl), h.2⟩
  starts := fun _ _ h _ => h
  joins := fun _ h => h
  fires := fun _ j flag placed h _ _ => awake_firing h j flag placed

theorem awake_fire {s : State} (h : s.ssq.awake) (j : Nat) (chase : Bool) : (s.fire j chase).ssq.awake := by
  refine checks_lasts awake_lasts followFuel ?_
  rw [fireCore_ssq j rfl]
  exact awake_firing h j _ _

theorem awake_chase {s : State} (h : s.ssq.awake) (j n : Nat) : (s.chase j n).ssq.awake := by
  obtain ⟨t, ht⟩ : ∃ t, t = (s.flush coverTagged false false).runHeadQuiet := ⟨_, rfl⟩
  have heases := (flushed_eases s).1
  rw [← ht] at heases
  obtain ⟨hst, hfrom⟩ := h
  have hawake : (t.setSsq (t.ssq.chasing n)).ssq.awake := by
    obtain ⟨-, -, hsame, -⟩ := chasing_parts t.ssq n
    have hkept : (t.ssq.chasing n).pausedFrom = t.ssq.pausedFrom := by
      unfold Ssq.chasing
      split <;> rfl
    refine ⟨?_, ?_⟩
    · rw [State.setSsq_ssq, hsame]
      exact heases.st.elim (fun he => by rw [he]; exact hst) (fun he => .inr (.inr he))
    · rw [State.setSsq_ssq, hkept, heases.ssq]
      exact hfrom
  rw [chase_eq s j n ht, (event_frame ..).2.2.2.2.2.2.2.2.2.1]
  exact awake_fire hawake j true

theorem chase_remembered (s : State) (j n : Nat) : (s.chase j n).ssq.remembered = s.ssq.remembered := by
  obtain ⟨t, ht⟩ : ∃ t, t = (s.flush coverTagged false false).runHeadQuiet := ⟨_, rfl⟩
  have heases := (flushed_eases s).1
  rw [← ht] at heases
  obtain ⟨-, -, -, hrem, -⟩ := chasing_parts t.ssq n
  have hfire : ((t.setSsq (t.ssq.chasing n)).fire j true).ssq.remembered = t.ssq.remembered := by simpa using hrem
  rw [chase_eq s j n ht, (event_frame ..).2.2.2.2.2.2.2.2.2.1, hfire, heases.ssq]

/-- R150, R157: of a show that is not paused a cue fires a step, starts a chase or is stray. -/
theorem seqCue_cases {s : State} (h : s.ssq.awake) (n : Nat) : (∃ j, s.seqCue n = s.fire j false) ∨ (∃ j k, s.seqCue n = s.chase j k) ∨
    s.seqCue n = (s.event .CUE_STRAY (some n)).count .cueStray ∨ s.seqCue n = s := by
  have hchase : ∀ start fromHead, (∃ j k, s.chaseCue n start fromHead = s.chase j k) ∨
      s.chaseCue n start fromHead = (s.event .CUE_STRAY (some n)).count .cueStray := by
    intro start fromHead
    unfold State.chaseCue
    split
    · exact .inl ⟨_, _, rfl⟩
    · exact .inr rfl
  have hgoes : ∀ start fromHead, (∃ j k, s.chaseCue n start fromHead = s.chase j k) ∨
      s.chaseCue n start fromHead = (s.event .CUE_STRAY (some n)).count .cueStray ∨ s.chaseCue n start fromHead = s :=
    fun start fromHead => (hchase start fromHead).elim .inl (fun hs => .inr (.inl hs))
  obtain ⟨hst, -⟩ := h
  rcases hst with hst | hst | hst
  · cases hp : s.ssq.ptr with
    | none =>
      rw [State.seqCue, hst, hp]
      exact .inr (.inr (.inr (if_neg (by decide))))
    | some p =>
      rw [seqCue_pointer hp (.inl hst)]
      split
      · exact .inl ⟨p, rfl⟩
      · exact .inr (hgoes _ _)
  · cases hp : s.ssq.ptr with
    | none =>
      rw [seqCue_searches (.inr ⟨.inr ⟨hst, hp⟩, rfl, rfl⟩)]
      exact .inr (hgoes _ _)
    | some p =>
      rw [seqCue_pointer hp (.inr hst)]
      split
      · exact .inl ⟨p, rfl⟩
      · exact .inr (hgoes _ _)
  · rw [seqCue_searches (.inr ⟨.inl hst, rfl, rfl⟩)]
    exact .inr (hgoes _ _)

theorem awake_seqCue {s : State} (h : s.ssq.awake) (n : Nat) :
    (s.seqCue n).ssq.awake ∧ (s.seqCue n).ssq.remembered = s.ssq.remembered := by
  rcases seqCue_cases h n with ⟨j, hj⟩ | ⟨j, k, hj⟩ | hj | hj <;> rw [hj]
  · exact ⟨awake_fire h j false, by simp⟩
  · exact ⟨awake_chase h j k, chase_remembered s j k⟩
  · exact ⟨by simpa using h, by simp⟩
  · exact ⟨h, rfl⟩

theorem awake_judgeRemembered {s : State} (h : s.ssq.awake) :
    s.judgeRemembered.ssq.awake ∧ s.judgeRemembered.ssq.remembered = none := by
  unfold State.judgeRemembered
  split
  · exact ⟨h, by assumption⟩
  · dsimp only
    split
    · exact awake_seqCue (s := s.setSsq { s.ssq with remembered := none }) h _
    · exact ⟨h, rfl⟩

/-! ## The resume, step by step (R162) -/

/-- R162: the sequencer as the pause ends. -/
def Ssq.resumedAt (q : Ssq) (now : Nat) : Ssq :=
  { q with
    st := q.pausedFrom.getD .READY
    pausedFrom := none
    follow := (match q.follow with
      | .frozen left => .running (now + left)
      | f => f) }

theorem resumeSeq_eq {s : State} (h : s.ssq.st = .PAUSED) : s.resumeSeq =
    ((((s.setSsq (s.ssq.resumedAt s.now)).seqResume).offerPending.followTest.runHead).judgeRemembered).takeReport := if_pos h

/-- R162: a resume leaves the pause, and the remembered cue is judged. -/
theorem resumeSeq_awake {s : State} (h : s.ssq.st = .PAUSED)
    (hfrom : s.ssq.pausedFrom = some .READY ∨ s.ssq.pausedFrom = some .RUNNING) :
    s.resumeSeq.ssq.awake ∧ s.resumeSeq.ssq.remembered = none := by
  have hfirst : (s.ssq.resumedAt s.now).awake := by
    refine ⟨?_, rfl⟩
    rcases hfrom with hf | hf <;> simp [Ssq.resumedAt, hf]
  have hresumed : ((s.setSsq (s.ssq.resumedAt s.now)).seqResume).ssq.awake := by
    rw [(seqResume_frame _).2.2.2.2.2.2.2.2.1]
    exact hfirst
  have hrun := runHead_lasts awake_lasts (followTest_lasts awake_lasts (offerPending_lasts awake_lasts hresumed))
  obtain ⟨hjudged, hrem⟩ := awake_judgeRemembered hrun
  rw [resumeSeq_eq h]
  exact ⟨takeReport_lasts awake_lasts hjudged, by simpa using hrem⟩

/-! ## A FOLLOW timer that runs (R151) -/

/-- The sequencer stands at step `p` with the FOLLOW timer `f`, which is not stopped. -/
def Ssq.timing (st : SeqState) (p : Nat) (f : Follow) (q : Ssq) : Prop := q.st = st ∧ q.ptr = some p ∧ q.follow = f ∧ q.remembered = none

theorem timing_lasts (st : SeqState) (p : Nat) {f : Follow} (hf : f ≠ .stopped) : Ssq.Lasts (Ssq.timing st p f) where
  ends := fun _ h _ hp => absurd (h.2.1.symm.trans hp) (by simp)
  starts := fun _ _ h hs => absurd (h.2.2.1.symm.trans hs) hf
  joins := fun _ h => h
  fires := fun _ _ _ _ h hs _ => absurd (h.2.2.1.symm.trans hs) hf

theorem judgeRemembered_none {s : State} (h : s.ssq.remembered = none) : s.judgeRemembered = s := by
  rw [State.judgeRemembered, h]

/-- R162: a frozen FOLLOW timer runs on. -/
theorem resumeSeq_timing {s : State} {p left : Nat} {st0 : SeqState} (h : s.ssq.st = .PAUSED) (hfrom : s.ssq.pausedFrom = some st0)
    (hp : s.ssq.ptr = some p) (hr : s.ssq.remembered = none) (hf : s.ssq.follow = .frozen left) :
    Ssq.timing st0 p (.running (s.now + left)) s.resumeSeq.ssq := by
  have hlasts := timing_lasts st0 p (f := .running (s.now + left)) (by simp)
  have hresumed : Ssq.timing st0 p (.running (s.now + left)) ((s.setSsq (s.ssq.resumedAt s.now)).seqResume).ssq := by
    rw [(seqResume_frame _).2.2.2.2.2.2.2.2.1]
    refine ⟨by simp [Ssq.resumedAt, hfrom], hp, by simp [Ssq.resumedAt, hf], hr⟩
  have hrun := runHead_lasts hlasts (followTest_lasts hlasts (offerPending_lasts hlasts hresumed))
  rw [resumeSeq_eq h, judgeRemembered_none hrun.2.2.2]
  exact takeReport_lasts hlasts hrun

end Sys2Proof.Machine
end

section
/-!
ARM, PAUSE and RESUME (R147, R160 to R162).
-/

namespace Sys2Proof.Machine

/-! ## ARM (R147) -/

/-- R147: the sequencer and the queue after an ARM. -/
theorem armSeq_arms (s : State) (i : Nat) :
    (s.armSeq i).ssq = { s.ssq with
      head := i, pend := none, remembered := none, watched := none, pausedFrom := none, follow := .stopped
      ptr := if (s.ssq.step i).valid then some i else none
      st := if (s.ssq.step i).valid then .READY else .UNLOADED } ∧
    (s.ssq.st = .RUNNING ∨ s.ssq.st = .PAUSED → (s.armSeq i).aq.spent) ∧
    (s.ssq.st ≠ .RUNNING → s.ssq.st ≠ .PAUSED → (s.armSeq i).aq = s.aq) := by
  by_cases hgo : s.ssq.st = .RUNNING ∨ s.ssq.st = .PAUSED
  · obtain ⟨t, ht⟩ : ∃ t, t = ((s.setSsq { s.ssq with head := i }).flush coverTagged false false).runHeadQuiet := ⟨_, rfl⟩
    obtain ⟨heases, hspent⟩ := flushed_eases (s.setSsq { s.ssq with head := i })
    rw [← ht] at heases hspent
    have hform : s.armSeq i = t.setSsq { t.ssq with
        pend := none, remembered := none, watched := none, pausedFrom := none, follow := .stopped
        ptr := if (t.ssq.step i).valid then some i else none
        st := if (t.ssq.step i).valid then .READY else .UNLOADED } := by
      unfold State.armSeq
      dsimp only
      rw [if_pos (c := (s.setSsq { s.ssq with head := i }).ssq.st = .RUNNING ∨ (s.setSsq { s.ssq with head := i }).ssq.st = .PAUSED) hgo,
        ← ht]
    have hssq := heases.ssq
    rw [hform]
    refine ⟨?_, fun _ => hspent, fun h1 h2 => absurd hgo (by simp [h1, h2])⟩
    rw [State.setSsq_ssq, hssq]
    rfl
  · obtain ⟨hrun, hpause⟩ := not_or.mp hgo
    rw [armSeq_standing hrun hpause]
    exact ⟨rfl, fun h => absurd h hgo, fun _ _ => rfl⟩

theorem reqArm_status (s : State) (arg : Byte) :
    (reqArm arg s).status = if (s.ssq.step arg.toNat).valid then .DONE else .BAD_VALUE := by
  obtain ⟨hssq, -⟩ := armSeq_arms s arg.toNat
  have hform : (reqArm arg s).status = if (s.armSeq arg.toNat).ssq.st = .READY then .DONE else .BAD_VALUE := rfl
  rw [hform, hssq]
  cases (s.ssq.step arg.toNat).valid <;> rfl

theorem arm_exec {s : State} {dt : Nat} {h : LinkHdr} {arg : Byte} (ha : s.addressed h) (hu : s.unlocked) :
    exec (.arm dt h arg) s = .next ((reqArm arg (s.asked dt)).counted.answered h 0x87 (reqArm arg (s.asked dt)).status []).finish :=
  next_request (r := .arm arg) ha rfl (by simp [State.unlocked] at hu; simp [hu]) rfl rfl

theorem counted_rest (a : Answer) : a.counted.ssq = a.state.ssq ∧ a.counted.aq = a.state.aq ∧ a.counted.ttc = a.state.ttc ∧
    a.counted.powered = a.state.powered ∧ a.counted.free = a.state.free ∧ a.counted.pending = a.state.pending ∧
    a.counted.cud = a.state.cud ∧ a.counted.rpd = a.state.rpd ∧ a.counted.now = a.state.now := by
  unfold Answer.counted
  split <;> simp

/-! ## PAUSE (R160) -/

/-- R103: the transport after a pause of the sequencer. -/
theorem seqPause_ttc (s : State) :
    (s.ttc.st = .PLAY → s.seqPause.ttc.st = .PAUSE ∧ s.seqPause.ttc.seqHold = true) ∧ (s.ttc.st ≠ .PLAY → s.seqPause.ttc = s.ttc) := by
  refine ⟨fun h => ?_, fun h => congrArg State.ttc (if_neg h)⟩
  have hform : s.seqPause = (s.setTransport .PAUSE).setTtc { (s.setTransport .PAUSE).ttc with seqHold := true } := if_pos h
  rw [hform]
  exact ⟨setTransport_st s .PAUSE, rfl⟩

/-- R160: the transport goes with the show where the cue track comes from the local tape. -/
theorem pauseSeq_transport {s : State} (hgo : s.ssq.st = .READY ∨ s.ssq.st = .RUNNING) :
    (s.cud.par.source = .LOCAL_TAPE → s.ttc.st = .PLAY → s.pauseSeq.ttc.st = .PAUSE ∧ s.pauseSeq.ttc.seqHold = true) ∧
      (s.cud.par.source ≠ .LOCAL_TAPE ∨ s.ttc.st ≠ .PLAY → s.pauseSeq.ttc = s.ttc) := by
  rw [pauseSeq_eq, if_pos hgo]
  obtain ⟨hplay, hother⟩ := seqPause_ttc (s.setSsq (s.ssq.pausedAt s.now))
  refine ⟨fun hsrc hst => ?_, fun hno => ?_⟩
  · rw [if_pos hsrc]
    exact hplay hst
  · split
    · rename_i hsrc
      exact hother (hno.resolve_left (fun h => h hsrc))
    · rfl

theorem reqPause_goes {s : State} (hgo : s.ssq.st = .READY ∨ s.ssq.st = .RUNNING ∨ s.ssq.st = .PAUSED) :
    reqPause s = done s.pauseSeq := if_pos hgo

/-! ## RESUME (R162) -/

theorem seqResume_st (s : State) : s.seqResume.ttc.st = if s.ttc.st = .PAUSE ∧ s.ttc.seqHold = true then .PLAY else s.ttc.st := by
  unfold State.seqResume
  split
  · exact setTransport_st s .PLAY
  · rfl

theorem resumeSeq_st {s : State} (h : s.ssq.st = .PAUSED) :
    s.resumeSeq.ttc.st = if s.ttc.st = .PAUSE ∧ s.ttc.seqHold = true then .PLAY else s.ttc.st := by
  have hoffer : ∀ u : State, u.offerPending.ttc = u.ttc := fun u => by simp
  have htest : ∀ u : State, u.followTest.ttc = u.ttc := fun u => by simp
  have htake : ∀ u : State, u.takeReport.ttc = u.ttc := fun u => by simp
  have hrun : ∀ u : State, u.runHead.ttc.st = u.ttc.st := fun u => by simp
  have hjudge : ∀ u : State, u.judgeRemembered.ttc.st = u.ttc.st := fun u => by simp
  rw [resumeSeq_eq h, htake, hjudge, hrun, htest, hoffer, seqResume_st]
  rfl

end Sys2Proof.Machine
end

section
/-!
A RESUME while the head of the queue waits (R151, R161, R162).
-/

namespace Sys2Proof.Machine

/-! ## A head that waits -/

theorem headMove_congr {s t : State} (hq : t.aq.queue.head? = s.aq.queue.head?) (hm : t.tmc = s.tmc) (hl : t.lmc = s.lmc)
    (hh : t.aq.holdDue = s.aq.holdDue) : t.headMove = s.headMove := by
  have hmoves : ∀ e, (if e.running then t.runningMove e else t.queuedMove e) = if e.running then s.runningMove e else s.queuedMove e := by
    intro e
    unfold State.runningMove State.queuedMove
    rw [hm, hl, hh]
  unfold State.headMove
  cases hs : s.aq.queue with
  | nil =>
    rw [hs] at hq
    rw [List.head?_eq_none_iff.mp hq]
  | cons e l =>
    rw [hs] at hq
    obtain ⟨l2, ht⟩ := List.head?_eq_some_iff.mp hq
    rw [ht]
    exact hmoves e

/-- The head of the queue waits: what comes behind it starts nothing. -/
def State.waits (s : State) : Prop := ∃ r, s.headMove = .wait r

theorem waits_of_match {s : State} (h : (match s.headMove with
    | .wait _ => true
    | _ => false) = true) : s.waits := by
  cases hm : s.headMove with
  | wait r => exact ⟨r, hm⟩
  | start e =>
    rw [hm] at h
    exact absurd h Bool.false_ne_true
  | leave e d =>
    rw [hm] at h
    exact absurd h Bool.false_ne_true

theorem State.waits.run {s : State} (h : s.waits) : ∃ r, s.runHead = s.setAq { s.aq with runner := r } := by
  obtain ⟨r, hr⟩ := h
  exact ⟨r, runHead_wait hr⟩

/-- R162: as the pause ends, before the queue is offered anything. -/
def State.resumed (s : State) : State := (s.setSsq (s.ssq.resumedAt s.now)).seqResume

theorem resumed_parts (s : State) : s.resumed.ssq = s.ssq.resumedAt s.now ∧ s.resumed.aq = s.aq ∧ s.resumed.tmc = s.tmc ∧
    s.resumed.lmc = s.lmc ∧ s.resumed.now = s.now ∧ s.resumed.room = s.room := by
  have hlki : s.resumed.lki = s.lki := by simp [State.resumed]
  have haq : s.resumed.aq = s.aq := by simp [State.resumed]
  refine ⟨by simp [State.resumed], haq, by simp [State.resumed], by simp [State.resumed], by simp [State.resumed], ?_⟩
  rw [State.room, State.room, hlki, haq]

theorem resumeSeq_parts {s : State} (h : s.ssq.st = .PAUSED) :
    s.resumeSeq = (s.resumed.offerPending.followTest.runHead.judgeRemembered).takeReport := resumeSeq_eq h

theorem resumed_offered_lets (s : State) : ∃ es, s.lets s.resumed.offerPending.followTest es := by
  obtain ⟨-, haq, -⟩ := resumed_parts s
  obtain ⟨es, hes⟩ := offerPending_lets s.resumed
  have htest : ∃ fs, s.resumed.offerPending.lets s.resumed.offerPending.followTest fs := by
    unfold State.followTest
    split
    · exact checks_lets _ _
    · exact ⟨[], lets_same rfl⟩
  obtain ⟨fs, hfs⟩ := htest
  exact ⟨es ++ fs, (lets_same (congrArg Aq.queue haq)).then hes |>.then hfs⟩

/-- R162: where the head waits, an entry that joins the queue behind it starts nothing. -/
theorem resumed_waits {s : State} (hw : s.waits)
    (hq : s.aq.queue ≠ [] ∨ s.resumed.offerPending.followTest.aq.queue = s.aq.queue) :
    ∃ r, s.resumed.offerPending.followTest.runHead = s.resumed.offerPending.followTest.setAq
      { s.resumed.offerPending.followTest.aq with runner := r } := by
  obtain ⟨-, haq, htmc, hlmc, -⟩ := resumed_parts s
  obtain ⟨z, hz⟩ : ∃ z, z = s.resumed.offerPending.followTest := ⟨_, rfl⟩
  have hhead : z.aq.queue.head? = s.aq.queue.head? := by
    rcases hq with hne | hsame
    · obtain ⟨es, hes, -⟩ := resumed_offered_lets s
      obtain ⟨e, l, hel⟩ := List.exists_cons_of_ne_nil hne
      rw [hz, hes, hel]
      rfl
    · rw [hz, hsame]
  have hzm : z.tmc = s.tmc := by
    rw [hz, ← htmc]
    simp
  have hzl : z.lmc = s.lmc := by
    rw [hz, ← hlmc]
    simp
  have hzh : z.aq.holdDue = s.aq.holdDue := by
    rw [hz, ← haq]
    simp
  obtain ⟨r, hr⟩ := hw
  rw [← hz]
  exact State.waits.run ⟨r, (headMove_congr hhead hzm hzl hzh).trans hr⟩

/-! ## A report that lets nothing in -/

theorem offerPending_idle {s : State} (h : ∀ p, s.ssq.pend = some p → ¬(s.ssq.st = .RUNNING ∧ p.need ≤ s.room)) : s.offerPending = s := by
  unfold State.offerPending
  split
  · rename_i p hp
    exact if_neg (h p hp)
  · rfl

theorem takeReport_idle {s : State} (h : ∀ p, s.ssq.pend = some p → ¬(s.ssq.st = .RUNNING ∧ p.need ≤ s.room))
    (hf : s.followStart = none) : s.takeReport = s.endTest := by
  have hoffer := offerPending_idle h
  rw [takeReport_no_follow (by rw [hoffer]; exact hf), hoffer]

theorem followTest_idle {s : State} (hf : s.followStart = none) : s.followTest = s := if_neg (by simp [hf])

theorem endTest_endTest (s : State) : s.endTest.endTest = s.endTest := by
  by_cases h : s.ssq.st = .RUNNING ∧ s.showOver
  · have hst : s.endTest.ssq.st = .ENDED := (endTest_st s).trans (if_pos h)
    exact if_neg (fun hc => absurd (hst.symm.trans hc.1) (by decide))
  · have hend : s.endTest = s := if_neg h
    rw [hend, hend]

theorem followStart_idle {s : State} (h : s.ssq.follow ≠ .stopped) : s.followStart = none := by
  cases hf : s.followStart with
  | none => rfl
  | some x => exact absurd (followStart_stopped hf) h

/-- The show stands as a report would leave it. -/
def State.idle (s : State) : Prop :=
  (∀ p, s.ssq.pend = some p → ¬(s.ssq.st = .RUNNING ∧ p.need ≤ s.room)) ∧ s.followStart = none ∧ ¬(s.ssq.st = .RUNNING ∧ s.showOver)

theorem State.idle.takeReport {s : State} (h : s.idle) : s.takeReport = s := by
  obtain ⟨hpend, hstart, hover⟩ := h
  rw [takeReport_idle hpend hstart]
  exact if_neg hover

theorem fire_unfollowed {s : State} {j : Nat} (chase : Bool) (hf : s.ssq.followless j) : (s.fire j chase).ssq.unfollowed := by
  intro k d hk
  rw [fire_ssq rfl hf] at hk ⊢
  exact hf k d hk

/-- R153: after a fire that no FOLLOW step follows there is nothing that a report would let in. -/
theorem fire_idle {s : State} {j : Nat} (chase : Bool) (hf : s.ssq.followless j) (hst : s.ssq.st ≠ .PAUSED) : (s.fire j chase).idle := by
  have hssq := fire_ssq (chase := chase) rfl hf
  have hqueue := fire_queue (chase := chase) rfl hf
  have hres : (s.fire j chase).lki.resetting = s.lki.resetting := by simp
  refine ⟨?_, followStart_unfollowed (fire_unfollowed chase hf), ?_⟩
  · rintro p hp ⟨-, hle⟩
    rw [hssq] at hp
    by_cases hfits : s.fits j (chase || s.ssq.pend.isSome)
    · rw [decide_eq_true hfits] at hp
      exact absurd hp (by simp [Ssq.firing])
    · rw [decide_eq_false hfits] at hp
      rw [if_neg hfits] at hqueue
      have hroom : (s.fire j chase).room = s.room := by rw [State.room, State.room, hres, hqueue]
      rw [hroom] at hle
      obtain rfl := Option.some.inj hp
      exact hfits ⟨hst, hle⟩
  · rw [fire_followless chase hf]
    intro hc
    have hend : (s.fireCore j chase).endTest.endTest = (s.fireCore j chase).endTest := endTest_endTest _
    have hst2 := endTest_st (s.fireCore j chase).endTest
    rw [hend, if_pos hc, hc.1] at hst2
    exact absurd hst2 (by decide)

theorem takeReport_fire {s : State} {j : Nat} (chase : Bool) (hf : s.ssq.followless j) (hst : s.ssq.st ≠ .PAUSED) :
    (s.fire j chase).takeReport = s.fire j chase := (fire_idle chase hf hst).takeReport

/-! ## The same firing seen from a state that differs beside it -/

theorem fires_congr {s v u : State} {p : Nat} {f : Follow} (hssq : v.ssq = { s.ssq with follow := f }) (hq : v.aq.queue = s.aq.queue)
    (hr : v.room = s.room) (h : v.fires u p) : s.fires u p := by
  unfold State.fires at h ⊢
  rw [hssq, hq, hr] at h
  exact h

theorem fires_forget {s u : State} {p : Nat} (h : s.fires u p) :
    (s.setSsq { s.ssq with remembered := none }).fires (u.setSsq { u.ssq with remembered := none }) p := by
  intro es hes
  obtain ⟨hwat, hptr, hfol, hsk, hsteps, hhead, -, hrest⟩ := h es hes
  exact ⟨hwat, hptr, hfol, hsk, hsteps, hhead, rfl, hrest⟩

theorem fires_runner {s u : State} {p : Nat} (r : RunnerStatus) (h : s.fires u p) :
    s.fires (u.setAq { u.aq with runner := r }) p := h

end Sys2Proof.Machine
end

section
/-!
What a RESUME makes of a pending fire, of the remembered cue and of the FOLLOW timer (R151, R161, R162).
-/

namespace Sys2Proof.Machine

/-- The show waits in PAUSED behind a head that waits, and is to go on in the state `st`. -/
structure State.HeldIn (s : State) (st : SeqState) : Prop where
  paused : s.ssq.st = .PAUSED
  pausedFrom : s.ssq.pausedFrom = some st
  goes : st = .READY ∨ st = .RUNNING
  waits : s.waits

theorem State.HeldIn.resumed {s : State} {st : SeqState} (h : s.HeldIn st) : s.resumed.ssq = { s.ssq with
    st := st, pausedFrom := none, follow := s.resumed.ssq.follow } := by
  rw [(resumed_parts s).1]
  simp [Ssq.resumedAt, h.pausedFrom]

theorem State.HeldIn.awake {s : State} {st : SeqState} (h : s.HeldIn st) : st ≠ .PAUSED ∧ st ≠ .UNLOADED := by
  rcases h.goes with h | h <;> simp [h]

/-! ## No FOLLOW step at the pointer -/

/-- R162: with nothing remembered and no FOLLOW step at the pointer the pending fire alone is offered. -/
theorem resumeSeq_offers {s : State} {st : SeqState} (h : s.HeldIn st) (hu : s.ssq.unfollowed) (hr : s.ssq.remembered = none)
    (hq : s.aq.queue ≠ []) : ∃ r, s.resumeSeq =
      (s.resumed.offerPending.setAq { s.resumed.offerPending.aq with runner := r }).endTest := by
  have hssq := h.resumed
  obtain ⟨z, hz⟩ : ∃ z, z = s.resumed.offerPending := ⟨_, rfl⟩
  have hzrem : z.ssq.remembered = none := by
    have hkept : z.ssq.remembered = s.resumed.ssq.remembered := by
      rw [hz]
      simp
    rw [hkept, hssq]
    exact hr
  have hzu : z.ssq.unfollowed := by
    rw [hz]
    refine (offerPending_keepsPlace s.resumed).unfollowed ?_
    rw [hssq]
    exact hu
  have htest : z.followTest = z := followTest_idle (followStart_unfollowed hzu)
  obtain ⟨r, hrun⟩ := resumed_waits h.waits (.inl hq)
  rw [← hz, htest] at hrun
  have hidle : ∀ p, z.ssq.pend = some p → ¬(z.ssq.st = .RUNNING ∧ p.need ≤ z.room) := by
    intro p hp hc
    cases hpend : s.resumed.ssq.pend with
    | none =>
      rw [hz, offerPending_none hpend, hpend] at hp
      exact absurd hp (by simp)
    | some x =>
      rw [offerPending_some hpend] at hz
      split at hz
      · rw [hz] at hp
        exact absurd hp (by simp [State.joined])
      · rename_i hno
        rw [hz, hpend] at hp
        obtain rfl := Option.some.inj hp
        rw [hz] at hc
        exact hno hc
  refine ⟨r, ?_⟩
  rw [resumeSeq_parts h.paused, ← hz, htest, hrun,
    judgeRemembered_none (s := z.setAq { z.aq with runner := r }) hzrem]
  exact takeReport_idle (s := z.setAq { z.aq with runner := r }) hidle (followStart_unfollowed hzu)

/-- R161, R162: the queue and the pending fire after it. -/
theorem resumeSeq_pending {s : State} {st : SeqState} (h : s.HeldIn st) (hu : s.ssq.unfollowed) (hr : s.ssq.remembered = none)
    (hq : s.aq.queue ≠ []) (hres : s.lki.resetting = false) :
    (∀ p, s.ssq.pend = some p → st = .RUNNING → p.need ≤ 12 - s.aq.queue.length →
      s.resumeSeq.aq.queue = s.aq.queue ++ s.ssq.entries p.index p.chase ∧ s.resumeSeq.ssq.pend = none) ∧
    (∀ p, s.ssq.pend = some p → st = .READY ∨ 12 - s.aq.queue.length < p.need →
      s.resumeSeq.aq.queue = s.aq.queue ∧ s.resumeSeq.ssq.pend = some p) ∧
    (s.ssq.pend = none → s.resumeSeq.aq.queue = s.aq.queue) := by
  obtain ⟨r, hform⟩ := resumeSeq_offers h hu hr hq
  have hssq := h.resumed
  obtain ⟨-, haq, -, -, -, hroom⟩ := resumed_parts s
  have hroom : s.resumed.room = 12 - s.aq.queue.length := by
    rw [hroom, State.room, hres]
    rfl
  have hqueue : s.resumeSeq.aq.queue = s.resumed.offerPending.aq.queue := by
    rw [hform, endTest_queue]
    rfl
  have hpend : s.resumeSeq.ssq.pend = s.resumed.offerPending.ssq.pend := by
    rw [hform]
    simp
  have hrp : s.resumed.ssq.pend = s.ssq.pend := by rw [hssq]
  have hrst : s.resumed.ssq.st = st := by rw [hssq]
  rw [hqueue, hpend]
  refine ⟨fun p hp hst hle => ?_, fun p hp hno => ?_, fun hp => ?_⟩
  · have hjoin : s.resumed.offerPending = s.resumed.joined p :=
      (offerPending_some (hrp.trans hp)).trans (if_pos ⟨hrst.trans hst, by rw [hroom]; exact hle⟩)
    have hentries := entries_congr (q := s.ssq) (r := s.resumed.ssq) (by rw [hssq]) p.index p.chase
    rw [hjoin]
    refine ⟨?_, rfl⟩
    have hqueue : (s.resumed.joined p).aq.queue = s.resumed.aq.queue ++ s.resumed.ssq.entries p.index p.chase := rfl
    rw [hqueue, haq, hentries]
  · have hstay : s.resumed.offerPending = s.resumed := by
      refine (offerPending_some (hrp.trans hp)).trans (if_neg ?_)
      rintro ⟨hrun, hle⟩
      rw [hrst] at hrun
      rw [hroom] at hle
      rcases hno with hno | hno
      · rw [hno] at hrun
        exact absurd hrun (by decide)
      · omega
    rw [hstay, haq, hrp]
    exact ⟨rfl, hp⟩
  · rw [offerPending_none (hrp.trans hp), haq]

/-! ## The remembered cue -/

/-- R162: with no fire pending and no FOLLOW step at the pointer the remembered cue alone is judged. -/
theorem resumeSeq_judges {s : State} {st : SeqState} (h : s.HeldIn st) (hu : s.ssq.unfollowed)
    (hp : s.ssq.pend = none) : ∃ r, s.resumeSeq =
      ((s.resumed.setAq { s.aq with runner := r }).judgeRemembered).takeReport := by
  have hssq := h.resumed
  obtain ⟨-, haq, -⟩ := resumed_parts s
  have hoffer : s.resumed.offerPending = s.resumed := offerPending_none (by rw [hssq]; exact hp)
  have hru : s.resumed.ssq.unfollowed := by
    rw [hssq]
    exact hu
  have htest : s.resumed.followTest = s.resumed := followTest_idle (followStart_unfollowed hru)
  obtain ⟨r, hrun⟩ := resumed_waits h.waits (.inr (by rw [hoffer, htest, haq]))
  rw [hoffer, htest] at hrun
  refine ⟨r, ?_⟩
  rw [resumeSeq_parts h.paused, hoffer, htest, hrun, haq]

theorem judgeRemembered_show {s : State} {n : Nat} (hr : s.ssq.remembered = some n) (hm : s.aq.mode = .SHOW) :
    s.judgeRemembered = (s.setSsq { s.ssq with remembered := none }).seqCue n := by
  rw [State.judgeRemembered, hr]
  exact if_pos hm

theorem judgeRemembered_other {s : State} (hm : s.aq.mode ≠ .SHOW) :
    s.judgeRemembered = s.setSsq { s.ssq with remembered := none } := by
  unfold State.judgeRemembered
  split
  · rename_i hr
    have hssq : ({ s.ssq with remembered := none } : Ssq) = s.ssq := by rw [← hr]
    rw [hssq]
    rfl
  · exact if_neg hm

theorem resumeSeq_cue {s : State} {st : SeqState} {n p : Nat} (h : s.HeldIn st) (hr : s.ssq.remembered = some n)
    (hpend : s.ssq.pend = none) (hp : s.ssq.ptr = some p) :
    (s.aq.mode = .SHOW → (s.ssq.step p).trigger = .CUE n → s.ssq.followless p →
      (s.setSsq { s.ssq with st := st, pausedFrom := none, remembered := none }).fires s.resumeSeq p) ∧
    (s.aq.mode ≠ .SHOW → (∀ d, (s.ssq.step p).trigger ≠ .FOLLOW d) →
      s.resumeSeq.aq.queue = s.aq.queue ∧ s.resumeSeq.ssq.ptr = some p ∧ s.resumeSeq.ssq.st = st) := by
  have hssq := h.resumed
  obtain ⟨hst, -⟩ := h.awake
  obtain ⟨-, haq, -, -, -, hroom⟩ := resumed_parts s
  have hunf : (∀ d, (s.ssq.step p).trigger ≠ .FOLLOW d) → s.ssq.unfollowed := by
    intro hno k d hk
    rw [hp] at hk
    obtain rfl := Option.some.inj hk
    exact hno d
  refine ⟨fun hm ht hf => ?_, fun hm hno => ?_⟩
  · obtain ⟨r, hform⟩ := resumeSeq_judges h (hunf fun d => by rw [ht]; simp) hpend
    obtain ⟨v, hv⟩ : ∃ v, v = (s.resumed.setAq { s.aq with runner := r }).setSsq { s.resumed.ssq with remembered := none } := ⟨_, rfl⟩
    have hvssq : v.ssq = { (s.setSsq { s.ssq with st := st, pausedFrom := none, remembered := none }).ssq with
        follow := s.resumed.ssq.follow } := by
      have hone : v.ssq = { s.resumed.ssq with remembered := none } := by rw [hv]; rfl
      rw [hone, hssq]
      rfl
    have hvroom : v.room = s.room := by
      rw [← hroom, hv, State.room, State.room, haq]
      rfl
    have hvf : v.ssq.followless p := followless_congr (q := s.ssq) (by rw [hvssq]; rfl) hf
    have hvst : v.ssq.st = st := by rw [hvssq]; rfl
    have hfire : s.resumeSeq = v.fire p false := by
      have hjudge : (s.resumed.setAq { s.aq with runner := r }).judgeRemembered = v.seqCue n := by
        rw [hv]
        exact judgeRemembered_show (s := s.resumed.setAq { s.aq with runner := r }) (by rw [State.setAq_ssq, hssq]; exact hr) hm
      have hcue : v.seqCue n = v.fire p false := by
        rw [seqCue_pointer (p := p) (by rw [hvssq]; exact hp) (by rw [hvst]; exact h.goes)]
        refine if_pos ?_
        rw [hvssq]
        exact ht
      rw [hform, hjudge, hcue, takeReport_fire false hvf (by rw [hvst]; exact hst)]
    rw [hfire]
    exact fires_congr hvssq (by rw [hv]; rfl) hvroom (fire_fires hvf)
  · obtain ⟨r, hform⟩ := resumeSeq_judges h (hunf hno) hpend
    obtain ⟨v, hv⟩ : ∃ v, v = (s.resumed.setAq { s.aq with runner := r }).setSsq { s.resumed.ssq with remembered := none } := ⟨_, rfl⟩
    have hvssq : v.ssq = { s.ssq with st := st, pausedFrom := none, follow := s.resumed.ssq.follow, remembered := none } := by
      have hone : v.ssq = { s.resumed.ssq with remembered := none } := by rw [hv]; rfl
      rw [hone, hssq]
    have hvu : v.ssq.unfollowed := by
      rw [hvssq]
      exact hunf hno
    have hstay : v.takeReport = v := by
      rw [takeReport_idle (fun x hx => by rw [hvssq] at hx; exact absurd (hpend.symm.trans hx) (by simp)) (followStart_unfollowed hvu)]
      exact endTest_goesOn (.inl (by rw [hvssq]; simp [hp]))
    have hfinal : s.resumeSeq = v := by
      have hjudge : (s.resumed.setAq { s.aq with runner := r }).judgeRemembered = v := by
        rw [hv]
        exact judgeRemembered_other (s := s.resumed.setAq { s.aq with runner := r }) hm
      rw [hform, hjudge, hstay]
    rw [hfinal]
    exact ⟨by rw [hv]; rfl, by rw [hvssq]; exact hp, by rw [hvssq]⟩

/-! ## A pending fire without entries, before a FOLLOW step (R151) -/

/-- R151, R162: the pending fire of a show in PAUSED brings no entries, and a FOLLOW step `f` stands at the pointer. -/
structure State.Follows (s : State) (f d : Nat) : Prop where
  held : s.HeldIn .RUNNING
  pend : ∃ pf, s.ssq.pend = some pf ∧ pf.need = 0 ∧ s.ssq.entries pf.index pf.chase = []
  watched : ∃ w, s.ssq.watched = some w ∧ ∀ e ∈ s.aq.queue, e.tag ≠ some w
  ptr : s.ssq.ptr = some f
  trigger : (s.ssq.step f).trigger = .FOLLOW d
  stopped : s.ssq.follow = .stopped

/-- R162: the show after the pending fire has been placed. -/
theorem State.Follows.offered {s : State} {f d : Nat} (h : s.Follows f d) :
    s.resumed.offerPending.ssq = { s.ssq with st := .RUNNING, pausedFrom := none, pend := none } ∧
      s.resumed.offerPending.aq = s.aq ∧ s.resumed.offerPending.now = s.now ∧ s.resumed.offerPending.room = s.room ∧
      s.resumed.offerPending.followStart = some (1000 * d, f) := by
  obtain ⟨pf, hp, hneed, hes⟩ := h.pend
  obtain ⟨w, hw, htags⟩ := h.watched
  obtain ⟨hall, haq, -, -, hnow, hroom⟩ := resumed_parts s
  have hssq : s.resumed.ssq = { s.ssq with st := .RUNNING, pausedFrom := none } := by
    rw [hall]
    simp [Ssq.resumedAt, h.held.pausedFrom, h.stopped]
  have hentries : s.resumed.ssq.entries pf.index pf.chase = [] := by
    rw [entries_congr (q := s.ssq) (by rw [hssq])]
    exact hes
  obtain ⟨z, hz⟩ : ∃ z, z = s.resumed.offerPending := ⟨_, rfl⟩
  have hjoin : z = s.resumed.joined pf :=
    hz.trans ((offerPending_some (by rw [hssq]; exact hp)).trans (if_pos ⟨by rw [hssq], by omega⟩))
  have hzssq : z.ssq = { s.ssq with st := .RUNNING, pausedFrom := none, pend := none } := by
    rw [hjoin]
    exact congrArg (fun q : Ssq => { q with pend := none }) hssq
  have hzaq : z.aq = s.aq := by
    have hform : z.aq = { s.resumed.aq with queue := s.resumed.aq.queue ++ s.resumed.ssq.entries pf.index pf.chase } := by
      rw [hjoin]
      rfl
    rw [hform, hentries, List.append_nil, haq]
  have hznow : z.now = s.now := by
    rw [hz, ← hnow]
    simp
  have hzroom : z.room = s.room := by
    have hlki : z.lki.resetting = s.lki.resetting := by simp [hz, State.resumed]
    rw [State.room, State.room, hlki, hzaq]
  have hstart : z.followStart = some (1000 * d, f) := by
    have hout : z.outstanding w = false := by
      rw [State.outstanding, hzssq, hzaq]
      simpa using htags
    have hdelay : 1000 * d = msec d := Nat.mul_comm ..
    have hfollow : z.ssq.follow = .stopped := by rw [hzssq]; exact h.stopped
    have hptr : z.ssq.ptr = some f := by rw [hzssq]; exact h.ptr
    have hwat : z.ssq.watched = some w := by rw [hzssq]; exact hw
    have htrig : (z.ssq.step f).trigger = .FOLLOW d := by rw [hzssq]; exact h.trigger
    rw [State.followStart, hfollow, hptr, hwat, hdelay]
    dsimp only
    rw [htrig]
    exact if_neg (by simp [hout])
  rw [← hz]
  exact ⟨hzssq, hzaq, hznow, hzroom, hstart⟩

theorem followTest_starts {s : State} {x : Nat × Nat} (h : s.followStart = some x) : s.followTest = State.checks 256 s :=
  if_pos (by simp [h])

end Sys2Proof.Machine
end

section
/-!
A RESUME that starts the FOLLOW timer of the pointer step (R151, R162), and ARM, PAUSE and RESUME together.
-/

namespace Sys2Proof.Machine

/-! ## The FOLLOW timer runs, or is due -/

/-- R162: the FOLLOW timer stands at `g`, and no remembered cue is judged. -/
theorem State.Follows.timed {s : State} {f d : Nat} {g : Follow} (h : s.Follows f d) (hg : g ≠ .stopped)
    (htest : s.resumed.offerPending.followTest =
      s.resumed.offerPending.setSsq { s.resumed.offerPending.ssq with follow := g })
    (hr : s.ssq.remembered = none ∨ s.aq.mode ≠ .SHOW) :
    s.resumeSeq.aq.queue = s.aq.queue ∧ s.resumeSeq.ssq = { s.ssq with
      st := .RUNNING, pausedFrom := none, pend := none, remembered := none, follow := g } := by
  obtain ⟨hssq, haq, -, -, -⟩ := h.offered
  obtain ⟨y, hy⟩ : ∃ y, y = s.resumed.offerPending.followTest := ⟨_, rfl⟩
  have hyssq : y.ssq = { s.ssq with st := .RUNNING, pausedFrom := none, pend := none, follow := g } := by
    rw [hy, htest, State.setSsq_ssq, hssq]
  have hyaq : y.aq = s.aq := by
    rw [hy, htest]
    exact haq
  obtain ⟨r, hrun⟩ := resumed_waits h.held.waits (.inr (congrArg Aq.queue (hy ▸ hyaq)))
  rw [← hy] at hrun
  have hjudge : (y.setAq { y.aq with runner := r }).judgeRemembered =
      (y.setAq { y.aq with runner := r }).setSsq { y.ssq with remembered := none } := by
    rcases hr with hr | hm
    · have hnone : y.ssq.remembered = none := by rw [hyssq]; exact hr
      have hsame : ({ y.ssq with remembered := none } : Ssq) = y.ssq := by rw [← hnone]
      rw [judgeRemembered_none (s := y.setAq { y.aq with runner := r }) hnone, hsame]
      rfl
    · exact judgeRemembered_other (s := y.setAq { y.aq with runner := r }) (by rw [State.setAq_aq, hyaq]; exact hm)
  obtain ⟨v, hv⟩ : ∃ v, v = (y.setAq { y.aq with runner := r }).setSsq { y.ssq with remembered := none } := ⟨_, rfl⟩
  have hvssq : v.ssq = { s.ssq with st := .RUNNING, pausedFrom := none, pend := none, remembered := none, follow := g } := by
    rw [hv, State.setSsq_ssq, hyssq]
  have hidle : v.idle := by
    refine ⟨fun p hp => ?_, followStart_idle (by rw [hvssq]; exact hg), fun hc => ?_⟩
    · rw [hvssq] at hp
      exact absurd hp (by simp)
    · obtain ⟨-, hptr, -⟩ := hc
      rw [hvssq] at hptr
      exact absurd (h.ptr.symm.trans hptr) (by simp)
  have hform : s.resumeSeq = v := by
    rw [resumeSeq_parts h.held.paused, ← hy, hrun, hjudge, ← hv, hidle.takeReport]
  have hvq : v.aq.queue = y.aq.queue := by
    rw [hv]
    rfl
  rw [hform]
  exact ⟨hvq.trans (congrArg Aq.queue hyaq), hvssq⟩

theorem State.Follows.checks {s : State} {f d : Nat} (h : s.Follows f d) : s.resumed.offerPending.followTest =
    if 1000 * d = 0 then
      if s.aq.mode = .SHOW then State.checks 255 (s.resumed.offerPending.fireCore f false)
      else s.resumed.offerPending.setSsq { s.resumed.offerPending.ssq with follow := .due }
    else s.resumed.offerPending.setSsq { s.resumed.offerPending.ssq with follow := .running (s.now + 1000 * d) } := by
  obtain ⟨hssq, haq, hnow, -, hstart⟩ := h.offered
  have hchecks := checks_follow 255 hstart (by rw [hssq])
  have hgoes : ∀ g, (s.resumed.offerPending.setSsq { s.resumed.offerPending.ssq with follow := g }).endTest =
      s.resumed.offerPending.setSsq { s.resumed.offerPending.ssq with follow := g } :=
    fun g => endTest_goesOn (.inl (by rw [State.setSsq_ssq, hssq]; simp [h.ptr]))
  rw [hgoes, hgoes, haq, hnow] at hchecks
  exact (followTest_starts hstart).trans hchecks

/-- R151: a delay that runs. -/
theorem State.Follows.delayed {s : State} {f d : Nat} (h : s.Follows f d) (hd : 0 < d) (hr : s.ssq.remembered = none) :
    s.resumeSeq.aq.queue = s.aq.queue ∧ s.resumeSeq.ssq = { s.ssq with
      st := .RUNNING, pausedFrom := none, pend := none, remembered := none, follow := .running (s.now + 1000 * d) } :=
  h.timed (by simp) (h.checks.trans (if_neg (by omega))) (.inl hr)

/-- R151: a delay of 0 outside SHOW. -/
theorem State.Follows.due {s : State} {f : Nat} (h : s.Follows f 0) (hm : s.aq.mode ≠ .SHOW) :
    s.resumeSeq.aq.queue = s.aq.queue ∧ s.resumeSeq.ssq = { s.ssq with
      st := .RUNNING, pausedFrom := none, pend := none, remembered := none, follow := .due } :=
  h.timed (by simp) (h.checks.trans ((if_pos rfl).trans (if_neg hm))) (.inr hm)

/-! ## A delay of 0 in SHOW -/

/-- R151: the FOLLOW step fires before the remembered cue is judged. -/
theorem State.Follows.fires_first {s : State} {f : Nat} (h : s.Follows f 0) (hm : s.aq.mode = .SHOW) (hf : s.ssq.followless f) :
    s.resumed.offerPending.followTest = s.resumed.offerPending.fire f false ∧ s.resumed.offerPending.ssq.followless f := by
  obtain ⟨hssq, -⟩ := h.offered
  have hzf : s.resumed.offerPending.ssq.followless f := followless_congr (q := s.ssq) (by rw [hssq]) hf
  refine ⟨?_, hzf⟩
  rw [h.checks, if_pos rfl, if_pos hm, fire_followless false hzf]
  refine checks_no_follow 254 (followStart_unfollowed ?_)
  rw [fireCore_ssq f rfl]
  exact fun k d hk => hzf k d hk

/-- What the resume makes of the show, seen from the state that a fire of the FOLLOW step finds. -/
theorem State.Follows.fires_of {s u : State} {f d p : Nat} (h : s.Follows f d)
    (hu : (s.resumed.offerPending.setSsq { s.resumed.offerPending.ssq with remembered := none }).fires u p) :
    (s.setSsq { s.ssq with st := .RUNNING, pausedFrom := none, pend := none, remembered := none }).fires u p := by
  obtain ⟨hssq, haq, -, hroom, -⟩ := h.offered
  refine fires_congr (f := s.ssq.follow) ?_ ?_ ?_ hu
  · rw [State.setSsq_ssq, hssq]
    rfl
  · exact congrArg Aq.queue haq
  · exact hroom

theorem State.Follows.queued {s : State} {f : Nat} (h : s.Follows f 0) (hm : s.aq.mode = .SHOW) (hf : s.ssq.followless f)
    (hq : s.aq.queue ≠ []) : ∃ r, s.resumeSeq =
      (((s.resumed.offerPending.fire f false).setAq { (s.resumed.offerPending.fire f false).aq with runner := r }).judgeRemembered).takeReport := by
  obtain ⟨htest, -⟩ := h.fires_first hm hf
  obtain ⟨r, hrun⟩ := resumed_waits h.held.waits (.inl hq)
  rw [htest] at hrun
  exact ⟨r, by rw [resumeSeq_parts h.held.paused, htest, hrun]⟩

theorem State.Follows.fired {s : State} {f : Nat} (h : s.Follows f 0) (hm : s.aq.mode = .SHOW) (hf : s.ssq.followless f)
    (hr : s.ssq.remembered = none) :
    (s.aq.queue ≠ [] →
      (s.setSsq { s.ssq with st := .RUNNING, pausedFrom := none, pend := none, remembered := none }).fires s.resumeSeq f) ∧
    s.resumeSeq.ssq.watched = some f ∧ s.resumeSeq.ssq.ptr = s.ssq.linked (s.ssq.step f).next := by
  obtain ⟨hssq, -⟩ := h.offered
  obtain ⟨htest, hzf⟩ := h.fires_first hm hf
  obtain ⟨z, hz⟩ : ∃ z, z = s.resumed.offerPending := ⟨_, rfl⟩
  have hzrem : z.ssq.remembered = none := by rw [hz, hssq]; exact hr
  have hzst : z.ssq.st ≠ .PAUSED := by rw [hz, hssq]; simp
  have hfrem : (z.fire f false).ssq.remembered = none := by simpa using hzrem
  rw [← hz] at hzf htest
  refine ⟨fun hq => ?_, ?_⟩
  · obtain ⟨r, hform⟩ := h.queued hm hf hq
    rw [← hz] at hform
    have hidle : ((z.fire f false).setAq { (z.fire f false).aq with runner := r }).idle := fire_idle false hzf hzst
    rw [hform, judgeRemembered_none (s := (z.fire f false).setAq { (z.fire f false).aq with runner := r }) hfrem, hidle.takeReport]
    refine h.fires_of ?_
    have hsame : z.setSsq { z.ssq with remembered := none } = z := by
      have hssq : ({ z.ssq with remembered := none } : Ssq) = z.ssq := by rw [← hzrem]
      rw [hssq]
      rfl
    rw [← hz, hsame]
    exact fires_runner r (fire_fires hzf)
  · have hplace := fire_ssq (chase := false) rfl hzf
    have hunf := fire_unfollowed false hzf
    have hrun : (z.fire f false).ssq.keepsPlace (z.fire f false).runHead.ssq := settle_keepsPlace runnerFuel true hunf
    have hrunrem : (z.fire f false).runHead.ssq.remembered = none := by simpa using hzrem
    have hall := hrun.then (takeReport_keepsPlace (hrun.unfollowed hunf))
    have hform : s.resumeSeq = (z.fire f false).runHead.takeReport := by
      rw [resumeSeq_parts h.held.paused, ← hz, htest, judgeRemembered_none hrunrem]
    obtain ⟨-, hptr, hwat, -⟩ := hall
    rw [hform, hptr, hwat, hplace]
    refine ⟨rfl, ?_⟩
    have hlinked := linked_congr (q := s.ssq) (r := z.ssq) (by rw [hz, hssq]) f
    exact hlinked

/-- R151, R162: the FOLLOW step fires, and then the step that has the remembered cue. -/
theorem State.Follows.fired_twice {s : State} {f n g : Nat} (h : s.Follows f 0) (hm : s.aq.mode = .SHOW)
    (hr : s.ssq.remembered = some n) (hg : s.ssq.linked (s.ssq.step f).next = some g) (ht : (s.ssq.step g).trigger = .CUE n)
    (hgf : s.ssq.followless g) (hq : s.aq.queue ≠ []) :
    ∃ v : State, (s.setSsq { s.ssq with st := .RUNNING, pausedFrom := none, pend := none, remembered := none }).fires v f ∧
      v.fires s.resumeSeq g := by
  have hf : s.ssq.followless f := by
    intro j d hj hc
    obtain rfl := Option.some.inj (hg.symm.trans hj)
    rw [ht] at hc
    exact absurd hc (by simp)
  obtain ⟨hssq, haq, -⟩ := h.offered
  obtain ⟨htest, hzf⟩ := h.fires_first hm hf
  obtain ⟨r, hform⟩ := h.queued hm hf hq
  obtain ⟨z, hz⟩ : ∃ z, z = s.resumed.offerPending := ⟨_, rfl⟩
  rw [← hz] at hform hzf htest
  have hzssq : z.ssq = { s.ssq with st := .RUNNING, pausedFrom := none, pend := none } := by rw [hz, hssq]
  have hplace := fire_ssq (chase := false) rfl hzf
  obtain ⟨w, hw⟩ : ∃ w, w = (z.fire f false).setAq { (z.fire f false).aq with runner := r } := ⟨_, rfl⟩
  obtain ⟨v, hv⟩ : ∃ v, v = w.setSsq { w.ssq with remembered := none } := ⟨_, rfl⟩
  have hwm : w.aq.mode = .SHOW := by
    have hmode : (z.fire f false).aq.mode = z.aq.mode := by simp
    rw [hw, State.setAq_aq, hmode, hz, haq]
    exact hm
  have hwr : w.ssq.remembered = some n := by
    have hkept : (z.fire f false).ssq.remembered = z.ssq.remembered := by simp
    rw [hw, State.setAq_ssq, hkept, hzssq]
    exact hr
  have hlinked : z.ssq.linked (z.ssq.step f).next = some g :=
    (linked_congr (q := s.ssq) (r := z.ssq) (by rw [hzssq]) f).trans hg
  have hvsteps : v.ssq.steps = s.ssq.steps := by
    have hkept : (z.fire f false).ssq.steps = z.ssq.steps := by simp
    have hvw : v.ssq.steps = (z.fire f false).ssq.steps := by rw [hv, hw]; rfl
    rw [hvw, hkept, hzssq]
  have hvptr : v.ssq.ptr = some g := by
    have hvw : v.ssq.ptr = (z.fire f false).ssq.ptr := by rw [hv, hw]; rfl
    rw [hvw, hplace]
    exact hlinked
  have hvst : v.ssq.st = .RUNNING := by
    have hvw : v.ssq.st = (z.fire f false).ssq.st := by rw [hv, hw]; rfl
    rw [hvw, fire_st false hzf (by rw [hzssq]; simp) (by rw [hzssq]; simp)]
    exact if_neg (fun hc => absurd (hlinked.symm.trans hc.1) (by simp))
  have hvg : v.ssq.followless g := followless_congr (q := s.ssq) hvsteps hgf
  have hvt : (v.ssq.step g).trigger = .CUE n := by
    have hstep : v.ssq.step g = s.ssq.step g := by rw [Ssq.step, Ssq.step, hvsteps]
    rw [hstep]
    exact ht
  have hfinal : s.resumeSeq = v.fire g false := by
    rw [hform, ← hw, judgeRemembered_show hwr hwm, ← hv, seqCue_pointer hvptr (.inr hvst), if_pos hvt,
      takeReport_fire false hvg (by rw [hvst]; simp)]
  refine ⟨v, h.fires_of ?_, ?_⟩
  · rw [← hz, hv, hw]
    exact fires_forget (fires_runner r (fire_fires hzf))
  · rw [hfinal]
    exact fire_fires hvg

end Sys2Proof.Machine
end

section
/-!
ARM, PAUSE and RESUME by their requests (R147, R160 to R162).
-/

namespace Sys2Proof.Machine

theorem resume_exec {s : State} {dt : Nat} {h : LinkHdr} {arg : Byte} (ha : s.addressed h) (hst : s.ssq.st = .PAUSED) :
    exec (.controlResume dt h arg) s = .next ((s.asked dt).resumeSeq.answered h 0x84 .DONE []).finish := by
  have hr : reqControl .RESUME arg (s.asked dt) = done (s.asked dt).resumeSeq :=
    if_pos (c := (s.asked dt).ssq.st = .PAUSED) hst
  exact next_control (x := .RESUME) ha hr

/-- Settles O40. -/
theorem armPauseAndResume : Obligations.ArmPauseAndResume := by
  refine ⟨fun dt h arg s ha => ⟨fun hu => ?arm, fun hst => ?pause, fun hst => ?again, fun hst => ?refused, fun hst hfrom => ?resume,
      fun hst => ?unpaused⟩,
    fun dt h arg s ha st0 hfrom hst hst0 hwait => ?waiting, fun dt h arg s r pf f w d ha hst hfrom hpend hneed hes hw htags hp ht hfol hwait hr => ?follows⟩
  case arm =>
    obtain ⟨hssq, hspent, hsame⟩ := armSeq_arms (s.asked dt) arg.toNat
    obtain ⟨hcs, hca, hct, hcp, hcf, hcq, hcc, hcr, hcn⟩ := counted_rest (reqArm arg (s.asked dt))
    obtain ⟨w, hw⟩ : ∃ w, w = (reqArm arg (s.asked dt)).counted := ⟨_, rfl⟩
    rw [← hw] at hcs hca hct hcp hcf hcq hcc hcr hcn
    have hstate : (reqArm arg (s.asked dt)).state = (s.asked dt).armSeq arg.toNat := rfl
    rw [hstate] at hcs hca hct hcp hcf hcq hcc hcr hcn
    have hexec := arm_exec (dt := dt) (arg := arg) ha hu
    rw [← hw] at hexec
    have hwssq := hcs.trans hssq
    have hst := reqArm_status (s.asked dt) arg
    refine ⟨_, hexec, ?same, (congrArg Ssq.head hwssq).trans rfl, (congrArg Ssq.steps hwssq).trans rfl,
      (congrArg Ssq.pend hwssq).trans rfl, (congrArg Ssq.remembered hwssq).trans rfl, (congrArg Ssq.watched hwssq).trans rfl,
      (congrArg Ssq.pausedFrom hwssq).trans rfl, (congrArg Ssq.follow hwssq).trans rfl, (congrArg Ssq.skipped hwssq).trans rfl,
      ?transport, fun hv => ⟨?valid, (congrArg Ssq.st hwssq).trans (if_pos hv), (congrArg Ssq.ptr hwssq).trans (if_pos hv)⟩,
      fun hv => ?invalid, fun hgo e he ht hidle => ?left, fun h1 h2 => hca.trans (hsame h1 h2)⟩
    case same =>
      simp only [State.sameBut]
      simp [State.answered, hcp, hcf, hcq, hcc, hcr]
    case transport =>
      change w.ttc.st = s.ttc.st
      rw [hct]
      simp
    case valid =>
      rw [hst.trans (if_pos hv)]
      simp [State.answers, State.answered, hcn]
    case invalid =>
      have hbad : ¬(s.ssq.step arg.toNat).valid = true := by simp [hv]
      refine ⟨?_, (congrArg Ssq.st hwssq).trans (if_neg hbad), (congrArg Ssq.ptr hwssq).trans (if_neg hbad)⟩
      rw [hst.trans (if_neg hbad)]
      simp [State.answers, State.answered, hcn]
    case left =>
      have hran := (hspent hgo e (hca ▸ he) ht).1
      rw [hidle] at hran
      exact absurd hran (by decide)
  case pause =>
    have hgo : (s.asked dt).ssq.st = .READY ∨ (s.asked dt).ssq.st = .RUNNING := hst
    have hr : reqControl .PAUSE arg (s.asked dt) = done (s.asked dt).pauseSeq :=
      reqPause_goes (s := s.asked dt) (hgo.elim .inl (fun h => .inr (.inl h)))
    have hssq : (s.asked dt).pauseSeq.ssq = s.ssq.pausedAt (s.now + dt) := (pauseSeq_ssq _).trans (if_pos hgo)
    obtain ⟨hplay, hother⟩ := pauseSeq_transport hgo
    refine ⟨_, next_control (x := .PAUSE) ha hr, ?_, ?_, ?_, ?_, ?_, ?_, ?_, ?_, hplay, hother⟩
    · simp [State.sameBut, State.answered, done, Answer.counted]
    · simp [State.answers, State.answered, done, Answer.counted]
    · exact congrArg Ssq.st hssq
    · exact congrArg Ssq.pausedFrom hssq
    · exact (congrArg Ssq.ptr hssq).trans rfl
    · exact (congrArg Ssq.pend hssq).trans rfl
    · simp [State.answered, done, Answer.counted]
    · exact (congrArg Ssq.follow hssq).trans rfl
  case again =>
    have hform : (s.asked dt).pauseSeq = s.asked dt := if_neg (by
      change ¬(s.ssq.st = .READY ∨ s.ssq.st = .RUNNING)
      simp [hst])
    have hr : reqControl .PAUSE arg (s.asked dt) = done (s.asked dt) :=
      (reqPause_goes (s := s.asked dt) (.inr (.inr hst))).trans (congrArg done hform)
    exact next_control (x := .PAUSE) ha hr
  case refused =>
    refine next_control_refused (x := .PAUSE) ha (if_neg ?_) (by decide) (by decide)
    change ¬(s.ssq.st = .READY ∨ s.ssq.st = .RUNNING ∨ s.ssq.st = .PAUSED)
    rcases hst with hst | hst <;> simp [hst]
  case resume =>
    obtain ⟨⟨hgoes, hnone⟩, hrem⟩ := resumeSeq_awake (s := s.asked dt) hst hfrom
    refine ⟨_, resume_exec ha hst, ?_, ?_, hgoes, hnone, hrem, resumeSeq_st (s := s.asked dt) hst, fun p left hp hr hf => ?_⟩
    · simp [State.sameBut, State.answered]
    · simp [State.answers, State.answered]
    · obtain ⟨st0, hst0⟩ : ∃ st0, s.ssq.pausedFrom = some st0 := hfrom.elim (fun h => ⟨_, h⟩) (fun h => ⟨_, h⟩)
      obtain ⟨hst1, hptr, hfol, -⟩ := resumeSeq_timing (s := s.asked dt) hst hst0 hp hr hf
      exact ⟨hfol, (congrArg some hst1).trans hst0.symm, hptr⟩
  case unpaused =>
    exact next_control_refused (x := .RESUME) ha (if_neg hst) (by decide) (by decide)
  case waiting =>
    have hheld : (s.asked dt).HeldIn st0 := ⟨hst, hfrom, hst0, waits_of_match (s := s.asked dt) hwait⟩
    obtain ⟨-, -, hres, -⟩ := id ha
    refine ⟨_, resume_exec ha hst, fun hr hany hq => ?_, fun n p hr hpend hp => ?_⟩
    · exact resumeSeq_pending hheld (unfollowed_of_any (q := s.ssq) hany) hr hq hres
    · obtain ⟨hshow, hother⟩ := resumeSeq_cue hheld hr hpend hp
      exact ⟨hshow, fun hm _ hno => hother hm hno⟩
  case follows =>
    have hfollows : (s.asked dt).Follows f d :=
      ⟨⟨hst, hfrom, .inr rfl, waits_of_match (s := s.asked dt) hwait⟩, ⟨pf, hpend, hneed, hes⟩, ⟨w, hw, htags⟩, hp, ht, hfol⟩
    subst hr
    refine ⟨_, resume_exec ha hst, ?_, fun hd hr => hfollows.delayed hd hr, fun hd hm => ?_, fun hd hm hr hf => ?_,
      fun n g hd hm hr hg htg hgf hq => ?_⟩
    · simp [State.answers, State.answered]
    · subst hd
      exact hfollows.due hm
    · subst hd
      exact hfollows.fired hm hf hr
    · subst hd
      exact hfollows.fired_twice hm hr hg htg hgf hq

end Sys2Proof.Machine
end

section
/-!
The keys of the remote and of the panel, as AQ takes them (R4 to R7, R9).
-/

namespace Sys2Proof.Machine

/-! ## Refusal -/

theorem key_ignored {s : State} (h : s.lki.resetting = true) (o : Origin) (k : Key) : s.key o k = s := if_pos h

theorem key_refused {s : State} {o : Origin} {k : Key} (hr : s.lki.resetting = false) (h : s.keyRefused o k = true) :
    s.key o k = s.refuseKey k := (if_neg (by simp [hr])).trans (if_pos h)

theorem key_accepted {s : State} {o : Origin} {k : Key} (hr : s.lki.resetting = false) (h : s.keyRefused o k = false) :
    s.key o k = s.acceptKey o k := (if_neg (by simp [hr])).trans (if_neg (by simp [h]))

theorem wakesByLamp_awake {s : State} (h : s.thc.power = .ACTIVE) (o : Origin) (k : Key) : s.wakesByLamp o k = false := by
  simp [State.wakesByLamp, h]

theorem wakesByLamp_other {k : Key} (h : k ≠ .LAMP) (s : State) (o : Origin) : s.wakesByLamp o k = false := by
  simp [State.wakesByLamp, h]

/-- R4: a key of a mode is refused in the others. -/
theorem keyRefused_of {s : State} {o : Origin} {k : Key} (hw : s.wakesByLamp o k = false) :
    s.keyRefused o k = !keyAllowed s.aq.mode k := by
  rw [State.keyRefused, hw, Bool.or_false]

theorem refused_outside_local {s : State} {o : Origin} {k : Key} {code : Nat} (hr : s.lki.resetting = false)
    (h : k = .FWD ∧ code = 1 ∨ k = .REV ∧ code = 2 ∨ k = .DIM_UP ∧ code = 3 ∨ k = .DIM_DOWN ∧ code = 4 ∨
      k = .LAMP ∧ code = 5 ∧ s.thc.power = .ACTIVE) (hm : s.aq.mode ≠ .LOCAL) :
    s.key o k = (s.count .remRefused).event .REMOTE_REFUSED (some code) := by
  have hallowed : keyAllowed s.aq.mode k = false ∧ keySubject k = code ∧ s.wakesByLamp o k = false := by
    rcases h with ⟨rfl, rfl⟩ | ⟨rfl, rfl⟩ | ⟨rfl, rfl⟩ | ⟨rfl, rfl⟩ | ⟨rfl, rfl, hp⟩
    all_goals refine ⟨by simp [keyAllowed, hm], rfl, ?_⟩
    · exact wakesByLamp_other (by decide) s o
    · exact wakesByLamp_other (by decide) s o
    · exact wakesByLamp_other (by decide) s o
    · exact wakesByLamp_other (by decide) s o
    · exact wakesByLamp_awake hp o _
  obtain ⟨hno, hcode, hw⟩ := hallowed
  rw [key_refused hr (by rw [keyRefused_of hw, hno]; rfl), State.refuseKey, hcode]

theorem refused_in_console {s : State} {o : Origin} {k : Key} {code : Nat} (hr : s.lki.resetting = false)
    (h : k = .PAUSE ∧ code = 7 ∨ k = .ADVANCE ∧ code = 8 ∨ k = .VOL_UP ∧ code = 10 ∨ k = .VOL_DOWN ∧ code = 11 ∨
      k = .TAPE_PLAY ∧ code = 12 ∨ k = .TAPE_STOP ∧ code = 13) (hm : s.aq.mode = .CONSOLE) :
    s.key o k = (s.count .remRefused).event .REMOTE_REFUSED (some code) := by
  have hallowed : keyAllowed s.aq.mode k = false ∧ keySubject k = code ∧ k ≠ .LAMP := by
    rcases h with ⟨rfl, rfl⟩ | ⟨rfl, rfl⟩ | ⟨rfl, rfl⟩ | ⟨rfl, rfl⟩ | ⟨rfl, rfl⟩ | ⟨rfl, rfl⟩
    all_goals exact ⟨by rw [hm]; rfl, rfl, by decide⟩
  obtain ⟨hno, hcode, hlamp⟩ := hallowed
  rw [key_refused hr (by rw [keyRefused_of (wakesByLamp_other hlamp s o), hno]; rfl), State.refuseKey, hcode]

/-! ## The keys that ask for one entry (R6, R7, R9) -/

theorem offerKey_places {s : State} (hr : s.lki.resetting = false) (o : Origin) (a : Action) :
    (s.aq.queue.length < 12 → s.offerKey o a = s.setAq { s.aq with
      queue := s.aq.queue ++ [{ action := a, origin := o, tag := none, running := false }] }) ∧
    (12 ≤ s.aq.queue.length → s.offerKey o a = s.count .remDropped) := by
  have hroom : s.room = 12 - s.aq.queue.length := by rw [State.room, hr]; rfl
  refine ⟨fun h => ?_, fun h => ?_⟩
  · exact if_pos (by omega)
  · exact if_neg (by omega)

theorem dimBase_eq (s : State) : s.dimBase = ((s.aq.queue.filterMap (fun e => match e.action with
    | .FADE target _ _ _ => some target
    | _ => none)).getLast?).getD s.lmc.level := by
  have hfun : (fun e : Entry => e.action.fadeTarget) = fun e => match e.action with
      | .FADE target _ _ _ => some target
      | _ => none := by
    funext e
    unfold Action.fadeTarget
    cases e.action <;> rfl
  rw [State.dimBase, hfun]

theorem key_offers {s : State} {o : Origin} {k : Key} {a : Action} (hr : s.lki.resetting = false) (hm : s.aq.mode = .LOCAL)
    (h : k = .FWD ∧ a = .CHANGE_FWD ∨ k = .REV ∧ a = .CHANGE_REV ∨
      k = .DIM_UP ∧ a = .FADE (min (s.dimBase + 50) 1000) 0 .LINEAR false ∨
      k = .DIM_DOWN ∧ a = .FADE (min (s.dimBase - 50) 1000) 0 .LINEAR false ∨
      k = .LAMP ∧ s.thc.power = .ACTIVE ∧ a = (if s.lmc.power = .OFF then Action.LAMP_ON else .LAMP_OFF)) :
    s.key o k = s.offerKey o a := by
  have haccepted : s.acceptKey o k = s.offerKey o a ∧ keyAllowed .LOCAL k = true ∧ s.wakesByLamp o k = false := by
    rcases h with ⟨rfl, rfl⟩ | ⟨rfl, rfl⟩ | ⟨rfl, rfl⟩ | ⟨rfl, rfl⟩ | ⟨rfl, hp, rfl⟩
    · exact ⟨rfl, rfl, wakesByLamp_other (by decide) s o⟩
    · exact ⟨rfl, rfl, wakesByLamp_other (by decide) s o⟩
    · exact ⟨rfl, rfl, wakesByLamp_other (by decide) s o⟩
    · exact ⟨rfl, rfl, wakesByLamp_other (by decide) s o⟩
    · have hw := wakesByLamp_awake hp o .LAMP
      exact ⟨if_neg (by simp [hw]), rfl, hw⟩
  obtain ⟨hform, hyes, hw⟩ := haccepted
  rw [key_accepted hr (by rw [keyRefused_of hw, hm, hyes]; rfl), hform]

/-! ## The other keys -/

theorem key_always {s : State} {o : Origin} {k : Key} (hr : s.lki.resetting = false) (h : k = .STOP ∨ k = .BLANK ∨ k = .POWER) :
    s.key o k = s.acceptKey o k := by
  refine key_accepted hr ?_
  rcases h with rfl | rfl | rfl <;> rfl

theorem key_outside_console {s : State} {o : Origin} {k : Key} (hr : s.lki.resetting = false) (hm : s.aq.mode ≠ .CONSOLE)
    (h : k = .PAUSE ∨ k = .ADVANCE ∨ k = .VOL_UP ∨ k = .VOL_DOWN ∨ k = .TAPE_PLAY ∨ k = .TAPE_STOP ∨ k = .MODE) :
    s.key o k = s.acceptKey o k := by
  refine key_accepted hr ?_
  have hallowed : keyAllowed s.aq.mode k = true ∧ k ≠ .LAMP := by
    rcases h with rfl | rfl | rfl | rfl | rfl | rfl | rfl
    all_goals exact ⟨by simp [keyAllowed, hm], by decide⟩
  rw [keyRefused_of (wakesByLamp_other hallowed.2 s o), hallowed.1]
  rfl

/-- R4: the remote LAMP key in STANDBY. -/
theorem key_wakes {s : State} (hr : s.lki.resetting = false) (hp : s.thc.power = .STANDBY) : s.key .REMOTE .LAMP = s.wake := by
  have hw : s.wakesByLamp .REMOTE .LAMP = true := by simp [State.wakesByLamp, hp]
  rw [key_accepted hr (by rw [State.keyRefused, hw, Bool.or_true]; rfl)]
  exact if_pos hw

theorem wake_parts {s : State} (hp : s.thc.power = .STANDBY) : s.sameBut s.wake [.tmc, .lmc, .thc] ∧
    s.wake.thc = { s.thc with power := .ACTIVE } ∧
    (s.tmc.st = .IDLE → s.wake.tmc.st = .HOMING ∧ s.wake.tmc.phase = some .DARKEN) ∧
    (s.tmc.st ≠ .IDLE → s.wake.tmc = s.tmc ∧ s.wake.lmc = s.lmc) := by
  have hform := wake_standby hp
  by_cases hidle : s.tmc.st = .IDLE
  · rw [if_pos hidle] at hform
    rw [hform]
    exact ⟨by simp [State.sameBut], by simp, fun _ => ⟨rfl, rfl⟩, fun h => absurd hidle h⟩
  · rw [if_neg hidle] at hform
    rw [hform]
    exact ⟨by simp [State.sameBut], rfl, fun h => absurd h hidle, fun _ => ⟨rfl, rfl⟩⟩

/-- R6, R102: PLAY by a key. -/
theorem tapePlay_parts (s : State) : s.sameBut (s.tape .PLAY) [.ttc] ∧
    (tapeRefusal .PLAY s.ttc.st s.ttc.atEnd (s.thc.power == .STANDBY) = true → (s.tape .PLAY).ttc = s.ttc) ∧
    (tapeRefusal .PLAY s.ttc.st s.ttc.atEnd (s.thc.power == .STANDBY) = false → (s.tape .PLAY).ttc.st = .PLAY) := by
  rw [← tapeRefused_eq]
  refine ⟨by simp [State.sameBut], fun h => congrArg State.ttc (if_pos h), fun h => ?_⟩
  rw [tape_taken h]
  exact setTransport_st s .PLAY

theorem tapeStop_parts (s : State) : s.sameBut (s.tape .STOP) [.ttc] ∧
    (s.tape .STOP).ttc.st = (if s.ttc.st = .EMPTY then .EMPTY else .STOPPED) := by
  refine ⟨by simp [State.sameBut], ?_⟩
  rw [tape_taken rfl, setTransport_st]
  rfl

/-- R160: a pause by a key. -/
theorem pauseSeq_parts {s : State} (h : s.ssq.st = .READY ∨ s.ssq.st = .RUNNING) : s.sameBut s.pauseSeq [.ttc, .ssq] ∧
    s.pauseSeq.ssq.st = .PAUSED ∧ s.pauseSeq.ssq.pausedFrom = some s.ssq.st ∧ s.pauseSeq.ssq.ptr = s.ssq.ptr ∧
    s.pauseSeq.ssq.pend = s.ssq.pend ∧
    s.pauseSeq.ttc.st = (if s.cud.par.source = .LOCAL_TAPE ∧ s.ttc.st = .PLAY then .PAUSE else s.ttc.st) := by
  have hssq := (pauseSeq_ssq s).trans (if_pos h)
  obtain ⟨hplay, hother⟩ := pauseSeq_transport h
  refine ⟨by simp [State.sameBut], congrArg Ssq.st hssq, congrArg Ssq.pausedFrom hssq, ?_, ?_, ?_⟩
  · rw [hssq]
    rfl
  · rw [hssq]
    rfl
  · split
    · rename_i hc
      exact (hplay hc.1 hc.2).1
    · rename_i hc
      rw [hother (not_and_or.mp hc)]

theorem pauseSeq_stands {s : State} (h : s.ssq.st = .UNLOADED ∨ s.ssq.st = .ENDED) : s.pauseSeq = s := by
  rw [pauseSeq_eq, if_neg (by rcases h with h | h <;> simp [h])]

theorem pauseKey {s : State} (o : Origin) :
    s.acceptKey o .PAUSE = if s.ssq.st = .PAUSED then s.resumeSeq else s.pauseSeq := rfl

theorem advanceSeq_taken {s : State} {p : Nat} (hp : s.ssq.ptr = some p)
    (hst : s.ssq.st = .READY ∨ s.ssq.st = .RUNNING ∨ s.ssq.st = .PAUSED) : s.advanceSeq = s.fire p false := by
  rw [State.advanceSeq, hp]
  exact if_pos ((advanceTaken_iff s).mpr ⟨hst, by simp [hp]⟩)

theorem advanceSeq_refused {s : State} (h : s.ssq.ptr = none ∨ s.ssq.st = .UNLOADED ∨ s.ssq.st = .ENDED) : s.advanceSeq = s := by
  unfold State.advanceSeq
  split
  · rename_i p hp
    refine if_neg (fun hc => ?_)
    obtain ⟨hst, -⟩ := (advanceTaken_iff s).mp hc
    rcases h with h | h | h
    · exact absurd (hp.symm.trans h) (by simp)
    · simp [h] at hst
    · simp [h] at hst
  · rfl

end Sys2Proof.Machine
end

section
/-!
The remote decoders (R167 to R171).
-/

namespace Sys2Proof.Machine

/-! ## One time of a line -/

/-- R167: the decoder IN_FRAME, after `taken` times and with the bits so far. -/
def State.reading (s : State) (line : RemoteLine) (taken : Nat) (bits : List Bool) : State :=
  s.setDec line { s.rpd.dec line with rx := some (.inFrame taken bits) }

theorem reading_setDec (s : State) (line : RemoteLine) (taken : Nat) (bits : List Bool) (x : Option RemoteRx) :
    (s.reading line taken bits).setDec line { (s.reading line taken bits).rpd.dec line with rx := x } =
      s.setDec line { s.rpd.dec line with rx := x } := by
  rw [State.reading, setDec_setDec, dec_setDec]

theorem lineTime_start {s : State} {line : RemoteLine} {us : Nat} (h : (s.rpd.dec line).rx = none) (hus : startTime us = true) :
    s.lineTime line (.low us) = s.reading line 0 [] := by
  rw [State.lineTime.eq_def, h]
  exact if_pos hus

theorem lineTime_noStart {s : State} {line : RemoteLine} {us : Nat} (h : (s.rpd.dec line).rx = none) (hus : startTime us = false) :
    s.lineTime line (.low us) = s := by
  rw [State.lineTime.eq_def, h]
  exact if_neg (by simp [hus])

theorem lineTime_passing {s : State} {line : RemoteLine} (t : LineTime) (h : (s.rpd.dec line).rx = some .passing) :
    s.lineTime line t = s.setDec line { s.rpd.dec line with rx := none } := by
  rw [State.lineTime.eq_def, h]

theorem reading_rx (s : State) (line : RemoteLine) (taken : Nat) (bits : List Bool) :
    ((s.reading line taken bits).rpd.dec line).rx = some (.inFrame taken bits) := by
  rw [State.reading, dec_setDec]

theorem reading_goes {taken : Nat} {t : LineTime} (h : judgeTime taken t = .goes) (s : State) (line : RemoteLine) (bits : List Bool) :
    (s.reading line taken bits).lineTime line t = s.reading line (taken + 1) bits := by
  rw [State.lineTime.eq_def, reading_rx]
  dsimp only
  rw [h]
  exact reading_setDec ..

theorem reading_bit {taken : Nat} {t : LineTime} {b : Bool} (h : judgeTime taken t = .bit b) (s : State) (line : RemoteLine)
    (bits : List Bool) : (s.reading line taken bits).lineTime line t = s.reading line (taken + 1) (bits ++ [b]) := by
  rw [State.lineTime.eq_def, reading_rx]
  dsimp only
  rw [h]
  exact reading_setDec ..

theorem reading_fails {taken : Nat} {t : LineTime} (h : judgeTime taken t = .fails) (s : State) (line : RemoteLine) (bits : List Bool) :
    (s.reading line taken bits).lineTime line t =
      (s.setDec line { s.rpd.dec line with rx := failedRx taken t }).count .remMalformed := by
  rw [State.lineTime.eq_def, reading_rx]
  dsimp only
  rw [h]
  exact congrArg (fun u => State.count u .remMalformed) (reading_setDec ..)

theorem reading_completes {taken : Nat} {t : LineTime} (h : judgeTime taken t = .completes) (s : State) (line : RemoteLine)
    (bits : List Bool) : (s.reading line taken bits).lineTime line t =
      (s.setDec line { s.rpd.dec line with rx := none }).completeFrame line (BitVec.ofNat 12 (bitsVal bits)) := by
  rw [State.lineTime.eq_def, reading_rx]
  dsimp only
  rw [h]
  exact congrArg (fun u => State.completeFrame u line (BitVec.ofNat 12 (bitsVal bits))) (reading_setDec ..)

/-! ## The times of a frame -/

/-- Section 9.7: the times of a bit, its low and its high. -/
def bitTimes (b : Bool) : List LineTime := [.low 600, .high (if b then 1800 else 600)]

theorem judgeTime_low {taken : Nat} (ho : taken % 2 = 1) (h : taken < 25) : judgeTime taken (.low 600) = .goes :=
  (if_pos ⟨ho, rfl⟩).trans (if_neg (by omega))

theorem judgeTime_high {taken : Nat} (he : taken % 2 = 0) (h : taken ≠ 0) (b : Bool) :
    judgeTime taken (.high (if b then 1800 else 600)) = .bit b := by
  cases b
  · exact (if_neg h).trans ((if_pos he).trans (if_pos rfl))
  · exact (if_neg h).trans ((if_pos he).trans ((if_neg (by decide)).trans (if_pos rfl)))

theorem shortTime_out {us : Nat} (h : us < 480 ∨ 720 < us) : shortTime us = false := by
  simp only [shortTime, Bool.and_eq_false_iff, decide_eq_false_iff_not]
  omega

theorem longTime_out {us : Nat} (h : us < 1440 ∨ 2160 < us) : longTime us = false := by
  simp only [longTime, Bool.and_eq_false_iff, decide_eq_false_iff_not]
  omega

theorem judgeTime_opening {us : Nat} (h : us < 480 ∨ 720 < us) : judgeTime 0 (.high us) = .fails := by
  have hs := shortTime_out h
  simp [judgeTime, hs]

theorem judgeTime_neither {us : Nat} (hs : us < 480 ∨ 720 < us) (hl : us < 1440 ∨ 2160 < us) : judgeTime 2 (.high us) = .fails := by
  have hs := shortTime_out hs
  have hl := longTime_out hl
  simp [judgeTime, hs, hl]

/-- R167: the decoder takes the bits of a frame one after another. -/
theorem reading_bits (bs : List Bool) {taken : Nat} (ho : taken % 2 = 1) (hlen : taken + 2 * bs.length ≤ 25) (s : State)
    (line : RemoteLine) (bits : List Bool) :
    (bs.flatMap bitTimes).foldl (fun t x => t.lineTime line x) (s.reading line taken bits) =
      s.reading line (taken + 2 * bs.length) (bits ++ bs) := by
  induction bs generalizing taken bits with
  | nil => simp
  | cons b bs ih =>
    rw [List.length_cons] at hlen
    have hlow := reading_goes (judgeTime_low ho (by omega)) s line bits
    have hhigh := reading_bit (judgeTime_high (taken := taken + 1) (by omega) (by omega) b) s line bits
    have hrest := ih (taken := taken + 1 + 1) (by omega) (by omega) (bits ++ [b])
    rw [List.flatMap_cons, List.foldl_append]
    have hpair : (bitTimes b).foldl (fun t x => t.lineTime line x) (s.reading line taken bits) = s.reading line (taken + 1 + 1) (bits ++ [b]) := by
      rw [bitTimes, List.foldl_cons, List.foldl_cons, List.foldl_nil, hlow, hhigh]
    rw [hpair, hrest, List.append_assoc, List.length_cons]
    congr 1
    omega

theorem frameBits_of (bits : BitVec 12) :
    BitVec.ofNat 12 (bitsVal ((List.range 12).map (fun i => bits.getLsbD (11 - i)))) = bits := by
  have hlist : (List.range 12).map (fun i => bits.getLsbD (11 - i)) = bitsOf 12 bits.toNat := rfl
  rw [hlist, bitsVal_bitsOf bits.isLt, BitVec.ofNat_toNat, BitVec.setWidth_eq]

theorem remoteFrame_idle {s : State} {line : RemoteLine} (h : (s.rpd.dec line).rx = none) (bits : BitVec 12) :
    remoteFrame line bits s = s.completeFrame line bits := by
  have hdrop : s.dropFrame line = s := by rw [State.dropFrame, h]
  rw [remoteFrame, hdrop]

/-- R167: the times of a complete frame give that frame. -/
theorem remoteMalformed_ofFrame {s : State} {line : RemoteLine} (h : (s.rpd.dec line).rx = none) (bits : BitVec 12) :
    remoteMalformed line ([.low 2400, .high 600] ++
      ((List.range 12).flatMap (fun i => [.low 600, .high (if bits.getLsbD (11 - i) then 1800 else 600)])) ++ [.low 600]) s =
      remoteFrame line bits s := by
  have htimes : (List.range 12).flatMap (fun i => [LineTime.low 600, .high (if bits.getLsbD (11 - i) then 1800 else 600)]) =
      ((List.range 12).map (fun i => bits.getLsbD (11 - i))).flatMap bitTimes := by
    rw [List.flatMap_map]
    rfl
  have hstart := lineTime_start (us := 2400) h rfl
  have hhigh : (s.reading line 0 []).lineTime line (.high 600) = s.reading line 1 [] := reading_goes rfl s line []
  have hbits := reading_bits ((List.range 12).map (fun i => bits.getLsbD (11 - i))) (taken := 1) rfl (by simp) s line []
  have hlast := reading_completes (taken := 25) (t := .low 600) rfl s line ((List.range 12).map (fun i => bits.getLsbD (11 - i)))
  rw [List.length_map, List.length_range, List.nil_append] at hbits
  rw [frameBits_of, setDec_idle s line h] at hlast
  have hopen : [LineTime.low 2400, .high 600].foldl (fun t x => t.lineTime line x) s = s.reading line 1 [] := by
    rw [List.foldl_cons, List.foldl_cons, List.foldl_nil, hstart, hhigh]
  rw [remoteMalformed, htimes, List.foldl_append, List.foldl_append, hopen, hbits, List.foldl_cons, List.foldl_nil, remoteFrame_idle h]
  exact hlast

/-! ## Complete frames -/

theorem remoteKey_none {code : Nat} (h : code = 0 ∨ 13 < code) : remoteKey code = none := by
  unfold remoteKey
  split
  · rfl
  · rw [List.getElem?_eq_none_iff]
    simp only [remoteKeys, List.length_cons, List.length_nil]
    omega

theorem remoteKey_isSome {code : Nat} (h1 : 1 ≤ code) (h2 : code ≤ 13) : ∃ k, remoteKey code = some k := by
  have hlt : code - 1 < remoteKeys.length := by
    simp only [remoteKeys, List.length_cons, List.length_nil]
    omega
  exact ⟨remoteKeys[code - 1], (if_neg (by omega)).trans (List.getElem?_eq_getElem hlt)⟩

/-- R168, R169: a complete frame, by the key of its code and its channel. -/
theorem completeFrame_unknown {s : State} {bits : BitVec 12} (h : remoteKey (bits.toNat / 4 % 64) = none) (line : RemoteLine) :
    s.completeFrame line bits = s.count .remMalformed := by
  rw [State.completeFrame]
  have hk : remoteKey (remoteFields bits).2.1 = none := h
  rw [hk]

theorem completeFrame_known {s : State} {bits : BitVec 12} {k : Key} (h : remoteKey (bits.toNat / 4 % 64) = some k) (line : RemoteLine) :
    s.completeFrame line bits = if bits.toNat / 256 = s.rpd.channel ∨ bits.toNat / 256 = 15 then
      s.goodFrame line k (bits.toNat % 4) else s := by
  rw [State.completeFrame]
  have hk : remoteKey (remoteFields bits).2.1 = some k := h
  rw [hk]
  rfl

theorem goodFrame_new {s : State} {line : RemoteLine} {k : Key} {seq : Nat} (h : (s.rpd.dec line).lastSeq ≠ some seq) :
    s.goodFrame line k seq = (s.count .remGood).remotePress line k seq :=
  if_pos (by rw [dec_count]; exact h)

theorem goodFrame_released {s : State} {line : RemoteLine} {seq : Nat} (k : Key) (h : (s.rpd.dec line).lastSeq = some seq)
    (hh : (s.rpd.dec line).held = none) : s.goodFrame line k seq = s.count .remGood := by
  unfold State.goodFrame
  dsimp only
  rw [dec_count, if_neg (by simp [h]), hh]

theorem goodFrame_held {s : State} {line : RemoteLine} {seq : Nat} {x : HeldPress} (k : Key) (h : (s.rpd.dec line).lastSeq = some seq)
    (hh : (s.rpd.dec line).held = some x) : s.goodFrame line k seq =
      if x.key = k then (s.count .remGood).remoteHeld line x else (s.count .remGood).count .remMalformed := by
  unfold State.goodFrame
  dsimp only
  rw [dec_count, if_neg (by simp [h]), hh]

/-! ## Presses and their repeat steps (R170, R171) -/

theorem repeatsOn_eq (s : State) (o : Origin) (k : Key) : s.repeatsOn o k =
    ((k == .DIM_UP || k == .DIM_DOWN || k == .VOL_UP || k == .VOL_DOWN) && !s.lki.resetting &&
      (if k = .DIM_UP ∨ k = .DIM_DOWN then s.aq.mode == .LOCAL else s.aq.mode != .CONSOLE)) := by
  unfold State.repeatsOn
  cases k with
  | DIM_UP => rw [keyRefused_of (wakesByLamp_other (by decide) s o), Bool.not_not]; rfl
  | DIM_DOWN => rw [keyRefused_of (wakesByLamp_other (by decide) s o), Bool.not_not]; rfl
  | VOL_UP => rw [keyRefused_of (wakesByLamp_other (by decide) s o), Bool.not_not]; rfl
  | VOL_DOWN => rw [keyRefused_of (wakesByLamp_other (by decide) s o), Bool.not_not]; rfl
  | _ => rfl

theorem remoteHeld_waits {s : State} {line : RemoteLine} {x : HeldPress} (h : x.repeats = false ∨ s.now < x.pressed + 500000) :
    s.remoteHeld line x = s.setDec line { s.rpd.dec line with held := some { x with releaseDue := s.now + 250000 } } := by
  refine if_neg ?_
  have hstart : repeatStart = 500000 := rfl
  rw [hstart]
  rcases h with h | h
  · simp [h]
  · simp [h]

theorem remoteHeld_repeats {s : State} {line : RemoteLine} {x : HeldPress} (h : x.repeats = true) (hdue : x.pressed + 500000 ≤ s.now) :
    s.remoteHeld line x = (s.setDec line { s.rpd.dec line with
      held := some { x with releaseDue := s.now + 250000, repeats := s.repeatsOn .REMOTE x.key } }).key .REMOTE x.key := by
  refine if_pos ?_
  have hstart : repeatStart = 500000 := rfl
  rw [hstart]
  simp [h, hdue]

end Sys2Proof.Machine
end

section
/-!
The remote's frames as presses (R167 to R171), and the keys as AQ takes them (R4 to R7, R9).
-/

namespace Sys2Proof.Machine

/-- R170: a new press, as the decoder and AQ take it. -/
theorem remotePress_parts {s : State} (line : RemoteLine) (k : Key) (seq : Nat) {z : State}
    (hz : z = (s.count .remGood).setDec line { s.rpd.dec line with
      lastSeq := some seq
      held := some { key := k, pressed := s.now, releaseDue := s.now + 250000, repeats := s.repeatsOn .REMOTE k } }) :
    (s.count .remGood).remotePress line k seq = z.key .REMOTE k := by
  have hdec : (s.count .remGood).rpd.dec line = s.rpd.dec line := dec_count ..
  have hrep : (s.count .remGood).repeatsOn .REMOTE k = s.repeatsOn .REMOTE k := by
    rw [repeatsOn_eq, repeatsOn_eq]
    simp
  rw [State.remotePress, hdec, hrep, hz]
  rfl

/-- R4, R5, R6: a key that asks for a change forward. -/
theorem key_forward {z : State} {o : Origin} :
    (z.lki.resetting = false → z.aq.mode = .LOCAL → z.aq.queue.length < 12 → (z.key o .FWD).aq.queue = z.aq.queue ++
      [{ action := .CHANGE_FWD, origin := o, tag := none, running := false }]) ∧
    (z.lki.resetting = false → z.aq.mode ≠ .LOCAL → (z.key o .FWD).aq = z.aq ∧
      (z.key o .FWD).lki.notices = (z.event .REMOTE_REFUSED (some 1)).lki.notices) ∧
    (z.lki.resetting = true → (z.key o .FWD).aq = z.aq ∧ (z.key o .FWD).lki = z.lki) := by
  refine ⟨fun hr hm hlen => ?_, fun hr hm => ?_, fun hr => ?_⟩
  · rw [key_offers hr hm (.inl ⟨rfl, rfl⟩), (offerKey_places hr o .CHANGE_FWD).1 hlen]
    rfl
  · rw [refused_outside_local hr (.inl ⟨rfl, rfl⟩) hm]
    refine ⟨by simp, ?_⟩
    exact notice_notices_congr z (z.count .remRefused) .REMOTE_REFUSED false (some 1) (by simp) (by simp)
  · rw [key_ignored hr]
    exact ⟨rfl, rfl⟩

theorem remoteFrame_known {s : State} {line : RemoteLine} {bits : BitVec 12} {k : Key} (hrx : (s.rpd.dec line).rx = none)
    (hk : remoteKey (bits.toNat / 4 % 64) = some k) (hch : bits.toNat / 256 = s.rpd.channel ∨ bits.toNat / 256 = 15) :
    remoteFrame line bits s = s.goodFrame line k (bits.toNat % 4) :=
  (remoteFrame_idle hrx bits).trans ((completeFrame_known hk line).trans (if_pos hch))

/-- R167, R168: a high that fails, and the low behind it. -/
theorem badHigh_then {s : State} {line : RemoteLine} {us next : Nat} (hrx : (s.rpd.dec line).rx = none)
    (h : judgeTime 2 (.high us) = .fails) : remoteMalformed line [.low 2400, .high 600, .low 600, .high us, .low next] s =
      ((s.setDec line { s.rpd.dec line with rx := failedRx 2 (.high us) }).count .remMalformed).lineTime line (.low next) := by
  have hstart := lineTime_start (us := 2400) hrx rfl
  have hopen : (s.reading line 0 []).lineTime line (.high 600) = s.reading line 1 [] := reading_goes rfl s line []
  have hlow : (s.reading line 1 []).lineTime line (.low 600) = s.reading line 2 [] := reading_goes rfl s line []
  rw [remoteMalformed, List.foldl_cons, hstart, List.foldl_cons, hopen, List.foldl_cons, hlow, List.foldl_cons, reading_fails h,
    List.foldl_cons, List.foldl_nil]

/-- Settles O42. -/
theorem remoteFramesArePresses : Obligations.RemoteFramesArePresses := by
  refine ⟨fun dt line s hp => ⟨fun bits channel code seq hrx hch hcode hseq => ?frame, fun us hrx hus => ?noStart,
      fun start us hrx h1 h2 => ?opening, fun us hrx => ?passes, fun us next hrx h1 h2 => ?badHigh, fun us next hrx h1 h2 h3 => ?longHigh,
      fun x hx => ?release⟩,
    fun dt line bits s hp hrx k hk hch rep hrep => ⟨fun hnew => ?press, fun x hsame hheld hkey hrepeats hdue => ?repeats⟩,
    fun s o k ho => ⟨fun hr => key_ignored hr o k, fun hr => ?keys⟩⟩
  case frame =>
    subst hch hcode hseq
    have hrx : ((s.advance dt).rpd.dec line).rx = none := hrx
    have hframe := remoteFrame_idle hrx bits
    have hgood : ∀ k, remoteKey (bits.toNat / 4 % 64) = some k → bits.toNat / 256 = s.rpd.channel ∨ bits.toNat / 256 = 15 →
        remoteFrame line bits (s.advance dt) = (s.advance dt).goodFrame line k (bits.toNat % 4) :=
      fun k hk hch => remoteFrame_known hrx hk hch
    refine ⟨fun hno => ?_, fun h1 h2 h3 h4 => ?_, fun k hk hch => ⟨fun hnew => ?_, fun hsame hheld => ?_, fun x hsame hheld hne => ?_,
      fun x hsame hheld heq hwait => ?_⟩, ?_⟩
    · exact next_take hp (hframe.trans (completeFrame_unknown (remoteKey_none hno) line))
    · obtain ⟨k, hk⟩ := remoteKey_isSome h1 h2
      exact next_take hp (hframe.trans ((completeFrame_known hk line).trans (if_neg (not_or.mpr ⟨h3, h4⟩))))
    · obtain ⟨z, hz⟩ : ∃ z, z = ((s.advance dt).count .remGood).setDec line { (s.advance dt).rpd.dec line with
          lastSeq := some (bits.toNat % 4)
          held := some { key := k, pressed := (s.advance dt).now, releaseDue := (s.advance dt).now + 250000
                         repeats := (s.advance dt).repeatsOn .REMOTE k } } := ⟨_, rfl⟩
      have hform : remoteFrame line bits (s.advance dt) = z.key .REMOTE k :=
        (hgood k hk hch).trans ((goodFrame_new (s := s.advance dt) hnew).trans (remotePress_parts line k _ hz))
      have hzaq : z.aq = s.aq := by simp [hz]
      have hzlki : z.lki = s.lki := by simp [hz]
      have hdec : (z.key .REMOTE k).rpd.dec line = z.rpd.dec line := by rw [(key_frame ..).2.2.2.2.1]
      have hzdec := congrArg (fun u : State => u.rpd.dec line) hz
      dsimp only at hzdec
      rw [dec_setDec] at hzdec
      obtain ⟨hjoins, hrefused, hignored⟩ := key_forward (z := z) (o := .REMOTE)
      rw [hzaq, hzlki] at hjoins hrefused hignored
      refine ⟨_, next_take hp hform, ?_, ?_, ?_, fun hk hr hm hlen => ?_, fun hk hr hm => ?_, fun hk hr => ?_⟩
      · simp [State.sameBut, hz]
      · rw [hdec, hzdec]
      · rw [hdec, hzdec]
        exact ⟨_, rfl⟩
      · rw [hk]
        exact hjoins hr hm hlen
      · rw [hk]
        obtain ⟨haq, hn⟩ := hrefused hr hm
        exact ⟨haq, hn.trans (notice_notices_congr (s.advance dt) z .REMOTE_REFUSED false (some 1) (by rw [hzlki]; exact ⟨rfl, rfl⟩) (by simp [hz]))⟩
      · rw [hk]
        exact hignored hr
    · exact next_take hp ((hgood k hk hch).trans (goodFrame_released (s := s.advance dt) k hsame hheld))
    · exact next_take hp ((hgood k hk hch).trans ((goodFrame_held (s := s.advance dt) k hsame hheld).trans (if_neg hne)))
    · have hwaits : ((s.advance dt).count .remGood).remoteHeld line x = _ := remoteHeld_waits (by simpa using hwait)
      refine next_take hp ((hgood k hk hch).trans ((goodFrame_held (s := s.advance dt) k hsame hheld).trans
        ((if_pos heq).trans (hwaits.trans ?_))))
      rw [dec_count]
      rfl
    · exact (next_take hp (remoteMalformed_ofFrame hrx bits)).trans (next_take hp rfl).symm
  case noStart =>
    have hno : startTime us = false := by
      simp only [startTime, Bool.and_eq_false_iff, decide_eq_false_iff_not]
      omega
    exact next_take hp (lineTime_noStart (s := s.advance dt) hrx hno)
  case opening =>
    have hyes : startTime start = true := by simp [startTime, h1, h2]
    have hstart := lineTime_start (s := s.advance dt) hrx hyes
    have htimes : judgeTime 0 (.high us) = .fails → remoteMalformed line [.low start, .high us] (s.advance dt) =
        ((s.advance dt).setDec line { (s.advance dt).rpd.dec line with rx := failedRx 0 (.high us) }).count .remMalformed := by
      intro hj
      rw [remoteMalformed, List.foldl_cons, hstart, List.foldl_cons, List.foldl_nil, reading_fails hj]
    refine ⟨fun h => ?_, fun h => ?_⟩
    · have hfails := judgeTime_opening (us := us) (by omega)
      have hrest : failedRx 0 (.high us) = none := if_neg (by simp [highTop]; omega)
      refine next_take hp ((htimes hfails).trans ?_)
      rw [hrest, setDec_idle (s.advance dt) line hrx]
    · have hfails := judgeTime_opening (us := us) (by omega)
      have hrest : failedRx 0 (.high us) = some .passing := if_pos (by simp [highTop]; omega)
      refine next_take hp ((htimes hfails).trans ?_)
      rw [hrest]
      rfl
  case passes =>
    have hform : remoteMalformed line [.low us] (s.advance dt) = (s.advance dt).lineTime line (.low us) := rfl
    exact next_take hp (hform.trans (lineTime_passing (s := s.advance dt) _ hrx))
  case badHigh =>
    have hfails := judgeTime_neither (us := us) (by omega) (by omega)
    have hrest : failedRx 2 (.high us) = some .passing := if_pos (by simp [highTop]; omega)
    refine next_take hp ((badHigh_then (s := s.advance dt) hrx hfails).trans ?_)
    rw [hrest, lineTime_passing _ (by simp), dec_count, setDec_count, setDec_setDec, dec_setDec]
    exact congrArg (fun u => State.count u .remMalformed) (setDec_idle (s.advance dt) line hrx)
  case longHigh =>
    have hfails := judgeTime_neither (us := us) (by omega) (by omega)
    have hrest : failedRx 2 (.high us) = none := if_neg (by simp [highTop]; omega)
    refine next_take hp ((badHigh_then (s := s.advance dt) hrx hfails).trans ?_)
    rw [hrest, setDec_idle (s.advance dt) line hrx, lineTime_start (by rw [dec_count]; exact hrx) (by simp [startTime, h2, h3]),
      State.reading, dec_count, setDec_count]
    rfl
  case release =>
    refine next_take hp ?_
    have hdue : ((s.advance dt).rpd.dec line).held.map HeldPress.releaseDue = some x.releaseDue := congrArg (Option.map _) hx
    rw [remoteReleaseExpiry, hdue, whenDue_some]
    rfl
  case press =>
    have hgood : remoteFrame line bits (s.advance dt) = (s.advance dt).goodFrame line k (bits.toNat % 4) :=
      remoteFrame_known (s := s.advance dt) hrx hk hch
    have hpress := remotePress_parts (s := s.advance dt) line k (bits.toNat % 4) rfl
    have hrep2 : (s.advance dt).repeatsOn .REMOTE k = rep := (repeatsOn_eq _ _ _).trans hrep.symm
    rw [hrep2] at hpress
    exact next_take hp (hgood.trans ((goodFrame_new (s := s.advance dt) hnew).trans hpress))
  case repeats =>
    subst hkey
    have hgood : remoteFrame line bits (s.advance dt) = (s.advance dt).goodFrame line x.key (bits.toNat % 4) :=
      remoteFrame_known (s := s.advance dt) hrx hk hch
    have hheldform : ((s.advance dt).count .remGood).remoteHeld line x = _ := remoteHeld_repeats hrepeats (by simpa using hdue)
    have hrep2 : ((s.advance dt).count .remGood).repeatsOn .REMOTE x.key = rep := by
      rw [repeatsOn_eq, hrep]
      simp
    rw [hrep2, dec_count] at hheldform
    exact next_take hp (hgood.trans ((goodFrame_held (s := s.advance dt) x.key hsame hheld).trans ((if_pos rfl).trans hheldform)))
  case keys =>
    refine ⟨fun code hk hm => refused_outside_local hr hk hm, fun code hk hm => refused_in_console hr hk hm,
      fun hm base hbase a ha => ?_, fun hk ho hpow => ?_, fun hk => ?_, fun hk => ?_, fun hm => ⟨fun hk => ?_, fun hk => ?_, fun hk => ?_,
        fun hk => ?_, fun hk => ⟨fun hst => ?_, fun hst => ?_, fun hst hfrom => ?_⟩, fun hk => ⟨fun p hptr hst => ?_, fun hno => ?_⟩⟩⟩
    · obtain rfl := hbase.trans (dimBase_eq s).symm
      rw [key_offers hr hm ha]
      exact offerKey_places hr o a
    · subst hk ho
      rw [key_wakes hr hpow]
      exact wake_parts hpow
    · subst hk
      exact key_always hr (.inr (.inl rfl))
    · subst hk
      rw [key_always hr (.inl rfl)]
      exact stopAll_stopped hr
    · subst hk
      exact key_outside_console hr hm (by simp)
    · subst hk
      exact key_outside_console hr hm (by simp)
    · subst hk
      rw [key_outside_console hr hm (by simp)]
      exact tapePlay_parts s
    · subst hk
      rw [key_outside_console hr hm (by simp)]
      exact tapeStop_parts s
    · subst hk
      rw [key_outside_console hr hm (by simp), pauseKey, if_neg (by rcases hst with h | h <;> simp [h])]
      exact pauseSeq_parts hst
    · subst hk
      rw [key_outside_console hr hm (by simp), pauseKey, if_neg (by rcases hst with h | h <;> simp [h])]
      exact pauseSeq_stands hst
    · subst hk
      rw [key_outside_console hr hm (by simp), pauseKey, if_pos hst]
      obtain ⟨⟨hgoes, hnone⟩, hrem⟩ := resumeSeq_awake hst hfrom
      exact ⟨by rcases hgoes with h | h | h <;> simp [h], hnone, hrem⟩
    · subst hk
      have hform : s.key o .ADVANCE = s.fire p false := (key_outside_console hr hm (by simp)).trans (advanceSeq_taken hptr hst)
      rw [hform]
      exact ⟨by simp [State.sameBut], fire_fires⟩
    · subst hk
      exact (key_outside_console hr hm (by simp)).trans (advanceSeq_refused hno)

end Sys2Proof.Machine
end

section
/-!
The panel (R171, R173 to R176).
-/

namespace Sys2Proof.Machine

/-! ## The records of the keys -/

theorem keyIdx_lt (k : Key) : keyIdx k < 15 := by cases k <;> decide

theorem panelKey_setPanel {s : State} (h : s.rpd.panel.length = 15) (k : Key) (r : PanelRec) : (s.setPanel k r).panelKey k = r := by
  have hlt : keyIdx k < s.rpd.panel.length := by
    rw [h]
    exact keyIdx_lt k
  unfold State.panelKey State.setPanel
  rw [State.setRpd_rpd, List.getD_eq_getElem?_getD, List.getElem?_set_self hlt]
  rfl

theorem panelKey_of_rpd {s t : State} (h : t.rpd = s.rpd) (k : Key) : t.panelKey k = s.panelKey k := by
  rw [State.panelKey, State.panelKey, h]

/-! ## The debounced levels (R173) -/

theorem debounced_same {s : State} {k : Key} (h : (s.panelKey k).closed = (s.panelKey k).down) :
    s.debounced k = s.setPanel k { s.panelKey k with debounce := none } := if_pos h

theorem debounced_released {s : State} {k : Key} (hc : (s.panelKey k).closed = false) (hd : (s.panelKey k).down = true) :
    s.debounced k = s.setPanel k { s.panelKey k with down := false, debounce := none, hold := false, nextRepeat := none } :=
  (if_neg (by simp [hc, hd])).trans (if_neg (by simp [hc]))

theorem debounced_pressed {s : State} {k : Key} (hc : (s.panelKey k).closed = true) (hd : (s.panelKey k).down = false) :
    s.debounced k = s.panelPress k := (if_neg (by simp [hc, hd])).trans (if_pos hc)

/-- R173: the panel as a press of `k` leaves it, before the press acts. -/
def State.pressed (s : State) (k : Key) : State :=
  s.setPanel k { s.panelKey k with
    down := true, debounce := none, pressed := s.now, hold := s.holdTimed k
    nextRepeat := if s.repeatsOn .PANEL k then some (s.now + repeatStart) else none }

theorem panelPress_eq (s : State) (k : Key) : s.panelPress k = (s.pressed k).panelEvent k := rfl

/-- R173 to R176: a press comes to AQ as its key, but for MODE, POWER and a LAMP in STANDBY. -/
theorem panelEvent_key {s : State} {k : Key} (hm : k ≠ .MODE) (hp : k ≠ .POWER) (hl : ¬(k = .LAMP ∧ s.thc.power = .STANDBY)) :
    s.panelEvent k = s.key .PANEL k := by
  unfold State.panelEvent
  split
  · exact absurd rfl hm
  · exact absurd rfl hp
  · exact if_neg (fun h => hl ⟨rfl, h⟩)
  · rfl

theorem panelEvent_silent {s : State} {k : Key} (h : k = .MODE ∨ k = .LAMP ∧ s.thc.power = .STANDBY) : s.panelEvent k = s := by
  rcases h with rfl | ⟨rfl, hp⟩
  · rfl
  · exact if_pos hp

theorem panelEvent_power (s : State) : s.panelEvent .POWER = if s.lki.resetting = false ∧ s.thc.power = .STANDBY then s.wake else s := by
  refine if_congr ?_ rfl rfl
  simp

theorem panelEvent_rest (s : State) (k : Key) : s.sameBut (s.panelEvent k) [.aq, .tmc, .lmc, .thc, .ttc, .ssq, .lki, .cnt, .sts] := by
  by_cases hq : k = .MODE ∨ k = .LAMP ∧ s.thc.power = .STANDBY
  · rw [panelEvent_silent hq]
    simp [State.sameBut]
  · by_cases hp : k = .POWER
    · subst hp
      rw [panelEvent_power]
      split
      · simp [State.sameBut]
      · simp [State.sameBut]
    · rw [panelEvent_key (fun h => hq (.inl h)) hp (fun h => hq (.inr h))]
      simp [State.sameBut]

theorem holdTimed_key {s : State} {k : Key} (hm : k ≠ .MODE) (hp : k ≠ .POWER) :
    s.holdTimed k = (decide (k = .STOP) && !s.lki.resetting) := by
  unfold State.holdTimed
  rw [Bool.and_comm]
  refine congrArg (· && _) ?_
  cases k <;> simp_all

theorem holdTimed_holds {s : State} {k : Key} (h : k = .MODE ∨ k = .POWER ∧ (s.thc.power = .ACTIVE ∨ s.lki.resetting = true)) :
    s.holdTimed k = !s.lki.resetting := by
  rcases h with rfl | ⟨rfl, h | h⟩
  · simp [State.holdTimed]
  · simp [State.holdTimed, h]
  · simp [State.holdTimed, h]

theorem repeatsOn_other {s : State} {o : Origin} {k : Key} (h : k = .MODE ∨ k = .POWER) : s.repeatsOn o k = false := by
  rcases h with rfl | rfl <;> rfl

/-! ## The moments of the timers -/

theorem panelDebounceExpiry_due {s : State} {k : Key} {due : Nat} (h : (s.panelKey k).debounce = some due) :
    panelDebounceExpiry k s = (s.reach due).debounced k := by
  rw [panelDebounceExpiry, h, whenDue_some]

theorem panelRepeatStep_due {s : State} {k : Key} {due : Nat} (h : (s.panelKey k).nextRepeat = some due) :
    panelRepeatStep k s = (s.reach due).panelRepeat k due := by
  rw [panelRepeatStep, h, whenDue_some]
  rfl

theorem holdDue_held {s : State} {k : Key} (h : (s.panelKey k).hold = true) (time : Nat) :
    s.holdDue k time = some ((s.panelKey k).pressed + time) := if_pos h

theorem holdDue_none {s : State} {k : Key} (h : (s.panelKey k).hold = false) (time : Nat) : s.holdDue k time = none :=
  if_neg (by simp [h])

/-! ## The MODE hold (R3, R174) -/

theorem modeHold_parts {s : State} (hr : s.lki.resetting = false) : s.sameBut s.modeHold [.aq, .lki, .cnt] ∧
    s.modeHold.now = s.now ∧ s.modeHold.aq.queue = s.aq.queue ∧
    s.modeHold.aq.mode = (match s.aq.mode with
      | .LOCAL => Mode.SHOW
      | .SHOW => .LOCAL
      | .CONSOLE => .CONSOLE) ∧
    (s.aq.mode = .CONSOLE → s.modeHold.lki.notices = (s.event .REMOTE_REFUSED (some 14)).lki.notices) := by
  have hform : s.modeHold = match s.aq.mode with
      | .LOCAL => s.setAq { s.aq with mode := .SHOW }
      | .SHOW => s.setAq { s.aq with mode := .LOCAL }
      | .CONSOLE => s.refuseKey .MODE := if_neg (by simp [hr])
  cases hm : s.aq.mode with
  | LOCAL =>
    rw [hm] at hform
    rw [hform]
    exact ⟨by simp [State.sameBut], rfl, rfl, rfl, fun h => absurd h (by decide)⟩
  | SHOW =>
    rw [hm] at hform
    rw [hform]
    exact ⟨by simp [State.sameBut], rfl, rfl, rfl, fun h => absurd h (by decide)⟩
  | CONSOLE =>
    rw [hm] at hform
    have hform : s.modeHold = (s.count .remRefused).event .REMOTE_REFUSED (some 14) := hform
    rw [hform]
    refine ⟨by simp [State.sameBut], by simp, by simp, by simp [hm], fun _ => ?_⟩
    exact notice_notices_congr s (s.count .remRefused) .REMOTE_REFUSED false (some 14) (by simp) (by simp)

end Sys2Proof.Machine
end

section
/-!
The panel keys by their lines, their repeat steps and their holds (R171, R173 to R176).
-/

namespace Sys2Proof.Machine

/-- R173: the press of a key whose line has closed. -/
theorem pressed_exec {s : State} {dt due : Nat} {k : Key} (hp : s.powered = true) (hd : (s.panelKey k).debounce = some due)
    (hc : (s.panelKey k).closed = true) (hu : (s.panelKey k).down = false) :
    exec (.panelDebounceExpiry dt k) s = .next ((((s.advance dt).reach due).pressed k).panelEvent k).finish :=
  next_take hp ((panelDebounceExpiry_due (s := s.advance dt) hd).trans
    (debounced_pressed (s := (s.advance dt).reach due) hc hu))

/-- Settles O43. -/
theorem panelKeysActByTheirLines : Obligations.PanelKeysActByTheirLines := by
  refine ⟨fun dt s hp hlen => ⟨fun k closed hc => ?line, fun k due hd => ⟨fun hsame => ?settled, fun hc hu => ?released, fun hc hu => ?down⟩,
      fun due hn hr => ?volume, fun hh hr => ?mode⟩,
    fun dt k s hp hlen rep hrep => ⟨fun due hd hc hu hm hpow hl => ?press, fun due hn => ?step⟩,
    fun dt s hp => ⟨fun k due hd hc hu hk => ?holds, fun due hd hc hu hst hlen => ?wakes, fun hh w hw => ?stop, fun k c hkc hno => ?idle⟩⟩
  case line =>
    refine next_take hp (if_neg ?_)
    change ¬(s.panelKey k).closed = closed
    rw [hc]
    cases closed <;> decide
  case settled =>
    exact next_take hp ((panelDebounceExpiry_due (s := s.advance dt) hd).trans (debounced_same (s := (s.advance dt).reach due) hsame))
  case released =>
    exact next_take hp ((panelDebounceExpiry_due (s := s.advance dt) hd).trans (debounced_released (s := (s.advance dt).reach due) hc hu))
  case down =>
    obtain ⟨z, hz⟩ : ∃ z, z = ((s.advance dt).reach due).pressed k := ⟨_, rfl⟩
    have hexec := pressed_exec (dt := dt) hp hd hc hu
    rw [← hz] at hexec
    have hrest := panelEvent_rest z k
    have hrpd : (z.panelEvent k).rpd = z.rpd := by
      simp only [State.sameBut] at hrest
      simp_all
    have hkey : (z.panelEvent k).panelKey k = z.panelKey k := panelKey_of_rpd hrpd k
    have hzkey := panelKey_setPanel (s := (s.advance dt).reach due) hlen k { s.panelKey k with
      down := true, debounce := none, pressed := max (s.now + dt) due, hold := ((s.advance dt).reach due).holdTimed k
      nextRepeat := if ((s.advance dt).reach due).repeatsOn .PANEL k then some (max (s.now + dt) due + repeatStart) else none }
    have hzkey : z.panelKey k = _ := (congrArg (fun u => State.panelKey u k) hz).trans hzkey
    have hzaq : z.aq = s.aq := by rw [hz]; rfl
    have hzlki : z.lki = s.lki := by rw [hz]; rfl
    have hzthc : z.thc = s.thc := by rw [hz]; rfl
    refine ⟨_, hexec, ?_, ?_, ?_, ?_, fun hk => ?_, fun hk hr => ?_, fun hk hr hm hq => ?_⟩
    · have hzsame : s.sameBut z [.rpd] := by
        rw [hz]
        simp [State.sameBut, State.pressed]
      simp only [State.sameBut] at hrest hzsame ⊢
      simp_all
    · rw [hkey, hzkey]
    · rw [hkey, hzkey]
    · rw [hkey, hzkey]
    · rw [panelEvent_silent (by rw [hzthc]; exact hk)]
      exact ⟨hzaq, hzlki, hzthc⟩
    · subst hk
      rw [panelEvent_power, hzlki, hzthc]
      cases hpow : s.thc.power with
      | ACTIVE =>
        rw [if_neg (by simp), hzthc]
        exact hpow
      | STANDBY =>
        rw [if_pos ⟨hr, rfl⟩, (wake_parts (by rw [hzthc]; exact hpow)).2.1]
    · subst hk
      rw [panelEvent_key (by decide) (by decide) (by simp)]
      obtain ⟨hjoins, -, -⟩ := key_forward (z := z) (o := .PANEL)
      rw [hzaq, hzlki] at hjoins
      exact hjoins hr hm hq
  case volume =>
    obtain ⟨z, hz⟩ : ∃ z, z = ((s.advance dt).reach due).setPanel .VOL_UP { s.panelKey .VOL_UP with
        nextRepeat := if ((s.advance dt).reach due).repeatsOn .PANEL .VOL_UP then some (due + 100000) else none } := ⟨_, rfl⟩
    have hform : panelRepeatStep .VOL_UP (s.advance dt) = z.key .PANEL .VOL_UP := by
      rw [hz]
      exact panelRepeatStep_due (s := s.advance dt) hn
    have hzkey : z.panelKey .VOL_UP = _ := (congrArg (fun u => State.panelKey u .VOL_UP) hz).trans
      (panelKey_setPanel (s := (s.advance dt).reach due) hlen .VOL_UP _)
    have hkey : (z.key .PANEL .VOL_UP).panelKey .VOL_UP = z.panelKey .VOL_UP := panelKey_of_rpd (by simp) .VOL_UP
    have hzr : z.lki.resetting = false := by rw [hz]; exact hr
    have hzm : z.aq.mode = s.aq.mode := by rw [hz]; rfl
    have hzt : z.ttc = s.ttc := by rw [hz]; rfl
    have hrep := repeatsOn_eq ((s.advance dt).reach due) .PANEL .VOL_UP
    have hrep : ((s.advance dt).reach due).repeatsOn .PANEL .VOL_UP = (s.aq.mode != .CONSOLE) := by
      rw [hrep]
      change (true && !s.lki.resetting && (s.aq.mode != .CONSOLE)) = _
      rw [hr]
      rfl
    have hzsame : s.sameBut z [.rpd] := by
      rw [hz]
      simp [State.sameBut]
    refine ⟨_, next_take hp hform, ?_, ?_, fun hm => ?_, fun hm => ?_⟩
    · by_cases hm : s.aq.mode = .CONSOLE
      · rw [refused_in_console hzr (.inr (.inr (.inl ⟨rfl, rfl⟩))) (by rw [hzm]; exact hm)]
        simp only [State.sameBut] at hzsame ⊢
        simp_all
      · rw [key_outside_console hzr (by rw [hzm]; exact hm) (by simp)]
        simp only [State.sameBut] at hzsame ⊢
        simp_all [State.acceptKey, State.setVolume]
    · simp [hz]
    · have hvol : z.key .PANEL .VOL_UP = z.setVolume (z.ttc.par.volTarget + 1) :=
        key_outside_console hzr (by rw [hzm]; exact hm) (by simp)
      rw [hkey, hzkey, hrep, if_pos (by simpa using hm), hvol, hzt]
      exact ⟨by simp [State.setVolume], rfl⟩
    · have hvol := refused_in_console (o := .PANEL) hzr (.inr (.inr (.inl ⟨rfl, rfl⟩))) (hzm.trans hm)
      rw [hkey, hzkey, hrep, if_neg (by simp [hm]), hvol]
      exact ⟨by simpa using hzt, rfl⟩
  case mode =>
    have hdue := holdDue_held (s := s.advance dt) hh (sec 2)
    obtain ⟨z, hz⟩ : ∃ z, z = ((s.advance dt).reach ((s.panelKey .MODE).pressed + 2000000)).holdReported .MODE := ⟨_, rfl⟩
    have hform : panelModeHold (s.advance dt) = z.modeHold := by
      rw [panelModeHold, hdue, whenDue_some, hz]
      rfl
    have hzr : z.lki.resetting = false := by rw [hz]; exact hr
    have hzaq : z.aq = s.aq := by rw [hz]; rfl
    obtain ⟨hsame, hnow, hqueue, hmode, hnotices⟩ := modeHold_parts hzr
    rw [hzaq] at hqueue hmode hnotices
    have hzsame : s.sameBut z [.rpd] := by
      rw [hz]
      simp [State.sameBut]
    have hrpd : z.modeHold.rpd = z.rpd := by
      simp only [State.sameBut] at hsame
      simp_all
    refine ⟨_, next_take hp hform, ?_, ?_, ?_, hmode, hqueue, fun hm => ?_⟩
    · simp only [State.sameBut] at hsame hzsame ⊢
      simp_all
    · rw [hnow, hz]
      rfl
    · rw [panelKey_of_rpd hrpd, hz]
      exact setPanel_hold rfl
    · refine (hnotices hm).trans (notice_notices_congr _ z .REMOTE_REFUSED false (some 14) ?_ ?_)
      · rw [hz]
        exact ⟨rfl, rfl⟩
      · rw [hz]
        rfl
  case press =>
    have hexec := pressed_exec (dt := dt) hp hd hc hu
    have hevent := panelEvent_key (s := ((s.advance dt).reach due).pressed k) hm hpow hl
    have hrep2 : ((s.advance dt).reach due).repeatsOn .PANEL k = rep := (repeatsOn_eq _ _ _).trans hrep.symm
    have hhold : ((s.advance dt).reach due).holdTimed k = (decide (k = .STOP) && !s.lki.resetting) := holdTimed_key hm hpow
    rw [hevent, State.pressed, hrep2, hhold] at hexec
    exact hexec
  case step =>
    have hrep2 : ((s.advance dt).reach due).repeatsOn .PANEL k = rep := (repeatsOn_eq _ _ _).trans hrep.symm
    have hform := panelRepeatStep_due (s := s.advance dt) hn
    rw [State.panelRepeat, hrep2] at hform
    exact next_take hp hform
  case holds =>
    have hexec := pressed_exec (dt := dt) hp hd hc hu
    have hkey : k = .MODE ∨ k = .POWER := hk.elim .inl (fun h => .inr h.1)
    have hrep2 : ((s.advance dt).reach due).repeatsOn .PANEL k = false := repeatsOn_other hkey
    have hhold : ((s.advance dt).reach due).holdTimed k = !s.lki.resetting := holdTimed_holds hk
    have hevent : (((s.advance dt).reach due).pressed k).panelEvent k = ((s.advance dt).reach due).pressed k := by
      rcases hk with rfl | ⟨rfl, hor⟩
      · rfl
      · rw [panelEvent_power]
        refine if_neg ?_
        rintro ⟨hres, hst⟩
        rcases hor with hact | hor
        · exact absurd (hact.symm.trans hst) (by decide)
        · exact absurd (hor.symm.trans hres) (by decide)
    rw [hevent, State.pressed, hrep2, hhold] at hexec
    exact hexec
  case wakes =>
    have hexec := pressed_exec (dt := dt) hp hd hc hu
    have hrest := panelEvent_rest (((s.advance dt).reach due).pressed .POWER) .POWER
    have hrpd : ((((s.advance dt).reach due).pressed .POWER).panelEvent .POWER).rpd = (((s.advance dt).reach due).pressed .POWER).rpd := by
      simp only [State.sameBut] at hrest
      simp_all
    have hkey := panelKey_of_rpd hrpd .POWER
    have hzkey := panelKey_setPanel (s := (s.advance dt).reach due) hlen .POWER { s.panelKey .POWER with
      down := true, debounce := none, pressed := max (s.now + dt) due, hold := ((s.advance dt).reach due).holdTimed .POWER
      nextRepeat := if ((s.advance dt).reach due).repeatsOn .PANEL .POWER then some (max (s.now + dt) due + repeatStart) else none }
    have hboth := hkey.trans hzkey
    refine ⟨_, hexec, ?_, ?_⟩
    · rw [hboth]
      change (!s.lki.resetting && (false || false || (true && s.thc.power == .ACTIVE))) = false
      rw [hst]
      simp
    · rw [hboth]
  case stop =>
    have hdue := holdDue_held (s := s.advance dt) hh (sec 2)
    have hform : panelStopHold (s.advance dt) = w.stopHold := by
      rw [panelStopHold, hdue, whenDue_some, hw]
      rfl
    refine ⟨fun hr hj hm => ?_, fun hno => ?_⟩
    · refine next_take hp (hform.trans ((if_neg ?_).trans ((if_pos ?_).trans rfl)))
      · rw [hw]
        change ¬(s.lki.resetting || s.tmc.st != .JAMMED) = true
        simp [hr, hj]
      · rw [hw]
        exact hm
    · refine next_take hp (hform.trans (if_pos ?_))
      rw [hw]
      change (s.lki.resetting || s.tmc.st != .JAMMED) = true
      rcases hno with hno | hno <;> simp [hno]
  case idle =>
    rcases hkc with ⟨rfl, rfl⟩ | ⟨rfl, rfl⟩ | ⟨rfl, rfl⟩
    · refine next_take hp ?_
      rw [panelModeHold, holdDue_none (s := s.advance dt) hno, whenDue_none]
    · refine next_take hp ?_
      rw [panelStopHold, holdDue_none (s := s.advance dt) hno, whenDue_none]
    · refine next_take hp ?_
      rw [panelPowerHold, holdDue_none (s := s.advance dt) hno, whenDue_none]

end Sys2Proof.Machine
end

section
/-!
R180, R182: what a request does, but for its response, does not depend on the address of the station nor on the response
that is pending; so a broadcast does what the same request does that is addressed to the station.
-/

namespace Sys2Proof.Machine

/-! ## The address and the response, laid over a state -/

/-- The state with the address `a` and the response `p`. -/
def State.over (s : State) (a : AddrState) (p : RespState) : State := s.setLki { s.lki with addr := a, resp := p }

section
variable (s : State) (a : AddrState) (p : RespState)

@[simp] theorem over_powered : (s.over a p).powered = s.powered := rfl
@[simp] theorem over_now : (s.over a p).now = s.now := rfl
@[simp] theorem over_free : (s.over a p).free = s.free := rfl
@[simp] theorem over_pending : (s.over a p).pending = s.pending := rfl
@[simp] theorem over_aq : (s.over a p).aq = s.aq := rfl
@[simp] theorem over_tmc : (s.over a p).tmc = s.tmc := rfl
@[simp] theorem over_lmc : (s.over a p).lmc = s.lmc := rfl
@[simp] theorem over_thc : (s.over a p).thc = s.thc := rfl
@[simp] theorem over_ttc : (s.over a p).ttc = s.ttc := rfl
@[simp] theorem over_cud : (s.over a p).cud = s.cud := rfl
@[simp] theorem over_ssq : (s.over a p).ssq = s.ssq := rfl
@[simp] theorem over_rpd : (s.over a p).rpd = s.rpd := rfl
@[simp] theorem over_cnt : (s.over a p).cnt = s.cnt := rfl
@[simp] theorem over_sts : (s.over a p).sts = s.sts := rfl
@[simp] theorem over_resetting : (s.over a p).lki.resetting = s.lki.resetting := rfl
@[simp] theorem over_copies : (s.over a p).lki.copies = s.lki.copies := rfl
@[simp] theorem over_enables : (s.over a p).lki.enables = s.lki.enables := rfl
@[simp] theorem over_notices : (s.over a p).lki.notices = s.lki.notices := rfl
@[simp] theorem over_room : (s.over a p).room = s.room := rfl

@[simp] theorem over_enabled (k : NoticeKind) : (s.over a p).lki.enabled k = s.lki.enabled k := rfl
@[simp] theorem over_stamp : (s.over a p).stamp = s.stamp := rfl
@[simp] theorem over_tapeRefused (op : TapeOp) : (s.over a p).tapeRefused op = s.tapeRefused op := rfl
@[simp] theorem over_ignitionRefused : (s.over a p).ignitionRefused = s.ignitionRefused := rfl
@[simp] theorem over_advanceTaken : (s.over a p).advanceTaken = s.advanceTaken := rfl
@[simp] theorem over_cooldownMet : (s.over a p).cooldownMet = s.cooldownMet := rfl
@[simp] theorem over_followStart : (s.over a p).followStart = s.followStart := rfl
@[simp] theorem over_headMove : (s.over a p).headMove = s.headMove := rfl
@[simp] theorem over_storedSettings : (s.over a p).storedSettings = s.storedSettings := rfl

@[simp] theorem setAq_over (x : Aq) : (s.over a p).setAq x = (s.setAq x).over a p := rfl
@[simp] theorem setTmc_over (x : Tmc) : (s.over a p).setTmc x = (s.setTmc x).over a p := rfl
@[simp] theorem setLmc_over (x : Lmc) : (s.over a p).setLmc x = (s.setLmc x).over a p := rfl
@[simp] theorem setThc_over (x : Thc) : (s.over a p).setThc x = (s.setThc x).over a p := rfl
@[simp] theorem setTtc_over (x : Ttc) : (s.over a p).setTtc x = (s.setTtc x).over a p := rfl
@[simp] theorem setCud_over (x : Cud) : (s.over a p).setCud x = (s.setCud x).over a p := rfl
@[simp] theorem setSsq_over (x : Ssq) : (s.over a p).setSsq x = (s.setSsq x).over a p := rfl
@[simp] theorem setRpd_over (x : Rpd) : (s.over a p).setRpd x = (s.setRpd x).over a p := rfl
@[simp] theorem setCnt_over (x : Cnt) : (s.over a p).setCnt x = (s.setCnt x).over a p := rfl
@[simp] theorem setSts_over (x : Sts) : (s.over a p).setSts x = (s.setSts x).over a p := rfl
@[simp] theorem setFree_over (n : Nat) : (s.over a p).setFree n = (s.setFree n).over a p := rfl

theorem ite_over {c : Prop} {_ : Decidable c} (t u : State) :
    (if c then t else u).over a p = if c then t.over a p else u.over a p := apply_ite (fun v => State.over v a p) c t u

theorem join_over (n : Notice) :
    (s.over a p).setLki ((s.over a p).lki.join n) = (s.setLki (s.lki.join n)).over a p := by
  unfold Lki.join
  by_cases hn : s.lki.notices.length < noticePlaces
  · simp [State.over, hn]
  · simp [State.over, hn]

/-! ## Parameters, notices and conditions -/

@[simp] theorem setTmcPar_over (q : TmcParams) : (s.over a p).setTmcPar q = (s.setTmcPar q).over a p := rfl

@[simp] theorem evalPacing_over : (s.over a p).evalPacing = s.evalPacing.over a p := rfl

@[simp] theorem notice_over (k : NoticeKind) (clear : Bool) (subject : Option Nat) :
    (s.over a p).notice k clear subject = (s.notice k clear subject).over a p := by
  unfold State.notice
  rw [ite_over]
  simp only [over_enabled, over_stamp, join_over]

@[simp] theorem condNotice_over (k : NoticeKind) (v : Bool) (subject : Option Nat) :
    (s.over a p).condNotice k v subject = (s.condNotice k v subject).over a p := by
  simp [State.condNotice]

@[simp] theorem clearMatch_over (subject : Option Nat) :
    (s.over a p).clearMatch subject = (s.clearMatch subject).over a p := by
  simp [State.clearMatch, ite_over]

@[simp] theorem setLmcPar_over (q : LmcParams) : (s.over a p).setLmcPar q = (s.setLmcPar q).over a p := rfl

@[simp] theorem evalLife_over (q : LampPos) : (s.over a p).evalLife q = (s.evalLife q).over a p := by
  simp [State.evalLife, ite_over]

@[simp] theorem evalNoLamp_over : (s.over a p).evalNoLamp = s.evalNoLamp.over a p := by
  simp [State.evalNoLamp, ite_over]

@[simp] theorem setThcPar_over (q : ThcParams) : (s.over a p).setThcPar q = (s.setThcPar q).over a p := rfl

@[simp] theorem recomputeFan_over : (s.over a p).recomputeFan = s.recomputeFan.over a p := rfl

@[simp] theorem cooldownOff_over : (s.over a p).cooldownOff = s.cooldownOff.over a p := by
  simp [State.cooldownOff, ite_over]

@[simp] theorem cooldownTest_over : (s.over a p).cooldownTest = s.cooldownTest.over a p := by
  simp [State.cooldownTest, ite_over]

@[simp] theorem lowerCeiling_over : (s.over a p).lowerCeiling = s.lowerCeiling.over a p := by
  simp [State.lowerCeiling, ite_over]
  rfl

@[simp] theorem setTtcPar_over (q : TtcParams) : (s.over a p).setTtcPar q = (s.setTtcPar q).over a p := rfl

@[simp] theorem setVolume_over (v : Nat) : (s.over a p).setVolume v = (s.setVolume v).over a p := rfl

@[simp] theorem event_over (k : NoticeKind) (subject : Option Nat) :
    (s.over a p).event k subject = (s.event k subject).over a p := by
  simp [State.event]

@[simp] theorem count_over (c : Ctr) : (s.over a p).count c = (s.count c).over a p := rfl

@[simp] theorem leaveSync_over : (s.over a p).leaveSync = s.leaveSync.over a p := by
  simp [State.leaveSync]

@[simp] theorem evalSpeedTimer_over : (s.over a p).evalSpeedTimer = s.evalSpeedTimer.over a p := rfl

@[simp] theorem clearSpeedOff_over : (s.over a p).clearSpeedOff = s.clearSpeedOff.over a p := by
  simp [State.clearSpeedOff, ite_over]

@[simp] theorem evalSpeed_over : (s.over a p).evalSpeed = s.evalSpeed.over a p := by
  unfold State.evalSpeed
  cases hf : speedFar s.cud.speed <;> simp [hf]

@[simp] theorem loseCarrier_over : (s.over a p).loseCarrier = s.loseCarrier.over a p := by
  unfold State.loseCarrier
  by_cases hf : s.cud.framing = .SYNC <;> simp [hf]

@[simp] theorem setSource_over (v : CueSource) : (s.over a p).setSource v = (s.setSource v).over a p := by
  simp [State.setSource, ite_over]

@[simp] theorem startCueOut_over : (s.over a p).startCueOut = s.startCueOut.over a p := by
  simp [State.startCueOut, ite_over]
  rfl

@[simp] theorem setRelay_over (v : Bool) : (s.over a p).setRelay v = (s.setRelay v).over a p := by
  simp [State.setRelay, ite_over]

@[simp] theorem setCudPar_over (q : CudParams) : (s.over a p).setCudPar q = (s.setCudPar q).over a p := rfl

@[simp] theorem setChannel_over (v : Nat) : (s.over a p).setChannel v = (s.setChannel v).over a p := rfl

@[simp] theorem setInterval_over (n : Nat) : (s.over a p).setInterval n = (s.setInterval n).over a p := rfl

@[simp] theorem enqueue_over (es : List Entry) : (s.over a p).enqueue es = (s.enqueue es).over a p := rfl

@[simp] theorem setTransport_over (t : Transport) : (s.over a p).setTransport t = (s.setTransport t).over a p := by
  simp [State.setTransport, ite_over]
  rfl

@[simp] theorem seqPause_over : (s.over a p).seqPause = s.seqPause.over a p := by
  simp [State.seqPause, ite_over]

@[simp] theorem pauseSeq_over : (s.over a p).pauseSeq = s.pauseSeq.over a p := by
  unfold State.pauseSeq
  by_cases hs : s.ssq.st = .READY ∨ s.ssq.st = .RUNNING
  · by_cases hl : s.cud.par.source = .LOCAL_TAPE <;> simp [hs, hl]
  · simp [hs]

@[simp] theorem tape_over (op : TapeOp) : (s.over a p).tape op = (s.tape op).over a p := by
  simp [State.tape, ite_over]

@[simp] theorem truncate_over : (s.over a p).truncate = s.truncate.over a p := by
  simp [State.truncate, ite_over]
  rfl

@[simp] theorem endRunning_over (e : Entry) : (s.over a p).endRunning e = (s.endRunning e).over a p := by
  unfold State.endRunning
  split <;> simp

/-! ## The action queue and the sequence -/

@[simp] theorem flushQueue_over (cover : Entry → Bool) (jam : Bool) :
    (s.over a p).flushQueue cover jam = (s.flushQueue cover jam).over a p := by
  unfold State.flushQueue
  cases hq : s.aq.queue with
  | nil => simp [hq]
  | cons e q =>
    cases he : e.running && cover e && !(jam && e.action.mech) <;>
      simp only [hq, he, over_aq, endRunning_over, setAq_over, if_true, Bool.false_eq_true, if_false]

@[simp] theorem resetEnd_over : (s.over a p).resetEnd = s.resetEnd.over a p := by
  unfold State.resetEnd
  rw [ite_over, ← event_over]
  rfl

@[simp] theorem endTest_over : (s.over a p).endTest = s.endTest.over a p := by
  simp [State.endTest, ite_over]

@[simp] theorem fireCore_over (j : Nat) (chase : Bool) :
    (s.over a p).fireCore j chase = (s.fireCore j chase).over a p := by
  rw [fireCore_form j rfl, fireCore_form j rfl, ← setSsq_over, ite_over, ← enqueue_over]
  rfl

@[simp] theorem checks_over (n : Nat) : State.checks n (s.over a p) = (State.checks n s).over a p := by
  induction n generalizing s with
  | zero =>
    simp only [State.checks, over_followStart]
    split <;> simp
  | succ n ih =>
    simp only [State.checks, over_followStart, over_ssq, over_aq]
    split
    · exact endTest_over s a p
    · split <;> simp [ite_over, ih]

@[simp] theorem offerPending_over : (s.over a p).offerPending = s.offerPending.over a p := by
  unfold State.offerPending
  simp only [over_ssq, over_room]
  split
  · simp only [ite_over, enqueue_over, setSsq_over]
    rfl
  · rfl

@[simp] theorem takeReport_over : (s.over a p).takeReport = s.takeReport.over a p :=
  (congrArg (State.checks followFuel) (offerPending_over s a p)).trans (checks_over _ a p followFuel)

@[simp] theorem report_over (rep : Bool) (tag : Option Nat) (m : Manner) :
    (s.over a p).report rep tag m = (s.report rep tag m).over a p := by
  simp [State.report, ite_over]

@[simp] theorem reportAll_over (rep : Bool) (l : List (Option Nat × Manner)) :
    (s.over a p).reportAll rep l = (s.reportAll rep l).over a p := by
  unfold State.reportAll
  induction l generalizing s with
  | nil => rfl
  | cons d l ih => simp [ih]

@[simp] theorem flushReported_over (cover : Entry → Bool) (jam : Bool) (rep : Bool) :
    (s.over a p).flushReported cover jam rep = (s.flushReported cover jam rep).over a p := by
  simp [State.flushReported]

@[simp] theorem flush_over (cover : Entry → Bool) (jam : Bool) (rep : Bool) :
    (s.over a p).flush cover jam rep = (s.flush cover jam rep).over a p := by
  simp [State.flush, ite_over]

@[simp] theorem stopAll_over : (s.over a p).stopAll = s.stopAll.over a p := by
  simp [State.stopAll, ite_over]

/-! ## The head of the queue -/

@[simp] theorem startRamp_over (target : Nat) (time : Nat) (curve : Curve) :
    (s.over a p).startRamp target time curve = (s.startRamp target time curve).over a p := rfl

@[simp] theorem setMech_over (st : MechState) : (s.over a p).setMech st = (s.setMech st).over a p := rfl

@[simp] theorem beginCycle_over (st : MechState) : (s.over a p).beginCycle st = (s.beginCycle st).over a p := rfl

@[simp] theorem startChange_over (d : Dir) : (s.over a p).startChange d = (s.startChange d).over a p := rfl

@[simp] theorem startSeek_over (target : Nat) : (s.over a p).startSeek target = (s.startSeek target).over a p := rfl

@[simp] theorem cooldownOn_over (trip : Bool) : (s.over a p).cooldownOn trip = (s.cooldownOn trip).over a p := by
  unfold State.cooldownOn
  simp only [over_thc]
  split <;> simp

@[simp] theorem coolReport_over (new : Power) (trip : Bool) :
    (s.over a p).coolReport new trip = (s.coolReport new trip).over a p := by
  unfold State.coolReport
  cases new with
  | OFF => simp
  | LIT => simp
  | IGNITING | SWAPPING =>
    cases hc : s.thc.cooldown with
    | none => simp [hc]
    | some c => by_cases ht : c.trip <;> simp [hc, ht]

@[simp] theorem beginSave_over (full : Bool) : (s.over a p).beginSave full = (s.beginSave full).over a p := rfl

@[simp] theorem autoSave_over : (s.over a p).autoSave = s.autoSave.over a p := by
  simp [State.autoSave, ite_over]
  rfl

@[simp] theorem storeReport_over (old : Power) (new : Power) :
    (s.over a p).storeReport old new = (s.storeReport old new).over a p := by
  unfold State.storeReport
  split <;> simp [ite_over]

@[simp] theorem setPower_over (q : Power) (trip : Bool) :
    (s.over a p).setPower q trip = (s.setPower q trip).over a p := by
  simp [State.setPower, ite_over]

@[simp] theorem lampOff_over (trip : Bool) : (s.over a p).lampOff trip = (s.lampOff trip).over a p := by
  simp [State.lampOff, ite_over]

@[simp] theorem enterIgniting_over : (s.over a p).enterIgniting = s.enterIgniting.over a p := by
  simp [State.enterIgniting, ite_over]

@[simp] theorem beginMotion_over : (s.over a p).beginMotion = s.beginMotion.over a p := rfl

@[simp] theorem ignite_over : (s.over a p).ignite = s.ignite.over a p := by
  unfold State.ignite
  simp only [ite_over, over_lmc, over_ignitionRefused, setPower_over, enterIgniting_over, beginMotion_over, count_over]
  rfl

@[simp] theorem setManual_over (v : Bool) : (s.over a p).setManual v = (s.setManual v).over a p := rfl

@[simp] theorem startEffect_over (e : Entry) : (s.over a p).startEffect e = (s.startEffect e).over a p := by
  unfold State.startEffect
  split <;> simp [ite_over]

@[simp] theorem startHead_over (e : Entry) : (s.over a p).startHead e = (s.startHead e).over a p := by
  simp [State.startHead]

@[simp] theorem stoppedIfPending_over : (s.over a p).stoppedIfPending = s.stoppedIfPending.over a p := by
  simp [State.stoppedIfPending, ite_over]

@[simp] theorem depart_over (e : Entry) (dropped : Bool) (rep : Bool) :
    (s.over a p).depart e dropped rep = (s.depart e dropped rep).over a p := by
  unfold State.depart
  cases dropped <;> cases e.running <;> simp

@[simp] theorem settle_over (n : Nat) (rep : Bool) :
    State.settle n rep (s.over a p) = (State.settle n rep s).over a p := by
  induction n generalizing s with
  | zero => rfl
  | succ n ih =>
    simp only [State.settle, over_headMove]
    split
    · rfl
    · rw [startHead_over, ih]
    · rw [depart_over, ih]

@[simp] theorem runHead_over : (s.over a p).runHead = s.runHead.over a p :=
  settle_over s a p runnerFuel true

@[simp] theorem followTest_over : (s.over a p).followTest = s.followTest.over a p := by
  unfold State.followTest
  rw [ite_over, ← checks_over]
  rfl

/-! ## Cues, pauses and resets -/

@[simp] theorem seqResume_over : (s.over a p).seqResume = s.seqResume.over a p := by
  simp [State.seqResume, ite_over]

@[simp] theorem runHeadQuiet_over : (s.over a p).runHeadQuiet = s.runHeadQuiet.over a p :=
  settle_over s a p runnerFuel false

@[simp] theorem fire_over (j : Nat) (chase : Bool) : (s.over a p).fire j chase = (s.fire j chase).over a p :=
  (congrArg (State.checks followFuel) (fireCore_over s a p j chase)).trans (checks_over _ a p followFuel)

@[simp] theorem chase_over (j : Nat) (h : Nat) : (s.over a p).chase j h = (s.chase j h).over a p := by
  unfold State.chase
  cases hp : (s.flush coverTagged false false).runHeadQuiet.ssq.pend <;> simp [hp]

@[simp] theorem chaseCue_over (n : Nat) (start : Nat) (fromHead : Bool) :
    (s.over a p).chaseCue n start fromHead = (s.chaseCue n start fromHead).over a p := by
  unfold State.chaseCue
  simp only [over_ssq]
  split <;> simp

@[simp] theorem seqCue_over (n : Nat) : (s.over a p).seqCue n = (s.seqCue n).over a p := by
  unfold State.seqCue
  cases hs : s.ssq.st with
  | UNLOADED => simp [hs]
  | ENDED => simp [hs]
  | PAUSED => simp [hs]
  | READY | RUNNING => cases hp : s.ssq.ptr <;> simp [hs, hp, ite_over]

@[simp] theorem judgeRemembered_over : (s.over a p).judgeRemembered = s.judgeRemembered.over a p := by
  unfold State.judgeRemembered
  simp only [over_ssq]
  split
  · rfl
  · by_cases hm : s.aq.mode = .SHOW <;> simp [hm]

@[simp] theorem resumeSeq_over : (s.over a p).resumeSeq = s.resumeSeq.over a p := by
  simp [State.resumeSeq, ite_over]

@[simp] theorem advanceSeq_over : (s.over a p).advanceSeq = s.advanceSeq.over a p := by
  unfold State.advanceSeq
  simp only [over_ssq, over_advanceTaken]
  split <;> simp [ite_over]

@[simp] theorem startHoming_over : (s.over a p).startHoming = s.startHoming.over a p := rfl

@[simp] theorem standby_over : (s.over a p).standby = s.standby.over a p := by
  simp [State.standby, ite_over]

@[simp] theorem wake_over : (s.over a p).wake = s.wake.over a p := by
  unfold State.wake
  simp only [ite_over]
  rfl

@[simp] theorem snapshot_over : (s.over a p).snapshot = s.snapshot.over a p := rfl

@[simp] theorem afterWrite_over : (s.over a p).afterWrite = s.afterWrite.over a p := by
  simp [State.afterWrite, ite_over]
  rfl

@[simp] theorem writeStep_over (i : Nat) (r : StepRec) :
    (s.over a p).writeStep i r = (s.writeStep i r).over a p := rfl

@[simp] theorem armSeq_over (head : Nat) : (s.over a p).armSeq head = (s.armSeq head).over a p := by
  unfold State.armSeq
  by_cases hs : s.ssq.st = .RUNNING ∨ s.ssq.st = .PAUSED <;> simp [hs]

@[simp] theorem resetLampRec_over (q : LampPos) : (s.over a p).resetLampRec q = (s.resetLampRec q).over a p := by
  simp [State.resetLampRec]

@[simp] theorem resetMech_over : (s.over a p).resetMech = s.resetMech.over a p := by
  simp [State.resetMech, ite_over]

@[simp] theorem resetQueue_over : (s.over a p).resetQueue = s.resetQueue.over a p := by
  simp [State.resetQueue]

@[simp] theorem resetRemote_over : (s.over a p).resetRemote = s.resetRemote.over a p := rfl

@[simp] theorem clearDegraded_over : (s.over a p).clearDegraded = s.clearDegraded.over a p := by
  simp [State.clearDegraded, ite_over]

@[simp] theorem resetCue_over : (s.over a p).resetCue = s.resetCue.over a p := by
  unfold State.resetCue
  by_cases hf : s.cud.framing = .SYNC <;> simp [hf]

@[simp] theorem resetTape_over : (s.over a p).resetTape = s.resetTape.over a p := by
  unfold State.resetTape
  simp only [over_ttc]
  split <;> simp

@[simp] theorem resetShow_over : (s.over a p).resetShow = s.resetShow.over a p := rfl

@[simp] theorem resetLampBlock_over : (s.over a p).resetLampBlock = s.resetLampBlock.over a p := rfl

@[simp] theorem unitReset_over : (s.over a p).unitReset = s.unitReset.over a p := by
  unfold State.unitReset
  simp only [← resetEnd_over, ← runHead_over, ← resetMech_over, ← resetQueue_over, ← resetRemote_over, ← resetCue_over,
    ← resetTape_over, ← resetShow_over, ← resetLampBlock_over]
  rfl

end

end Sys2Proof.Machine
end

section
/-!
R180, R182: a request that neither reads the mode report nor assigns the address does the same whatever the address and the
pending response are.
-/

namespace Sys2Proof.Machine

/-! ## Values of parameters -/

/-- The value that a SET finds, with the address `a` and the response `p`. -/
def SetResult.over (a : AddrState) (p : RespState) : SetResult → SetResult
  | .done s v => .done (s.over a p) v
  | .bad v => .bad v
  | .noValue => .noValue
  | .unknown => .unknown

section
variable (s : State) (a : AddrState) (p : RespState)

theorem ite_result_over {c : Prop} {_ : Decidable c} (x y : SetResult) :
    (if c then x else y).over a p = if c then x.over a p else y.over a p := apply_ite (SetResult.over a p) c x y

@[simp] theorem unknown_over : SetResult.unknown.over a p = .unknown := rfl

@[simp] theorem setEnum_over {α : Type} (l : List α) (v : Int) (kept : Nat) (f : α → State) :
    setEnum l v kept (fun m => (f m).over a p) = (setEnum l v kept f).over a p := by
  unfold setEnum
  rw [ite_result_over]
  split
  · rfl
  · cases l[v.toNat]? <;> rfl

@[simp] theorem setNum_over (lo hi : Nat) (v : Int) (f : Nat → State) :
    setNum lo hi v (fun n => (f n).over a p) = (setNum lo hi v f).over a p := rfl

@[simp] theorem setFlag_over (v : Int) (kept : Bool) (f : Bool → State) :
    setFlag v kept (fun b => (f b).over a p) = (setFlag v kept f).over a p := by
  unfold setFlag
  rw [ite_result_over, ite_result_over]
  rfl

@[simp] theorem setPair_over (lo hi : Nat) (v : Int) (ok : Nat → Bool) (kept : Nat) (f : Nat → State) :
    setPair lo hi v ok kept (fun n => (f n).over a p) = (setPair lo hi v ok kept f).over a p := by
  unfold setPair
  rw [ite_result_over]
  rfl

@[simp] theorem setCompare_over (v : Int) : (s.over a p).setCompare v = (s.setCompare v).over a p := by
  unfold State.setCompare
  rw [ite_result_over, ← setNum_over]
  simp [SetResult.over]

@[simp] theorem setTable_over (i : Nat) (v : Int) : (s.over a p).setTable i v = (s.setTable i v).over a p := by
  unfold State.setTable
  rw [ite_result_over]
  rfl

@[simp] theorem setTrim_over (v : Int) : (s.over a p).setTrim v = (s.setTrim v).over a p := rfl

theorem setParam_over (id i : Nat) (v : Int) : setParam (s.over a p) id i v = (setParam s id i v).over a p := by
  unfold setParam
  split <;> simp <;> rfl

/-! ## Answers -/

/-- The answer, with the address `a` and the response `p` in its state. -/
def Answer.over (x : Answer) : Answer := { state := x.state.over a p, status := x.status, body := x.body }

theorem ite_answer_over {c : Prop} {_ : Decidable c} (x y : Answer) :
    (if c then x else y).over a p = if c then x.over a p else y.over a p := apply_ite (fun z => Answer.over a p z) c x y

@[simp] theorem deny_over (x : Status) : deny (s.over a p) x = (deny s x).over a p := rfl
@[simp] theorem done_over : done (s.over a p) = (done s).over a p := rfl
@[simp] theorem doneWith_over (body : List Byte) : doneWith (s.over a p) body = (doneWith s body).over a p := rfl


/-! ## Requests -/

theorem reqSet_over (param index : Byte) (value : BitVec 32) :
    reqSet param index value (s.over a p) = (reqSet param index value s).over a p := by
  unfold reqSet
  rw [setParam_over]
  cases setParam s param.toNat index.toNat value.toInt <;> rfl

theorem reqAction_over (slot : SlotBytes) : reqAction slot (s.over a p) = (reqAction slot s).over a p := by
  unfold reqAction
  cases decodeSlot slot with
  | none => rfl
  | some x =>
    simp only [State.actionOf, ite_answer_over]
    rfl

theorem reqPause_over : reqPause (s.over a p) = (reqPause s).over a p := by
  unfold reqPause
  rw [ite_answer_over, ← done_over, ← pauseSeq_over]
  rfl

theorem reqResume_over : reqResume (s.over a p) = (reqResume s).over a p := by
  unfold reqResume
  rw [ite_answer_over, ← done_over, ← resumeSeq_over]
  rfl

theorem reqAdvance_over : reqAdvance (s.over a p) = (reqAdvance s).over a p := by
  unfold reqAdvance
  rw [ite_answer_over, ← done_over, ← advanceSeq_over]
  rfl

theorem reqMode_over (arg : Byte) : reqMode arg (s.over a p) = (reqMode arg s).over a p := by
  unfold reqMode
  cases [Mode.LOCAL, .SHOW, .CONSOLE][arg.toNat]? <;> rfl

theorem reqClearJam_over : reqClearJam (s.over a p) = (reqClearJam s).over a p := by
  unfold reqClearJam
  rw [ite_answer_over, ← done_over, ← startHoming_over]
  rfl

theorem reqClearMatch_over : reqClearMatch (s.over a p) = (reqClearMatch s).over a p := by
  simp [reqClearMatch]

theorem reqBlank_over (arg : Byte) : reqBlank arg (s.over a p) = (reqBlank arg s).over a p := by
  simp [reqBlank, ite_answer_over]

theorem reqLamp_over (arg : Byte) : reqLamp arg (s.over a p) = (reqLamp arg s).over a p := by
  unfold reqLamp
  split
  · simp
  · rw [ite_answer_over, ← done_over, ← ignite_over]
    rfl
  · rfl
  · rfl
  · rfl

theorem reqTape_over (arg : Byte) : reqTape arg (s.over a p) = (reqTape arg s).over a p := by
  unfold reqTape
  cases [TapeOp.PLAY, .PAUSE, .STOP, .FFWD, .REWIND][arg.toNat]? with
  | none => rfl
  | some op => simp [ite_answer_over]

theorem reqSave_over : reqSave (s.over a p) = (reqSave s).over a p := by
  unfold reqSave
  rw [ite_answer_over]
  rfl

theorem reqControl_over (sub : Sub) (arg : Byte) : reqControl sub arg (s.over a p) = (reqControl sub arg s).over a p := by
  cases sub with
  | STOP => exact congrArg done (stopAll_over s a p)
  | PAUSE => exact reqPause_over s a p
  | RESUME => exact reqResume_over s a p
  | ADVANCE => exact reqAdvance_over s a p
  | MODE => exact reqMode_over s a p arg
  | CLEAR_JAM => exact reqClearJam_over s a p
  | CLEAR_MATCH => exact reqClearMatch_over s a p
  | BLANK => exact reqBlank_over s a p arg
  | LAMP => exact reqLamp_over s a p arg
  | STANDBY => exact congrArg done (standby_over s a p)
  | WAKE => exact congrArg done (wake_over s a p)
  | TAPE => exact reqTape_over s a p arg
  | SNAPSHOT => exact congrArg done (snapshot_over s a p)
  | SAVE => exact reqSave_over s a p

theorem reqArm_over (head : Byte) : reqArm head (s.over a p) = (reqArm head s).over a p := by
  simp [reqArm, Answer.over]

theorem reqStepWrite_over (index mode : Byte) (record : List Byte) :
    reqStepWrite index mode record (s.over a p) = (reqStepWrite index mode record s).over a p := by
  unfold reqStepWrite
  cases decodeStep record with
  | none => simp [ite_answer_over]
  | some r => simp [ite_answer_over, reqArm_over]

theorem reqSlotFlags_over (first last flag : Byte) :
    reqSlotFlags first last flag (s.over a p) = (reqSlotFlags first last flag s).over a p := by
  unfold reqSlotFlags
  rw [ite_answer_over]
  rfl

theorem reqSlotRead_over (first count : Byte) :
    reqSlotRead first count (s.over a p) = (reqSlotRead first count s).over a p := by
  unfold reqSlotRead
  rw [ite_answer_over]
  rfl

theorem reqCountersRead_over (group : Byte) :
    reqCountersRead group (s.over a p) = (reqCountersRead group s).over a p := by
  unfold reqCountersRead
  cases counterGroup group.toNat <;> rfl

theorem conditionNotices_over (k : NoticeKind) (l : List (Option Nat)) :
    l.foldl (fun t x => t.condNotice k true x) (s.over a p) =
      (l.foldl (fun t x => t.condNotice k true x) s).over a p := by
  induction l generalizing s with
  | nil => rfl
  | cons x l ih => simp [ih]

theorem reqNoticeEnable_over (kind flag : Byte) :
    reqNoticeEnable kind flag (s.over a p) = (reqNoticeEnable kind flag s).over a p := by
  unfold reqNoticeEnable
  cases NoticeKind.ofCode kind.toNat with
  | none => rfl
  | some k =>
    simp only [ite_answer_over, ← doneWith_over, ite_over, ← conditionNotices_over]
    rfl

theorem reqLampReset_over (pos : Byte) : reqLampReset pos (s.over a p) = (reqLampReset pos s).over a p := by
  unfold reqLampReset
  cases [LampPos.A, .B][pos.toNat]? with
  | none => rfl
  | some q => simp [ite_answer_over]

theorem reqUnitReset_over : reqUnitReset (s.over a p) = (reqUnitReset s).over a p := by
  simp [reqUnitReset, Answer.over]

/-- R180, R182: but for the mode report and the address itself, a request does the same at any address. -/
theorem applyReq_over (r : Req) (hquery : r.code ≠ 0x01) (hassign : r.code ≠ 0x0F) :
    applyReq (s.over a p) r = (applyReq s r).over a p := by
  cases r with
  | query group page => exact absurd rfl hquery
  | set param index value => exact reqSet_over s a p param index value
  | action slot => exact reqAction_over s a p slot
  | control sub arg =>
    simp only [applyReq]
    cases Sub.ofCode sub with
    | none => rfl
    | some x => exact reqControl_over s a p x arg
  | stepWrite index mode record => exact reqStepWrite_over s a p index mode record
  | stepRead index => rfl
  | arm head => exact reqArm_over s a p head
  | slotFlags first last flag => exact reqSlotFlags_over s a p first last flag
  | slotRead first count => exact reqSlotRead_over s a p first count
  | countersRead group => exact reqCountersRead_over s a p group
  | noticePoll => rfl
  | noticeEnable kind flag => exact reqNoticeEnable_over s a p kind flag
  | lampReset pos => exact reqLampReset_over s a p pos
  | unitReset => exact reqUnitReset_over s a p
  | assign serial addr => exact absurd rfl hassign

end

/-- R181: a request that is taken leaves the response as it was. -/
theorem applyReq_resp (s : State) (r : Req) (hassign : r.code ≠ 0x0F) : (applyReq s r).state.lki.resp = s.lki.resp := by
  by_cases hquery : r.code = 0x01
  · cases r with
    | query group page =>
      simp only [applyReq, reqQuery]
      split
      · rfl
      · split
        · rfl
        · split
          · rfl
          · split <;> rfl
    | _ => exact absurd hquery (by simp [Req.code])
  · exact congrArg (fun x : Answer => x.state.lki.resp) (applyReq_over s s.lki.addr s.lki.resp r hquery hassign)

/-- R180: a request that is taken leaves the address as it was. -/
theorem applyReq_addr (s : State) (r : Req) (hquery : r.code ≠ 0x01) (hassign : r.code ≠ 0x0F) :
    (applyReq s r).state.lki.addr = s.lki.addr :=
  congrArg (fun x : Answer => x.state.lki.addr) (applyReq_over s s.lki.addr s.lki.resp r hquery hassign)

end Sys2Proof.Machine
end

section
/-!
R179, R180, R185: a frame's bytes spell the request whose command it is, and its destination says how it is taken.
-/

namespace Sys2Proof.Machine

/-! ## What a frame spells (R182, R185) -/

/-- R188: a code has one sub-operation, and the sub-operation that code. -/
theorem code_of_ofCode {b : Byte} {x : Sub} (h : Sub.ofCode b = some x) : b = x.code := by
  refine BitVec.eq_of_toNat_eq ?_
  unfold Sub.ofCode at h
  split at h <;> cases h <;> assumption

theorem ofCode_unknown {b : Byte} (h : b = 0 ∨ 14 < b.toNat) : Sub.ofCode b = none := by
  cases hx : Sub.ofCode b with
  | none => rfl
  | some x =>
    exfalso
    obtain rfl := code_of_ofCode hx
    cases x <;> revert h <;> decide

/-- R180, R188: the command of a request is that request, taken. -/
theorem exec_command {dt : Nat} {h : LinkHdr} {r : Req} {c : Instr} (hc : r.command dt h = some c) (s : State) :
    exec c s = .next (s.take dt (request h r)) := by
  cases r with
  | control sub arg =>
    unfold Req.command at hc
    cases hx : Sub.ofCode sub with
    | none => simp [hx] at hc
    | some x =>
      obtain rfl := code_of_ofCode hx
      cases x <;> simp only [hx, Option.some.injEq] at hc <;> subst hc <;> rfl
  | stepWrite index mode record =>
    unfold Req.command at hc
    by_cases hl : record.length = 26
    · simp only [hl, if_true, Option.some.injEq] at hc
      subst hc
      rw [← requestStepWrite_whole hl]
      rfl
    · simp [hl] at hc
  | _ =>
    cases hc
    rfl

theorem command_control {dt : Nat} {h : LinkHdr} {sub arg : Byte} {c : Instr}
    (hc : (Req.control sub arg).command dt h = some c) : ∃ x, Sub.ofCode sub = some x := by
  cases hx : Sub.ofCode sub with
  | none => simp [Req.command, hx] at hc
  | some x => exact ⟨x, rfl⟩

/-- R185: the four bytes of a word spell it. -/
theorem word4_enc4 (v : BitVec 32) : word4 (byteOf (v.toNat / 16777216)) (byteOf (v.toNat / 65536)) (byteOf (v.toNat / 256))
    (byteOf v.toNat) = v := by
  refine BitVec.eq_of_toNat_eq ?_
  have hv := v.isLt
  simp only [word4, byteOf, BitVec.toNat_ofNat]
  omega

theorem enc4_length (n : Nat) : (enc4 n).length = 4 := rfl

/-- R185: a request whose command there is comes back from its code and its payload. -/
theorem decodeReq_payload {dt : Nat} {h : LinkHdr} {r : Req} {c : Instr} (hc : r.command dt h = some c) :
    decodeReq r.code r.payload = some r := by
  cases r with
  | stepWrite index mode record =>
    have hl : record.length = 26 := by
      by_contra hl
      simp [Req.command, hl] at hc
    exact if_pos hl
  | set param index value => exact congrArg (fun v => some (Req.set param index v)) (word4_enc4 value)
  | assign serial addr => exact congrArg (fun v => some (Req.assign v addr)) (word4_enc4 serial)
  | _ => rfl

theorem payload_short {dt : Nat} {h : LinkHdr} {r : Req} {c : Instr} (hc : r.command dt h = some c) :
    r.payload.length ≤ 32 := by
  cases r with
  | stepWrite index mode record =>
    have hl : record.length = 26 := by
      by_contra hl
      simp [Req.command, hl] at hc
    have hlen : (Req.stepWrite index mode record).payload.length = record.length + 1 + 1 := rfl
    omega
  | _ => simp [Req.payload, enc4_length]

/-- R185: the kinds of the catalogue with their lengths. -/
abbrev catalogue : List (Nat × Nat) := [(1, 2), (2, 6), (3, 5), (4, 2), (5, 28), (6, 1), (7, 1), (8, 3), (9, 2), (10, 1),
  (11, 0), (12, 2), (13, 1), (14, 0), (15, 5)]

theorem decodeReq_length_empty {kind : Byte} {payload : List Byte} (hk : kind = 11 ∨ kind = 14)
    (hl : payload.length ≠ 0) : decodeReq kind payload = none := by
  rcases hk with rfl | rfl
  all_goals
    match payload, hl with
    | _ :: _, _ => rfl
    | [], hl => exact absurd rfl hl

theorem decodeReq_length_one {kind : Byte} {payload : List Byte} (hk : kind = 6 ∨ kind = 7 ∨ kind = 10 ∨ kind = 13)
    (hl : payload.length ≠ 1) : decodeReq kind payload = none := by
  rcases hk with rfl | rfl | rfl | rfl
  all_goals
    match payload, hl with
    | [], _ | _ :: _ :: _, _ => rfl
    | [_], hl => exact absurd rfl hl

theorem decodeReq_length_two {kind : Byte} {payload : List Byte} (hk : kind = 1 ∨ kind = 4 ∨ kind = 9 ∨ kind = 12)
    (hl : payload.length ≠ 2) : decodeReq kind payload = none := by
  rcases hk with rfl | rfl | rfl | rfl
  all_goals
    match payload, hl with
    | [], _ | [_], _ | _ :: _ :: _ :: _, _ => rfl
    | [_, _], hl => exact absurd rfl hl

theorem decodeReq_length_three {kind : Byte} {payload : List Byte} (hk : kind = 8)
    (hl : payload.length ≠ 3) : decodeReq kind payload = none := by
  subst hk
  match payload, hl with
  | [], _ | [_], _ | [_, _], _ | _ :: _ :: _ :: _ :: _, _ => rfl
  | [_, _, _], hl => exact absurd rfl hl

theorem decodeReq_length_five {kind : Byte} {payload : List Byte} (hk : kind = 3 ∨ kind = 15)
    (hl : payload.length ≠ 5) : decodeReq kind payload = none := by
  rcases hk with rfl | rfl
  all_goals
    match payload, hl with
    | [], _ | [_], _ | [_, _], _ | [_, _, _], _ | [_, _, _, _], _ | _ :: _ :: _ :: _ :: _ :: _ :: _, _ => rfl
    | [_, _, _, _, _], hl => exact absurd rfl hl

theorem decodeReq_length_six {kind : Byte} {payload : List Byte} (hk : kind = 2)
    (hl : payload.length ≠ 6) : decodeReq kind payload = none := by
  subst hk
  match payload, hl with
  | [], _ | [_], _ | [_, _], _ | [_, _, _], _ | [_, _, _, _], _ | [_, _, _, _, _], _ | _ :: _ :: _ :: _ :: _ :: _ :: _ :: _, _ => rfl
  | [_, _, _, _, _, _], hl => exact absurd rfl hl

theorem decodeReq_length_step {kind : Byte} {payload : List Byte} (hk : kind = 5) (hl : payload.length ≠ 28) :
    decodeReq kind payload = none := by
  subst hk
  match payload, hl with
  | [], _ | [_], _ => rfl
  | index :: mode :: record, hl => exact if_neg fun h => hl (congrArg (· + 2) h)

/- The decoder's match is too large for `split`: its tests of the kind are refused one by one. -/
set_option smartUnfolding false in
theorem decodeReq_kind_unknown {kind : Byte} {payload : List Byte} (hk : ∀ n, 1 ≤ n → n ≤ 15 → kind.toNat ≠ n) :
    decodeReq kind payload = none := by
  have hne (n : Nat) (h1 : 1 ≤ n := by decide) (h15 : n ≤ 15 := by decide) : kind.toNat ≠ n := hk n h1 h15
  unfold decodeReq
  refine (dif_neg (hne 1)).trans ?_
  refine (dif_neg (hne 2)).trans ?_
  refine (dif_neg (hne 3)).trans ?_
  refine (dif_neg (hne 4)).trans ?_
  refine (dif_neg (hne 5)).trans ?_
  refine (dif_neg (hne 6)).trans ?_
  refine (dif_neg (hne 7)).trans ?_
  refine (dif_neg (hne 8)).trans ?_
  refine (dif_neg (hne 9)).trans ?_
  refine (dif_neg (hne 10)).trans ?_
  refine (dif_neg (hne 11)).trans ?_
  refine (dif_neg (hne 12)).trans ?_
  refine (dif_neg (hne 13)).trans ?_
  refine (dif_neg (hne 14)).trans ?_
  exact dif_neg (hne 15)

/-- R182: a kind outside the catalogue, or a length that is not the kind's, spells no request. -/
theorem decodeReq_none {kind : Byte} {payload : List Byte} (h : ∀ n, (kind.toNat, n) ∈ catalogue → payload.length ≠ n) :
    decodeReq kind payload = none := by
  by_cases hk : ∀ n, 1 ≤ n → n ≤ 15 → kind.toNat ≠ n
  · exact decodeReq_kind_unknown hk
  · push Not at hk
    obtain ⟨k, h1, h15, hk⟩ := hk
    have hkind : kind = BitVec.ofNat 8 k := BitVec.eq_of_toNat_eq (by simp [hk]; omega)
    have hlen (n : Nat) (hn : (k, n) ∈ catalogue) : payload.length ≠ n := h n (by rwa [hk])
    clear h hk
    interval_cases k
    · exact decodeReq_length_two (.inl hkind) (hlen 2 (by decide))
    · exact decodeReq_length_six hkind (hlen 6 (by decide))
    · exact decodeReq_length_five (.inl hkind) (hlen 5 (by decide))
    · exact decodeReq_length_two (.inr (.inl hkind)) (hlen 2 (by decide))
    · exact decodeReq_length_step hkind (hlen 28 (by decide))
    · exact decodeReq_length_one (.inl hkind) (hlen 1 (by decide))
    · exact decodeReq_length_one (.inr (.inl hkind)) (hlen 1 (by decide))
    · exact decodeReq_length_three hkind (hlen 3 (by decide))
    · exact decodeReq_length_two (.inr (.inr (.inl hkind))) (hlen 2 (by decide))
    · exact decodeReq_length_one (.inr (.inr (.inl hkind))) (hlen 1 (by decide))
    · exact decodeReq_length_empty (.inl hkind) (hlen 0 (by decide))
    · exact decodeReq_length_two (.inr (.inr (.inr hkind))) (hlen 2 (by decide))
    · exact decodeReq_length_one (.inr (.inr (.inr hkind))) (hlen 1 (by decide))
    · exact decodeReq_length_empty (.inr hkind) (hlen 0 (by decide))
    · exact decodeReq_length_five (.inr hkind) (hlen 5 (by decide))

/-! ## The check byte (R179) -/

theorem foldl_add_toNat (l : List Byte) (x : Byte) :
    (l.foldl (· + ·) x).toNat = (x.toNat + (l.map BitVec.toNat).sum) % 256 := by
  induction l generalizing x with
  | nil => simp [Nat.mod_eq_of_lt x.isLt]
  | cons b l ih =>
    rw [List.foldl_cons, ih, BitVec.toNat_add, List.map_cons, List.sum_cons]
    omega

theorem byteSum_check (l : List Byte) (b : Byte) :
    byteSum (l ++ [b]) = 0 ↔ ((l.map BitVec.toNat).sum + b.toNat) % 256 = 0 := by
  have hsum : (byteSum (l ++ [b])).toNat = ((l.map BitVec.toNat).sum + b.toNat) % 256 := by
    unfold byteSum
    rw [foldl_add_toNat]
    simp
  rw [← hsum]
  exact ⟨fun h => by simp [h], fun h => BitVec.eq_of_toNat_eq h⟩

/-! ## Where a frame goes (R180) -/

theorem dest_broadcast {dest : Byte} : dest.toNat = broadcastDest ↔ dest = 31 :=
  ⟨fun h => BitVec.eq_of_toNat_eq h, fun h => by rw [h]; rfl⟩

theorem kind_assign {kind : Byte} : kind.toNat = assignKind ↔ kind = 0x0F :=
  ⟨fun h => BitVec.eq_of_toNat_eq h, fun h => by rw [h]; rfl⟩

theorem code_small (r : Req) : r.code.toNat < 128 := by cases r <;> simp [Req.code]

/-- R180: the frames that a station discards. -/
theorem route_discard {addr : AddrState} {dest kind : Byte}
    (h : 128 ≤ kind.toNat ∨ (∃ a, addr = .ASSIGNED a ∧ dest.toNat ≠ a ∧ dest ≠ 31) ∨ addr = .LISTEN_ONLY ∧ dest ≠ 31 ∨
      addr = .UNASSIGNED ∧ ¬(dest = 31 ∧ kind = 0x0F)) : route addr dest kind = .discard := by
  unfold route
  simp only [dest_broadcast, kind_assign]
  split
  · rfl
  · rcases h with hk | ⟨a, rfl, hne, hd⟩ | ⟨rfl, hd⟩ | ⟨rfl, hd⟩
    · omega
    · simp only [hne, hd, if_false]
    · simp only [hd, if_false]
    · simp only [hd, if_false]

/-- R180: the frames that a station takes as broadcasts. -/
theorem route_broadcasts {addr : AddrState} {dest kind : Byte} (hk : kind.toNat < 128) (hd : dest = 31)
    (h : (∃ a, addr = .ASSIGNED a ∧ a ≠ 31) ∨ addr = .LISTEN_ONLY ∨ addr = .UNASSIGNED ∧ kind = 0x0F) :
    route addr dest kind = .broadcast := by
  have hk' : ¬0x80 ≤ kind.toNat := by omega
  unfold route
  simp only [dest_broadcast, kind_assign, hk', if_false]
  subst hd
  rcases h with ⟨a, rfl, hne⟩ | rfl | ⟨rfl, hkind⟩
  · simp [Ne.symm hne]
  · simp
  · simp [hkind]

theorem route_own {addr : AddrState} {dest kind : Byte} (hk : kind.toNat < 128) (ha : addr = .ASSIGNED dest.toNat) :
    route addr dest kind = .addressed dest := by
  have hk' : ¬0x80 ≤ kind.toNat := by omega
  simp [route, ha, hk']

end Sys2Proof.Machine
end

section
/-!
R178, R179, R181, R185: the bytes of a frame, the gap between them, and the response.
-/

namespace Sys2Proof.Machine

section
variable {s : State} {dt : Nat} {b : Byte} {damaged : Bool}

/-! ## A byte that the receiver reads (R178, R179) -/

theorem asked_gapPassed {r : LinkRx} (hr : s.lki.rx = some r) :
    (s.asked dt).gapPassed = decide (r.gapDue + 260 < s.now + dt) := by
  have hrx : (s.asked dt).lki.rx = some r := hr
  simp only [State.gapPassed, hrx]
  rfl

theorem asked_no_gap (hr : s.lki.rx = none) : (s.asked dt).gapPassed = false := by
  have hrx : (s.asked dt).lki.rx = none := hr
  simp only [State.gapPassed, hrx]

theorem linkByte_deaf (hd : s.deaf = true) : linkByte b damaged (s.advance dt) = s.advance dt := by
  have hd' : (s.advance dt).deaf = true := hd
  simp [linkByte, hd']

/-- R181: a byte withholds the response. -/
theorem linkByte_hears (hd : s.deaf = false) : linkByte b damaged (s.advance dt) =
    if (s.asked dt).gapPassed then (s.asked dt).abandon.receive b damaged else (s.asked dt).receive b damaged := by
  have hd' : (s.advance dt).deaf = false := hd
  have hw : (s.advance dt).withhold = s.asked dt := withhold_not_deaf _ hd'
  simp [linkByte, hd', hw]

/-- R179: a byte outside a frame. -/
theorem linkByte_idle (hd : s.deaf = false) (hr : s.lki.rx = none) : linkByte b damaged (s.advance dt) =
    if damaged || b != 0xC3 then s.asked dt else (s.asked dt).receiving [] := by
  have hrx : (s.asked dt).lki.rx = none := hr
  rw [linkByte_hears hd, asked_no_gap hr]
  simp [State.receive, hrx, startByte]

/-- R179: a byte within a frame, in time. -/
theorem linkByte_in_time {r : LinkRx} (hd : s.deaf = false) (hr : s.lki.rx = some r) (hgap : s.now + dt ≤ r.gapDue + 260) :
    linkByte b damaged (s.advance dt) = if damaged then (s.asked dt).abandon else (s.asked dt).nextByte r.bytes b := by
  have hrx : (s.asked dt).lki.rx = some r := hr
  have hlate : ¬r.gapDue + 260 < s.now + dt := by omega
  rw [linkByte_hears hd, asked_gapPassed hr]
  simp [State.receive, hrx, hlate]

/-- R179: a byte that began too late. -/
theorem linkByte_late {r : LinkRx} (hd : s.deaf = false) (hr : s.lki.rx = some r) (hgap : r.gapDue + 260 < s.now + dt) :
    linkByte b damaged (s.advance dt) = linkByte b damaged (((s.setLki { s.lki with rx := none }).count .linkCheck).advance dt) := by
  have hd' : ((s.setLki { s.lki with rx := none }).count .linkCheck).deaf = false := hd
  rw [linkByte_hears hd, asked_gapPassed hr, linkByte_hears hd', asked_no_gap rfl]
  simp only [hgap, decide_true, if_true, Bool.false_eq_true, if_false]
  rfl

/-- R179: the byte that ends a frame ends it. -/
theorem nextByte_last {t : State} {before : List Byte} (h4 : 4 ≤ before.length)
    (hl : before.length = (before.getD 3 0).toNat + 4) : t.nextByte before b = t.frameEnds (before ++ [b]) := by
  have hget : (before ++ [b]).getD 3 0 = before.getD 3 0 := by
    simp [List.getD_eq_getElem?_getD, List.getElem?_append_left (show 3 < before.length by omega)]
  have hlen : (before ++ [b]).length = before.length + 1 := by simp
  unfold State.nextByte
  rw [if_neg (by omega), if_pos (by rw [hlen, hget]; omega)]

/-- R179: a frame goes on that has not come to its end. -/
theorem nextByte_on {t : State} {before : List Byte} (h3 : before.length = 3 → b.toNat ≤ 32)
    (hl : ¬(4 ≤ before.length ∧ before.length = (before.getD 3 0).toNat + 4)) :
    t.nextByte before b = t.receiving (before ++ [b]) := by
  have hlen : (before ++ [b]).length = before.length + 1 := by simp
  unfold State.nextByte
  rw [if_neg (by rw [hlen, maxPayload]; omega), if_neg]
  rintro ⟨h4, hend⟩
  have hget : (before ++ [b]).getD 3 0 = before.getD 3 0 := by
    simp [List.getD_eq_getElem?_getD, List.getElem?_append_left (show 3 < before.length by omega)]
  rw [hlen, hget] at hend
  exact hl ⟨by omega, by omega⟩

/-- R179: a length byte above 32. -/
theorem nextByte_long {t : State} {before : List Byte} (h3 : before.length = 3) (hb : 32 < b.toNat) :
    t.nextByte before b = t.abandon := by
  unfold State.nextByte
  rw [if_pos ⟨by simp [h3], hb⟩]

/-! ## A good frame (R179, R182) -/

/-- R179: the frame's bytes before its check byte. -/
abbrev frameBytes (h : LinkHdr) (kind : Byte) (payload : List Byte) : List Byte :=
  [h.dest, h.src, kind, BitVec.ofNat 8 payload.length] ++ payload

/-- R179: a frame that ends with its check byte is taken as the request that its kind and its payload spell. -/
theorem frameEnds_good {t : State} {h : LinkHdr} {kind : Byte} {payload : List Byte} (hp : payload.length ≤ 32)
    (hsum : (((frameBytes h kind payload).map BitVec.toNat).sum + b.toNat) % 256 = 0) :
    t.frameEnds (frameBytes h kind payload ++ [b]) =
      ((t.setLki { t.lki with rx := none }).count .linkGood).takeRequest h kind (decodeReq kind payload) := by
  have hlen : (BitVec.ofNat 8 payload.length).toNat = payload.length := by
    simp only [BitVec.toNat_ofNat]
    omega
  unfold State.frameEnds
  rw [if_pos ((byteSum_check _ b).2 hsum)]
  simp [frameBytes, hlen]

/-- R179: the last byte of a good frame. -/
theorem linkByte_good {gap : Nat} {h : LinkHdr} {kind : Byte} {payload : List Byte} (hd : s.deaf = false)
    (hr : s.lki.rx = some { bytes := frameBytes h kind payload, gapDue := gap }) (hgap : s.now + dt ≤ gap + 260)
    (hp : payload.length ≤ 32) (hsum : (((frameBytes h kind payload).map BitVec.toNat).sum + b.toNat) % 256 = 0) :
    linkByte b false (s.advance dt) = (((s.setLki { s.lki with rx := none }).count .linkGood).asked dt).takeRequest h kind
      (decodeReq kind payload) := by
  have hlast : (frameBytes h kind payload).length = ((frameBytes h kind payload).getD 3 0).toNat + 4 := by
    simp [frameBytes]
    omega
  rw [linkByte_in_time hd hr hgap, if_neg Bool.false_ne_true, nextByte_last (by simp [frameBytes]) hlast,
    frameEnds_good hp hsum]
  rfl

theorem request_heard {t : State} {h : LinkHdr} {r : Req} (hd : t.deaf = false) :
    request h r (t.advance dt) = (t.asked dt).takeRequest h r.code (some r) := by
  have hd' : (t.advance dt).deaf = false := hd
  have hw : (t.advance dt).withhold = t.asked dt := withhold_not_deaf _ hd'
  simp [request, hd', hw]

end

end Sys2Proof.Machine
end

section
/-!
R178 to R183: a byte, a frame and a response, each as one command of the part.
-/

namespace Sys2Proof.Machine

theorem next_linkByte {s u : State} {dt : Nat} {b : Byte} {damaged : Bool} (hp : s.powered = true)
    (h : linkByte b damaged (s.advance dt) = u) : exec (.linkByte dt b damaged) s = .next u.finish := next_take hp h

/-- R178: nothing is read while a response is sent. -/
theorem exec_deaf {s : State} {dt : Nat} {h : LinkHdr} {r : Req} {c : Instr} (hp : s.powered = true)
    (hc : r.command dt h = some c) (hd : s.deaf = true) : exec c s = .next (s.advance dt).finish := by
  have hd' : (s.advance dt).deaf = true := hd
  rw [exec_command hc]
  exact next_take hp (by simp [request, hd'])

/-- R180: a frame that is not discarded is taken once, as a broadcast or with its response. -/
theorem exec_heard {s : State} {dt : Nat} {h : LinkHdr} {r : Req} {c : Instr} (hp : s.powered = true)
    (hc : r.command dt h = some c) (hd : s.deaf = false) :
    exec c s = .next ((s.asked dt).takeRequest h r.code (some r)).finish := by
  rw [exec_command hc]
  exact next_take hp (request_heard hd)

theorem takeRequest_discard {t : State} {h : LinkHdr} {kind : Byte} {r : Option Req}
    (hroute : route t.lki.addr h.dest kind = .discard) : t.takeRequest h kind r = t := by
  simp only [State.takeRequest, hroute]

theorem takeRequest_broadcast {t : State} {h : LinkHdr} {kind : Byte} {r : Option Req}
    (hroute : route t.lki.addr h.dest kind = .broadcast) : t.takeRequest h kind r = (judge t true r).counted := by
  simp only [State.takeRequest, hroute]

theorem takeRequest_own {t : State} {h : LinkHdr} {kind : Byte} {r : Option Req}
    (hroute : route t.lki.addr h.dest kind = .addressed h.dest) : t.takeRequest h kind r =
      (judge t false r).counted.answered h (kind + 0x80) (judge t false r).status (judge t false r).body := by
  simp only [State.takeRequest, hroute]
  rfl

/-! ## Frames in which nothing is spelt (R182) -/

/-- R182: what is not a request of the catalogue is BAD_REQUEST. -/
theorem judge_unknown {t : State} {broadcast : Bool} {kind : Byte} {payload : List Byte} (hres : t.lki.resetting = false)
    (h : (∀ n, (kind.toNat, n) ∈ catalogue → payload.length ≠ n) ∨
      (∃ sub arg : Byte, kind = 4 ∧ payload = [sub, arg] ∧ (sub = 0 ∨ 14 < sub.toNat))) :
    judge t broadcast (decodeReq kind payload) = deny t .BAD_REQUEST := by
  rcases h with hlen | ⟨sub, arg, rfl, rfl, hsub⟩
  · rw [decodeReq_none hlen]
    simp [judge, hres]
  · have hcontrol : decodeReq 4 [sub, arg] = some (.control sub arg) := rfl
    have happly : applyReq t (.control sub arg) = deny t .BAD_REQUEST := by
      simp only [applyReq, ofCode_unknown hsub]
    rw [hcontrol]
    simp [judge, hres, Req.misaddressed, Req.locked, happly]

/-! ## Broadcasts (R180, R183) -/

theorem judge_misaddressed {r : Req} (hpoll : r.code ≠ 0x0B) (hassign : r.code ≠ 0x0F) (broadcast : Bool) :
    r.misaddressed broadcast = false := by
  cases r with
  | noticePoll => exact absurd rfl hpoll
  | assign serial addr => exact absurd rfl hassign
  | _ => rfl

theorem judge_own {t : State} {r : Req} (hpoll : r.code ≠ 0x0B) (hassign : r.code ≠ 0x0F) :
    judge t true (some r) = judge t false (some r) := by
  simp only [judge, judge_misaddressed hpoll hassign]

theorem judge_resp {t : State} {r : Req} (hassign : r.code ≠ 0x0F) (broadcast : Bool) :
    (judge t broadcast (some r)).state.lki.resp = t.lki.resp := by
  unfold judge
  split
  · rfl
  · simp only
    split
    · rfl
    · split
      · rfl
      · exact applyReq_resp t r hassign

theorem judge_over {t : State} {r : Req} (hquery : r.code ≠ 0x01) (hassign : r.code ≠ 0x0F) (broadcast : Bool)
    (a : AddrState) (p : RespState) :
    judge (t.over a p) broadcast (some r) = (judge t broadcast (some r)).over a p := by
  simp only [judge, over_resetting, over_sts, applyReq_over t a p r hquery hassign, deny_over, ite_answer_over]

theorem counted_lki (x : Answer) : x.counted.lki = x.state.lki := by
  unfold Answer.counted
  split <;> rfl

theorem counted_over (x : Answer) (a : AddrState) (p : RespState) : (x.over a p).counted = x.counted.over a p := by
  unfold Answer.counted Answer.over
  cases x.status <;> rfl

end Sys2Proof.Machine
end

section
/-!
R178 to R183 (O44): the bytes, the routes and the broadcasts, put together.
-/

namespace Sys2Proof.Machine

/-! ## Frames, byte by byte (R179) -/

/-- R179: the last byte of a good frame is its request. -/
theorem linkByte_command {s : State} {dt gap : Nat} {h : LinkHdr} {r : Req} {c : Instr} {b : Byte} (hp : s.powered = true)
    (hd : s.deaf = false) (hc : r.command dt h = some c)
    (hr : s.lki.rx = some { bytes := frameBytes h r.code r.payload, gapDue := gap }) (hgap : s.now + dt ≤ gap + 260)
    (hsum : (((frameBytes h r.code r.payload).map BitVec.toNat).sum + b.toNat) % 256 = 0) :
    exec (.linkByte dt b false) s = exec c ((s.setLki { s.lki with rx := none }).count .linkGood) := by
  have hd' : ((s.setLki { s.lki with rx := none }).count .linkGood).deaf = false := hd
  rw [exec_heard (s := (s.setLki { s.lki with rx := none }).count .linkGood) hp hc hd']
  refine next_linkByte hp ?_
  rw [linkByte_good hd hr hgap (payload_short hc) hsum, decodeReq_payload hc]

/-! ## Broadcasts (R180, R183) -/

theorem setResp_self {t : State} (h : t.lki.resp = .NONE) : t.setLki { t.lki with resp := .NONE } = t := by
  rw [← h]
  rfl

/-- R180: a broadcast does what the same request does that is addressed to the station, but is not answered. -/
theorem broadcast_acts {s : State} {dt : Nat} {h own : LinkHdr} {r : Req} {c c1 : Instr} {a : Byte} (hp : s.powered = true)
    (hc : r.command dt h = some c) (hd : s.deaf = false) (hdest : h.dest = 31) (ha : a ≠ 31)
    (haddr : s.lki.addr = .ASSIGNED a.toNat) (hown : own.dest = a) (hc1 : r.command dt own = some c1)
    (hpoll : r.code ≠ 0x0B) (hassign : r.code ≠ 0x0F) :
    ∃ (u : State) (status : Status) (body : List Byte),
      exec c1 s = .next (State.finish (u.answered own (r.code + 0x80) status body)) ∧ u.now = s.now + dt ∧
      exec c s = .next (State.finish (u.setLki { u.lki with resp := .NONE })) := by
  have ha' : a.toNat ≠ 31 := fun h31 => ha (BitVec.eq_of_toNat_eq h31)
  have howned : route (s.asked dt).lki.addr own.dest r.code = .addressed own.dest := by
    subst hown
    exact route_own (code_small r) haddr
  have hall : route (s.asked dt).lki.addr h.dest r.code = .broadcast :=
    route_broadcasts (code_small r) hdest (.inl ⟨a.toNat, haddr, ha'⟩)
  have hresp : (judge (s.asked dt) false (some r)).counted.lki.resp = .NONE := by
    rw [counted_lki, judge_resp hassign]
    rfl
  refine ⟨(judge (s.asked dt) false (some r)).counted, (judge (s.asked dt) false (some r)).status,
    (judge (s.asked dt) false (some r)).body, ?_, ?_, ?_⟩
  · rw [exec_heard hp hc1 hd, takeRequest_own howned]
  · simp [State.asked]
  · rw [exec_heard hp hc hd, takeRequest_broadcast hall, judge_own hpoll hassign, setResp_self hresp]

/-- R183: a station that only listens does what a broadcast asks, as one with an address does. -/
theorem listener_acts {s : State} {dt : Nat} {h own : LinkHdr} {r : Req} {c c1 : Instr} {a : Byte} (hp : s.powered = true)
    (hc : r.command dt h = some c) (hd : s.deaf = false) (hdest : h.dest = 31) (haddr : s.lki.addr = .LISTEN_ONLY)
    (hown : own.dest = a) (hc1 : r.command dt own = some c1) (hquery : r.code ≠ 0x01)
    (hpoll : r.code ≠ 0x0B) (hassign : r.code ≠ 0x0F) :
    ∃ (u : State) (status : Status) (body : List Byte),
      exec c1 (s.setLki { s.lki with addr := .ASSIGNED a.toNat }) =
        .next (State.finish (u.answered own (r.code + 0x80) status body)) ∧
      exec c s = .next (State.finish (u.setLki { u.lki with resp := .NONE, addr := .LISTEN_ONLY })) := by
  obtain ⟨x, hx⟩ : ∃ x, x = judge (s.asked dt) false (some r) := ⟨_, rfl⟩
  have hassigned : judge ((s.setLki { s.lki with addr := .ASSIGNED a.toNat }).asked dt) false (some r) =
      x.over (.ASSIGNED a.toNat) .NONE := by
    rw [hx]
    exact judge_over (t := s.asked dt) hquery hassign false (.ASSIGNED a.toNat) .NONE
  have hlistens : x.over .LISTEN_ONLY .NONE = x := by
    have hself : (s.asked dt).over .LISTEN_ONLY .NONE = s.asked dt := by
      rw [← haddr]
      rfl
    rw [hx, ← judge_over hquery hassign, hself]
  have howned : route ((s.setLki { s.lki with addr := .ASSIGNED a.toNat }).asked dt).lki.addr own.dest r.code =
      .addressed own.dest := by
    subst hown
    exact route_own (code_small r) rfl
  have hall : route (s.asked dt).lki.addr h.dest r.code = .broadcast :=
    route_broadcasts (code_small r) hdest (.inr (.inl haddr))
  refine ⟨(x.over (.ASSIGNED a.toNat) .NONE).counted, x.status, x.body, ?_, ?_⟩
  · rw [exec_heard (s := s.setLki { s.lki with addr := .ASSIGNED a.toNat }) hp hc1 hd, takeRequest_own howned, hassigned]
    rfl
  · rw [exec_heard hp hc hd, takeRequest_broadcast hall, judge_own hpoll hassign, ← hx, counted_over]
    refine congrArg (fun t : State => Host.Outcome.next t.finish) ?_
    have hcounted : x.counted = x.counted.over .LISTEN_ONLY .NONE := by rw [← counted_over, hlistens]
    exact hcounted

/-- R186, R183: a QUERY that is broadcast to a station that only listens takes its copy. -/
theorem listener_query {s : State} {dt : Nat} {h : LinkHdr} (group page : Byte) (hp : s.powered = true)
    (hd : s.deaf = false) (hres : s.lki.resetting = false) (hdest : h.dest = 31) (haddr : s.lki.addr = .LISTEN_ONLY)
    {x : Answer} (hx : applyReq (s.asked dt) (.query group page) = x) :
    exec (.query dt h group page) s = .next (State.finish x.counted) :=
  next_broadcast hp hd hres (route_broadcasts (code_small _) hdest (.inr (.inl haddr))) rfl (by simp [Req.locked]) hx

/-- R186: a later page of a group that has no copy, or no such page, is refused. -/
theorem reqQuery_no_page {s : State} {dt : Nat} {group page : Byte} (hpage : page ≠ 0) (h1 : 1 ≤ group.toNat)
    (h10 : group.toNat ≤ 10)
    (hcopy : ∀ l, s.lki.copies[group.toNat - 1]? = some (some l) → (l.length + 27) / 28 ≤ page.toNat) :
    (applyReq (s.asked dt) (.query group page)).counted = (s.asked dt).count .linkRefused := by
  obtain ⟨rep, hrep⟩ := report_group (s.asked dt) h1 h10
  cases hget : s.lki.copies.getD (group.toNat - 1) none with
  | none =>
    have hget' : (s.asked dt).lki.copies.getD (group.toNat - 1) none = none := hget
    simp only [applyReq, reqQuery, hrep, if_neg hpage, hget']
    rfl
  | some l =>
    have hsome : s.lki.copies[group.toNat - 1]? = some (some l) := by
      rw [List.getD_eq_getElem?_getD] at hget
      cases hopt : s.lki.copies[group.toNat - 1]? with
      | none => simp [hopt] at hget
      | some o => simpa [hopt] using hget
    rw [reqQuery_later hpage h1 h10 hsome, if_neg (Nat.not_lt.mpr (hcopy l hsome))]
    rfl

end Sys2Proof.Machine
end

section
/-!
R178 to R183 (O44): the parts of the statement, and the statement.
-/

namespace Sys2Proof.Machine

/-! ## The gap and the response (R179, R181) -/

theorem linkByteGapExpiry_due {t : State} {r : LinkRx} (hr : t.lki.rx = some r) :
    linkByteGapExpiry t = (t.reach r.gapDue).abandon := by
  simp only [linkByteGapExpiry, hr]
  rfl

theorem linkByteGapExpiry_none {t : State} (hr : t.lki.rx = none) : linkByteGapExpiry t = t := by
  simp only [linkByteGapExpiry, hr]
  rfl

theorem responseStart_pending {t : State} {r : Response} {since : Nat} (hresp : t.lki.resp = .PENDING r since)
    (hr : t.lki.rx = none) :
    responseStart t = (t.reach (since + responseTime)).setLki { t.lki with resp := .SENDING r } := by
  simp only [responseStart, hresp, hr]
  rfl

theorem responseEnd_sending {t : State} {r : Response} (hresp : t.lki.resp = .SENDING r) :
    responseEnd t = t.setLki { t.lki with resp := .NONE } := by
  simp only [responseEnd, hresp]

/-! ## Requests that are stopped (R182) -/

/-- R182, test 3: a request that is locked while a save runs. -/
theorem exec_locked {s : State} {dt : Nat} {h : LinkHdr} {r : Req} {c : Instr} {kind : Byte} (ha : s.addressed h)
    (hsave : s.sts.save ≠ none) (hc : r.command dt h = some c) (hlock : r.locked = true)
    (hm : r.misaddressed false = false) (hk : r.code + 0x80 = kind) :
    exec c s = .next (State.finish (((s.advance dt).count .linkRefused).answered h kind .LOCKED [])) := by
  obtain ⟨hp, hd, hres, haddr⟩ := ha
  have hres' : (s.asked dt).lki.resetting = false := hres
  have hsave' : (s.asked dt).sts.save.isSome = true := Option.isSome_iff_ne_none.2 hsave
  have hj : judge (s.asked dt) false (some r) = deny (s.asked dt) .LOCKED := by
    simp only [judge, hres', hm, hsave', hlock, Bool.and_self, Bool.false_eq_true, if_true, if_false]
  have hroute : route (s.asked dt).lki.addr h.dest r.code = .addressed h.dest := route_own (code_small r) haddr
  rw [exec_heard hp hc hd, takeRequest_own hroute, hj, hk, counted_deny _ _ (by simp) (by simp)]
  rfl

/-- R182: a step record of a wrong length. -/
theorem exec_stepWrite_length {s : State} {dt : Nat} {h : LinkHdr} {index mode : Byte} {record : List Byte}
    (ha : s.addressed h) (hl : record.length ≠ 26) : exec (.stepWrite dt h index mode record) s =
      .next (State.finish (((s.advance dt).count .linkRefused).answered h 0x85 .BAD_REQUEST [])) := by
  obtain ⟨hp, hd, hres, haddr⟩ := ha
  have hres' : (s.asked dt).lki.resetting = false := hres
  have hd' : (s.advance dt).deaf = false := hd
  have hw : (s.advance dt).withhold = s.asked dt := withhold_not_deaf _ hd'
  have hroute : route (s.asked dt).lki.addr h.dest 0x05 = .addressed h.dest := route_own (by decide) haddr
  have hj : judge (s.asked dt) false none = deny (s.asked dt) .BAD_REQUEST := by simp [judge, hres']
  refine next_take (f := requestStepWrite h index mode record) hp ?_
  unfold requestStepWrite
  rw [hd', if_neg Bool.false_ne_true, hw, if_neg hl, takeRequest_own hroute, hj, counted_deny _ _ (by simp) (by simp)]
  rfl

/-- R182: a good frame that spells no request. -/
theorem linkByte_unknown {s : State} {dt gap : Nat} {h : LinkHdr} {kind b : Byte} {payload : List Byte}
    (hp : s.powered = true) (hd : s.deaf = false) (hlen : payload.length ≤ 32)
    (hr : s.lki.rx = some { bytes := frameBytes h kind payload, gapDue := gap }) (hgap : s.now + dt ≤ gap + 260)
    (hsum : (((frameBytes h kind payload).map BitVec.toNat).sum + b.toNat) % 256 = 0)
    (hunknown : (∀ n, (kind.toNat, n) ∈ catalogue → payload.length ≠ n) ∨
      (∃ sub arg : Byte, kind = 4 ∧ payload = [sub, arg] ∧ (sub = 0 ∨ 14 < sub.toNat)))
    (hk : kind.toNat < 128) (hres : s.lki.resetting = false) :
    (s.lki.addr = .ASSIGNED h.dest.toNat → exec (.linkByte dt b false) s =
      .next (State.finish (((((s.advance dt).setLki { s.lki with rx := none }).count .linkGood).count
        .linkRefused).answered h (kind + 0x80) .BAD_REQUEST []))) ∧
    (h.dest = 31 → (∃ a, s.lki.addr = .ASSIGNED a ∧ a ≠ 31) ∨ s.lki.addr = .LISTEN_ONLY →
      exec (.linkByte dt b false) s = .next (State.finish ((((s.advance dt).setLki
        { s.lki with resp := .NONE, rx := none }).count .linkGood).count .linkRefused))) := by
  obtain ⟨t, ht⟩ : ∃ t, t = ((s.setLki { s.lki with rx := none }).count .linkGood).asked dt := ⟨_, rfl⟩
  have hres' : t.lki.resetting = false := by
    rw [ht]
    exact hres
  have htaken := linkByte_good hd hr hgap hlen hsum
  rw [← ht] at htaken
  have hj (broadcast : Bool) : judge t broadcast (decodeReq kind payload) = deny t .BAD_REQUEST :=
    judge_unknown hres' hunknown
  refine ⟨fun haddr => ?_, fun hdest haddr => ?_⟩
  · have hroute : route t.lki.addr h.dest kind = .addressed h.dest := by
      rw [ht]
      exact route_own hk haddr
    refine next_linkByte hp (htaken.trans ?_)
    rw [takeRequest_own hroute, hj, counted_deny _ _ (by simp) (by simp), ht]
    rfl
  · have hroute : route t.lki.addr h.dest kind = .broadcast := by
      rw [ht]
      exact route_broadcasts hk hdest (haddr.imp_right .inl)
    refine next_linkByte hp (htaken.trans ?_)
    rw [takeRequest_broadcast hroute, hj, counted_deny _ _ (by simp) (by simp), ht]
    rfl

/-- Settles O44. -/
theorem bytesMakeRequests : Obligations.BytesMakeRequests := by
  refine ⟨fun dt s hp => ⟨fun b damaged hd => ?deaf, fun b damaged hd hr hb => ?idle, fun hd hr => ?start,
    fun r b hd hr hgap => ⟨?damaged, fun h3 hb => ?long, fun h3 hl => ?on, fun h4 hl hsum => ?badSum⟩,
    fun r b damaged hd hr hgap => ?late, fun h r c gap l b hd hc hl hr hgap hsum => ?good, fun r hr => ?expiry,
    fun hr => ?noExpiry, fun r since hresp hr => ?respond, fun r hresp => ?responded⟩,
    fun dt h r c s hp hc => ⟨fun hd => exec_deaf hp hc hd, fun hd haddr => ?discard, fun hd hres haddr => ?resetting,
      fun hd hres hdest haddr => ?resettingAll, fun a own c1 hd hres hdest ha haddr hown hc1 hpoll hassign => ?broadcast⟩,
    fun dt gap h kind b payload l s hp hd hlen hl hr hgap hsum => ⟨fun haddr => ?frameDiscard,
      fun hunknown hk hres => ?frameUnknown⟩,
    fun dt h index mode record s ha hl => exec_stepWrite_length ha hl,
    fun dt h s c kind ha hsave hc => ?locked,
    fun dt h s hp hd hres hdest haddr => ⟨fun r c c1 a own hc ha hown hc1 hquery hpoll hassign => ?listener,
      fun group page h1 h10 => ⟨fun hpage => ?query, fun l hpage hcopy hlt => ?queryPage, fun hpage hcopy => ?queryNoPage⟩,
      fun group page hg => ?queryNoGroup⟩⟩
  case deaf => exact next_linkByte hp (linkByte_deaf hd)
  case idle =>
    refine next_linkByte hp ((linkByte_idle hd hr).trans (if_pos ?_))
    rcases hb with hb | rfl
    · rw [bne_iff_ne.2 hb, Bool.or_true]
    · rfl
  case start => exact next_linkByte hp ((linkByte_idle hd hr).trans rfl)
  case damaged => exact next_linkByte hp (linkByte_in_time hd hr hgap)
  case long => exact next_linkByte hp ((linkByte_in_time hd hr hgap).trans (nextByte_long h3 hb))
  case on => exact next_linkByte hp ((linkByte_in_time hd hr hgap).trans (nextByte_on h3 hl))
  case badSum =>
    refine next_linkByte hp ((linkByte_in_time hd hr hgap).trans ((nextByte_last h4 hl).trans ?_))
    exact if_neg fun h0 => hsum ((byteSum_check _ b).1 h0)
  case late =>
    refine (next_linkByte hp (linkByte_late hd hr hgap)).trans (next_linkByte ?_ rfl).symm
    exact hp
  case good =>
    subst hl
    exact linkByte_command hp hd hc hr hgap hsum
  case expiry => exact next_take (f := linkByteGapExpiry) hp (linkByteGapExpiry_due (hr : (s.advance dt).lki.rx = some r))
  case noExpiry => exact next_take (f := linkByteGapExpiry) hp (linkByteGapExpiry_none (hr : (s.advance dt).lki.rx = none))
  case respond =>
    have hresp' : (s.advance dt).lki.resp = .PENDING r since := hresp
    exact next_take (f := responseStart) hp (responseStart_pending hresp' hr)
  case responded =>
    have hresp' : (s.advance dt).lki.resp = .SENDING r := hresp
    exact next_take (f := responseEnd) hp (responseEnd_sending hresp')
  case discard =>
    have hroute : route (s.asked dt).lki.addr h.dest r.code = .discard := route_discard (.inr haddr)
    rw [exec_heard hp hc hd, takeRequest_discard hroute]
    rfl
  case resetting =>
    have hroute : route (s.asked dt).lki.addr h.dest r.code = .addressed h.dest := route_own (code_small r) haddr
    rw [exec_heard hp hc hd, takeRequest_own hroute, judge_resetting (s.asked dt) false (some r) hres,
      counted_deny _ _ (by simp) (by simp)]
    rfl
  case resettingAll =>
    have hroute : route (s.asked dt).lki.addr h.dest r.code = .broadcast := route_broadcasts (code_small r) hdest haddr
    rw [exec_heard hp hc hd, takeRequest_broadcast hroute, judge_resetting (s.asked dt) true (some r) hres,
      counted_deny _ _ (by simp) (by simp)]
    rfl
  case broadcast =>
    subst hown
    exact broadcast_acts hp hc hd hdest ha haddr rfl hc1 hpoll hassign
  case frameDiscard =>
    subst hl
    exact next_linkByte hp ((linkByte_good hd hr hgap hlen hsum).trans (takeRequest_discard (route_discard haddr)))
  case frameUnknown =>
    subst hl
    exact linkByte_unknown hp hd hlen hr hgap hsum hunknown hk hres
  case locked =>
    rcases hc with ⟨index, mode, record, rfl, hl, rfl⟩ | ⟨head, rfl, rfl⟩ | ⟨first, last, flag, rfl, rfl⟩ | ⟨pos, rfl, rfl⟩
    · exact exec_locked (r := .stepWrite index mode record) ha hsave (if_pos hl) rfl rfl rfl
    · exact exec_locked (r := .arm head) ha hsave rfl rfl rfl rfl
    · exact exec_locked (r := .slotFlags first last flag) ha hsave rfl rfl rfl rfl
    · exact exec_locked (r := .lampReset pos) ha hsave rfl rfl rfl rfl
  case listener =>
    subst hown
    exact listener_acts hp hc hd hdest haddr rfl hc1 hquery hpoll hassign
  case query =>
    obtain ⟨rep, hrep⟩ := report_group (s.advance dt) h1 h10
    have hx : applyReq (s.asked dt) (.query group page) = doneWith ((s.asked dt).setLki
        { (s.asked dt).lki with copies := s.lki.copies.set (group.toNat - 1) (some rep) }) (pageBody group page rep) := by
      simp only [applyReq, reqQuery, report_asked, hrep]
      exact if_pos hpage
    rw [listener_query group page hp hd hres hdest haddr hx, hrep]
    rfl
  case queryPage =>
    have hx := (reqQuery_later (dt := dt) hpage h1 h10 hcopy).trans (if_pos hlt)
    exact listener_query group page hp hd hres hdest haddr hx
  case queryNoPage =>
    rw [listener_query group page hp hd hres hdest haddr rfl, reqQuery_no_page hpage h1 h10 hcopy]
    rfl
  case queryNoGroup =>
    have hnone : report (s.asked dt) group.toNat = none := report_none _ (hg.imp_left fun h0 => by simp [h0])
    have hx : applyReq (s.asked dt) (.query group page) = deny (s.asked dt) .BAD_VALUE := by
      simp only [applyReq, reqQuery, hnone]
    exact listener_query group page hp hd hres hdest haddr hx

end Sys2Proof.Machine
end
